-- ==== Sys2Proof/Word.lean ====
section
/-! DEFINITION. The word types of the device (17 R432) and the bit fields of a word, written REG[m:l] in the spec. -/

namespace Sys2Proof

/-- A register word: 32 bits (17 R432). -/
abbrev Word := BitVec 32

/-- A byte. -/
abbrev Byte := BitVec 8

/-- The unsigned value of the `len` bits of `w` from bit `lo` upwards. -/
def fld (w : Word) (lo len : Nat) : Nat := w.toNat / 2 ^ lo % 2 ^ len

/-- One bit of a word. -/
def bit (w : Word) (i : Nat) : Bool := w.toNat / 2 ^ i % 2 == 1

/-- `w` with its `len` bits from bit `lo` upwards replaced by `v` (taken modulo `2 ^ len`). -/
def setFld (w : Word) (lo len v : Nat) : Word :=
  BitVec.ofNat 32 (w.toNat / 2 ^ (lo + len) * 2 ^ (lo + len) + v % 2 ^ len * 2 ^ lo + w.toNat % 2 ^ lo)

/-- The bits of `new` where `mask` is 1 and of `old` elsewhere. -/
def mergeMask (mask old new : Word) : Word := (new &&& mask) ||| (old &&& ~~~mask)

end Sys2Proof
end

