-- ==== Sys2Proof/Config.lean ====
section
/-! DEFINITION. The values the spec leaves open: constants with no body, of which nothing can be proved. Each is named in
a log entry. A value wanted afresh every time is taken at the counter State.fresh. -/

namespace Sys2Proof.Config

/-- A word the spec leaves open, taken at the counter (log entry 4). -/
opaque freeWord : Nat → Word

/-- A natural number the spec leaves open, taken at the counter (log entry 4). -/
opaque freeNat : Nat → Nat

/-- An integer the spec leaves open, taken at the counter (log entry 4). -/
opaque freeInt : Nat → Int

/-- The numbers of an estimate the spec gives no formula for, taken at the counter and by field (05 R149; log entries 4 and 129). -/
opaque freeEst : Nat → Nat → Int

/-- A truth value the spec leaves open, taken at the counter (log entry 4). -/
opaque freeBool : Nat → Bool

/-- Whether the built-in sine table of 07 R220 lies one half LSB above, on or below the integer approximation used here,
by phase index (log entry 12). -/
opaque sineError : Nat → Int

/-- The mask revisions of both dies, DEV_REV[15:0] (17 R440; log entry 4). -/
opaque dieRev : Nat

/-- The changes of DDR5's contents over a reset, which the spec does not guarantee (14 R381; log entry 4). -/
opaque lostBytes : Nat → List (Nat × Byte)

end Sys2Proof.Config
end

