-- ==== Sys2Proof/Syntax.lean ====
section
/-! DEFINITION. The commands the block takes: one constructor of Instr per row of spec/opcode_table.json, with the
operands the spec gives the step (a port, an address, a word) and what the outside world decides in it (samples,
conversion results, burst outcomes, received frames and flits). -/

namespace Sys2Proof

/-- The access ports of 17 R434 that carry register accesses. -/
inductive Port where
  | tc0 | tc1 | spi
  deriving DecidableEq, Repr

/-- The two measurement paths of a channel (05). -/
inductive Path where
  | v | i
  deriving DecidableEq, Repr

/-- The fields of a Tysel instruction word besides OPC, and its extension word (09 R247). RB is imm[15:12], FN is imm[11:0]. -/
structure TF where
  rd  : BitVec 4
  ra  : BitVec 4
  x   : Bool
  imm : BitVec 16
  ext : Word
  deriving DecidableEq, Repr

/-- A double-bit error in loop core memory: the word, and whether it lies in state memory (03 R91, 13 R355). -/
structure MemErr where
  word  : Nat
  state : Bool
  cyc   : Nat
  deriving DecidableEq, Repr

/-- A code of the halfband chain for a loop sample (05 R152, R153): the 24-bit code, whether a converter delivered an end code,
and the outcome of the calibration entry's ECC (05 R157). -/
structure SampleIn where
  code : BitVec 24
  endCode : Bool
  ecc1 : Bool
  ecc2 : Bool
  deriving DecidableEq, Repr

/-- One converter's 24-bit code at one of its sampling instants, and whether it is an end code (05 R168). -/
structure ConvOut where
  code : BitVec 24 := 0
  endCode : Bool := false
  deriving DecidableEq, Repr

/-- The codes of a pair's converters at their two sampling instants of a tick (05 R146): A at cycles 0 and 25, B with it or, in
INTERLEAVE, at cycles 12.5 and 37.5. -/
structure RawIn where
  a0 : ConvOut := {}
  a1 : ConvOut := {}
  b0 : ConvOut := {}
  b1 : ConvOut := {}
  deriving DecidableEq, Repr

/-- What one channel's loop computation receives in a tick: for both paths the codes that the halfband chain delivers, of
converters A and B each on its own, or in INTERLEAVE of their common stream as the A code (05 R146, R147, R152); single-bit
retries and a double-bit error of the loop core memory (03 R91); the ECC outcome of the force entry read for the tick path and of
the one read where the clear latch is recomputed (06 R174, R179); and the converters' codes of the tick (05 R168). -/
structure LoopIn where
  va : SampleIn
  vb : SampleIn
  ia : SampleIn
  ib : SampleIn
  retries : Nat
  memErr : Option MemErr
  forceEcc1 : Bool
  forceEcc2 : Bool
  clearEcc1 : Bool
  clearEcc2 : Bool
  rawV : RawIn
  rawI : RawIn
  deriving DecidableEq, Repr

/-- What the path's estimator finds at the end of a block (05 R149, R150): the moves it wants, whether the slope suffices
for skew, and the residuals, in the units of the correction registers (offset in 2^-6 codes, gain in 2^-30, skew in 25 fs). -/
structure Estimate where
  dOfs : Int
  dGain : Int
  dSkew : Int
  slope : Bool
  rOfs : Int
  rGain : Int
  rSkew : Int
  deriving DecidableEq, Repr

/-- The outcome of a read burst (11 R288). -/
inductive BurstResult where
  | clean | single | double | addr
  deriving DecidableEq, Repr

/-- What the FEC reports with a flit block (12 R316, R341): good, corrected, or uncorrectable. -/
inductive Fec where
  | good | corrected | uncorrectable
  deriving DecidableEq, Repr

/-- Whose 64-byte request stands in an arbiter queue (11 R291), with what the requester needs to know it again. -/
inductive Who where
  | hostWr | hostRd
  | spill (k : Nat) | refill (k : Nat) (burst : Nat)
  | gen (n : Nat) (epoch : Nat) (first : Nat)
  | list (n : Nat) (epoch : Nat) (first : Nat)
  | fetch (line : Nat)
  | capture (k : Nat)
  | calLd (n : Nat) (idx : Nat)
  | rcBackup (n : Nat) (idx : Nat) | rcRestore (n : Nat) (idx : Nat)
  | log (idx : Nat)
  | scrub | reread (i : Nat)
  deriving DecidableEq, Repr

/-- One arbiter request: its port P0-P11, its burst offset in the DDR5 window, its requester, and whether it writes. -/
structure Req where
  port : Nat
  offset : Nat
  who : Who
  write : Bool
  deriving DecidableEq, Repr

/-- The commands: one constructor per row of spec/opcode_table.json, first the rows with operands in the table's order, then
those without (Lean's compiled code has room for 245 constructors that carry data). -/
inductive Instr where
  /-- REGISTER_WRITE (R4). -/
  | registerWrite (p : Port) (addr : Nat) (w : Word)
  /-- LOW_WORD_READ (R435). -/
  | lowWordRead (p : Port) (addr : Nat)
  /-- LOOP_COMPUTATION (R90). -/
  | loopComputation (g : Nat) (ins : List LoopIn)
  /-- LOOP_DEADLINE (R121). -/
  | loopDeadline (n : Nat)
  /-- TICK_IN_EDGE (R31). -/
  | tickInEdge (cyc : Nat)
  /-- EV_SW (R39). -/
  | evSw (w : Word)
  /-- EVENT_LINE_ASSERT (R37). -/
  | eventLineAssert (e : Nat)
  /-- TRIGGER_INPUT_EDGE (R41). -/
  | triggerInputEdge (pin : Nat) (level : Bool)
  /-- TRIGGER_PULSE_END (R43). -/
  | triggerPulseEnd (pin : Nat)
  /-- MODE_WRITE (R52). -/
  | modeWrite (n : Nat) (w : Word)
  /-- HELD_MODE_LANDS (R56). -/
  | heldModeLands (n : Nat)
  /-- CONNECTING_END (R53). -/
  | connectingEnd (n : Nat)
  /-- MODE_COMMIT_FROM_MEASURE (R55). -/
  | modeCommitFromMeasure (n : Nat)
  /-- CH_CTRL_PULSE_GO (R63). -/
  | chCtrlPulseGo (n : Nat)
  /-- CH_CTRL_PULSE_STOP (R64). -/
  | chCtrlPulseStop (n : Nat)
  /-- CH_CTRL_CNT_CLR (R49). -/
  | chCtrlCntClr (n : Nat)
  /-- PULSE_BEGIN (R63). -/
  | pulseBegin (n : Nat)
  /-- PULSE_END (R63). -/
  | pulseEnd (n : Nat)
  /-- LIMIT_WRITE (R57). -/
  | limitWrite (n off : Nat) (w : Word)
  /-- RANGE_WRITE (R71). -/
  | rangeWrite (n : Nat) (w : Word)
  /-- HELD_RANGE_DECISION (R71). -/
  | heldRangeDecision (n : Nat)
  /-- AUTORANGE_DECISION (R72). -/
  | autorangeDecision (n : Nat)
  /-- TACK_DECISION (R74). -/
  | tackDecision (n : Nat)
  /-- CROSSFADE_STEP (R75). -/
  | crossfadeStep (n : Nat)
  /-- BANK_SWITCH (R74). -/
  | bankSwitch (n : Nat)
  /-- BREAK_BEFORE_MAKE_DECISION (R77). -/
  | breakBeforeMakeDecision (n : Nat)
  /-- BREAK_BEFORE_MAKE_RESUME (R77). -/
  | breakBeforeMakeResume (n : Nat)
  /-- DESCRIPTOR_WRITE (R69). -/
  | descriptorWrite (n off : Nat) (w : Word)
  /-- FRAME_SHIFT (R85). -/
  | frameShift (g : Nat)
  /-- LATCH_WORD (R80). -/
  | latchWord (g : Nat)
  /-- FRAME_FIRE (R80). -/
  | frameFire (g : Nat)
  /-- STATUS_FRAME (R83). -/
  | statusFrame (g : Nat) (late : Bool) (bits : BitVec 48)
  /-- ACK_TIMEOUT (R83). -/
  | ackTimeout (g : Nat)
  /-- RCB_NOACK (R84). -/
  | rcbNoack (g : Nat)
  /-- LOOP_CFG_WRITE (R95). -/
  | loopCfgWrite (n : Nat) (w : Word)
  /-- LOOP_CTRL_OPEN (R119). -/
  | loopCtrlOpen (n : Nat)
  /-- LOOP_CTRL_CLOSE (R119). -/
  | loopCtrlClose (n : Nat)
  /-- SP_WRITE (R99). -/
  | spWrite (n : Nat) (w : Word)
  /-- SEC_COMMIT (R114). -/
  | secCommit (n : Nat) (w : Word)
  /-- BANK_WRITE (R113). -/
  | bankWrite (n off : Nat) (w : Word)
  /-- RC_CFG_WRITE (R130). -/
  | rcCfgWrite (n : Nat) (w : Word)
  /-- RC_CTRL_CLEAR (R131). -/
  | rcCtrlClear (n : Nat)
  /-- RC_CTRL_BACKUP (R131). -/
  | rcCtrlBackup (n : Nat)
  /-- RC_CTRL_RESTORE (R131). -/
  | rcCtrlRestore (n : Nat)
  /-- RC_TRANSFER_DONE (R131). -/
  | rcTransferDone (n : Nat)
  /-- RC_TDATA_ACCESS (R125). -/
  | rcTdataAccess (p : Port) (n : Nat) (wr : Option Word)
  /-- RC_ENTRY_END (R127). -/
  | rcEntryEnd (n : Nat)
  /-- LUFF_WINDOW_END (R135). -/
  | luffWindowEnd (n : Nat)
  /-- LOOP_LUFF (R137). -/
  | loopLuff (n : Nat)
  /-- LUFF_CTRL_REEF_SET (R139). -/
  | luffCtrlReefSet (n : Nat)
  /-- LUFF_CTRL_REEF_REL (R139). -/
  | luffCtrlReefRel (n : Nat)
  /-- LUFF_CTRL_RESTART (R136). -/
  | luffCtrlRestart (n : Nat)
  /-- INJ_CTRL_GO (R143). -/
  | injCtrlGo (n : Nat)
  /-- INJ_CTRL_STOP (R143). -/
  | injCtrlStop (n : Nat)
  /-- INJECTION_END (R143). -/
  | injectionEnd (n : Nat)
  /-- CAPTURE_HEADER_WRITE (R145). -/
  | captureHeaderWrite (n : Nat)
  /-- CAPTURE_TRAILER_WRITE (R145). -/
  | captureTrailerWrite (n : Nat)
  /-- PAIR_CFG_WRITE (R148). -/
  | pairCfgWrite (n : Nat) (w : Word)
  /-- INTERLEAVE_BLOCK_END (R149). -/
  | interleaveBlockEnd (n : Nat) (pa : Path) (est : Estimate)
  /-- AP_CTRL_GO (R159). -/
  | apCtrlGo (n : Nat) (pa : Path)
  /-- AP_CTRL_STOP (R163). -/
  | apCtrlStop (n : Nat) (pa : Path)
  /-- APERTURE_CLOSE (R160). -/
  | apertureClose (n : Nat) (pa : Path)
  /-- LINE_TMO (R164). -/
  | lineTmo (n : Nat) (pa : Path)
  /-- RAW_CTRL_GO (R168). -/
  | rawCtrlGo (n : Nat)
  /-- RAW_CTRL_STOP (R169). -/
  | rawCtrlStop (n : Nat)
  /-- RAW_CAPTURE_END (R168). -/
  | rawCaptureEnd (n : Nat)
  /-- CAL_LOW_WORD_WRITE (R155). -/
  | calLowWordWrite (p : Port) (e : Nat) (w : Word)
  /-- CAL_HIGH_WORD_WRITE (R155). -/
  | calHighWordWrite (p : Port) (e : Nat) (w : Word)
  /-- CAL_LD_GO (R158). -/
  | calLdGo (n : Nat) (w : Word)
  /-- CAL_LOAD_DONE (R158). -/
  | calLoadDone (n : Nat)
  /-- SPAN_WRITE (R177). -/
  | spanWrite (n : Nat) (w : Word)
  /-- DAC_CLR_WRITE (R181). -/
  | dacClrWrite (n : Nat) (w : Word)
  /-- CONVERSION_SLOT_BOUNDARY (R193). -/
  | conversionSlotBoundary (g : Nat)
  /-- CONVERSION_RESULT (R188). -/
  | conversionResult (g : Nat) (res : Int)
  /-- INJ_REQ (R193). -/
  | injReq (g k : Nat) (w : Word)
  /-- MA_CTRL_CAL (R195). -/
  | maCtrlCal (g : Nat)
  /-- CALIBRATION_COMPLETE (R197). -/
  | calibrationComplete (g : Nat)
  /-- MON_CAL (R197). -/
  | monCal (g : Nat)
  /-- GEN_CTRL_PRIME (R209). -/
  | genCtrlPrime (n d : Nat)
  /-- GEN_CTRL_START (R209). -/
  | genCtrlStart (n d : Nat)
  /-- GEN_CTRL_STOP (R209). -/
  | genCtrlStop (n : Nat)
  /-- GEN_CTRL_JUMP (R208). -/
  | genCtrlJump (n d : Nat)
  /-- GEN_CTRL_JUMP_NOW (R210). -/
  | genCtrlJumpNow (n d : Nat)
  /-- GEN_CTRL_MARK (R212). -/
  | genCtrlMark (n back : Nat)
  /-- GEN_CTRL_REWIND (R213). -/
  | genCtrlRewind (n : Nat)
  /-- GEN_CTRL_UNMARK (R212). -/
  | genCtrlUnmark (n : Nat)
  /-- GEN_DESCRIPTOR_WRITE (R202). -/
  | genDescriptorWrite (n off : Nat) (w : Word)
  /-- COMMIT_POINT (R206). -/
  | commitPoint (n : Nat)
  /-- PLAY_END (R206). -/
  | playEnd (n : Nat)
  /-- JUMP_NOW_BOUNDARY (R210). -/
  | jumpNowBoundary (n : Nat)
  /-- REPLAY_END (R213). -/
  | replayEnd (n : Nat)
  /-- REFILL_REQUEST (R205). -/
  | refillRequest (n : Nat)
  /-- REFILL_BURST (R205). -/
  | refillBurst (n : Nat)
  /-- GEN_UNDERRUN (R214). -/
  | genUnderrun (n : Nat)
  /-- UNDERRUN_END (R214). -/
  | underrunEnd (n : Nat)
  /-- DDS_FTW_LO_WRITE (R219). -/
  | ddsFtwLoWrite (p : Port) (n : Nat) (w : Word)
  /-- DDS_FTW_HI_WRITE (R219). -/
  | ddsFtwHiWrite (p : Port) (n : Nat) (w : Word)
  /-- DDS_TAB_WRITE (R220). -/
  | ddsTabWrite (n i : Nat) (w : Word)
  /-- DDS_CTRL_GO (R217). -/
  | ddsCtrlGo (n : Nat)
  /-- DDS_CTRL_HALT (R218). -/
  | ddsCtrlHalt (n : Nat)
  /-- DDS_CTRL_PHASE_RESET (R217). -/
  | ddsCtrlPhaseReset (n : Nat)
  /-- SEQ_CMD_BIND (R224). -/
  | seqCmdBind (n x : Nat)
  /-- SEQ_CMD_HALT (R224). -/
  | seqCmdHalt (n : Nat)
  /-- SEQ_CMD_RESUME (R224). -/
  | seqCmdResume (n : Nat)
  /-- SEQ_CMD_UNBIND (R224). -/
  | seqCmdUnbind (n : Nat)
  /-- CONTEXT_STORE_WRITE (R223). -/
  | contextStoreWrite (x off : Nat) (w : Word)
  /-- PIN_LOAD_DONE (R228). -/
  | pinLoadDone (n : Nat)
  /-- CACHE_FILL (R229): the line that leaves the full cache, and the cached line in which a read of the cache has met a double-bit
  error, if any (13 R355). -/
  | cacheFill (line : Nat) (evict : Option Nat) (upset : Option Nat := none)
  /-- WAIT_EXPIRY (R233). -/
  | waitExpiry (n : Nat)
  /-- WAITEV_TIMEOUT (R234). -/
  | waitevTimeout (n : Nat)
  /-- RESOURCE_GRANT (R238). -/
  | resourceGrant (r : Nat)
  /-- NOP (R250). -/
  | nop (n : Nat) (f : TF)
  /-- HALT (R226). -/
  | halt (n : Nat) (f : TF)
  /-- JMP (R250). -/
  | jmp (n : Nat) (f : TF)
  /-- BR_CC (R249). -/
  | brCc (n : Nat) (f : TF)
  /-- CALL (R250). -/
  | call (n : Nat) (f : TF)
  /-- RET (R250). -/
  | ret (n : Nat) (f : TF)
  /-- LOOP (R250). -/
  | loop (n : Nat) (f : TF)
  /-- MOV (R251). -/
  | mov (n : Nat) (f : TF)
  /-- LDI (R251). -/
  | ldi (n : Nat) (f : TF)
  /-- ADD (R251). -/
  | add (n : Nat) (f : TF)
  /-- SUB (R251). -/
  | sub (n : Nat) (f : TF)
  /-- MUL (R251). -/
  | mul (n : Nat) (f : TF)
  /-- SHL (R251). -/
  | shl (n : Nat) (f : TF)
  /-- SHR (R251). -/
  | shr (n : Nat) (f : TF)
  /-- AND (R251). -/
  | andOp (n : Nat) (f : TF)
  /-- OR (R251). -/
  | orOp (n : Nat) (f : TF)
  /-- XOR (R251). -/
  | xorOp (n : Nat) (f : TF)
  /-- CMP (R251). -/
  | cmp (n : Nat) (f : TF)
  /-- MODE (R253). -/
  | mode (n : Nat) (f : TF)
  /-- RANGE (R253). -/
  | range (n : Nat) (f : TF)
  /-- FORCE (R254). -/
  | force (n : Nat) (f : TF)
  /-- LIMIT (R254). -/
  | limit (n : Nat) (f : TF)
  /-- RAMP (R254). -/
  | ramp (n : Nat) (f : TF)
  /-- LOOP_OPEN (R119). -/
  | loopOpen (n : Nat) (f : TF)
  /-- LOOP_CLOSE (R119). -/
  | loopClose (n : Nat) (f : TF)
  /-- COEF_STAGE (R255). -/
  | coefStage (n : Nat) (f : TF)
  /-- COEF_COMMIT (R255). -/
  | coefCommit (n : Nat) (f : TF)
  /-- COEF_RC (R255). -/
  | coefRc (n : Nat) (f : TF)
  /-- COEF_REEF (R255). -/
  | coefReef (n : Nat) (f : TF)
  /-- MEAS (R256). -/
  | meas (n : Nat) (f : TF)
  /-- MEAS_STOP (R256). -/
  | measStop (n : Nat) (f : TF)
  /-- MREAD (R256). -/
  | mread (n : Nat) (f : TF)
  /-- EMIT (R257). -/
  | emit (n : Nat) (f : TF)
  /-- GEN_PRIME (R258). -/
  | genPrime (n : Nat) (f : TF)
  /-- GEN_START (R258). -/
  | genStart (n : Nat) (f : TF)
  /-- GEN_STOP (R258). -/
  | genStop (n : Nat) (f : TF)
  /-- GEN_UNMARK (R258). -/
  | genUnmark (n : Nat) (f : TF)
  /-- SEG (R258). -/
  | seg (n : Nat) (f : TF)
  /-- DDS (R258). -/
  | dds (n : Nat) (f : TF)
  /-- MARK (R258). -/
  | mark (n : Nat) (f : TF)
  /-- REWIND (R258). -/
  | rewind (n : Nat) (f : TF)
  /-- JUMP (R258). -/
  | jump (n : Nat) (f : TF)
  /-- LIST_LD (R263). -/
  | listLd (n : Nat) (f : TF)
  /-- LIST_NEXT (R264). -/
  | listNext (n : Nat) (f : TF)
  /-- LIST_ENTRY_ARRIVAL (R264). -/
  | listEntryArrival (n : Nat)
  /-- WAIT (R233). -/
  | wait (n : Nat) (f : TF)
  /-- WAITEV (R234). -/
  | waitev (n : Nat) (f : TF)
  /-- TRIG (R260). -/
  | trig (n : Nat) (f : TF)
  /-- TRIG_PIN (R260). -/
  | trigPin (n : Nat) (f : TF)
  /-- SYNC (R240). -/
  | sync (n : Nat) (f : TF)
  /-- ACQ (R237). -/
  | acq (n : Nat) (f : TF)
  /-- REL (R238). -/
  | rel (n : Nat) (f : TF)
  /-- ETARM (R261). -/
  | etarm (n : Nat) (f : TF)
  /-- ETREAD (R261). -/
  | etread (n : Nat) (f : TF)
  /-- CHAIN (R225). -/
  | chain (n : Nat) (f : TF)
  /-- YIELD (R233). -/
  | yield (n : Nat) (f : TF)
  /-- NOTIFY (R262). -/
  | notify (n : Nat) (f : TF)
  /-- ET_CTRL_ARM (R272). -/
  | etCtrlArm (u : Nat)
  /-- ET_CTRL_STATS (R277). -/
  | etCtrlStats (u : Nat)
  /-- ET_CTRL_STOP (R277). -/
  | etCtrlStop (u : Nat)
  /-- EDGE (R273): its vernier count and core cycle, and whether it is an upward crossing of the threshold (R268). -/
  | edge (u src f cyc : Nat) (up : Bool := true)
  /-- MEASUREMENT_COMPLETE (R276). -/
  | measurementComplete (u : Nat)
  /-- MEASUREMENT_OVERFLOW (R275). -/
  | measurementOverflow (u : Nat)
  /-- RESULT_BLOCK_WRITE (R276). -/
  | resultBlockWrite (u : Nat)
  /-- TB_GATE_END (R281). -/
  | tbGateEnd (len : Int)
  /-- OCXO_RDY_CHANGE (R282). -/
  | ocxoRdyChange (level : Bool)
  /-- TB_CFG_WRITE (R282). -/
  | tbCfgWrite (w : Word)
  /-- TRAINING_DONE (R287). -/
  | trainingDone (ok : Bool)
  /-- BURST_COMPLETION (R288). -/
  | burstCompletion (r : Req) (res : BurstResult)
  /-- SCRUB_READ (R290). -/
  | scrubRead (res : BurstResult)
  /-- ARB_TKT_WRITE (R295). -/
  | arbTktWrite (p : Nat) (w : Word)
  /-- ARB_SEED_WRITE (R292). -/
  | arbSeedWrite (w : Word)
  /-- RES_HCMD_ACQ (R299). -/
  | resHcmdAcq (r : Nat)
  /-- RES_HCMD_REL (R299). -/
  | resHcmdRel (r : Nat)
  /-- STREAM_ITEM_OFFER (R302). -/
  | streamItemOffer (k : Nat) (it : List Byte)
  /-- STREAM_SPILL (R301), and the word in which the head's read meets a double-bit error, if any (13 R355): its number, and the
  position of its first byte among the bytes the head holds. -/
  | streamSpill (k : Nat) (upset : Option (Nat × Nat) := none)
  /-- STREAM_REFILL (R301). -/
  | streamRefill (k : Nat) (res : BurstResult)
  /-- STR_CFG_WRITE (R313). -/
  | strCfgWrite (k : Nat) (w : Word)
  /-- STR_CTRL_DROP (R307). -/
  | strCtrlDrop (k : Nat)
  /-- STR_CTRL_PURGE (R308). -/
  | strCtrlPurge (k : Nat)
  /-- STR_CTRL_CNT_CLR (R313). -/
  | strCtrlCntClr (k : Nat)
  /-- STREAM_READ_COMPLETE (R305), and the word in which the tail's read meets a double-bit error, if any (13 R355). -/
  | streamReadComplete (k : Nat) (upset : Option (Nat × Nat) := none)
  /-- COALESCE_EXPIRY (R305). -/
  | coalesceExpiry (k : Nat)
  /-- STREAM_READ_TIMEOUT (R306). -/
  | streamReadTimeout (k : Nat)
  /-- STREAM_SLOW (R309). -/
  | streamSlow (k : Nat)
  /-- SIGNAL_DETECT (R317). -/
  | signalDetect (lanes : Nat)
  /-- ADAPTATION_END (R317). -/
  | adaptationEnd (lanes : Nat)
  /-- MARKER_LOCK (R317). -/
  | markerLock (lanes : Nat)
  /-- INIT (R317). -/
  | initFlit (flit : BitVec 256)
  /-- FLIT_BLOCK (R316): the worst outcome of the codewords that hold a bit of the block, and the outcomes of those codewords of its
  lane that have begun since the lane's flit block before it. -/
  | flitBlock (tag : BitVec 10) (flit : BitVec 256) (fec : Fec) (began : List Fec := [])
  /-- FLOW (R325). -/
  | flow (flit : BitVec 256)
  /-- REPLAY_TIMEOUT (R329). -/
  | replayTimeout (c : Nat)
  /-- REG_RD (R334). -/
  | regRd (p : Port) (tag addr words : Nat)
  /-- REG_WR (R334). -/
  | regWr (p : Port) (tag addr : Nat) (ws : List Word)
  /-- STR_RD (R305). -/
  | strRd (tag k maxb : Nat)
  /-- STR_DROP (R307). -/
  | strDrop (tag k : Nat)
  /-- ABORT_HALT (R338). -/
  | abortHalt (tag : Nat) (mask : Word)
  /-- ABORT_HOLD (R338). -/
  | abortHold (tag : Nat) (mask : Word)
  /-- ABORT_OFF (R338). -/
  | abortOff (tag : Nat) (mask : Word)
  /-- ABORT_FURL (R338). -/
  | abortFurl (tag : Nat) (mask : Word)
  /-- KEEPALIVE (R344). -/
  | keepalive (tag : Nat)
  /-- BULK_WR (R289). -/
  | bulkWr (tag addr : Nat) (data : List Byte)
  /-- BULK_RD (R331). -/
  | bulkRd (tag addr len : Nat)
  /-- MGMT_SPI_READ (R346): the command byte, 3 for a READ and no known command else, and whether MSPI_CS_N rises before the check has
  been received. -/
  | mgmtSpiRead (addr : Nat) (crc : Byte) (cmd : Byte := 3) (cut : Bool := false)
  /-- MGMT_SPI_WRITE (R346), and whether MSPI_CS_N rises before the check has been received. -/
  | mgmtSpiWrite (addr : Nat) (w : Word) (crc : Byte) (cut : Bool := false)
  /-- SELF_TEST_START (R368). -/
  | selfTestStart (i : Nat)
  /-- SELF_TEST_RESULT (R368). -/
  | selfTestResult (i : Nat) (persistent : Bool)
  /-- HOLD_REL (R361). -/
  | holdRel (w : Word)
  /-- CH_FURLED_RELEASE (R362). -/
  | chFurledRelease (w : Word)
  /-- FI_CTRL_GO (R370). -/
  | fiCtrlGo (w : Word)
  /-- SELFTEST_DONE (R384). -/
  | selftestDone (item spares : Nat)
  /-- OTP_CTRL_PROG (R394). -/
  | otpCtrlProg (w : Word)
  /-- OTP_PROG_DONE (R394). -/
  | otpProgDone (word : Word)
  /-- OTP_EN_FALL (R395). -/
  | otpEnFall (word : Word)
  /-- PROBE_WRITE (R398). -/
  | probeWrite (p : Nat) (w : Word)
  /-- TRACE_RECORD (R399). -/
  | traceRecord (p : Nat) (kind : Bool)
  /-- CNT_SEL_WRITE (R404). -/
  | cntSelWrite (i : Nat) (w : Word)
  /-- ILLEGAL (R248). -/
  | illegal (n : Nat) (f : TF)
  /-- REF_PRESENT (R388). -/
  | refPresent (level : Bool)
  /-- PLL_LOCKED (R386). -/
  | pllLocked
  /-- REFCLK_LOSS (R388). -/
  | refclkLoss
  /-- PLL_UNLOCK (R388). -/
  | pllUnlock
  /-- TICK_CTRL_MARK (R34). -/
  | tickCtrlMark
  /-- TICK_CTRL_RELOCK (R32). -/
  | tickCtrlRelock
  /-- TICKTIME_LOAD (R34). -/
  | ticktimeLoad
  /-- LOCKED (R32). -/
  | locked
  /-- MARKER_DETECT (R33). -/
  | markerDetect
  /-- TICK_LOSS (R33). -/
  | tickLoss
  /-- LANYARD_MESSAGE (R351), and the parity failure that the collector's reads of its register file meet, if any (R373): the word's
  offset in the block, and whether every copy of the word fails. -/
  | lanyardMessage (par : Option (Nat × Bool) := none)
  /-- FAULT_REACTION (R351), and the SRC codes of the target blocks that do not confirm their reaction (R373). -/
  | faultReaction (silent : List Nat := [])
  /-- CLR_N_DEASSERT (R185). -/
  | clrNDeassert
  /-- CLR_LATCH_CLEAR (R185). -/
  | clrLatchClear
  /-- RCB_CLOCK_RESTART (R88). -/
  | rcbClockRestart
  /-- IC_CTRL_FLUSH (R229). -/
  | icCtrlFlush
  /-- REF_LOST (R281). -/
  | refLost
  /-- MEM_CTRL_INIT (R287). -/
  | memCtrlInit
  /-- ARBITER_DRAW (R292). -/
  | arbiterDraw
  /-- AGING_GRANT (R294). -/
  | agingGrant
  /-- BURST_ISSUE (R293). -/
  | burstIssue
  /-- ALIGN_TIMEOUT (R317). -/
  | alignTimeout
  /-- INIT_TIMEOUT (R317). -/
  | initTimeout
  /-- LNK_CTRL_RETRAIN (R317). -/
  | lnkCtrlRetrain
  /-- LNK_CTRL_LOG_CLR (R343). -/
  | lnkCtrlLogClr
  /-- LNK_CTRL_CNT_CLR (R349). -/
  | lnkCtrlCntClr
  /-- FLOW_SEND (R328). -/
  | flowSend
  /-- FLIT_TRANSMIT (R337). -/
  | flitTransmit
  /-- VIOLATION_WINDOW_END (R342). -/
  | violationWindowEnd
  /-- LINK_HB (R344). -/
  | linkHb
  /-- MIRROR_WRITE (R366). -/
  | mirrorWrite
  /-- DEV_FURL_RELEASE (R362). -/
  | devFurlRelease
  /-- FAULT_INJECTION_SEND (R370). -/
  | faultInjectionSend
  /-- RESET_N_ASSERT (R380). -/
  | resetNAssert
  /-- SUPPLY_TRIP (R380). -/
  | supplyTrip
  /-- RESET_END (R382). -/
  | resetEnd
  /-- OTP_READ_DONE (R383). -/
  | otpReadDone
  /-- BOOT_TIMEOUT (R382). -/
  | bootTimeout
  /-- TRACE_SEND (R402). -/
  | traceSend
  /-- OBS_PACKET_TIMEOUT (R403). -/
  | obsPacketTimeout
  /-- PC_CTRL_CLR (R406). -/
  | pcCtrlClr
  /-- PC_CTRL_SNAP (R406). -/
  | pcCtrlSnap
  /-- SPARE_RELEASE (R368). -/
  | spareRelease
  /-- CLR_N_ASSERT (R183). -/
  | clrNAssert
  /-- CLR_N_RECOGNISED (R184). -/
  | clrNRecognised
  deriving DecidableEq, Repr

end Sys2Proof
end

