-- ==== Sys2Proof/Machine/State.lean ====
section
/-! DEFINITION. The state of the device: the register file, the memory, and every piece of state that no register shows. -/

namespace Sys2Proof.Machine

/-- A finite map in one canonical form: keys strictly rising, no entry equal to what an unlisted key reads as. -/
abbrev Map (α : Type) := List (Nat × α)

/-- The three variants (00 R1). -/
inductive Variant where
  | vs3240 | vs3216 | vs3208
  deriving DecidableEq, Repr

/-- DDR5 contents: (offset, byte) pairs in canonical form (11 R286). -/
abbrev Memory := List Host.Cell

/-! ### The tick and the pins (01) -/

/-- A trigger pin: the last tick of the running pulse, edges recognised in the current tick, and its synchronised level (01 R42, R43). -/
structure TrigPin where
  /-- Last tick of the running pulse (01 R43). -/
  until_ : Option Nat := none
  /-- Edges recognised in this tick (01 R42). -/
  edges : Nat := 0
  /-- A pulse asked for in this tick begins at the next tick edge (01 R43). -/
  drive : Bool := false
  deriving DecidableEq, Repr

/-- A follower's alignment to TICK_IN (01 R31 to R33). -/
structure Follower where
  /-- The next TICK_IN edge places the tick phase. -/
  realign : Bool := false
  /-- The core cycle in which a TICK_IN edge is expected, once a phase is placed. -/
  expect : Option Nat := none
  /-- Consecutive edges within one cycle of the expected cycle. -/
  goodRun : Nat := 0
  /-- Consecutive missing edges. -/
  missing : Nat := 0
  /-- The edge expected in the current tick arrived. -/
  seen : Bool := false
  /-- The edge expected in the next tick arrived, one cycle early, in cycle 49 of this one. -/
  early : Bool := false
  /-- The edge expected in cycle 49 of the last tick is missing so far: `goodRun` before that miss. -/
  late : Option Nat := none
  /-- A missing edge of the last tick is still to be read as a marker. -/
  markDue : Bool := false
  deriving DecidableEq, Repr

/-- The instructions of the JTAG port (16 R427). -/
inductive TapInstr where
  | bypass | samplePreload | extest
  deriving DecidableEq, Repr

/-- The boundary-scan port (16 R427). -/
structure Tap where
  /-- TRST_N is low or open: the TAP is held in reset. -/
  held : Bool := true
  /-- The instruction register. -/
  instr : TapInstr := .bypass
  /-- The bypass register, one bit. -/
  bypass : Bool := false
  /-- The shift stages of the boundary-scan chain, one for each of its balls (chainBalls), the one next to TDO first. -/
  chain : List Bool := List.replicate 179 false
  /-- The levels its update stages hold for the balls, set by PRELOAD and EXTEST. -/
  latched : List Bool := List.replicate 179 false
  deriving DecidableEq, Repr

/-! ### Channels: modes, ranges and the Range Control Bus (02) -/

/-- A force-side write waiting in the shadow set (01 R14, R15). -/
inductive FW where
  /-- Bits of a plain register of the channel window, by offset. -/
  | reg (off : Nat) (mask w : Word)
  | sp (w : Word)
  | mode (code : Nat)
  | rangeV (slot : Nat)
  | rangeI (slot : Nat)
  | limit (off : Nat) (w : Word)
  | open_ (b : Bool)
  | src (b : Bool)
  | loopCfg (w : Word)
  | secCommit (sec slot : Nat) (w0 w1 w2 : Word)
  | bank (off : Nat) (mask w : Word)
  | pulseGo
  | pulseStop
  | span (code : Nat)
  | dacClr (w : Word)
  | rcClear
  | luffReg (off : Nat) (mask w : Word)
  | luffRestart
  | reef (on : Bool)
  | injGo
  | injStop
  | genPrime (d : Nat)
  | genStart (d : Nat)
  | genStop
  | genJump (d : Nat)
  | genJumpNow (d : Nat)
  | genMark (back : Nat)
  | genRewind
  | genUnmark
  | genCfg (mask w : Word)
  | ddsTable (t : Nat)
  | ddsFtw (lo hi : Word)
  | ddsGo
  | ddsHalt
  | ddsPhase
  deriving DecidableEq, Repr

/-- Why a command frame was queued (02 R53, R52, R77, R74, R85, R361). -/
inductive Role where
  | disconnect | entry | forceEn | forceDis | switch | make | break_ | standing | release
  deriving DecidableEq, Repr

/-- Where a command frame stands (02 R79 to R84). -/
inductive FrameSt where
  /-- Waiting for the bus, not before the given tick. -/
  | queued (notBefore : Nat)
  /-- On RCB_DO through the given tick. -/
  | shifting (last : Nat)
  /-- In the front end's pending register. -/
  | pending
  /-- Its latch word is sent; it fires at the given tick edge. -/
  | latched (fire : Nat)
  /-- Fired at the given tick, awaiting its acknowledgement. -/
  | fired (f : Nat)
  /-- The third attempt failed; the actions of R84 are due in the given tick. -/
  | failed (due : Nat)
  deriving DecidableEq, Repr

/-- A command frame (02 R81) with its priority class of R85, its order of queueing, its attempt and its FE_STATUS. -/
structure Frame where
  /-- Channel. -/
  ch : Nat
  /-- PATH. -/
  path : Path
  /-- OPC (02 R82). -/
  opc : Nat
  /-- SLOT. -/
  slot : Nat
  /-- SWCODE, 24 bits. -/
  swcode : Nat
  /-- SEQ, modulo 16. -/
  seq : Nat
  /-- Priority class 1 to 5 (02 R85). -/
  cls : Nat
  /-- Tick of queueing. -/
  ord : Nat
  /-- Attempt 1 to 3 (02 R84). -/
  attempt : Nat
  /-- What waits for the frame. -/
  role : Role
  /-- FE_STATUS of the latest failing acknowledgement, 0xFFFF when none arrived (13 R355). -/
  feStatus : Nat
  /-- A latch word may be sent for it as soon as it is in the pending register (standing frames and the BREAK of a tack
  wait for their decision and bank switch). -/
  live : Bool
  /-- Sent to release a HOLD (13 R361). -/
  rel : Bool := false
  /-- Discarded by a DISCONNECT (02 R85) while on its way: its shift ends, or its acknowledgement comes, and nothing waits for it. -/
  void : Bool := false
  /-- The last tick of its latest shift (02 R79). -/
  shiftTo : Nat := 0
  /-- Where the frame stands on the bus. -/
  st : FrameSt
  deriving DecidableEq, Repr

/-- One Range Control Bus (02 R79 to R88). -/
structure Rcb where
  /-- Frames queued, shifting, pending, latched and awaiting their status. -/
  frames : List Frame := []
  /-- First tick in which RCB_DO is free. -/
  busFree : Nat := 0
  /-- First tick in which a latch word may be sent (one in any 5 ticks). -/
  latchFree : Nat := 0
  /-- SEQ of the next frame per (CH, PATH), key 2*CH + PATH. -/
  seqs : Map Nat := []
  deriving DecidableEq, Repr

/-- The entry sequence from OFF (02 R53). -/
structure Entry where
  /-- Commands still to be queued: OPC, path, slot. -/
  todo : List (Nat × Path × Nat)
  /-- Frames of the sequence queued and not validly acknowledged. -/
  waiting : Nat
  /-- Tick of the latest firing of the sequence. -/
  lastFire : Nat
  /-- Tick of the latest acknowledgement. -/
  lastAck : Nat
  /-- Settle ticks of the entry. -/
  settle : Nat
  /-- The entry leads to MEASURE. -/
  measure : Bool
  deriving DecidableEq, Repr

/-- The phases of a range change (02 R67 PHASE). -/
inductive ChgPhase where
  | standby | makeSettle | crossfade | bankSwitch | break_ | gap | resume
  deriving DecidableEq, Repr

/-- A range change in progress (02 R74, R77, R447). -/
structure Change where
  /-- The changing path. -/
  path : Path
  /-- Slot it changes to. -/
  target : Nat
  /-- Slot it leaves. -/
  old : Nat
  /-- A tack (02 R74), not a break-before-make change (R77). -/
  tack : Bool
  /-- PHASE. -/
  phase : ChgPhase
  /-- The decision tick. -/
  decided : Nat
  /-- The tick in which the frame the table counts from fired (acknowledged firing). -/
  fire : Option Nat
  /-- That frame is acknowledged. -/
  acked : Bool
  /-- Crossfade step of the current tick, 0 when none. -/
  k : Nat
  /-- BREAK of a tack has fired, at the given tick. -/
  breakFire : Option Nat
  /-- Given up (02 R78): the tick in which it was is its last (R447), and nothing of its table follows. -/
  abandoned : Bool := false
  /-- Ticks the channel has been in HOLD since that firing, by which the later rows of the table move (02 R84, R361). -/
  held : Nat := 0
  deriving DecidableEq, Repr

/-- A pulse train (02 R63). -/
structure Train where
  /-- Tick in which the next pulse begins. -/
  next : Nat
  /-- Pulses left, none for no limit. -/
  left : Option Nat
  /-- PULSE_STOP has landed. -/
  stop : Bool
  /-- Latched level, width, period of the current pulse and its last tick. -/
  lvl : Int
  /-- Width in ticks. -/
  w : Nat
  /-- Period in ticks. -/
  per : Nat
  /-- Last tick of the pulse in progress. -/
  last : Option Nat
  deriving DecidableEq, Repr

/-! ### Channels: the loop engine and supervision (03, 04) -/

/-- The states of one section, 40-bit values (03 R100). -/
structure Sec where
  /-- First state. -/
  s1 : Int := 0
  /-- Second state. -/
  s2 : Int := 0
  deriving DecidableEq, Repr

/-- A preset due in the next completed tick (03 R109, R122). -/
structure Preset where
  /-- Presets the primary cascade. -/
  prim : Bool
  /-- Presets the compliance cascade. -/
  comp : Bool
  /-- The target command. -/
  target : Int
  /-- Clear the other sections of the preset cascades (both of them for `clearAll`). -/
  clear : Bool
  /-- Clears both cascades. -/
  clearAll : Bool
  deriving DecidableEq, Repr

/-- The limits of a channel converted to its active slots at the latest commit, before saturation (02 R57). -/
structure Limits where
  /-- Upper V limit. -/
  vHi : Int := 0x0CCCCCCD
  /-- Lower V limit. -/
  vLo : Int := -0x0CCCCCCD
  /-- Upper I limit. -/
  iHi : Int := 0x0CCCCCCD
  /-- Lower I limit. -/
  iLo : Int := -0x0CCCCCCD
  deriving DecidableEq, Repr

/-- The loop engine's memory of a channel (03). -/
structure Loop where
  /-- Section states by section number, 40 bits each (03 R100). -/
  secs : Map Sec := []
  /-- Ramp position, Q1.31 (03 R99). -/
  ramp : Int := 0
  /-- A target landed and its ramp starts from the measurement (R99). -/
  rampFromMeas : Bool := false
  /-- SP adopts the measurement in this tick (02 R54). -/
  adopt : Bool := false
  /-- All states are zeroed and no preset is made in this tick (02 R55). -/
  zeroAll : Bool := false
  /-- Presets due in the next completed tick (03 R109, R122). -/
  presets : List Preset := []
  /-- The selector picked the compliance cascade in the last completed tick. -/
  selC : Bool := false
  /-- IN_CMP of the latest completed tick, for the CMP flag (08 R230). -/
  inCmp : Bool := false
  /-- Which side the compliance limit bounds (03 R106). -/
  upper : Bool := true
  /-- Selector output (03 R107). -/
  uSel : Int := 0
  /-- The latest tick formed a selector output, `uSel`. -/
  selOk : Bool := false
  /-- Command of the last completed tick and the held command of R119. -/
  cmd : Int := 0
  /-- Held command of an open loop (03 R119). -/
  held : Int := 0
  /-- Loop error of the last completed tick. -/
  e32 : Int := 0
  /-- Forced-side measurement of the last completed tick. -/
  mF : Int := 0
  /-- V measurement of the last completed tick. -/
  lastV : Int := 0
  /-- I measurement of the last completed tick. -/
  lastI : Int := 0
  /-- Corrected codes of the previous tick, for 05 R157. -/
  prevV : Int := 0
  /-- The same for the I path. -/
  prevI : Int := 0
  /-- DAC input code formed with `cmd` (06 R174). -/
  code : Int := 0
  /-- Bytes 8 to 11 of the latest capture record (04 R144). -/
  recU : Int := 0
  /-- OUT_SAT arose in the latest tick, for the trace record of 15 R399. -/
  outSatNow : Bool := false
  /-- The tick missed its deadline (03 R121). -/
  missNow : Bool := false
  /-- Bytes 8 to 23 of the signal record as the latest tick that was not missed left them (15 R399). -/
  tRec : List Byte := List.replicate 16 0
  /-- A third consecutive miss is still to be reported (R121). -/
  dlDue : Bool := false
  deriving DecidableEq, Repr

/-- The repetitive controller (04 R124 to R132). -/
structure Rc where
  /-- Table of 8,192 words (04 R126). -/
  tab : Map Word := []
  /-- Values before their most recent update; none where the entry has had none. -/
  prev : Map (Option Word) := []
  /-- Tick of the entry in progress. -/
  tick : Nat := 0
  /-- Sum of loop errors of the entry (04 R127). -/
  esum : Int := 0
  /-- The entry in progress may be learned. -/
  valid : Bool := true
  /-- A CLEAR landed. -/
  cleared : Bool := false
  /-- An entry ended in this tick and is to be learned or skipped. -/
  endDue : Bool := false
  /-- Backup (false) or restore (true) with the next entry to request and the entries done. -/
  xfer : Option (Bool × Nat × Nat) := none
  /-- Offset of the transfer in DDR5: RC_BK as its command was accepted (17 R436). -/
  bkAt : Nat := 0
  deriving DecidableEq, Repr

/-- The luff detector (04 R133 to R137). -/
structure Luff where
  /-- Filter state (04 R134). -/
  s1 : Int := 0
  /-- Filter state (04 R134). -/
  s2 : Int := 0
  /-- Sign of the latest crossing. -/
  sign : Option Bool := none
  /-- Ticks of the window. -/
  ticks : Nat := 0
  /-- Crossings of the window. -/
  crossings : Nat := 0
  /-- Peak of the window. -/
  peak : Int := 0
  /-- The window has ended and is to be judged. -/
  endDue : Bool := false
  /-- A luff is to be asserted (04 R135). -/
  assertDue : Bool := false
  deriving DecidableEq, Repr

/-- An injection (04 R140 to R145). -/
structure Inj where
  /-- First tick (04 R143). -/
  first : Nat
  /-- Last tick. -/
  last : Nat
  /-- Chip of the PRBS source in progress. -/
  chip : Bool
  /-- PRBS state in the first injected tick. -/
  prbs0 : Nat
  /-- Records written. -/
  written : Nat
  /-- Records dropped. -/
  dropped : Nat
  /-- Ticks in compliance. -/
  cmpTicks : Nat
  /-- Missed ticks. -/
  missed : Nat
  /-- Ticks of a range change. -/
  rngTicks : Nat
  /-- Ended by STOP. -/
  stop : Bool
  /-- END of the trailer, once the injection has ended. -/
  ended : Option Nat
  /-- The header record is written (04 R144). -/
  headerDone : Bool
  /-- TICKTIME of the first tick. -/
  startTime : Nat
  /-- Capture stream 0 to 3. -/
  stream : Nat
  /-- AMP at the start. -/
  amp : Word
  /-- N at the start. -/
  n : Word
  /-- INJ_CFG at the start. -/
  cfg : Word
  deriving DecidableEq, Repr

/-! ### Channels: measurement, DAC and generator (05, 06, 07) -/

/-- What a triangular aperture takes in a tick (05 R161, R162): a sample, a sample in the gap, or a rescale of the weighted sum
from one full scale to another. -/
inductive ApItem where
  | sample (m : Int)
  | gap
  | scale (old new : Word)
  deriving DecidableEq, Repr

/-- A running aperture with its latched configuration (05 R159 to R166). -/
structure Ap where
  /-- AP_CFG at the first sample. -/
  cfg : Word
  /-- AP_LEN at the first sample. -/
  len : Word
  /-- Samples taken, sum of weighted samples, sum of weights, included samples. -/
  i : Nat
  /-- Sum of weighted samples. -/
  sum : Int
  /-- Sum of weights. -/
  wsum : Nat
  /-- Samples included. -/
  incl : Nat
  /-- Least sample. -/
  min : Int
  /-- Greatest sample. -/
  max : Int
  /-- Flags of the record so far (05 R166). -/
  flags : Nat
  /-- Ticks in compliance. -/
  cmp : Nat
  /-- Missed ticks. -/
  missed : Nat
  /-- LSYNC: assertions still to come; none when timed by AP_LEN. -/
  lines : Nat
  /-- Waiting for the first LSYNC assertion. -/
  armed : Bool
  /-- Number of samples at which it closes. -/
  n : Nat
  /-- Ended early. -/
  trunc : Bool
  /-- Tick in which the first sample is due. -/
  start : Nat
  /-- MODE_NOW at the start. -/
  mode0 : Nat
  /-- First tick whose sample is not yet taken. -/
  got : Nat
  /-- Its record has been formed, in the present tick. -/
  closed : Bool := false
  /-- With triangular weights, which its final length decides: what it took, newest first (R161, R162). -/
  hist : List ApItem := []
  deriving DecidableEq, Repr

/-- The correction of converter B's code (05 R149): the offset in 2^-6 code LSBs and the gain in Q2.30. -/
structure Corr where
  /-- Offset. -/
  ofs : Int := 0
  /-- Gain. -/
  gain : Int := 0x40000000
  deriving DecidableEq, Repr

/-- One measurement path (05). -/
structure Meas where
  /-- The running aperture. -/
  ap : Option Ap := none
  /-- A further trigger is queued (05 R159). -/
  queued : Bool := false
  /-- What became of the triggers of this tick (0 started, 1 queued, 2 dropped, 3 dropped and DROP set), and a STOP of this
  tick (R159, R163). -/
  trigs : List Nat := []
  /-- MEAS_OVR and the drops of the next record, as they stood before the triggers of this tick (05 R163). -/
  before : Option (Nat × Nat) := none
  /-- A STOP was accepted in this tick (05 R163). -/
  stop : Bool := false
  /-- Continuous triggering. -/
  cont : Bool := false
  /-- APNUM of the next record, modulo 65,536. -/
  apnum : Nat := 0
  /-- Triggers dropped since the latest record. -/
  ovr : Nat := 0
  /-- LS_EV: tick of the latest assertion. -/
  lsLast : Option Nat := none
  /-- Consecutive good estimator blocks (R150). -/
  good : Nat := 0
  /-- Sample pairs of the running estimator block (R149). -/
  pairs : Nat := 0
  /-- A record formed since the channel's latest MREAD of its value (09 R256). -/
  fresh : Bool := false
  /-- The pair runs split: last tick (R147). -/
  splitFrom : Option Nat := none
  /-- The tick after the split. -/
  splitTo : Option Nat := none
  /-- The slot whose sense converter B has while the pair is split (R147). -/
  splitB : Nat := 0
  /-- Ticks of firing and the slots sensed from then on, newest first; none stands for the active slot (R448). -/
  sensed : List (Nat × Option Nat) := []
  /-- The corrections of B in effect in the current tick and the three before it, newest first; a missing one is that of reset
  (R149, R151). -/
  corr : List Corr := []
  /-- The committed mode change of R148 mixes samples until this tick. -/
  mixTo : Nat := 0
  /-- The mode of the pair before it, which the samples of the tick of the write still have. -/
  modeWas : Nat := 0
  deriving DecidableEq, Repr

/-- A calibration load (05 R158). -/
structure CalLoad where
  /-- Slot. -/
  slot : Nat
  /-- Path, 0 force and 1 measure. -/
  path : Nat
  /-- Byte offset of the source, as committed when GO was accepted (17 R436). -/
  src : Nat
  /-- Next entry to request. -/
  next : Nat := 0
  /-- Entries written. -/
  done : Nat := 0
  deriving DecidableEq, Repr

/-- A raw capture in progress (05 R168). -/
structure Raw where
  /-- First tick. -/
  first : Nat
  /-- Last tick. -/
  last : Nat
  /-- Sample words of the open block per path, with its first tick. -/
  blkV : List Word
  /-- The same of the I path. -/
  blkI : List Word
  /-- Time of the open V block. -/
  tV : Nat
  /-- Time of the open I block. -/
  tI : Nat
  /-- V blocks dropped. -/
  dropV : Nat
  /-- I blocks dropped. -/
  dropI : Nat
  /-- DST. -/
  dst : Nat
  /-- Pair mode of the open V block. -/
  modeV : Nat := 0
  /-- Pair mode of the open I block. -/
  modeI : Nat := 0
  deriving DecidableEq, Repr

/-- The state of the segment player (07 R203 to R215). -/
structure Player where
  /-- Playing or primed descriptor. -/
  cur : Option Nat := none
  /-- The player runs. -/
  run : Bool := false
  /-- Descriptor committed as next (07 R206). -/
  nxt : Option Nat := none
  /-- Pending jump (07 R208). -/
  pend : Option Nat := none
  /-- Armed JUMP_NOW: its target and the sample count of its boundary. -/
  now_ : Option (Nat × Nat) := none
  /-- The tick in which it landed; its boundary is strictly later (R210). -/
  nowAt : Nat := 0
  /-- The tick in which it landed on a sample due whose burst has failed (R214). -/
  badAt : Option Nat := none
  /-- Index of the sample due next in the play in progress, the index played in this tick, and plays completed. -/
  idx : Nat := 0
  /-- GEN_POS. -/
  pos : Nat := 0
  /-- Plays completed of the descriptor. -/
  plays : Nat := 0
  /-- Counts of samples written and played since start (R205). -/
  w : Nat := 0
  /-- Samples played since start. -/
  r : Nat := 0
  /-- Samples written by core cycle 0 of the tick. -/
  seen : Nat := 0
  /-- The ring's samples by position; absent positions hold none. -/
  ring : Map Word := []
  /-- Granules requested of the plays, counted as samples from the ring's origin. -/
  req : Nat := 0
  /-- Sample counts whose burst failed (R214). -/
  bad : List Nat := []
  /-- Moves on when requests in flight become worthless. -/
  epoch : Nat := 0
  /-- Rewind mark, as a sample count (07 R212). -/
  mark : Option Nat := none
  /-- Replay: read position; the resume position is r. -/
  replay : Option Nat := none
  /-- Length of the hold in progress. -/
  hold : Option Nat := none
  /-- Sample of the latest tick in which one played (R200). -/
  last : Word := 0
  /-- Sample delivered for the current tick has been produced. -/
  done : Bool := false
  /-- An underrun begins and is to be reported. -/
  underDue : Bool := false
  /-- The commit position has just played. -/
  commitDue : Bool := false
  /-- The last sample of a play has just played. -/
  endDue : Bool := false
  /-- The play has ended: the committed one takes its place at the next tick edge. -/
  turn : Bool := false
  /-- The player stops at the next tick edge. -/
  stopDue : Bool := false
  /-- Ticks of the hold that has just ended, for GEN_GAP. -/
  gapDue : Option Nat := none
  deriving DecidableEq, Repr

/-- The DDS (07 R216 to R220). -/
structure Dds where
  /-- Phase accumulator, 48 bits. -/
  acc : Nat := 0
  /-- The DDS runs. -/
  run : Bool := false
  /-- Sample of this tick. -/
  last : Int := 0
  /-- The accumulator is to be reset at this tick's edge (R217). -/
  reset : Bool := false
  deriving DecidableEq, Repr

/-- The list unit of a channel (09 R263 to R266): entries in the prefetch buffer in order (none for a failed entry). -/
structure ListUnit where
  /-- A list was started since BIND. -/
  started : Bool := false
  /-- Prefetched entries in order, none for a failed one (09 R264). -/
  buf : List (Option Word) := []
  /-- Index of the next entry to request. -/
  req : Nat := 0
  /-- Moves on when a list is replaced. -/
  epoch : Nat := 0
  deriving DecidableEq, Repr

/-- What the model holds of a channel besides its registers. -/
structure Chan where
  /-- Accepted writes that land at the next tick edge, in order (01 R15). -/
  shadow : List FW := []
  /-- A held mode write (02 R56). -/
  heldMode : Option Nat := none
  /-- The entry sequence in progress (02 R53). -/
  entry : Option Entry := none
  /-- MEASURE to closed or MANUAL: the mode, and whether FORCE_EN has fired at the given tick (02 R52, R54). -/
  fromMeas : Option (Nat × Option Nat) := none
  /-- A setpoint write landed with the mode write that landed last, or since then while FORCE_EN is awaited (02 R54). -/
  spWritten : Bool := false
  /-- A write of OPEN accepted in the tick of that mode write; it applies after the clear at the commit (03 R119). -/
  openWith : Option Bool := none
  /-- The tick in which the latest write of MAN_CODE landed (02 R52). -/
  manAt : Option Nat := none
  /-- The tick in which the latest write of OPEN landed, and its value (03 R119). -/
  openAt : Option (Nat × Bool) := none
  /-- The converted limits (02 R57). -/
  lims : Limits := {}
  /-- The frames whose third attempt failed, oldest first, while the channel is in HOLD under 02 R84. -/
  holdFrames : List Frame := []
  /-- The range change in progress (02 R74, R77). -/
  chg : Option Change := none
  /-- A held range write of the V path (02 R71). -/
  heldV : Option Nat := none
  /-- A held range write of the I path (02 R71). -/
  heldI : Option Nat := none
  /-- Autorange dwell upwards (02 R72). -/
  up : Nat := 0
  /-- Autorange dwell downwards (02 R72). -/
  dn : Nat := 0
  /-- First tick of an automatic change downwards. -/
  downFrom : Nat := 0
  /-- An autorange decision is due: upwards or downwards. -/
  arDue : Option Bool := none
  /-- Autorange decides nothing before this tick (05 R148). -/
  arFrom : Nat := 0
  /-- The pulse train (02 R63). -/
  train : Option Train := none
  /-- The front end counts as disconnected (02 R87, R88). -/
  disconnected : Bool := true
  loop : Loop := {}
  rc : Rc := {}
  luff : Luff := {}
  /-- The injection in progress (04 R143). -/
  inj : Option Inj := none
  /-- Ended injections whose trailer is still to be written, oldest first. -/
  injOld : List Inj := []
  /-- V path. -/
  mv : Meas := {}
  /-- I path. -/
  mi : Meas := {}
  /-- Raw capture in progress. -/
  raw : Option Raw := none
  /-- Records waiting for the stream head, oldest first (05 R167). -/
  recs : List (List Byte) := []
  /-- EMIT records of this tick (09 R257). -/
  emits : List (List Byte) := []
  /-- The calibration load in progress (05 R158). -/
  calLd : Option CalLoad := none
  /-- The tick of the latest STOP of raw capture (05 R169). -/
  rawStopAt : Option Nat := none
  /-- The clear latch (06 R179) and whether it must be recomputed. -/
  clrLatch : Int := 0
  /-- The clear latch is to be recomputed. -/
  clrDirty : Bool := false
  /-- The tick in which it was recomputed last. -/
  clrAt : Option Nat := none
  /-- The tick in which it was last switched onto the DAC (06 R182). -/
  clrDac : Option Nat := none
  /-- Offset DAC code applied in the current tick (06 R178). -/
  ofs : Int := 0
  gen : Player := {}
  dds : Dds := {}
  list : ListUnit := {}
  /-- The release frames acknowledged, with their firings; with the last of them the HOLD ends at the next tick edge (13 R361). -/
  holdEnd : List Frame := []
  /-- First tick in which a held mode or range write may be taken (02 R56, R71). -/
  freeFrom : Nat := 0
  deriving DecidableEq, Repr

/-- A loop core (03 R90, 04 R141). -/
structure LoopCore where
  /-- The computation of this tick is done. -/
  done : Bool := false
  /-- PRBS-15 state (04 R141). -/
  prbs : Nat := 0x7FFF
  /-- MAC slots used in this tick (03 R90). -/
  slots : Nat := 0
  deriving DecidableEq, Repr

/-! ### Monitor converters (06) -/

/-- A conversion request: the input, CHK, LIMSET, its source (0-3 INJk, 4 FP, 5 scan entry) and the tick of acceptance. -/
structure MonReq where
  /-- Input number (06 R190). -/
  input : Nat
  /-- CHK. -/
  chk : Bool
  /-- LIMSET. -/
  limset : Nat
  /-- Source. -/
  src : Nat
  /-- Scan entry. -/
  entry : Nat
  /-- Tick of acceptance. -/
  at_ : Nat
  deriving DecidableEq, Repr

/-- A monitor ADC (06 R188 to R197). -/
structure Mon where
  /-- Requests waiting (06 R193). -/
  pend : List MonReq := []
  /-- The conversion in progress, its slot's first tick, and the sum of 16*code + 4*o over its ticks (R191). -/
  conv : Option (MonReq × Nat × Int) := none
  /-- A finished conversion whose result is available in the given tick. -/
  fin : Option (MonReq × Nat × Int) := none
  /-- A calibration waits for its slot (06 R195). -/
  calWait : Bool := false
  /-- Tick in which CAL was accepted. -/
  calAt : Nat := 0
  /-- No slot boundary is taken before this tick. -/
  next : Nat := 0
  /-- Requests that a deferred calibration lets go first. -/
  calAfter : Nat := 0
  /-- Slots of the calibration in progress. -/
  calSlots : Option Nat := none
  /-- Writes of MA_CFG and SCAN that land at the next slot boundary (R190). -/
  writes : List (Nat × Word) := []
  deriving DecidableEq, Repr

/-! ### Sequencers, resources, cache (08) -/

/-- What a context waits for (08 R246 WAIT_KIND). -/
inductive Wait where
  | none
  | wait (resume : Nat)
  | event (line : Nat) (timeout : Option Nat) (since : Nat)
  | sync (b : Nat)
  | acq (r : Nat)
  | list
  | fetch (line : Nat)
  deriving DecidableEq, Repr

/-- The sequencer of one channel. -/
structure Seq where
  /-- What the bound context waits for (08 R232). -/
  wait : Wait := .none
  /-- Slots used in the current tick; 8 when the tick has ended for the context. -/
  used : Nat := 0
  /-- First tick in which the context executes (BIND, RESUME, CHAIN, resumption). -/
  from_ : Nat := 0
  /-- State of 08 R222 the context takes at the next tick edge, and whether it chose that itself. -/
  pendSt : Option Nat := none
  /-- The context chose that state itself. -/
  own : Bool := false
  /-- Context that CHAIN hands the channel to at the next tick edge. -/
  chainTo : Option Nat := none
  /-- Slots executed in this tick (15 R400). -/
  executed : Nat := 0
  /-- PC of the first of them. -/
  firstPc : Option Nat := none
  /-- A branch was taken in this tick. -/
  branch : Bool := false
  /-- An exception was raised in this tick. -/
  exc : Bool := false
  /-- SLOT_EXHAUST in this tick. -/
  exhaust : Bool := false
  /-- The context changed state in this tick. -/
  stateChg : Bool := false
  /-- The context that was unbound in this tick (15 R400). -/
  left : Option Nat := none
  /-- First DDR5 line the bound context has locked in the cache, and how many (08 R228). -/
  pinBase : Nat := 0
  /-- Lines locked from there on. -/
  pinLen : Nat := 0
  /-- Notifications waiting, up to 4 (09 R262). -/
  notes : Nat := 0
  deriving DecidableEq, Repr

/-- Who waits for a shared resource: the host or the context bound to a channel. -/
inductive Holder where
  | host
  | ctx (x : Nat) (n : Nat)
  deriving DecidableEq, Repr

/-- A shared resource (08 R236 to R239): holders, queue, the tick of its latest release, and a release that waits for a capture. -/
structure Res where
  /-- Holders. -/
  holders : List Holder := []
  /-- Waiting holders, first in first out. -/
  queue : List Holder := []
  /-- Tick of the latest release. -/
  freed : Option Nat := none
  /-- A release waits for a capture to end. -/
  deferred : Bool := false
  deriving DecidableEq, Repr

/-! ### Streams, arbiter, memory (11) -/

/-- An outstanding stream read (11 R305, R306). -/
structure Rd where
  /-- TAG. -/
  tag : Nat
  /-- MAXB. -/
  maxb : Nat
  /-- Tick in which it became the oldest, and the tick in which it became due. -/
  oldest : Option Nat
  /-- The tick in which it became due. -/
  due : Option Nat
  deriving DecidableEq, Repr

/-- A stream (11 R300 to R309). -/
structure Stream where
  /-- On-die head, up to 16 KiB of items. -/
  head : List (List Byte) := []
  /-- Items in the spill ring. -/
  ring : List (List Byte) := []
  /-- On-die tail, up to 16 KiB of items. -/
  tail : List (List Byte) := []
  /-- Byte positions in the ring since it was last empty of meaning: next write, oldest item, next byte to refill. -/
  wpos : Nat := 0
  /-- Position of the oldest item. -/
  rpos : Nat := 0
  /-- Position of the next byte to refill. -/
  fpos : Nat := 0
  /-- Bytes that spill bursts have written of the head's oldest item. -/
  scred : Nat := 0
  /-- Bytes refilled of an item that is not whole yet. -/
  fbuf : List Byte := []
  /-- Outstanding reads, oldest first. -/
  reads : List Rd := []
  /-- The head refused or held back an item in this tick. -/
  fullNow : Bool := false
  /-- The same, of the tick before (11 R313, FULL). -/
  fullLast : Bool := false
  /-- FMT as it stood at this tick's edge (R304). -/
  fmt : Bool := false
  /-- Start of the DRAIN_MIN window (11 R309). -/
  winStart : Nat := 0
  /-- Bytes of whole items delivered in it. -/
  winBytes : Nat := 0
  /-- The stream held an item at every edge of it. -/
  winHeld : Bool := true
  /-- SLOW is to be reported, with the bytes. -/
  slowDue : Option Nat := none
  deriving DecidableEq, Repr

/-- A host access of DDR5 in progress (11 R286, R289, R297): its packet, the bursts it has still to read and to write, and
the bursts of it that are queued or issued. -/
structure HostJob where
  /-- A write. -/
  write : Bool
  /-- TAG. -/
  tag : Nat
  /-- Offset. -/
  off : Nat
  /-- Bytes. -/
  len : Nat
  /-- Bytes to write. -/
  data : List Byte
  /-- Bursts still to be read. -/
  toRead : List Nat
  /-- Bursts still to be written. -/
  toWrite : List Nat
  /-- Bursts queued or issued. -/
  waiting : List Nat
  /-- A burst met an uncorrectable error. -/
  failed : Bool
  /-- Flits of its request that stay in the receive buffer until it has been executed (12 R325). -/
  flits : Nat := 0
  /-- The bursts read so far, by offset. -/
  got : List (Nat × List Byte) := []
  deriving DecidableEq, Repr

/-- A read burst that has been issued and whose data has not returned (11 R288, R297). -/
structure Flight where
  /-- The request. -/
  req : Req
  /-- What DDR5 held as it was issued; of a refill, the bytes of the ring that had been written. -/
  data : List Byte
  /-- The burst held a double-bit error then. -/
  bad : Bool := false
  /-- The whole burst has been rewritten since. -/
  rewritten : Bool := false
  /-- The requester has withdrawn it: its errors are reported, its data goes nowhere. -/
  dead : Bool := false
  deriving DecidableEq, Repr

/-- The lottery arbiter (11 R291 to R296). -/
structure Arb where
  /-- Queue of each port, up to 16 requests (11 R291). -/
  queues : Map (List Req) := []
  /-- The port that holds the grant and the bursts left in it. -/
  grant : Option (Nat × Nat) := none
  /-- The grant in progress is an aging grant. -/
  aging : Bool := false
  /-- Ports due an aging grant. -/
  due : List Nat := []
  /-- A grant has just ended and the aged ports are to be collected. -/
  ended : Bool := false
  /-- LFSR, 32 bits (11 R292). -/
  lfsr : Word := 1
  /-- The seed is to be loaded at the next draw. -/
  seedNew : Bool := false
  /-- Bursts issued whose data has not returned. -/
  issued : List Flight := []
  /-- Bursts whose data has returned and waits for its requester: the bytes, none after an uncorrectable error; of a spill, the bytes
  it wrote. -/
  inbox : List (Req × Option (List Byte)) := []
  deriving DecidableEq, Repr

/-! ### The Melic Link (12) -/

/-- A packet the device sends: class, OPC, TAG, STATUS, P0, P1, payload, and the flits a DROP cut it to (12 R321, R335). -/
structure Pkt where
  /-- Class. -/
  cls : Nat
  /-- OPC. -/
  opc : Nat
  /-- TAG. -/
  tag : Nat
  /-- STATUS. -/
  status : Nat
  /-- P0. -/
  p0 : Nat
  /-- P1. -/
  p1 : Nat
  /-- Payload. -/
  data : List Byte
  /-- Flits left by a DROP. -/
  cut : Option Nat := none
  /-- Lengths of the items in the payload of stream data, for a DROP (11 R307). -/
  items : List Nat := []
  deriving DecidableEq, Repr

/-- A packet being received (12 R320): its header flit, the BODY flits so far, and whether everything up to LAST is discarded. -/
structure RxOpen where
  /-- Header flit. -/
  head : BitVec 256
  /-- BODY flits. -/
  body : List (BitVec 256)
  /-- Everything up to LAST is discarded. -/
  discard : Bool
  deriving DecidableEq, Repr

/-- A request taken in order and waiting to execute: its flits in the receive buffer and its sequence number (12 R327). -/
structure RxReq where
  /-- The request as a command. -/
  cmd : Instr
  /-- Its flits in the receive buffer. -/
  flits : Nat
  /-- Its number. -/
  seq : Nat
  deriving DecidableEq, Repr

/-- One traffic class of the link (12 R324 to R330). -/
structure Cls where
  /-- Next expected number (E of R327), whether a packet was ever taken (AV), whether a NAK was sent since E moved, and one due. -/
  e : Nat := 0
  /-- A packet was ever taken. -/
  av : Bool := false
  /-- A NAK was sent since E moved. -/
  naked : Bool := false
  /-- A NAK is due. -/
  nakDue : Bool := false
  /-- Since INIT: flits received within the credit, flits freed, and flits freed as the latest FLOW told. -/
  rcvd : Nat := 0
  /-- Flits freed. -/
  cred : Nat := 0
  /-- Flits freed as the latest FLOW told. -/
  adv : Nat := 0
  /-- The packet being received. -/
  open_ : Option RxOpen := none
  /-- A link error may have taken flits of the class: BODY flits up to the next HEAD belong to no packet. -/
  resync : Bool := false
  /-- Requests waiting to execute. -/
  rx : List RxReq := []
  /-- Sequence number of the request that executes. -/
  cur : Nat := 0
  /-- Flits of that request still in the receive buffer: an access of DDR5 keeps them to its end (R325). -/
  curFlits : Nat := 0
  /-- Packets formed and waiting to be sent. -/
  txq : List Pkt := []
  /-- Packets sent and not acknowledged, oldest first, with their numbers. -/
  replay : List (Nat × Pkt) := []
  /-- Number of the next new packet. -/
  next : Nat := 0
  /-- The newest packets of the replay buffer that are still to be sent again. -/
  resend : Nat := 0
  /-- The open packet with its number and the flits sent of it, and whether it is one sent again. -/
  tx : Option (Nat × Pkt × Nat) := none
  /-- The open packet is sent again. -/
  reOpen : Bool := false
  /-- The packet that was half sent when the link went down, and the flits of it that had gone out (11 R309). -/
  half : Option (Nat × Nat) := none
  /-- A replay was called for while the open new packet was being sent: it is sent again with the others (R329). -/
  redo : Bool := false
  /-- Credit limit granted by the host. -/
  limit : Nat := 0
  /-- Its latest credit count. -/
  lastCred : Nat := 0
  /-- The tick from which RPLY_TMO counts, and replays without progress. -/
  since : Nat := 0
  /-- Replays without progress. -/
  tries : Nat := 0
  deriving DecidableEq, Repr

/-- The link (12). -/
structure Link where
  /-- State of each class. -/
  cls : Map Cls := []
  /-- Transmit lane polarity, from the OTP array (14 R392). -/
  txInv : Nat := 0
  /-- LANE_EN as this training took it, the lanes trained so far, and the tick the state was entered in (R317). -/
  en : Nat := 0
  /-- Lanes trained. -/
  lanes : Nat := 0
  /-- Tick of the latest change of state. -/
  at_ : Nat := 0
  /-- First tick of the current violation window. -/
  winStart : Nat := 0
  /-- An acknowledgement is to be sent, a FLOW is due (R328), and the tick of the latest one. -/
  ackDue : Bool := false
  /-- A FLOW is due. -/
  flowDue : Bool := false
  /-- Tick of the latest FLOW. -/
  lastFlow : Nat := 0
  /-- The INIT flit is sent. -/
  initSent : Bool := false
  /-- The class of TC1 and TC3 that started a packet last (R337). -/
  lastNew : Nat := 3
  /-- Transmission time left in this tick, in units of which a flit block takes 544 * 266 (R316). -/
  budget : Nat := 0
  /-- Flit blocks sent since the link took up its present lanes, over all of them: they go round the lanes (R316). -/
  blk : Nat := 0
  /-- The lane of the latest flit sent. -/
  outLane : Nat := 0
  /-- The latest flit block sent: tag and flit. -/
  out : Option (BitVec 10 × BitVec 256) := none
  /-- Tick of the latest executed KEEPALIVE (R344). -/
  hbLast : Nat := 0
  /-- Completions to be sent at the next tick (R338). -/
  later : List Pkt := []
  deriving DecidableEq, Repr

/-! ### The fault collector (13) -/

/-- A lanyard message (13 R350) with its detection tick, TICKTIME of it and send cycle. -/
structure Msg where
  /-- SRC (13 R350). -/
  src : Nat
  /-- KIND. -/
  kind : Nat
  /-- INJ. -/
  inj : Bool
  /-- ADDR. -/
  addr : Nat
  /-- INFO. -/
  info : Nat
  /-- Detection tick. -/
  tick : Nat
  /-- TICKTIME of it. -/
  time : Nat
  /-- Send cycle. -/
  cyc : Nat
  /-- Taken as REFCLK_LOSS or PLL_UNLOCK after the loss (14 R388). -/
  forceFurl : Bool := false
  /-- What the sending block tells the self-test besides: the burst of a memory error, the LIMSET of a check (R368). -/
  aux : Nat := 0
  deriving DecidableEq, Repr

/-- What a reaction does to its targets (13 R357, R361; 12 R338; 08 R243; 04 R137; 06 R184). -/
inductive Act where
  /-- CH_HOLD of a class: no effect in OFF and MEASURE. -/
  | hold
  /-- The hold of 02 R84: no effect in OFF. -/
  | hold84
  | reef
  | manual
  | off
  /-- OFF under CLR_N: no DISCONNECT. -/
  | clr
  | furl
  /-- The device furl. -/
  | dev
  /-- ABORT HALT: it only overrides the force-side writes (12 R338). -/
  | halt
  deriving DecidableEq, Repr

/-- A reaction decided for channels: the tick it applies, and the log index of the record behind it, where there is one. -/
structure React where
  /-- The tick it applies in. -/
  at_ : Nat
  /-- Channels. -/
  targets : List Nat
  /-- The reaction. -/
  act : Act
  /-- Log index of the record behind it. -/
  idx : Option Nat
  deriving DecidableEq, Repr

/-- A self-test waiting, running or shared (13 R368, R369). -/
structure Test where
  /-- SEQ of its record, its class and its message. -/
  idx : Nat
  /-- Class of the record. -/
  cls : Nat
  /-- KIND. -/
  kind : Nat
  /-- SRC. -/
  src : Nat
  /-- ADDR. -/
  addr : Nat
  /-- INFO. -/
  info : Nat
  /-- What the block told besides. -/
  aux : Nat
  /-- Block under test: two numbers that are equal for equal blocks. -/
  block : Nat × Nat
  /-- Tick in which it may start. -/
  start : Nat
  /-- It runs. -/
  running : Bool := false
  /-- SEQ of the test whose result it receives. -/
  shares : Option Nat := none
  /-- After the result of a passing march: the copy back ends at this tick. -/
  copyEnd : Option Nat := none
  /-- A DAC read-back sweep with the front end disconnected, and how many of its conversions have begun. -/
  sweep : Bool := false
  /-- Conversions begun. -/
  step : Nat := 0
  /-- Conversions or reads asked for, done, and found out of bounds or in error. -/
  asked : Nat := 0
  /-- Conversions or reads done. -/
  reads : Nat := 0
  /-- Those out of bounds or in error. -/
  fails : Nat := 0
  /-- A pair cross-check's sum of the differences of the corrected codes. -/
  sum : Int := 0
  deriving DecidableEq, Repr

/-- A shadow window (13 R372): the log index of the record that opened it, its ticks, and the channel it covers (none for the device). -/
structure Window where
  /-- Log index of the record that opened it. -/
  idx : Option Nat
  /-- First tick. -/
  first : Nat
  /-- Last tick. -/
  last : Nat
  /-- Channel covered, none for the device. -/
  ch : Option Nat
  /-- Opened by a test rather than a furl. -/
  test : Bool
  deriving DecidableEq, Repr

/-- The collector (13). -/
structure Collector where
  /-- Messages sent and not yet taken, in arrival order. -/
  bus : List Msg := []
  /-- Messages taken in the current tick. -/
  taken : Nat := 0
  /-- Per log index: detection tick, SRC, KIND and ADDR of a primary record of a real fault. -/
  det : Map (Nat × Nat × Nat × Nat) := []
  /-- Reactions decided and not yet applied (13 R351). -/
  reacts : List React := []
  /-- Self-tests waiting, running or shared (13 R368). -/
  tests : List Test := []
  /-- Banks served by the spare of their memory (R368). -/
  spares : List (Nat × Nat) := []
  /-- Shadow windows, newest first. -/
  windows : List Window := []
  /-- The pending injection: the tick and cycle it is sent in, and the words of FI_MSG (R370). -/
  fi : Option (Nat × Nat × Word × Word) := none
  /-- SEQ of the records the mirror in DDR5 lacks or holds in an older form (R366). -/
  mirrorDirty : List Nat := []
  /-- Words of KIND_MAP written in this tick, as they stood before (R356). -/
  kinds : Map (Option Word) := []
  /-- Channels whose furl was released in this tick (R362). -/
  released : List Nat := []
  /-- DEV_FURL was cleared in this tick (R362, R363). -/
  devReleased : Bool := false
  /-- A write of 1 to DEV_FURL of this tick has lost to a device furl decided in it, which counts (13 R363, R374). -/
  devKept : Bool := false
  /-- Log indexes of the records decided, or reacting, in this tick (R373). -/
  active : List Nat := []
  /-- Channels whose reaction is applied again because they did not confirm it, with the tick of that (R373). -/
  retries : List (Nat × Nat) := []
  deriving DecidableEq, Repr

/-! ### The edge timer (10) and the crow's nest (15) -/

/-- A time-stamped edge (10 R270): coarse count, vernier count, whether it is coarse, TICKTIME and core cycle. -/
structure EtEdge where
  /-- Coarse count. -/
  c : Nat
  /-- Vernier count. -/
  f : Nat
  /-- A coarse edge. -/
  coarse : Bool
  /-- TICKTIME. -/
  time : Nat
  /-- Core cycle. -/
  cyc : Nat
  deriving DecidableEq, Repr

/-- An edge timer unit (10 R270 to R280). -/
structure EtUnit where
  /-- An arm accepted in this tick, and whether it asks for statistics. -/
  armReq : Option Bool := none
  /-- Armed. -/
  armed : Bool := false
  /-- A statistics run. -/
  stats : Bool := false
  /-- ET_CFG and ET_N as latched by the arm. -/
  cfg : Word := 0
  /-- ET_N as latched. -/
  n : Nat := 0
  /-- The open start edge. -/
  start : Option EtEdge := none
  /-- The latest stop edge with no start before it, and whether it is still to be counted as ignored. -/
  preStop : Option (EtEdge × Bool) := none
  /-- Its stop edge, while both convert. -/
  stop : Option EtEdge := none
  /-- Event lines whose edge of this tick has reached the unit, and the tick edge (code 0x08). -/
  seen : List Nat := []
  /-- TB_WARM has read 1 since the arm. -/
  warm : Bool := false
  /-- First core cycle in which a start edge is accepted. -/
  free : Nat := 0
  /-- Measurements of the run. -/
  count : Nat := 0
  /-- Overflows of the run. -/
  ovf : Nat := 0
  /-- Sum of the intervals. -/
  sum : Int := 0
  /-- Sum of their squares. -/
  sumSq : Nat := 0
  /-- Least interval. -/
  min : Int := 0
  /-- Greatest interval. -/
  max : Int := 0
  /-- Words 0 to 5 of the latest measurement of the run. -/
  last : List Word := []
  /-- Result block waiting for the next tick edge. -/
  result : Option (List Word) := none
  /-- The result block whose write is due in this tick, and the tick in which the latest arm landed. -/
  block : Option (List Word) := none
  /-- Tick in which the latest arm landed. -/
  landed : Nat := 0
  deriving DecidableEq, Repr

/-- The time-base check (10 R281). -/
structure TimeBase where
  /-- Deviation of the latest gate. -/
  lastDev : Option Int := none
  /-- Tick of the latest reference edge, or of the start of the check or the loss after it. -/
  edgeAt : Nat := 0
  /-- The reference edge that began the gate in progress: coarse count and vernier count. -/
  gate : Option (Nat × Nat) := none
  /-- The latest reference edge. -/
  last : Option (Nat × Nat) := none
  /-- Reference periods of the gate so far. -/
  periods : Nat := 0
  deriving DecidableEq, Repr

/-- A destination of trace records (15 R401): its records with the tick each was formed in, and the records dropped since the
latest one delivered, with TICKTIME of the first of them. -/
structure Dest where
  /-- Records waiting, with the tick each was formed in. -/
  fifo : List (Nat × List Byte) := []
  /-- Records dropped since the latest delivered one. -/
  drops : Nat := 0
  /-- TICKTIME of the first of them. -/
  dropAt : Nat := 0
  deriving DecidableEq, Repr

/-- The crow's nest (15). -/
structure Obs where
  /-- Writes that land at the next tick edge: probes, counter selections and PC_CTRL by offset (R398, R404, R406). -/
  writes : List (Nat × Word) := []
  /-- The TRACE port. -/
  trace : Dest := {}
  /-- OBS packets on TC1. -/
  tc1 : Dest := {}
  /-- The records on the TRACE port, each with the byte time (ten to a tick) in which it begins (R402). -/
  out : List (Nat × List Byte) := []
  /-- Byte time in which the port is free again. -/
  outFree : Nat := 0
  /-- Events of the current tick by 64*EVENT + Q (R405). -/
  events : Map Nat := []
  /-- CLR lands at the next tick edge. -/
  clr : Bool := false
  /-- SNAP lands at the next tick edge. -/
  snap : Bool := false
  /-- Probe records formed in this tick: probe, PC trace. -/
  formed : List (Nat × Bool) := []
  /-- The selections that writes landing at this tick's edge have replaced, by probe (R401). -/
  oldSel : List (Nat × Word) := []
  deriving DecidableEq, Repr

/-- The whole device. -/
structure State where
  /-- Commands that are waiting, first in, first out. -/
  pending : List Instr := []
  /-- The model's own: selects free values (Config.free); advanced with each use. -/
  fresh : Nat := 0
  /-- The device is a VS3240, VS3216 or VS3208 (00 R1). -/
  variant : Variant := .vs3240
  /-- The internal reset is asserted (14 R380). -/
  inReset : Bool := false
  /-- The first microsecond of a reset: the outputs are at their first step, and no block has been reset yet (14 R380). -/
  resetting : Bool := false
  /-- RESET_N is low. -/
  rstPin : Bool := false
  /-- OCXO_RDY is high (10 R282; 16 R422). -/
  ocxo : Bool := false
  /-- A supply is below its trip level. -/
  supplyBad : Bool := false
  /-- Ticks since the device started, never loaded. -/
  now : Nat := 0
  /-- Core cycle of the tick, 0 to 49, as far as commands give one. -/
  cycle : Nat := 0
  /-- Sequencer place of the tick to be issued next; 256 when all are done (08 R230). -/
  slot : Nat := 256
  /-- The registers by device address; an unlisted word holds its reset value. -/
  regs : Map Word := []
  /-- DDR5 by byte offset; an unlisted byte is 0 (11 R286). -/
  ddr : Memory := []
  /-- Bursts with a standing double-bit error (11 R288). -/
  badBursts : List Nat := []
  /-- OTP programming in progress (14 R394). -/
  otpBusy : Option (Nat × Word) := none
  /-- Reference and oscillator trims, words 2 and 3 of the OTP header (14 R383, R391). -/
  trims : List Word := []
  /-- Event lines caused in this tick (01 R37). -/
  caused : List Nat := []
  /-- The core cycles in which lines were caused in this tick, of those the machine knows (10 R269). -/
  causedAt : List (Nat × Nat) := []
  /-- Event lines that assert in this tick. -/
  asserting : List Nat := []
  /-- Those of them already seen by every consumer. -/
  evDone : List Nat := []
  /-- Trigger pins (01 R42, R43). -/
  trig : Map TrigPin := []
  /-- Ticks in which a marker loads TICKTIME (01 R34). -/
  marker : List Nat := []
  /-- The words of TICK_LOAD as ARM_LOAD was accepted, which the marker loads (17 R436). -/
  tickLoad : BitVec 64 := 0
  /-- A follower's alignment (01 R31 to R33). -/
  flw : Follower := {}
  /-- Arrivals at barriers: barrier and channel (01 R45). -/
  barArr : List (Nat × Nat) := []
  /-- Arrivals of contexts stopped in this tick, withdrawn at its end: barrier and channel (01 R46, 08 R227). -/
  barGone : List (Nat × Nat) := []
  /-- CLR_N is low (06 R183). -/
  clrLow : Bool := false
  /-- CLR_N is to be recognised. -/
  clrDue : Bool := false
  /-- The latest tick in which CLR_N was recognised low, and the first in which mode writes are taken after the clear
  condition (06 R185). -/
  clrRec : Option Nat := none
  /-- First tick in which mode writes are taken after the clear condition (06 R185). -/
  clrFree : Nat := 0
  /-- Tick in which RCB_CLK restarts (02 R88). -/
  rcbStop : Option Nat := none
  /-- Channels. -/
  chans : Map Chan := []
  /-- Range Control Buses by group. -/
  rcbs : Map Rcb := []
  /-- Loop cores by group. -/
  lcs : Map LoopCore := []
  /-- Monitor ADCs by group. -/
  mons : Map Mon := []
  /-- Sequencers by channel. -/
  seqs : Map Seq := []
  /-- Images of running contexts as of the latest tick edge (08 R223). -/
  edgeImg : Map Word := []
  /-- Cached program lines of 16 words (08 R228). -/
  icache : Map (List Word) := []
  /-- Lines an upset has invalidated, until they are fetched again (13 R355). -/
  refetch : List Nat := []
  /-- Shared resources 0 to 35 (08 R236). -/
  res : Map Res := []
  /-- Streams S0 to S35. -/
  streams : Map Stream := []
  /-- The arbiter. -/
  arb : Arb := {}
  /-- Host accesses of DDR5 in progress. -/
  hostJobs : List HostJob := []
  /-- DDR5 training runs (11 R287). -/
  training : Bool := false
  /-- Next burst of the scrubber (11 R290). -/
  scrubAt : Nat := 0
  /-- The link. -/
  link : Link := {}
  /-- The collector. -/
  fc : Collector := {}
  /-- Edge timer units. -/
  ets : Map EtUnit := []
  /-- The time-base check. -/
  tb : TimeBase := {}
  /-- The crow's nest. -/
  obs : Obs := {}
  /-- Captured words by port (17 R435). -/
  capts : Map Word := []
  /-- Write latches by port (17 R436). -/
  latches : Map Word := []
  /-- The latest answer on MGMT_SPI: data, status and check (12 R346). -/
  spiOut : Option (Word × Nat × Nat) := none
  /-- The JTAG port (16 R427). -/
  tap : Tap := {}
  deriving DecidableEq, Repr

/-- Why the device stops. The spec gives an answer to every event (13, 12 R340), so no meaning raises one. -/
inductive Fault where
  /-- Raised by nobody; the type is not empty only so that it can be named. Safe. -/
  | unreachable
  deriving DecidableEq, Repr

/-- Why a command has no meaning. -/
inductive Refusal where
  /-- Raised by an arm of Dispatch.lean for a command not modelled yet, by the table's mnemonic; no arm raises it now. Safe. -/
  | notModelled (mnemonic : String)
  deriving DecidableEq, Repr

/-- The device right after reset (14 R380 to R382): every register at its reset value (State.regs lists nothing),
every queue empty, every channel in OFF. Values the spec does not give: log entries 3 to 5. -/
def State.reset : State := {}

end Sys2Proof.Machine
end

