-- ==== Sys2Proof/Machine/RegMap.lean ====
section
/-! DEFINITION. The register map (17): the block and offset of a device address, and for every register its offsets, its
reset value and its writable and write-1-to-clear bits, from the field tables of the chapters. -/

namespace Sys2Proof.Machine

/-- Registers at base, base + stride, ..., count of them: reset value, RW and RWI bits, W1C bits (00 R4). -/
structure RegRow where
  base : Nat
  stride : Nat
  count : Nat
  reset : Word
  rw : Word
  w1c : Word
  deriving DecidableEq, Repr

/-- The blocks of 17 R431 that hold registers; `none` is every other address. -/
inductive Block where
  | device | fault | link | mem | otp | edge | mon | obs
  | chan (n : Nat) | stream (k : Nat) | ctx (x : Nat) | cal | seqb | ddr | none
  deriving DecidableEq, Repr

/-- Address of devId. -/
abbrev R.devId : Nat := 0x0
/-- Address of devRev. -/
abbrev R.devRev : Nat := 0x4
/-- Address of cap0. -/
abbrev R.cap0 : Nat := 0x8
/-- Address of cap1. -/
abbrev R.cap1 : Nat := 0xc
/-- Address of devUidLo. -/
abbrev R.devUidLo : Nat := 0x10
/-- Address of devUidHi. -/
abbrev R.devUidHi : Nat := 0x14
/-- Address of scratch. -/
abbrev R.scratch : Nat := 0x18
/-- Address of ticktimeLo. -/
abbrev R.ticktimeLo : Nat := 0x20
/-- Address of ticktimeHi. -/
abbrev R.ticktimeHi : Nat := 0x24
/-- Address of tickLoadLo. -/
abbrev R.tickLoadLo : Nat := 0x28
/-- Address of tickLoadHi. -/
abbrev R.tickLoadHi : Nat := 0x2c
/-- Address of tickCtrl. -/
abbrev R.tickCtrl : Nat := 0x30
/-- Address of tickStat. -/
abbrev R.tickStat : Nat := 0x34
/-- Address of trigCfg. -/
abbrev R.trigCfg : Nat := 0x40
/-- Address of trigStat. -/
abbrev R.trigStat : Nat := 0x60
/-- Address of evSw. -/
abbrev R.evSw : Nat := 0x64
/-- Address of evStatLo. -/
abbrev R.evStatLo : Nat := 0x68
/-- Address of evStatHi. -/
abbrev R.evStatHi : Nat := 0x6c
/-- Address of clrStat. -/
abbrev R.clrStat : Nat := 0x70
/-- Address of devState. -/
abbrev R.devState : Nat := 0x80
/-- Address of rstCause. -/
abbrev R.rstCause : Nat := 0x84
/-- Address of stResult. -/
abbrev R.stResult : Nat := 0x88
/-- Address of clkStat. -/
abbrev R.clkStat : Nat := 0x8c
/-- Address of barCfg. -/
abbrev R.barCfg : Nat := 0x100
/-- Address of fcStat. -/
abbrev R.fcStat : Nat := 0x10000
/-- Address of fcCnt. -/
abbrev R.fcCnt : Nat := 0x10004
/-- Address of rptWin. -/
abbrev R.rptWin : Nat := 0x10008
/-- Address of devStat. -/
abbrev R.devStat : Nat := 0x1000c
/-- Address of classCfg0. -/
abbrev R.classCfg0 : Nat := 0x10010
/-- Address of classCfg1. -/
abbrev R.classCfg1 : Nat := 0x10014
/-- Address of classCfg2. -/
abbrev R.classCfg2 : Nat := 0x10018
/-- Address of classCfg3. -/
abbrev R.classCfg3 : Nat := 0x1001c
/-- Address of chFurled. -/
abbrev R.chFurled : Nat := 0x10020
/-- Address of chHeld. -/
abbrev R.chHeld : Nat := 0x10024
/-- Address of holdRel. -/
abbrev R.holdRel : Nat := 0x10028
/-- Address of logSeq. -/
abbrev R.logSeq : Nat := 0x10030
/-- Address of logRd. -/
abbrev R.logRd : Nat := 0x10034
/-- Address of mirCfg. -/
abbrev R.mirCfg : Nat := 0x10040
/-- Address of mirBaseLo. -/
abbrev R.mirBaseLo : Nat := 0x10044
/-- Address of mirBaseHi. -/
abbrev R.mirBaseHi : Nat := 0x10048
/-- Address of mirSeq. -/
abbrev R.mirSeq : Nat := 0x1004c
/-- Address of fiMsgLo. -/
abbrev R.fiMsgLo : Nat := 0x10050
/-- Address of fiMsgHi. -/
abbrev R.fiMsgHi : Nat := 0x10054
/-- Address of fiCtrl. -/
abbrev R.fiCtrl : Nat := 0x10058
/-- Address of fcLastLo. -/
abbrev R.fcLastLo : Nat := 0x10060
/-- Address of fcLastHi. -/
abbrev R.fcLastHi : Nat := 0x10064
/-- Address of kindMap0. -/
abbrev R.kindMap0 : Nat := 0x10100
/-- Address of kindMap1. -/
abbrev R.kindMap1 : Nat := 0x10104
/-- Address of kindMap2. -/
abbrev R.kindMap2 : Nat := 0x10108
/-- Address of kindMap3. -/
abbrev R.kindMap3 : Nat := 0x1010c
/-- Address of kindMap4. -/
abbrev R.kindMap4 : Nat := 0x10110
/-- Address of kindMap5. -/
abbrev R.kindMap5 : Nat := 0x10114
/-- Address of kindMap6. -/
abbrev R.kindMap6 : Nat := 0x10118
/-- Address of kindMap7. -/
abbrev R.kindMap7 : Nat := 0x1011c
/-- Address of kindMap8. -/
abbrev R.kindMap8 : Nat := 0x10120
/-- Address of kindMap9. -/
abbrev R.kindMap9 : Nat := 0x10124
/-- Address of kindMap10. -/
abbrev R.kindMap10 : Nat := 0x10128
/-- Address of kindMap11. -/
abbrev R.kindMap11 : Nat := 0x1012c
/-- Address of kindMap12. -/
abbrev R.kindMap12 : Nat := 0x10130
/-- Address of kindMap13. -/
abbrev R.kindMap13 : Nat := 0x10134
/-- Address of kindMap14. -/
abbrev R.kindMap14 : Nat := 0x10138
/-- Address of kindMap15. -/
abbrev R.kindMap15 : Nat := 0x1013c
/-- Address of flog. -/
abbrev R.flog : Nat := 0x11000
/-- Address of lnkCfg. -/
abbrev R.lnkCfg : Nat := 0x20000
/-- Address of lnkCtrl. -/
abbrev R.lnkCtrl : Nat := 0x20004
/-- Address of lnkStat. -/
abbrev R.lnkStat : Nat := 0x20008
/-- Address of lnkTxeq. -/
abbrev R.lnkTxeq : Nat := 0x2000c
/-- Address of lnkFec. -/
abbrev R.lnkFec : Nat := 0x20010
/-- Address of lnkErrcnt. -/
abbrev R.lnkErrcnt : Nat := 0x20014
/-- Address of lnkViol. -/
abbrev R.lnkViol : Nat := 0x20018
/-- Address of lnkRply. -/
abbrev R.lnkRply : Nat := 0x2001c
/-- Address of hbCfg. -/
abbrev R.hbCfg : Nat := 0x20020
/-- Address of hbStat. -/
abbrev R.hbStat : Nat := 0x20024
/-- Address of logStat. -/
abbrev R.logStat : Nat := 0x20028
/-- Address of spiStat. -/
abbrev R.spiStat : Nat := 0x20030
/-- Address of txcStat. -/
abbrev R.txcStat : Nat := 0x20040
/-- Address of llog. -/
abbrev R.llog : Nat := 0x20100
/-- Address of memCfg. -/
abbrev R.memCfg : Nat := 0x30000
/-- Address of memCtrl. -/
abbrev R.memCtrl : Nat := 0x30004
/-- Address of memStat. -/
abbrev R.memStat : Nat := 0x30008
/-- Address of memEcc. -/
abbrev R.memEcc : Nat := 0x3000c
/-- Address of memErrAddrLo. -/
abbrev R.memErrAddrLo : Nat := 0x30010
/-- Address of memErrAddrHi. -/
abbrev R.memErrAddrHi : Nat := 0x30014
/-- Address of scrubCfg. -/
abbrev R.scrubCfg : Nat := 0x30018
/-- Address of scrubStat. -/
abbrev R.scrubStat : Nat := 0x3001c
/-- Address of arbTkt0. -/
abbrev R.arbTkt0 : Nat := 0x30100
/-- Address of arbTkt1. -/
abbrev R.arbTkt1 : Nat := 0x30104
/-- Address of arbTkt2. -/
abbrev R.arbTkt2 : Nat := 0x30108
/-- Address of arbTkt3. -/
abbrev R.arbTkt3 : Nat := 0x3010c
/-- Address of arbTkt4. -/
abbrev R.arbTkt4 : Nat := 0x30110
/-- Address of arbTkt5. -/
abbrev R.arbTkt5 : Nat := 0x30114
/-- Address of arbTkt6. -/
abbrev R.arbTkt6 : Nat := 0x30118
/-- Address of arbTkt7. -/
abbrev R.arbTkt7 : Nat := 0x3011c
/-- Address of arbTkt8. -/
abbrev R.arbTkt8 : Nat := 0x30120
/-- Address of arbTkt9. -/
abbrev R.arbTkt9 : Nat := 0x30124
/-- Address of arbTkt10. -/
abbrev R.arbTkt10 : Nat := 0x30128
/-- Address of arbTkt11. -/
abbrev R.arbTkt11 : Nat := 0x3012c
/-- Address of arbStat. -/
abbrev R.arbStat : Nat := 0x30140
/-- Address of arbSeed. -/
abbrev R.arbSeed : Nat := 0x30180
/-- Address of resHcmd. -/
abbrev R.resHcmd : Nat := 0x30200
/-- Address of resHstat. -/
abbrev R.resHstat : Nat := 0x30204
/-- Address of resHheldLo. -/
abbrev R.resHheldLo : Nat := 0x30208
/-- Address of resHheldHi. -/
abbrev R.resHheldHi : Nat := 0x3020c
/-- Address of otpStat. -/
abbrev R.otpStat : Nat := 0x40000
/-- Address of otpCtrl. -/
abbrev R.otpCtrl : Nat := 0x40004
/-- Address of otpAddr. -/
abbrev R.otpAddr : Nat := 0x40008
/-- Address of otpWdata. -/
abbrev R.otpWdata : Nat := 0x4000c
/-- Address of otpWord. -/
abbrev R.otpWord : Nat := 0x41000
/-- Address of otpWord1. -/
abbrev R.otpWord1 : Nat := 0x41004
/-- Address of otpWord2. -/
abbrev R.otpWord2 : Nat := 0x41008
/-- Address of otpWord7. -/
abbrev R.otpWord7 : Nat := 0x4101c
/-- Address of otpWord8. -/
abbrev R.otpWord8 : Nat := 0x41020
/-- Address of tbCfg. -/
abbrev R.tbCfg : Nat := 0x50000
/-- Address of tbStat. -/
abbrev R.tbStat : Nat := 0x50004
/-- Address of tbDrift. -/
abbrev R.tbDrift : Nat := 0x50008
/-- Address of cmpCfg. -/
abbrev R.cmpCfg : Nat := 0x50100
/-- Address of etCfg. -/
abbrev R.etCfg : Nat := 0x51000
/-- Address of etN. -/
abbrev R.etN : Nat := 0x51004
/-- Address of etCtrl. -/
abbrev R.etCtrl : Nat := 0x51008
/-- Address of etStat. -/
abbrev R.etStat : Nat := 0x5100c
/-- Address of etRes0. -/
abbrev R.etRes0 : Nat := 0x51040
/-- Address of etRes1. -/
abbrev R.etRes1 : Nat := 0x51044
/-- Address of etRes2. -/
abbrev R.etRes2 : Nat := 0x51048
/-- Address of etRes3. -/
abbrev R.etRes3 : Nat := 0x5104c
/-- Address of etRes4. -/
abbrev R.etRes4 : Nat := 0x51050
/-- Address of etRes5. -/
abbrev R.etRes5 : Nat := 0x51054
/-- Address of etRes6. -/
abbrev R.etRes6 : Nat := 0x51058
/-- Address of etRes7. -/
abbrev R.etRes7 : Nat := 0x5105c
/-- Address of etRes8. -/
abbrev R.etRes8 : Nat := 0x51060
/-- Address of etRes9. -/
abbrev R.etRes9 : Nat := 0x51064
/-- Address of etRes10. -/
abbrev R.etRes10 : Nat := 0x51068
/-- Address of etRes11. -/
abbrev R.etRes11 : Nat := 0x5106c
/-- Address of etRes12. -/
abbrev R.etRes12 : Nat := 0x51070
/-- Address of etRes13. -/
abbrev R.etRes13 : Nat := 0x51074
/-- Address of etRes14. -/
abbrev R.etRes14 : Nat := 0x51078
/-- Address of etRes15. -/
abbrev R.etRes15 : Nat := 0x5107c
/-- Offset in the window of maCfg. -/
abbrev R.maCfg : Nat := 0x0
/-- Offset in the window of maCtrl. -/
abbrev R.maCtrl : Nat := 0x4
/-- Offset in the window of maStat. -/
abbrev R.maStat : Nat := 0x8
/-- Offset in the window of rbWin. -/
abbrev R.rbWin : Nat := 0xc
/-- Offset in the window of limLo. -/
abbrev R.limLo : Nat := 0x40
/-- Offset in the window of limHi. -/
abbrev R.limHi : Nat := 0x60
/-- Offset in the window of scan. -/
abbrev R.scan : Nat := 0x100
/-- Offset in the window of res. -/
abbrev R.res : Nat := 0x200
/-- Offset in the window of injReq. -/
abbrev R.injReq : Nat := 0x300
/-- Offset in the window of injRes. -/
abbrev R.injRes : Nat := 0x310
/-- Offset in the window of fpRes. -/
abbrev R.fpRes : Nat := 0x320
/-- Address of obsCfg. -/
abbrev R.obsCfg : Nat := 0x70000
/-- Address of obsStat. -/
abbrev R.obsStat : Nat := 0x70004
/-- Address of obsLost. -/
abbrev R.obsLost : Nat := 0x70008
/-- Address of probe. -/
abbrev R.probe : Nat := 0x70010
/-- Address of pcCtrl. -/
abbrev R.pcCtrl : Nat := 0x70100
/-- Address of cntSel. -/
abbrev R.cntSel : Nat := 0x70400
/-- Address of cnt. -/
abbrev R.cnt : Nat := 0x71000
/-- Address of snap. -/
abbrev R.snap : Nat := 0x72000
/-- Address of icCtrl. -/
abbrev R.icCtrl : Nat := 0x3000000
/-- Address of icStat. -/
abbrev R.icStat : Nat := 0x3000004
/-- Address of seqCmd. -/
abbrev R.seqCmd : Nat := 0x3001000
/-- Address of seqStat. -/
abbrev R.seqStat : Nat := 0x3001004
/-- Address of seqCfg. -/
abbrev R.seqCfg : Nat := 0x3001008
/-- Address of seqCnt. -/
abbrev R.seqCnt : Nat := 0x300100c
/-- Address of resOwn. -/
abbrev R.resOwn : Nat := 0x3002000
/-- Address of lstBase. -/
abbrev R.lstBase : Nat := 0x3003000
/-- Address of lstLen. -/
abbrev R.lstLen : Nat := 0x3003004
/-- Address of lstIdx. -/
abbrev R.lstIdx : Nat := 0x3003008
/-- Address of lstStat. -/
abbrev R.lstStat : Nat := 0x300300c
/-- Offset in the window of strCfg. -/
abbrev R.strCfg : Nat := 0x0
/-- Offset in the window of strCtrl. -/
abbrev R.strCtrl : Nat := 0x4
/-- Offset in the window of strStat. -/
abbrev R.strStat : Nat := 0x8
/-- Offset in the window of strFill. -/
abbrev R.strFill : Nat := 0xc
/-- Offset in the window of spillBaseLo. -/
abbrev R.spillBaseLo : Nat := 0x10
/-- Offset in the window of spillBaseHi. -/
abbrev R.spillBaseHi : Nat := 0x14
/-- Offset in the window of strTmo. -/
abbrev R.strTmo : Nat := 0x18
/-- Offset in the window of strDrop. -/
abbrev R.strDrop : Nat := 0x1c
/-- Offset in the window of strCdrop. -/
abbrev R.strCdrop : Nat := 0x20
/-- Offset in the window of strPktseq. -/
abbrev R.strPktseq : Nat := 0x24
/-- Offset in the window of drainMin. -/
abbrev R.drainMin : Nat := 0x28
/-- Offset in the window of chMode. -/
abbrev R.chMode : Nat := 0x0
/-- Offset in the window of chStat. -/
abbrev R.chStat : Nat := 0x4
/-- Offset in the window of chCtrl. -/
abbrev R.chCtrl : Nat := 0x8
/-- Offset in the window of chCnt. -/
abbrev R.chCnt : Nat := 0xc
/-- Offset in the window of cmpTickLo. -/
abbrev R.cmpTickLo : Nat := 0x10
/-- Offset in the window of cmpTickHi. -/
abbrev R.cmpTickHi : Nat := 0x14
/-- Offset in the window of vlimHi. -/
abbrev R.vlimHi : Nat := 0x18
/-- Offset in the window of vlimLo. -/
abbrev R.vlimLo : Nat := 0x1c
/-- Offset in the window of ilimHi. -/
abbrev R.ilimHi : Nat := 0x20
/-- Offset in the window of ilimLo. -/
abbrev R.ilimLo : Nat := 0x24
/-- Offset in the window of limRef. -/
abbrev R.limRef : Nat := 0x28
/-- Offset in the window of pulseLvl. -/
abbrev R.pulseLvl : Nat := 0x2c
/-- Offset in the window of pulseW. -/
abbrev R.pulseW : Nat := 0x30
/-- Offset in the window of pulsePer. -/
abbrev R.pulsePer : Nat := 0x34
/-- Offset in the window of pulseCnt. -/
abbrev R.pulseCnt : Nat := 0x38
/-- Offset in the window of loadG. -/
abbrev R.loadG : Nat := 0x3c
/-- Offset in the window of loadP. -/
abbrev R.loadP : Nat := 0x40
/-- Offset in the window of loadVmin. -/
abbrev R.loadVmin : Nat := 0x44
/-- Offset in the window of loopCfg. -/
abbrev R.loopCfg : Nat := 0x80
/-- Offset in the window of loopCtrl. -/
abbrev R.loopCtrl : Nat := 0x84
/-- Offset in the window of loopStat. -/
abbrev R.loopStat : Nat := 0x88
/-- Offset in the window of loopCnt. -/
abbrev R.loopCnt : Nat := 0x8c
/-- Offset in the window of loopCost. -/
abbrev R.loopCost : Nat := 0x90
/-- Offset in the window of secOvf. -/
abbrev R.secOvf : Nat := 0x94
/-- Offset in the window of sp. -/
abbrev R.sp : Nat := 0x98
/-- Offset in the window of spCfg. -/
abbrev R.spCfg : Nat := 0x9c
/-- Offset in the window of rampRate. -/
abbrev R.rampRate : Nat := 0xa0
/-- Offset in the window of spEff. -/
abbrev R.spEff : Nat := 0xa4
/-- Offset in the window of manCode. -/
abbrev R.manCode : Nat := 0xa8
/-- Offset in the window of outOfs. -/
abbrev R.outOfs : Nat := 0xac
/-- Offset in the window of dacCmd. -/
abbrev R.dacCmd : Nat := 0xb0
/-- Offset in the window of secCommit. -/
abbrev R.secCommit : Nat := 0xb4
/-- Offset in the window of stg. -/
abbrev R.stg : Nat := 0xc0
/-- Offset in the window of stg1. -/
abbrev R.stg1 : Nat := 0xc4
/-- Offset in the window of stg2. -/
abbrev R.stg2 : Nat := 0xc8
/-- Offset in the window of rcCfg. -/
abbrev R.rcCfg : Nat := 0x200
/-- Offset in the window of rcGain. -/
abbrev R.rcGain : Nat := 0x204
/-- Offset in the window of rcQf. -/
abbrev R.rcQf : Nat := 0x208
/-- Offset in the window of rcLead. -/
abbrev R.rcLead : Nat := 0x20c
/-- Offset in the window of rcCtrl. -/
abbrev R.rcCtrl : Nat := 0x210
/-- Offset in the window of rcStat. -/
abbrev R.rcStat : Nat := 0x214
/-- Offset in the window of rcBkLo. -/
abbrev R.rcBkLo : Nat := 0x218
/-- Offset in the window of rcBkHi. -/
abbrev R.rcBkHi : Nat := 0x21c
/-- Offset in the window of rcTidx. -/
abbrev R.rcTidx : Nat := 0x220
/-- Offset in the window of rcTdata. -/
abbrev R.rcTdata : Nat := 0x224
/-- Offset in the window of luffCfg. -/
abbrev R.luffCfg : Nat := 0x240
/-- Offset in the window of luffWin. -/
abbrev R.luffWin : Nat := 0x244
/-- Offset in the window of luffCross. -/
abbrev R.luffCross : Nat := 0x248
/-- Offset in the window of luffAmp. -/
abbrev R.luffAmp : Nat := 0x24c
/-- Offset in the window of luffBq0. -/
abbrev R.luffBq0 : Nat := 0x250
/-- Offset in the window of luffBq1. -/
abbrev R.luffBq1 : Nat := 0x254
/-- Offset in the window of luffBq2. -/
abbrev R.luffBq2 : Nat := 0x258
/-- Offset in the window of luffLast. -/
abbrev R.luffLast : Nat := 0x25c
/-- Offset in the window of luffCtrl. -/
abbrev R.luffCtrl : Nat := 0x260
/-- Offset in the window of luffStat. -/
abbrev R.luffStat : Nat := 0x264
/-- Offset in the window of injCfg. -/
abbrev R.injCfg : Nat := 0x280
/-- Offset in the window of injN. -/
abbrev R.injN : Nat := 0x284
/-- Offset in the window of injCtrl. -/
abbrev R.injCtrl : Nat := 0x288
/-- Offset in the window of injStat. -/
abbrev R.injStat : Nat := 0x28c
/-- Offset in the window of pairCfg. -/
abbrev R.pairCfg : Nat := 0x4000
/-- Offset in the window of pairStat. -/
abbrev R.pairStat : Nat := 0x4004
/-- Offset in the window of corrOfs. -/
abbrev R.corrOfs : Nat := 0x4010
/-- Offset in the window of corrGain. -/
abbrev R.corrGain : Nat := 0x4014
/-- Offset in the window of corrSkew. -/
abbrev R.corrSkew : Nat := 0x4018
/-- Offset in the window of apCfg. -/
abbrev R.apCfg : Nat := 0x4040
/-- Offset in the window of apLen. -/
abbrev R.apLen : Nat := 0x4044
/-- Offset in the window of apCtrl. -/
abbrev R.apCtrl : Nat := 0x4048
/-- Offset in the window of apStat. -/
abbrev R.apStat : Nat := 0x404c
/-- Offset in the window of apLast. -/
abbrev R.apLast : Nat := 0x4050
/-- Offset in the window of apLstat. -/
abbrev R.apLstat : Nat := 0x4054
/-- Offset in the window of lineCfg. -/
abbrev R.lineCfg : Nat := 0x40a0
/-- Offset in the window of lineNom. -/
abbrev R.lineNom : Nat := 0x40a4
/-- Offset in the window of linePer. -/
abbrev R.linePer : Nat := 0x40a8
/-- Offset in the window of rawCfg. -/
abbrev R.rawCfg : Nat := 0x40c0
/-- Offset in the window of rawN. -/
abbrev R.rawN : Nat := 0x40c4
/-- Offset in the window of rawCtrl. -/
abbrev R.rawCtrl : Nat := 0x40c8
/-- Offset in the window of rawStat. -/
abbrev R.rawStat : Nat := 0x40cc
/-- Offset in the window of calStat. -/
abbrev R.calStat : Nat := 0x40e0
/-- Offset in the window of calLd. -/
abbrev R.calLd : Nat := 0x40e4
/-- Offset in the window of calSrcLo. -/
abbrev R.calSrcLo : Nat := 0x40e8
/-- Offset in the window of calSrcHi. -/
abbrev R.calSrcHi : Nat := 0x40ec
/-- Offset in the window of dacCfg. -/
abbrev R.dacCfg : Nat := 0x6000
/-- Offset in the window of dacOfs. -/
abbrev R.dacOfs : Nat := 0x6004
/-- Offset in the window of dacClr. -/
abbrev R.dacClr : Nat := 0x6008
/-- Offset in the window of dacCode. -/
abbrev R.dacCode : Nat := 0x600c
/-- Offset in the window of dacStat. -/
abbrev R.dacStat : Nat := 0x6010
/-- Offset in the window of dacRb. -/
abbrev R.dacRb : Nat := 0x6014
/-- Offset in the window of rngSel. -/
abbrev R.rngSel : Nat := 0x8000
/-- Offset in the window of rngStat. -/
abbrev R.rngStat : Nat := 0x8004
/-- Offset in the window of arCfg. -/
abbrev R.arCfg : Nat := 0x8008
/-- Offset in the window of arThr. -/
abbrev R.arThr : Nat := 0x800c
/-- Offset in the window of arMask. -/
abbrev R.arMask : Nat := 0x8010
/-- Offset in the window of tackCfg. -/
abbrev R.tackCfg : Nat := 0x8014
/-- Offset in the window of rcbLast. -/
abbrev R.rcbLast : Nat := 0x8018
/-- Offset in the window of desc. -/
abbrev R.desc : Nat := 0x8100
/-- Offset in the window of desc1. -/
abbrev R.desc1 : Nat := 0x8104
/-- Offset in the window of desc2. -/
abbrev R.desc2 : Nat := 0x8108
/-- Offset in the window of desc3. -/
abbrev R.desc3 : Nat := 0x810c
/-- Offset in the window of genCfg. -/
abbrev R.genCfg : Nat := 0xa000
/-- Offset in the window of genCtrl. -/
abbrev R.genCtrl : Nat := 0xa004
/-- Offset in the window of genStat. -/
abbrev R.genStat : Nat := 0xa008
/-- Offset in the window of genSeg. -/
abbrev R.genSeg : Nat := 0xa00c
/-- Offset in the window of genPos. -/
abbrev R.genPos : Nat := 0xa010
/-- Offset in the window of genGap. -/
abbrev R.genGap : Nat := 0xa014
/-- Offset in the window of genCnt. -/
abbrev R.genCnt : Nat := 0xa018
/-- Offset in the window of ddsCfg. -/
abbrev R.ddsCfg : Nat := 0xa040
/-- Offset in the window of ddsFtwLo. -/
abbrev R.ddsFtwLo : Nat := 0xa044
/-- Offset in the window of ddsFtwHi. -/
abbrev R.ddsFtwHi : Nat := 0xa048
/-- Offset in the window of ddsPhase0. -/
abbrev R.ddsPhase0 : Nat := 0xa04c
/-- Offset in the window of ddsAmp. -/
abbrev R.ddsAmp : Nat := 0xa050
/-- Offset in the window of ddsOfs. -/
abbrev R.ddsOfs : Nat := 0xa054
/-- Offset in the window of ddsCtrl. -/
abbrev R.ddsCtrl : Nat := 0xa058
/-- Offset in the window of ddsStat. -/
abbrev R.ddsStat : Nat := 0xa05c
/-- Offset in the window of ddsTab. -/
abbrev R.ddsTab : Nat := 0xb000
/-- Offset in the window of gd. -/
abbrev R.gd : Nat := 0xc000
/-- Offset in the window of gd1. -/
abbrev R.gd1 : Nat := 0xc004
/-- Offset in the window of gd2. -/
abbrev R.gd2 : Nat := 0xc008
/-- Offset in the window of gd3. -/
abbrev R.gd3 : Nat := 0xc00c
/-- Offset in the window of cxState. -/
abbrev R.cxState : Nat := 0x0
/-- Offset in the window of cxPc. -/
abbrev R.cxPc : Nat := 0x4
/-- Offset in the window of cxBaseLo. -/
abbrev R.cxBaseLo : Nat := 0x8
/-- Offset in the window of cxBaseHi. -/
abbrev R.cxBaseHi : Nat := 0xc
/-- Offset in the window of cxPin. -/
abbrev R.cxPin : Nat := 0x10
/-- Offset in the window of cxFlags. -/
abbrev R.cxFlags : Nat := 0x14
/-- Offset in the window of cxExcPc. -/
abbrev R.cxExcPc : Nat := 0x18
/-- Offset in the window of cxExcTick. -/
abbrev R.cxExcTick : Nat := 0x1c
/-- Offset in the window of cxG0. -/
abbrev R.cxG0 : Nat := 0x20
/-- Offset in the window of cxG. -/
abbrev R.cxG : Nat := 0x24
/-- Offset in the window of cxLc. -/
abbrev R.cxLc : Nat := 0x60
/-- Offset in the window of cxStk. -/
abbrev R.cxStk : Nat := 0x70
/-- Offset in the window of cxDepth. -/
abbrev R.cxDepth : Nat := 0x90
/-- Offset in the window of cxHeldLo. -/
abbrev R.cxHeldLo : Nat := 0x94
/-- Offset in the window of cxHeldHi. -/
abbrev R.cxHeldHi : Nat := 0x98

/-- Registers of the DEVICE block (17 R439). -/
def deviceRows : List RegRow :=
  [ ⟨0x0, 0x4, 1, 0, 0, 0⟩
  , ⟨0x4, 0x4, 1, 0, 0, 0⟩
  , ⟨0x8, 0x4, 1, 0, 0, 0⟩
  , ⟨0xc, 0x4, 1, 0, 0, 0⟩
  , ⟨0x10, 0x4, 1, 0, 0, 0⟩
  , ⟨0x14, 0x4, 1, 0, 0, 0⟩
  , ⟨0x18, 0x4, 1, 0, 0xffffffff, 0⟩
  , ⟨0x20, 0x4, 1, 0, 0, 0⟩
  , ⟨0x24, 0x4, 1, 0, 0, 0⟩
  , ⟨0x28, 0x4, 1, 0, 0xffffffff, 0⟩
  , ⟨0x2c, 0x4, 1, 0, 0xffffffff, 0⟩
  , ⟨0x30, 0x4, 1, 0, 0x3ff, 0⟩
  , ⟨0x34, 0x4, 1, 0, 0, 0x1e⟩
  , ⟨0x40, 0x4, 8, 0, 0xff03ff, 0⟩
  , ⟨0x60, 0x4, 1, 0, 0, 0xff⟩
  , ⟨0x64, 0x4, 1, 0, 0, 0⟩
  , ⟨0x68, 0x4, 1, 0, 0, 0⟩
  , ⟨0x6c, 0x4, 1, 0, 0, 0⟩
  , ⟨0x70, 0x4, 1, 0, 0, 1⟩
  , ⟨0x80, 0x4, 1, 0, 0, 0⟩
  , ⟨0x84, 0x4, 1, 1, 0, 3⟩
  , ⟨0x88, 0x4, 1, 0, 0, 0⟩
  , ⟨0x8c, 0x4, 1, 0, 0, 0⟩
  , ⟨0x100, 0x4, 64, 0, 0x3f, 0⟩ ]

/-- Registers of the FAULT block (13 R375, R376), part 1. -/
def faultRows0 : List RegRow :=
  [ ⟨0x0, 0x4, 1, 0, 0, 0xff⟩
  , ⟨0x4, 0x4, 1, 0, 0, 0⟩
  , ⟨0x8, 0x4, 1, 0x4e20, 0xffffff, 0⟩
  , ⟨0xc, 0x4, 1, 4, 0, 1⟩
  , ⟨0x10, 0x4, 1, 1, 0x1f, 0⟩
  , ⟨0x14, 0x4, 1, 3, 0x1f, 0⟩
  , ⟨0x18, 0x4, 1, 0xb, 0x1f, 0⟩
  , ⟨0x1c, 0x4, 1, 0x13, 0x1f, 0⟩
  , ⟨0x20, 0x4, 1, 0, 0, 0xffffffff⟩
  , ⟨0x24, 0x4, 1, 0, 0, 0⟩
  , ⟨0x28, 0x4, 1, 0, 0, 0⟩
  , ⟨0x30, 0x4, 1, 0, 0, 0⟩
  , ⟨0x34, 0x4, 1, 0, 0xffffffff, 0⟩
  , ⟨0x40, 0x4, 1, 0x18, 0x3f, 0⟩
  , ⟨0x44, 0x4, 1, 0, 0xfffff000, 0⟩
  , ⟨0x48, 0x4, 1, 0, 0xf, 0⟩
  , ⟨0x4c, 0x4, 1, 0, 0, 0⟩
  , ⟨0x50, 0x4, 1, 0, 0xffffffff, 0⟩
  , ⟨0x54, 0x4, 1, 0, 0xffffffff, 0⟩
  , ⟨0x58, 0x4, 1, 2, 0xfe, 0⟩
  , ⟨0x60, 0x4, 1, 0, 0, 0⟩
  , ⟨0x64, 0x4, 1, 0, 0, 0⟩
  , ⟨0x100, 0x4, 1, 0x12901f4, 0xffffffff, 0⟩
  , ⟨0x104, 0x4, 1, 0x101a5, 0xffffffff, 0⟩ ]

/-- Registers of the FAULT block (13 R375, R376), part 2. -/
def faultRows1 : List RegRow :=
  [ ⟨0x108, 0x4, 1, 0x155, 0xffffffff, 0⟩
  , ⟨0x10c, 0x4, 1, 0x7d0011, 0xffffffff, 0⟩
  , ⟨0x110, 0x4, 1, 0, 0xffffffff, 0⟩
  , ⟨0x114, 0x4, 1, 0, 0xffffffff, 0⟩
  , ⟨0x118, 0x4, 1, 0, 0xffffffff, 0⟩
  , ⟨0x11c, 0x4, 1, 0, 0xffffffff, 0⟩
  , ⟨0x120, 0x4, 1, 0x1555554, 0xffffffff, 0⟩
  , ⟨0x124, 0x4, 1, 0, 0xffffffff, 0⟩
  , ⟨0x128, 0x4, 1, 0, 0xffffffff, 0⟩
  , ⟨0x12c, 0x4, 1, 0, 0xffffffff, 0⟩
  , ⟨0x130, 0x4, 1, 0, 0xffffffff, 0⟩
  , ⟨0x134, 0x4, 1, 0, 0xffffffff, 0⟩
  , ⟨0x138, 0x4, 1, 0, 0xffffffff, 0⟩
  , ⟨0x13c, 0x4, 1, 0, 0xffffffff, 0⟩
  , ⟨0x1000, 0x4, 1024, 0, 0, 0⟩ ]

/-- Registers of the FAULT block (13 R375, R376). -/
def faultRows : List RegRow := faultRows0 ++ faultRows1

/-- Registers of the LINK block (12 R348, R349). -/
def linkRows : List RegRow :=
  [ ⟨0x0, 0x4, 1, 0xf, 0x1f, 0⟩
  , ⟨0x4, 0x4, 1, 0, 0, 0⟩
  , ⟨0x8, 0x4, 1, 0, 0, 0x700⟩
  , ⟨0xc, 0x4, 1, 0x3333, 0xffff, 0⟩
  , ⟨0x10, 0x4, 1, 0, 0, 0⟩
  , ⟨0x14, 0x4, 1, 0, 0, 0⟩
  , ⟨0x18, 0x4, 1, 0x4e2010, 0xffffffff, 0⟩
  , ⟨0x1c, 0x4, 1, 0x40050, 0xfffff, 0⟩
  , ⟨0x20, 0x4, 1, 0x4e2003, 0xffffff07, 0⟩
  , ⟨0x24, 0x4, 1, 0, 0, 2⟩
  , ⟨0x28, 0x4, 1, 0, 0, 0⟩
  , ⟨0x30, 0x4, 1, 0, 0, 3⟩
  , ⟨0x40, 0x4, 4, 0, 0, 0⟩
  , ⟨0x100, 0x4, 256, 0, 0, 0⟩ ]

/-- Registers of the MEM and ARB block (11 R311, R312), part 1. -/
def memRows0 : List RegRow :=
  [ ⟨0x0, 0x4, 1, 0x16, 0x1ff, 0⟩
  , ⟨0x4, 0x4, 1, 0, 0, 0⟩
  , ⟨0x8, 0x4, 1, 0, 0, 0x3e⟩
  , ⟨0xc, 0x4, 1, 0, 0, 0⟩
  , ⟨0x10, 0x4, 1, 0, 0, 0⟩
  , ⟨0x14, 0x4, 1, 0, 0, 0⟩
  , ⟨0x18, 0x4, 1, 0x180001, 0xffff0001, 0⟩
  , ⟨0x1c, 0x4, 1, 0, 0, 0⟩
  , ⟨0x100, 0x4, 1, 0x720, 0x7ff, 0⟩
  , ⟨0x104, 0x4, 1, 0x720, 0x7ff, 0⟩
  , ⟨0x108, 0x4, 1, 0x720, 0x7ff, 0⟩
  , ⟨0x10c, 0x4, 1, 0x720, 0x7ff, 0⟩
  , ⟨0x110, 0x4, 1, 0x730, 0x7ff, 0⟩
  , ⟨0x114, 0x4, 1, 0x310, 0x7ff, 0⟩
  , ⟨0x118, 0x4, 1, 0x320, 0x7ff, 0⟩
  , ⟨0x11c, 0x4, 1, 0x710, 0x7ff, 0⟩
  , ⟨0x120, 0x4, 1, 0x708, 0x7ff, 0⟩
  , ⟨0x124, 0x4, 1, 0x704, 0x7ff, 0⟩
  , ⟨0x128, 0x4, 1, 0x310, 0x7ff, 0⟩
  , ⟨0x12c, 0x4, 1, 1, 0x7ff, 0⟩
  , ⟨0x140, 0x4, 12, 0, 0, 0⟩
  , ⟨0x180, 0x4, 1, 1, 0xffffffff, 0⟩
  , ⟨0x200, 0x4, 1, 0, 0, 0⟩
  , ⟨0x204, 0x4, 1, 0, 0, 0x300⟩ ]

/-- Registers of the MEM and ARB block (11 R311, R312), part 2. -/
def memRows1 : List RegRow :=
  [ ⟨0x208, 0x4, 1, 0, 0, 0⟩
  , ⟨0x20c, 0x4, 1, 0, 0, 0⟩ ]

/-- Registers of the MEM and ARB block (11 R311, R312). -/
def memRows : List RegRow := memRows0 ++ memRows1

/-- Registers of the OTP block (14 R396); OTP_WORD0-7 as a vendor header of a VS3240 (log entry 3). -/
def otpRows : List RegRow :=
  [ ⟨0x0, 0x4, 1, 0, 0, 0xc000⟩
  , ⟨0x4, 0x4, 1, 0, 0, 0⟩
  , ⟨0x8, 0x4, 1, 0, 0xff, 0⟩
  , ⟨0xc, 0x4, 1, 0, 0xffffffff, 0⟩
  , ⟨0x1000, 0x4, 1, 0x10a5e, 0, 0⟩
  , ⟨0x1004, 0x4, 1, 2, 0, 0⟩
  , ⟨0x1008, 0x4, 5, 0, 0, 0⟩
  , ⟨0x101c, 0x4, 1, 0x8000ddd6, 0, 0⟩
  , ⟨0x1020, 0x4, 248, 0, 0, 0⟩ ]

/-- Registers of the EDGE block (10 R283, R284). -/
def edgeRows : List RegRow :=
  [ ⟨0x0, 0x4, 1, 0x9896800, 0xfffffff, 0⟩
  , ⟨0x4, 0x4, 1, 2, 0, 0x1c⟩
  , ⟨0x8, 0x4, 1, 0, 0, 0⟩
  , ⟨0x100, 0x4, 8, 0, 0x1ffff, 0⟩
  , ⟨0x1000, 0x100, 8, 0x100, 0xff7f, 0⟩
  , ⟨0x1004, 0x100, 8, 1, 0x1ffffff, 0⟩
  , ⟨0x1008, 0x100, 8, 0, 0, 0⟩
  , ⟨0x100c, 0x100, 8, 0, 0, 0x38⟩
  , ⟨0x1040, 0x100, 8, 0, 0, 0⟩
  , ⟨0x1044, 0x100, 8, 0, 0, 0⟩
  , ⟨0x1048, 0x100, 8, 0, 0, 0⟩
  , ⟨0x104c, 0x100, 8, 0, 0, 0⟩
  , ⟨0x1050, 0x100, 8, 0, 0, 0⟩
  , ⟨0x1054, 0x100, 8, 0, 0, 0⟩
  , ⟨0x1058, 0x100, 8, 0, 0, 0⟩
  , ⟨0x105c, 0x100, 8, 0, 0, 0⟩
  , ⟨0x1060, 0x100, 8, 0, 0, 0⟩
  , ⟨0x1064, 0x100, 8, 0, 0, 0⟩
  , ⟨0x1068, 0x100, 8, 0, 0, 0⟩
  , ⟨0x106c, 0x100, 8, 0, 0, 0⟩
  , ⟨0x1070, 0x100, 8, 0, 0, 0⟩
  , ⟨0x1074, 0x100, 8, 0, 0, 0⟩
  , ⟨0x1078, 0x100, 8, 0, 0, 0⟩
  , ⟨0x107c, 0x100, 8, 0, 0, 0⟩ ]

/-- Registers of the one MON unit window (06 R198). -/
def monRows : List RegRow :=
  [ ⟨0x0, 0x4, 1, 0x4000, 0xff7f, 0⟩
  , ⟨0x4, 0x4, 1, 0, 0, 0⟩
  , ⟨0x8, 0x4, 1, 0, 0, 0x7e⟩
  , ⟨0xc, 0x4, 1, 0x400, 0xffff, 0⟩
  , ⟨0x40, 0x4, 8, 0x800000, 0xffffff, 0⟩
  , ⟨0x60, 0x4, 8, 0x7fffff, 0xffffff, 0⟩
  , ⟨0x100, 0x4, 32, 0, 0x77f, 0⟩
  , ⟨0x200, 0x4, 32, 0, 0, 0⟩
  , ⟨0x300, 0x4, 4, 0, 0, 0⟩
  , ⟨0x310, 0x4, 4, 0x1000000, 0, 0⟩
  , ⟨0x320, 0x4, 1, 0x1000000, 0, 0⟩ ]

/-- Registers of the OBS block (15 R407). -/
def obsRows : List RegRow :=
  [ ⟨0x0, 0x4, 1, 0x7d00000, 0xffff0001, 0⟩
  , ⟨0x4, 0x4, 1, 0, 0, 0xf⟩
  , ⟨0x8, 0x4, 1, 0, 0, 0⟩
  , ⟨0x10, 0x4, 4, 8, 0x3fff, 0⟩
  , ⟨0x100, 0x4, 1, 1, 1, 0⟩
  , ⟨0x400, 0x4, 256, 0, 0x3fff, 0⟩
  , ⟨0x1000, 0x4, 512, 0, 0, 0⟩
  , ⟨0x2000, 0x4, 512, 0, 0, 0⟩ ]

/-- Registers of the program cache control (08 R246, 09 R266). -/
def seqbRows : List RegRow :=
  [ ⟨0x0, 0x4, 1, 0, 0, 0⟩
  , ⟨0x4, 0x4, 1, 0, 0, 0x1000⟩
  , ⟨0x1000, 0x20, 32, 0, 0, 0⟩
  , ⟨0x1004, 0x20, 32, 0, 0, 0x1f00000⟩
  , ⟨0x1008, 0x20, 32, 1, 3, 0⟩
  , ⟨0x100c, 0x20, 32, 0, 0, 0⟩
  , ⟨0x2000, 0x4, 36, 0, 0, 0⟩
  , ⟨0x3000, 0x10, 32, 0, 0, 0⟩
  , ⟨0x3004, 0x10, 32, 0, 0, 0⟩
  , ⟨0x3008, 0x10, 32, 0, 0, 0⟩
  , ⟨0x300c, 0x10, 32, 0x100, 0, 0x600⟩ ]

/-- Registers of the one stream window (11 R313). -/
def streamRows : List RegRow :=
  [ ⟨0x0, 0x4, 1, 0xa4, 0xff, 0⟩
  , ⟨0x4, 0x4, 1, 0, 0, 0⟩
  , ⟨0x8, 0x4, 1, 1, 0, 0x78⟩
  , ⟨0xc, 0x4, 1, 0, 0, 0⟩
  , ⟨0x10, 0x4, 1, 0, 0xfff00000, 0⟩
  , ⟨0x14, 0x4, 1, 0, 0xf, 0⟩
  , ⟨0x18, 0x4, 1, 0x7d0, 0xffffffff, 0⟩
  , ⟨0x1c, 0x4, 1, 0, 0, 0⟩
  , ⟨0x20, 0x4, 1, 0, 0, 0⟩
  , ⟨0x24, 0x4, 1, 0, 0, 0⟩
  , ⟨0x28, 0x4, 1, 0, 0xffffff, 0⟩ ]

/-- Registers of the one channel window (17 R443), part 1. -/
def chanRows0 : List RegRow :=
  [ ⟨0x0, 0x4, 1, 0, 0xf, 0⟩
  , ⟨0x4, 0x4, 1, 0, 0, 0x1f0c0⟩
  , ⟨0x8, 0x4, 1, 0, 0, 0⟩
  , ⟨0xc, 0x4, 1, 0, 0, 0⟩
  , ⟨0x10, 0x4, 1, 0, 0, 0⟩
  , ⟨0x14, 0x4, 1, 0, 0, 0⟩
  , ⟨0x18, 0x4, 1, 0xccccccd, 0xffffffff, 0⟩
  , ⟨0x1c, 0x4, 1, 0xf3333333, 0xffffffff, 0⟩
  , ⟨0x20, 0x4, 1, 0xccccccd, 0xffffffff, 0⟩
  , ⟨0x24, 0x4, 1, 0xf3333333, 0xffffffff, 0⟩
  , ⟨0x28, 0x4, 1, 0, 0x77, 0⟩
  , ⟨0x2c, 0x4, 1, 0, 0xffffffff, 0⟩
  , ⟨0x30, 0x4, 1, 0x14, 0xffffff, 0⟩
  , ⟨0x34, 0x4, 1, 0, 0xffffffff, 0⟩
  , ⟨0x38, 0x4, 1, 1, 0xffffff, 0⟩
  , ⟨0x3c, 0x4, 1, 0, 0xffffffff, 0⟩
  , ⟨0x40, 0x4, 1, 0, 0xffffffff, 0⟩
  , ⟨0x44, 0x4, 1, 0x147ae14, 0xffffffff, 0⟩
  , ⟨0x80, 0x4, 1, 0x12, 0x777, 0⟩
  , ⟨0x84, 0x4, 1, 0, 1, 0⟩
  , ⟨0x88, 0x4, 1, 1, 0, 0x1f2⟩
  , ⟨0x8c, 0x4, 1, 0, 0, 0⟩
  , ⟨0x90, 0x4, 1, 0, 0, 0⟩
  , ⟨0x94, 0x4, 1, 0, 0, 0xff⟩ ]

/-- Registers of the one channel window (17 R443), part 2. -/
def chanRows1 : List RegRow :=
  [ ⟨0x98, 0x4, 1, 0, 0xffffffff, 0⟩
  , ⟨0x9c, 0x4, 1, 0, 3, 0⟩
  , ⟨0xa0, 0x4, 1, 0, 0x7fffffff, 0⟩
  , ⟨0xa4, 0x4, 1, 0, 0, 0⟩
  , ⟨0xa8, 0x4, 1, 0, 0xfffff, 0⟩
  , ⟨0xac, 0x4, 1, 0, 0xffffffff, 0⟩
  , ⟨0xb0, 0x4, 1, 0, 0, 0⟩
  , ⟨0xb4, 0x4, 1, 0, 0, 0⟩
  , ⟨0xc0, 0x10, 8, 0, 0xffffffff, 0⟩
  , ⟨0xc4, 0x10, 8, 0, 0xffffffff, 0⟩
  , ⟨0xc8, 0x10, 8, 0, 0x3ffff, 0⟩
  , ⟨0x200, 0x4, 1, 0x100, 0xf3fff, 0⟩
  , ⟨0x204, 0x4, 1, 0, 0xffff, 0⟩
  , ⟨0x208, 0x4, 1, 0x7fff, 0xffffffff, 0⟩
  , ⟨0x20c, 0x4, 1, 0, 0x1fff, 0⟩
  , ⟨0x210, 0x4, 1, 0, 0xff, 0⟩
  , ⟨0x214, 0x4, 1, 0, 0, 0x6e000⟩
  , ⟨0x218, 0x4, 1, 0, 0xffffffc0, 0⟩
  , ⟨0x21c, 0x4, 1, 0, 0xf, 0⟩
  , ⟨0x220, 0x4, 1, 0, 0x1fff, 0⟩
  , ⟨0x224, 0x4, 1, 0, 0xffffffff, 0⟩
  , ⟨0x240, 0x4, 1, 0x34, 0xf7, 0⟩
  , ⟨0x244, 0x4, 1, 0xc8, 0xffff, 0⟩
  , ⟨0x248, 0x4, 1, 0xffff0004, 0xffffffff, 0⟩ ]

/-- Registers of the one channel window (17 R443), part 3. -/
def chanRows2 : List RegRow :=
  [ ⟨0x24c, 0x4, 1, 0x800800, 0xffffffff, 0⟩
  , ⟨0x250, 0x4, 1, 0, 0xffffffff, 0⟩
  , ⟨0x254, 0x4, 1, 0, 0xffffffff, 0⟩
  , ⟨0x258, 0x4, 1, 0, 0x3ffff, 0⟩
  , ⟨0x25c, 0x4, 1, 0, 0, 0⟩
  , ⟨0x260, 0x4, 1, 0, 0, 0⟩
  , ⟨0x264, 0x4, 1, 0, 0, 9⟩
  , ⟨0x280, 0x4, 1, 0x1000002, 0xffffff37, 0⟩
  , ⟨0x284, 0x4, 1, 0x4000, 0xffffffff, 0⟩
  , ⟨0x288, 0x4, 1, 0, 0, 0⟩
  , ⟨0x28c, 0x4, 1, 0, 0, 6⟩
  , ⟨0x4000, 0x4, 1, 0, 0x3f, 0⟩
  , ⟨0x4004, 0x4, 1, 0, 0, 0x70⟩
  , ⟨0x4010, 0x10, 2, 0, 0x3fffffff, 0⟩
  , ⟨0x4014, 0x10, 2, 0x40000000, 0xffffffff, 0⟩
  , ⟨0x4018, 0x10, 2, 0, 0x1ff, 0⟩
  , ⟨0x4040, 0x20, 2, 0, 0x7ff, 0⟩
  , ⟨0x4044, 0x20, 2, 1, 0xffffffff, 0⟩
  , ⟨0x4048, 0x20, 2, 0, 0, 0⟩
  , ⟨0x404c, 0x20, 2, 0, 0, 0xc⟩
  , ⟨0x4050, 0x20, 2, 0, 0, 0⟩
  , ⟨0x4054, 0x20, 2, 0, 0, 0⟩
  , ⟨0x40a0, 0x4, 1, 0x7a12020, 0xffffff3f, 0⟩
  , ⟨0x40a4, 0x4, 1, 0x61a80, 0xffffffff, 0⟩ ]

/-- Registers of the one channel window (17 R443), part 4. -/
def chanRows3 : List RegRow :=
  [ ⟨0x40a8, 0x4, 1, 0, 0, 0⟩
  , ⟨0x40c0, 0x4, 1, 0, 0x1f, 0⟩
  , ⟨0x40c4, 0x4, 1, 0x3e8, 0xffffffff, 0⟩
  , ⟨0x40c8, 0x4, 1, 0, 0, 0⟩
  , ⟨0x40cc, 0x4, 1, 0, 0, 6⟩
  , ⟨0x40e0, 0x4, 1, 0, 0, 0x1b⟩
  , ⟨0x40e4, 0x4, 1, 0, 0x1f, 0⟩
  , ⟨0x40e8, 0x4, 1, 0, 0xfffff000, 0⟩
  , ⟨0x40ec, 0x4, 1, 0, 0xf, 0⟩
  , ⟨0x6000, 0x4, 1, 0, 7, 0⟩
  , ⟨0x6004, 0x4, 1, 0, 0xffff, 0⟩
  , ⟨0x6008, 0x4, 1, 0x100000, 0x1fffff, 0⟩
  , ⟨0x600c, 0x4, 1, 0, 0, 0⟩
  , ⟨0x6010, 0x4, 1, 0, 0, 7⟩
  , ⟨0x6014, 0x4, 1, 0, 0, 0⟩
  , ⟨0x8000, 0x4, 1, 0, 0x77, 0⟩
  , ⟨0x8004, 0x4, 1, 0, 0, 0⟩
  , ⟨0x8008, 0x4, 1, 0xc80402, 0xffffff03, 0⟩
  , ⟨0x800c, 0x4, 1, 0x3842904, 0xffffffff, 0⟩
  , ⟨0x8010, 0x4, 1, 0xffff, 0xffff, 0⟩
  , ⟨0x8014, 0x4, 1, 0x10, 0x3f, 0⟩
  , ⟨0x8018, 0x4, 1, 0, 0, 0⟩
  , ⟨0x8100, 0x10, 16, 0x3f800000, 0xffffffff, 0⟩
  , ⟨0x8104, 0x10, 16, 0, 0xffffffff, 0⟩ ]

/-- Registers of the one channel window (17 R443), part 5. -/
def chanRows4 : List RegRow :=
  [ ⟨0x8108, 0x10, 16, 0, 0xffffff, 0⟩
  , ⟨0x810c, 0x10, 16, 8, 0x1fff, 0⟩
  , ⟨0xa000, 0x4, 1, 0, 0x1ef, 0⟩
  , ⟨0xa004, 0x4, 1, 0, 0, 0⟩
  , ⟨0xa008, 0x4, 1, 0, 0, 0x7f80⟩
  , ⟨0xa00c, 0x4, 1, 0, 0, 0⟩
  , ⟨0xa010, 0x4, 1, 0, 0, 0⟩
  , ⟨0xa014, 0x4, 1, 0, 0, 0⟩
  , ⟨0xa018, 0x4, 1, 0, 0, 0⟩
  , ⟨0xa040, 0x4, 1, 0, 3, 0⟩
  , ⟨0xa044, 0x4, 1, 0, 0xffffffff, 0⟩
  , ⟨0xa048, 0x4, 1, 0, 0xffff, 0⟩
  , ⟨0xa04c, 0x4, 1, 0, 0xffffffff, 0⟩
  , ⟨0xa050, 0x4, 1, 0, 0xffff, 0⟩
  , ⟨0xa054, 0x4, 1, 0, 0xffffffff, 0⟩
  , ⟨0xa058, 0x4, 1, 0, 0, 0⟩
  , ⟨0xa05c, 0x4, 1, 0, 0, 6⟩
  , ⟨0xb000, 0x4, 1024, 0, 0xffffffff, 0⟩
  , ⟨0xc000, 0x10, 1024, 0, 0xffffffc0, 0⟩
  , ⟨0xc004, 0x10, 1024, 0, 0xf, 0⟩
  , ⟨0xc008, 0x10, 1024, 0, 0x1ffffff, 0⟩
  , ⟨0xc00c, 0x10, 1024, 0, 0xb3ffffff, 0⟩ ]

/-- Registers of the one channel window (17 R443). -/
def chanRows : List RegRow := chanRows0 ++ chanRows1 ++ chanRows2 ++ chanRows3 ++ chanRows4

/-- Registers of the one context image (08 R223). -/
def ctxRows : List RegRow :=
  [ ⟨0x0, 0x4, 1, 0, 8, 0⟩
  , ⟨0x4, 0x4, 1, 0, 0xfffff, 0⟩
  , ⟨0x8, 0x4, 1, 0, 0xfffff000, 0⟩
  , ⟨0xc, 0x4, 1, 0, 0xf, 0⟩
  , ⟨0x10, 0x4, 1, 0, 0xfff, 0⟩
  , ⟨0x14, 0x4, 1, 0, 0x17, 0⟩
  , ⟨0x18, 0x4, 1, 0, 0, 0⟩
  , ⟨0x1c, 0x4, 1, 0, 0, 0⟩
  , ⟨0x20, 0x4, 1, 0, 0, 0⟩
  , ⟨0x24, 0x4, 15, 0, 0xffffffff, 0⟩
  , ⟨0x60, 0x4, 4, 0, 0xffffff, 0⟩
  , ⟨0x70, 0x4, 8, 0, 0xfffff, 0⟩
  , ⟨0x90, 0x4, 1, 0, 0xf, 0⟩
  , ⟨0x94, 0x4, 1, 0, 0, 0⟩
  , ⟨0x98, 0x4, 1, 0, 0, 0⟩ ]

/-- The registers of a coefficient bank or the reef set at an offset within it (03 R112, 04 R138). -/
def bankRow (reef : Bool) (o : Nat) : Option RegRow :=
  if o = 0 then some ⟨o, 4, 1, 0, if reef then 0x10F else 0xF, 0⟩
  else if o = 4 then some ⟨o, 4, 1, 0, 0xFFFFFFFF, 0⟩
  else if o < 0x20 ∨ 0x120 ≤ o then none
  else if o % 0x20 = 0 ∨ o % 0x20 = 4 then some ⟨o, 4, 1, 0, 0xFFFFFFFF, 0⟩
  else if o % 0x20 = 8 then some ⟨o, 4, 1, 0, 0x13FFFF, 0⟩
  else if o % 0x20 = 0xC then some ⟨o, 4, 1, 0x40000000, 0xFFFFFFFF, 0⟩
  else if o % 0x20 = 0x10 then some ⟨o, 4, 1, 0xC0000000, 0xFFFFFFFF, 0⟩
  else none

/-- The two words of a calibration entry (05 R154). -/
def calRow (o : Nat) : RegRow := if o % 8 = 0 then ⟨o, 8, 1, 0, 0xFFFFFFFF, 0⟩ else ⟨o, 8, 1, 0, 0xFFFF, 0⟩

/-- The row of a table that holds the register at an offset. -/
def findRow (rows : List RegRow) (o : Nat) : Option RegRow :=
  rows.find? (fun r => r.base ≤ o && (o - r.base) % r.stride == 0 && (o - r.base) / r.stride < r.count)

/-- The block of a device address and the offset within it (17 R431). -/
def blockOf (a : Nat) : Block × Nat :=
  if a < 0x80000 then
    (match a / 0x10000 with
      | 0 => .device | 1 => .fault | 2 => .link | 3 => .mem | 4 => .otp | 5 => .edge | 6 => .mon | _ => .obs,
     a % 0x10000)
  else if 0x100000 ≤ a ∧ a < 0x300000 then (.chan ((a - 0x100000) / 0x10000), a % 0x10000)
  else if 0x400000 ≤ a ∧ a < 0x640000 then (.stream ((a - 0x400000) / 0x10000), a % 0x10000)
  else if 0x1000000 ≤ a ∧ a < 0x1100000 then (.ctx ((a - 0x1000000) / 0x100), a % 0x100)
  else if 0x2000000 ≤ a ∧ a < 0x2400000 then (.cal, a - 0x2000000)
  else if 0x3000000 ≤ a ∧ a < 0x3010000 then (.seqb, a - 0x3000000)
  else if 0x1000000000 ≤ a ∧ a < 0x2000000000 then (.ddr, a - 0x1000000000)
  else (.none, a)

/-- The register at a device address, if there is one. -/
def rowAt (a : Nat) : Option RegRow :=
  match blockOf a with
  | (.device, o) => findRow deviceRows o
  | (.fault, o) => findRow faultRows o
  | (.link, o) => findRow linkRows o
  | (.mem, o) => findRow memRows o
  | (.otp, o) => findRow otpRows o
  | (.edge, o) => findRow edgeRows o
  | (.mon, o) => if o < 0x4000 then findRow monRows (o % 0x1000) else none
  | (.obs, o) => findRow obsRows o
  | (.chan _, o) => if 0x1000 ≤ o ∧ o < 0x3200 then bankRow (decide (0x3000 ≤ o)) ((o - 0x1000) % 0x200) else findRow chanRows o
  | (.stream _, o) => findRow streamRows o
  | (.ctx _, o) => findRow ctxRows o
  | (.cal, o) => if o % 4 = 0 then some (calRow o) else none
  | (.seqb, o) => findRow seqbRows o
  | (.ddr, _) => none
  | (.none, _) => none

/-- The reset value of the register word at a device address; 0 where no register lies (17 R433). -/
def resetWord (a : Nat) : Word :=
  match rowAt a with
  | some r => r.reset
  | none => 0

end Sys2Proof.Machine
end

