-- ==== Sys2Proof/Machine/Ops.lean ====
section
/-! DEFINITION. The named operations every meaning is built from: finite maps, registers and their fields, presence of
units, time, event lines, lanyard messages, counted events, and the frames `live`, `clocked` and their memory forms that
say what no command may touch. -/

namespace Sys2Proof.Machine

/-! ### Finite maps -/

/-- The value at a key; the default where the map lists none. -/
def Map.get {α : Type} (d : α) : Map α → Nat → α
  | [], _ => d
  | (j, v) :: t, k => if j = k then v else Map.get d t k

/-- The map without a key. -/
def Map.del {α : Type} (k : Nat) : Map α → Map α
  | [] => []
  | (j, v) :: t => if j = k then Map.del k t else (j, v) :: Map.del k t

/-- Insert a key that the map does not list, keeping keys rising. -/
def Map.ins {α : Type} (k : Nat) (v : α) : Map α → Map α
  | [] => [(k, v)]
  | (j, w) :: t => if k < j then (k, v) :: (j, w) :: t else (j, w) :: Map.ins k v t

/-- Set the value at a key; storing the default removes the entry, so equal maps are equal data. -/
def Map.put {α : Type} [DecidableEq α] (d : α) (m : Map α) (k : Nat) (v : α) : Map α :=
  if v = d then Map.del k m else Map.ins k v (Map.del k m)

/-- The canonical form: keys strictly rising, no entry equal to its default. -/
abbrev Map.Canon {α : Type} (d : Nat → α) (m : Map α) : Prop :=
  m.Pairwise (fun p q => p.1 < q.1) ∧ ∀ p ∈ m, p.2 ≠ d p.1

/-! ### DDR5 -/

/-- A byte of DDR5 by its offset in the window; an unlisted offset reads 0 (log entry 5). -/
def Memory.read (m : Memory) (o : Nat) : Byte := Map.get 0 m o

/-- One byte written. -/
def Memory.write (o : Nat) (b : Byte) (m : Memory) : Memory := Map.put 0 m o b

/-- Bytes written one after another. -/
def Memory.writes : List (Nat × Byte) → Memory → Memory
  | [], m => m
  | (o, b) :: t, m => Memory.writes t (Memory.write o b m)

/-- The canonical form of the memory, as a check. -/
abbrev Memory.wf (m : Memory) : Prop := Map.Canon (fun _ => (0 : Byte)) m

/-- `len` bytes from an offset, lowest first. -/
def Memory.bytes (m : Memory) (o len : Nat) : List Byte := (List.range len).map (fun i => Memory.read m (o + i))

/-- The unsigned little-endian value of bytes. -/
def leVal : List Byte → Nat
  | [] => 0
  | b :: t => b.toNat + 256 * leVal t

/-- The `len` little-endian bytes of a value. -/
def leBytes : Nat → Nat → List Byte
  | 0, _ => []
  | len + 1, v => BitVec.ofNat 8 v :: leBytes len (v / 256)

/-- Consecutive offsets paired with bytes. -/
def memRun (o : Nat) : List Byte → List (Nat × Byte)
  | [] => []
  | b :: t => (o, b) :: memRun (o + 1) t

/-! ### Registers -/

/-- The word a register holds (its reset value while nothing else has been stored). -/
def rd (s : State) (a : Nat) : Word := Map.get (resetWord a) s.regs a

/-- Store a register word. -/
def wr (a : Nat) (w : Word) (s : State) : State := { s with regs := Map.put (resetWord a) s.regs a w }

/-- A field of a register, unsigned. -/
def gf (s : State) (a lo len : Nat) : Nat := fld (rd s a) lo len

/-- A bit of a register. -/
def gb (s : State) (a i : Nat) : Bool := bit (rd s a) i

/-- Store a field. -/
def sf (a lo len v : Nat) (s : State) : State := wr a (setFld (rd s a) lo len v) s

/-- Store a bit. -/
def sb (a i : Nat) (b : Bool) (s : State) : State := sf a i 1 (if b then 1 else 0) s

/-- Set a flag. -/
def flag (a i : Nat) (s : State) : State := sb a i true s

/-- Increment a saturating count by an amount. -/
def bumpBy (a lo len k : Nat) (s : State) : State := sf a lo len (min (gf s a lo len + k) (2 ^ len - 1)) s

/-- Increment a saturating count. -/
def bump (a lo len : Nat) (s : State) : State := bumpBy a lo len 1 s

/-- Set a flag and increment its rejection count. -/
def reject (a i ca lo len : Nat) (s : State) : State := flag a i s |> bump ca lo len

/-- A pair of registers, low word first, as one value. -/
def rd64 (s : State) (a : Nat) : Nat := (rd s a).toNat + (rd s (a + 4)).toNat * 2 ^ 32

/-- Store a pair of registers. -/
def wr64 (a v : Nat) (s : State) : State := wr a (BitVec.ofNat 32 v) s |> wr (a + 4) (BitVec.ofNat 32 (v / 2 ^ 32))

/-- Device address of a channel's register (02: channel n's base). -/
def chA (n off : Nat) : Nat := 0x100000 + n * 0x10000 + off

/-- Device address of a stream's register. -/
def stA (k off : Nat) : Nat := 0x400000 + k * 0x10000 + off

/-- Device address in a context's image. -/
def cxA (x off : Nat) : Nat := 0x1000000 + x * 0x100 + off

/-- Device address of a monitor ADC's register. -/
def maA (g off : Nat) : Nat := 0x60000 + g * 0x1000 + off

/-- Device address of an edge timer unit's register. -/
def etA (u a : Nat) : Nat := a + u * 0x100

/-- Device address of a sequencer's register. -/
def sqA (n a : Nat) : Nat := a + n * 0x20

/-- Device address of a list register. -/
def lsA (n a : Nat) : Nat := a + n * 0x10

/-! ### What is present (00 R1, 01 R10) -/

/-- Channels CH0 upwards. -/
def nChans (s : State) : Nat := match s.variant with | .vs3240 => 32 | .vs3216 => 16 | .vs3208 => 8

/-- The channel is present. -/
def hasChan (s : State) (n : Nat) : Bool := decide (n < nChans s)

/-- The group, its loop core, RCB and monitor ADC are present. -/
def hasGroup (s : State) (g : Nat) : Bool := decide (8 * g < nChans s)

/-- Edge timer units. -/
def nEts (s : State) : Nat := match s.variant with | .vs3240 => 8 | .vs3216 => 4 | .vs3208 => 0

/-- Contexts. -/
def nCtxs (s : State) : Nat := match s.variant with | .vs3240 => 4096 | .vs3216 => 2048 | .vs3208 => 1024

/-- Link lanes. -/
def nLanes (s : State) : Nat := match s.variant with | .vs3240 => 4 | _ => 2

/-- The repetitive controller is present. -/
def hasRc (s : State) : Bool := decide (s.variant ≠ .vs3208)

/-- The stream is present. -/
def hasStream (s : State) (k : Nat) : Bool := decide (k < nChans s) || (decide (32 ≤ k) && decide (k < 36))

/-- Numbers of the present channels. -/
def chans (s : State) : List Nat := List.range (nChans s)

/-- Numbers of the present groups. -/
def groups (s : State) : List Nat := List.range (nChans s / 8)

/-- Numbers of the present streams. -/
def streamNos (s : State) : List Nat := chans s ++ [32, 33, 34, 35]

/-! ### The structures by number -/

/-- A channel. -/
def chan (s : State) (n : Nat) : Chan := Map.get {} s.chans n

/-- Change a channel. -/
def updChan (n : Nat) (f : Chan → Chan) (s : State) : State := { s with chans := Map.put {} s.chans n (f (chan s n)) }

/-- A Range Control Bus. -/
def rcb (s : State) (g : Nat) : Rcb := Map.get {} s.rcbs g

/-- Change a Range Control Bus. -/
def updRcb (g : Nat) (f : Rcb → Rcb) (s : State) : State := { s with rcbs := Map.put {} s.rcbs g (f (rcb s g)) }

/-- A loop core. -/
def lcore (s : State) (g : Nat) : LoopCore := Map.get {} s.lcs g

/-- Change a loop core. -/
def updLc (g : Nat) (f : LoopCore → LoopCore) (s : State) : State := { s with lcs := Map.put {} s.lcs g (f (lcore s g)) }

/-- A monitor ADC. -/
def mon (s : State) (g : Nat) : Mon := Map.get {} s.mons g

/-- Change a monitor ADC. -/
def updMon (g : Nat) (f : Mon → Mon) (s : State) : State := { s with mons := Map.put {} s.mons g (f (mon s g)) }

/-- A sequencer channel. -/
def seq (s : State) (n : Nat) : Seq := Map.get {} s.seqs n

/-- Change a sequencer channel. -/
def updSeq (n : Nat) (f : Seq → Seq) (s : State) : State := { s with seqs := Map.put {} s.seqs n (f (seq s n)) }

/-- A shared resource. -/
def resOf (s : State) (r : Nat) : Res := Map.get {} s.res r

/-- Change a shared resource. -/
def updRes (r : Nat) (f : Res → Res) (s : State) : State := { s with res := Map.put {} s.res r (f (resOf s r)) }

/-- A stream. -/
def strm (s : State) (k : Nat) : Stream := Map.get {} s.streams k

/-- Change a stream. -/
def updStrm (k : Nat) (f : Stream → Stream) (s : State) : State :=
  { s with streams := Map.put {} s.streams k (f (strm s k)) }

/-- An edge timer unit. -/
def etu (s : State) (u : Nat) : EtUnit := Map.get {} s.ets u

/-- Change an edge timer unit. -/
def updEt (u : Nat) (f : EtUnit → EtUnit) (s : State) : State := { s with ets := Map.put {} s.ets u (f (etu s u)) }

/-- A traffic class of the link. -/
def lcls (s : State) (c : Nat) : Cls := Map.get {} s.link.cls c

/-- Change a traffic class. -/
def updCls (c : Nat) (f : Cls → Cls) (s : State) : State :=
  { s with link := { s.link with cls := Map.put {} s.link.cls c (f (lcls s c)) } }

/-- A trigger pin. -/
def tpin (s : State) (p : Nat) : TrigPin := Map.get {} s.trig p

/-- Change a trigger pin. -/
def updTrig (p : Nat) (f : TrigPin → TrigPin) (s : State) : State :=
  { s with trig := Map.put {} s.trig p (f (tpin s p)) }

/-- One measurement path of a channel. -/
def Chan.path (c : Chan) : Path → Meas
  | .v => c.mv
  | .i => c.mi

/-- Change one measurement path. -/
def updMeas (n : Nat) (p : Path) (f : Meas → Meas) (s : State) : State :=
  updChan n (fun c => match p with | .v => { c with mv := f c.mv } | .i => { c with mi := f c.mi }) s

/-- 0 for V, 1 for I. -/
def pnum : Path → Nat
  | .v => 0
  | .i => 1

/-! ### Walking over lists of units -/

/-- One action for each item, in order. -/
def each {α : Type} (f : α → State → State) : List α → State → State
  | [], s => s
  | x :: t, s => each f t (f x s)

/-- An action under a condition. -/
def whenB (b : Bool) (f : State → State) (s : State) : State := if b then f s else s

/-! ### Time (01) -/

/-- TICKTIME (R22). -/
def ticktime (s : State) : Nat := rd64 s R.ticktimeLo

/-- TICKTIME[47:0], as records carry it (R24). -/
def ticktime48 (s : State) : Nat := ticktime s % 2 ^ 48

/-- The core runs from the PLL (14 R386, R388): tick edges occur. -/
def running (s : State) : Bool := gb s R.clkStat 1

/-! ### Free values -/

/-- A free word, and the counter advanced. -/
def takeWord (s : State) : Word × State := (Config.freeWord s.fresh, { s with fresh := s.fresh + 1 })

/-- A free number, and the counter advanced. -/
def takeNat (s : State) : Nat × State := (Config.freeNat s.fresh, { s with fresh := s.fresh + 1 })

/-! ### Event lines, counted events, lanyard messages -/

/-- Cause an event line in this tick (01 R37, R38). -/
def cause (e : Nat) (s : State) : State := { s with caused := if s.caused.contains e then s.caused else s.caused ++ [e] }

/-- Cause an event line in this tick, in a known core cycle (10 R269). -/
def causeAt (e k : Nat) (s : State) : State :=
  cause e { s with causedAt := if s.caused.contains e then s.causedAt else s.causedAt ++ [(e, k)] }

/-- Count an amount of an event of 15 R405 in this tick. -/
def countBy (ev q k : Nat) (s : State) : State :=
  { s with obs := { s.obs with events := Map.put 0 s.obs.events (64 * ev + q) (Map.get 0 s.obs.events (64 * ev + q) + k) } }

/-- Count one event. -/
def count (ev q : Nat) (s : State) : State := countBy ev q 1 s

/-- The order of 13 R352: detection tick, send cycle, SRC. -/
def Msg.before (a b : Msg) : Bool :=
  decide (a.tick < b.tick) ||
    (decide (a.tick = b.tick) && (decide (a.cyc < b.cyc) || (decide (a.cyc = b.cyc) && decide (a.src < b.src))))

/-- Insert a message behind every message not after it. -/
def insMsg (m : Msg) : List Msg → List Msg
  | [] => [m]
  | h :: t => if m.before h then m :: h :: t else h :: insMsg m t

/-- Put a message on the lanyard bus. -/
def sendRaw (m : Msg) (s : State) : State := { s with fc := { s.fc with bus := insMsg m s.fc.bus } }

/-- A block sends a fault kind in this tick (13 R350, R351). -/
def sendMsg (src kind addr info : Nat) (s : State) : State :=
  sendRaw { src, kind, inj := false, addr := addr % 2 ^ 24, info := info % 2 ^ 16, tick := s.now, time := ticktime s,
            cyc := s.cycle } s

/-- The same with what the self-test needs to know besides (13 R368). -/
def sendMsgAux (src kind addr info aux : Nat) (s : State) : State :=
  sendRaw { src, kind, inj := false, addr := addr % 2 ^ 24, info := info % 2 ^ 16, tick := s.now, time := ticktime s,
            cyc := s.cycle, aux } s

/-- SRC of a channel (13 R354). -/
def srcChan (n : Nat) : Nat := 0x20 + n

/-! ### Packets -/

/-- A packet waits to be sent on its class (12 R337). -/
def sendPacket (p : Pkt) (s : State) : State := updCls p.cls (fun c => { c with txq := c.txq ++ [p] }) s

/-! ### What a command answers -/

/-- A step's answer. -/
abbrev Answer := Host.Outcome State Fault Refusal

/-- A command's effect while the internal reset is not asserted; under reset every block stays reset (14 R380) and the
command changes nothing. The queue, the reset and DDR5 are not the command's. -/
def live (s : State) (f : State → State) : Answer :=
  .next (if s.inReset then s else { f s with pending := s.pending, inReset := false, ddr := s.ddr })

/-- The effect of a command that also writes bytes of DDR5. -/
def liveMem (s : State) (f : State → State × List (Nat × Byte)) : Answer :=
  .next (if s.inReset then s else
    { (f s).1 with pending := s.pending, inReset := false, ddr := Memory.writes (f s).2 s.ddr })

/-- The effect of a command of a block on the core clock: none while that clock does not run (14 R382, R388). -/
def clocked (s : State) (f : State → State) : Answer := live s (fun t => if running t then f t else t)

/-- The same for a command that writes DDR5. -/
def clockedMem (s : State) (f : State → State × List (Nat × Byte)) : Answer :=
  liveMem s (fun t => if running t then f t else (t, []))

/-- The effect of a command of channel n (00 R3: none where the channel is absent). -/
def onChan (n : Nat) (s : State) (f : State → State) : Answer :=
  clocked s (fun t => if hasChan t n then f t else t)

/-- The effect of an event of channel n that falls due under a condition; where it is not due nothing happens. -/
def whenDue (n : Nat) (due : State → Bool) (s : State) (f : State → State) : Answer :=
  onChan n s (fun t => if due t then f t else t)

/-- The effect of an event of group g that falls due under a condition. -/
def whenGroup (g : Nat) (due : State → Bool) (s : State) (f : State → State) : Answer :=
  clocked s (fun t => if hasGroup t g && due t then f t else t)

end Sys2Proof.Machine
end

