-- ==== Sys2Proof/Machine/Arith.lean ====
section
/-! DEFINITION. The device's arithmetic: exact values in Int, rounded to nearest with ties to even and saturated where
a rule says so (00 R8, R445, 03). -/

namespace Sys2Proof.Machine

/-- n / d rounded to nearest, ties to even; 0 for d = 0. -/
def rneDiv (n : Int) (d : Nat) : Int :=
  let q := n / (d : Int)
  let r := n % (d : Int)
  if 2 * r < d then q else if 2 * r > d then q + 1 else if d = 0 then 0 else if q % 2 = 0 then q else q + 1

/-- n / d for a divisor of either sign. -/
def rneDivI (n d : Int) : Int := if d < 0 then rneDiv (-n) d.natAbs else rneDiv n d.natAbs

/-- Saturation to signed b-bit values. -/
def sat (b : Nat) (x : Int) : Int := max (-(2 ^ (b - 1) : Nat)) (min x ((2 ^ (b - 1) : Nat) - 1))

/-- Saturation to 32 bits. -/
abbrev sat32 (x : Int) : Int := sat 32 x

/-- The signed value of a word. -/
def sgn (w : Word) : Int := w.toInt

/-- The signed value of a field. -/
def sfld (w : Word) (lo len : Nat) : Int :=
  let v := fld w lo len
  if 2 ^ (len - 1) ≤ v then (v : Int) - (2 ^ len : Nat) else v

/-- The word of a signed value. -/
def toW (x : Int) : Word := BitVec.ofInt 32 x

/-- The unsigned len-bit pattern of a signed value. -/
def pat (len : Nat) (x : Int) : Nat := (x % (2 ^ len : Nat)).toNat

/-- A positive finite binary32 value as mantissa and binary exponent: value = m * 2^(e - 149). -/
def f32 (w : Word) : Nat × Nat :=
  let e := fld w 23 8
  let m := fld w 0 23
  if e = 0 then (m, 0) else (m + 2 ^ 23, e - 1)

/-- A word is a positive finite binary32 value (02 R69). -/
def f32Pos (w : Word) : Bool := !bit w 31 && decide (fld w 23 8 ≠ 255) && decide (fld w 0 31 ≠ 0)

/-- FS(a) / FS(b) as numerator and denominator, exactly. -/
def fsRatio (a b : Word) : Nat × Nat :=
  let (ma, ea) := f32 a
  let (mb, eb) := f32 b
  if eb ≤ ea then (ma * 2 ^ (ea - eb), mb) else (ma, mb * 2 ^ (eb - ea))

/-- x * FS(a) / FS(b), rounded once (00 R445). -/
def rescale (x : Int) (a b : Word) : Int := rneDiv (x * (fsRatio a b).1) (fsRatio a b).2

/-- FS(a) < FS(b). -/
def fsLt (a b : Word) : Bool := decide ((fsRatio a b).1 < (fsRatio a b).2)

/-- Bytes of a word, little-endian. -/
def wBytes (w : Word) : List Byte := leBytes 4 w.toNat

end Sys2Proof.Machine
end

