-- ==== Sys2Proof/Machine/Crc.lean ====
section
/-! DEFINITION. The cyclic redundancy checks of the device: CRC-8 of the Range Control Bus and MGMT_SPI (02 R81, 12 R346),
CRC-16 of the OTP array (14), and the checks of the link's flits (12). -/

namespace Sys2Proof.Machine

/-- One bit into a w-bit CRC register, most significant bit first. -/
def crcBit (w poly c : Nat) (b : Bool) : Nat :=
  if (c / 2 ^ (w - 1) % 2 == 1) != b then Nat.xor (c * 2 % 2 ^ w) poly else c * 2 % 2 ^ w

/-- The CRC register after a sequence of bits. -/
def crcBits (w poly : Nat) : Nat → List Bool → Nat
  | c, [] => c
  | c, b :: t => crcBits w poly (crcBit w poly c b) t

/-- The bits of a value, most significant first. -/
def msbBits : Nat → Nat → List Bool
  | 0, _ => []
  | len + 1, v => (v / 2 ^ len % 2 == 1) :: msbBits len v

/-- The bits of bytes in order, each most significant first. -/
def byteBits : List Byte → List Bool
  | [] => []
  | b :: t => msbBits 8 b.toNat ++ byteBits t

/-- CRC-8, polynomial 0x07, initial value 0. -/
def crc8 (bits : List Bool) : Nat := crcBits 8 0x07 0 bits

/-- CRC-16, polynomial 0x1021, initial value 0xFFFF. -/
def crc16 (bits : List Bool) : Nat := crcBits 16 0x1021 0xFFFF bits

/-- One bit of the reflected CRC-32 register. -/
def crc32Bit (c : Nat) : Nat := if c % 2 = 1 then Nat.xor (c / 2) 0xEDB88320 else c / 2

/-- One byte into the reflected CRC-32 register. -/
def crc32Byte (c : Nat) (b : Byte) : Nat :=
  crc32Bit (crc32Bit (crc32Bit (crc32Bit (crc32Bit (crc32Bit (crc32Bit (crc32Bit (Nat.xor c b.toNat))))))))

/-- CRC-32 of IEEE 802.3 over bytes (12 R322). -/
def crc32 (bs : List Byte) : Nat := Nat.xor (bs.foldl crc32Byte 0xFFFFFFFF) 0xFFFFFFFF

end Sys2Proof.Machine
end

