-- ==== Sys2Proof/Machine/Rcb.lean ====
section
/-! DEFINITION. Modes and slots of a channel as its registers show them, and the Range Control Bus: queueing, shifting,
latching, firing and acknowledging command frames (02 R79 to R88). -/

namespace Sys2Proof.Machine

/-! ### What the channel registers show -/

/-- Committed mode (R50). -/
def modeNow (s : State) (n : Nat) : Nat := gf s (chA n R.chStat) 0 4

/-- FV, FI, FVP, FIP, LOADR, LOADP (R48, R52). -/
def isClosed (m : Nat) : Bool := decide (2 ≤ m) && decide (m ≤ 7)

/-- The path the mode forces; V in OFF, MEASURE and MANUAL (R48, R54, 15 R399). -/
def forcedPath (m : Nat) : Path := if m = 3 ∨ m = 5 ∨ m = 6 ∨ m = 7 then .i else .v

/-- The other path. -/
def pother : Path → Path
  | .v => .i
  | .i => .v

/-- Active slot of a path (R67). -/
def slotNow (s : State) (n : Nat) : Path → Nat
  | .v => gf s (chA n R.rngStat) 0 3
  | .i => 8 + gf s (chA n R.rngStat) 4 3

/-- Make a slot the active one of its path. -/
def setSlot (n slot : Nat) (s : State) : State :=
  if slot < 8 then sf (chA n R.rngStat) 0 3 slot s else sf (chA n R.rngStat) 4 3 (slot - 8) s

/-- The quantity of a slot. -/
def slotPath (slot : Nat) : Path := if slot < 8 then .v else .i

/-- Full scale of a slot (R68). -/
def fsOf (s : State) (n slot : Nat) : Word := rd s (chA n (R.desc + 16 * slot))

/-- SWCODE of a slot. -/
def swcodeOf (s : State) (n slot : Nat) : Nat := gf s (chA n (R.desc2 + 16 * slot)) 0 24

/-- SETTLE of a slot. -/
def settleOf (s : State) (n slot : Nat) : Nat := gf s (chA n (R.desc3 + 16 * slot)) 0 8

/-- The partner of a slot, where its descriptor has PEN set (R69). -/
def partnerOf (s : State) (n slot : Nat) : Option Nat :=
  if gb s (chA n (R.desc3 + 16 * slot)) 12 then some (gf s (chA n (R.desc3 + 16 * slot)) 8 4) else none

/-- The channel is in HOLD (R50). -/
def inHold (s : State) (n : Nat) : Bool := gb s (chA n R.chStat) 10

/-- The entry sequence is in progress (R50, R53). -/
def connecting (s : State) (n : Nat) : Bool := gb s (chA n R.chStat) 9

/-- A rejection of 02: its flag of CH_STAT and REJ_CNT (R50). -/
def chReject (n i : Nat) (s : State) : State := reject (chA n R.chStat) i (chA n R.chCnt) 16 8 s

/-- The channel is furled (13 R359). -/
def furled (s : State) (n : Nat) : Bool := gb s R.chFurled n

/-- A condition of R56 is in progress on the channel: a range change, an entry, an entry from MEASURE, a HOLD. -/
def modeBlocked (s : State) (n : Nat) : Bool :=
  (chan s n).chg.isSome || connecting s n || (chan s n).fromMeas.isSome || inHold s n

/-! ### Frames -/

/-- The 48 bits of a command frame without its CRC, bits [47:8] (R81). -/
def Frame.body (fr : Frame) : Nat :=
  (((((fr.opc * 8 + fr.ch % 8) * 2 + pnum fr.path) * 16 + fr.slot) * 16 + fr.seq % 16) * 2 ^ 24) + fr.swcode

/-- A command frame's 48 bits (R81). -/
def Frame.bits (fr : Frame) : BitVec 48 := BitVec.ofNat 48 (fr.body * 256 + crc8 (msbBits 40 fr.body))

/-- A new frame for a channel, waiting from a tick on. -/
def newFrame (n : Nat) (p : Path) (opc slot cls : Nat) (role : Role) (live : Bool) (now notBefore : Nat) : Frame :=
  { ch := n, path := p, opc, slot, swcode := 0, seq := 0, cls, ord := now, attempt := 1, role, feStatus := 0xFFFF,
    live, st := .queued notBefore }

/-- Queue a frame on its channel's RCB. -/
def queueFrame (fr : Frame) (s : State) : State := updRcb (fr.ch / 8) (fun b => { b with frames := b.frames ++ [fr] }) s

/-- The frame has left the device, whole or in part: it is being shifted, its latch word is sent, or it has fired. -/
def Frame.onWay (fr : Frame) : Bool :=
  match fr.st with
  | .shifting _ | .latched _ | .fired _ | .failed _ => true
  | _ => false

/-- Discard the frames of a channel that wait (R85): one being shifted completes its shift and is never latched, one whose latch
word is sent fires, and one that has fired still has its acknowledgement coming (R83); nothing waits for them any longer. -/
def dropFrames (n : Nat) (s : State) : State :=
  updRcb (n / 8) (fun b => { b with
    frames := (b.frames.filter (fun fr => fr.ch != n || fr.onWay)).map (fun fr =>
      if fr.ch = n then { fr with void := true, live := false } else fr) }) s

/-- Queue DISCONNECT, which discards every other frame of the channel (R85). -/
def queueDisconnect (n : Nat) (s : State) : State :=
  queueFrame (newFrame n .v 5 0 1 .disconnect true s.now s.now) (dropFrames n s)

/-- No frame but DISCONNECT and release frames is sent for the channel (R84). -/
def rcbBlocked (s : State) (n : Nat) : Bool := !(chan s n).holdFrames.isEmpty

/-- The frame comes before another of its state: class, time of queueing, channel, V before I (R80, R85). -/
def Frame.before (a b : Frame) : Bool :=
  let ka := ((a.cls * 2 ^ 64 + a.ord) * 32 + a.ch) * 2 + pnum a.path
  let kb := ((b.cls * 2 ^ 64 + b.ord) * 32 + b.ch) * 2 + pnum b.path
  decide (ka < kb)

/-- The first of the frames that satisfy a test, in the order of R85. -/
def pickFrame (f : Frame → Bool) : List Frame → Option Frame
  | [] => none
  | h :: t =>
    match pickFrame f t with
    | none => if f h then some h else none
    | some m => if f h && !m.before h then some h else some m

/-- Replace the first frame equal to the given one. -/
def replaceFrame (old new : Frame) : List Frame → List Frame
  | [] => []
  | h :: t => if h = old then new :: t else h :: replaceFrame old new t

/-- Remove the first frame equal to the given one. -/
def removeFrame (old : Frame) : List Frame → List Frame
  | [] => []
  | h :: t => if h = old then t else h :: removeFrame old t

/-- Set a frame of its RCB. -/
def setFrame (old new : Frame) (s : State) : State :=
  updRcb (old.ch / 8) (fun b => { b with frames := replaceFrame old new b.frames }) s

/-- Remove a frame from its RCB. -/
def delFrame (old : Frame) (s : State) : State :=
  updRcb (old.ch / 8) (fun b => { b with frames := removeFrame old b.frames }) s

/-- RCB_CLK runs (R86 to R88). -/
def rcbRuns (s : State) : Bool := running s && s.rcbStop.isNone

/-- The frame occupies the front end's pending register of its pair, or is on its way there: one that has fired does not, nor
one that is to be queued again in a later tick (R85). -/
def Frame.occupies (now : Nat) (fr : Frame) : Bool :=
  match fr.st with
  | .queued t => decide (t ≤ now)
  | .shifting _ => true
  | .pending => true
  | .latched f => decide (now < f)
  | .fired _ => false
  | .failed _ => false

/-- A queued frame may start shifting; a standing frame only where no other frame of its pair is under way (R85). -/
def mayShift (s : State) (b : Rcb) (fr : Frame) : Bool :=
  match fr.st with
  | .queued t =>
    decide (t ≤ s.now) && (!rcbBlocked s fr.ch || fr.cls == 1 || fr.rel) &&
      (fr.role != .standing ||
        b.frames.all (fun x => x = fr || x.ch != fr.ch || x.path != fr.path || x.role == .standing || !x.occupies s.now))
  | _ => false

/-- The frame a FRAME_SHIFT would take (R85). -/
def nextShift (s : State) (g : Nat) : Option Frame :=
  if rcbRuns s && decide ((rcb s g).busFree ≤ s.now) then pickFrame (mayShift s (rcb s g)) (rcb s g).frames else none

/-- A frame is in the front end's pending register, or is in its last tick of shifting. -/
def Frame.inPlace (now : Nat) (fr : Frame) : Bool :=
  match fr.st with
  | .pending => true
  | .shifting l => decide (l ≤ now)
  | _ => false

/-- A frame whose shift ends in this tick overwrites the pending frame of its pair at the next edge, before a latch word sent now
would fire that (R79, R80). -/
def overwritten (s : State) (fr : Frame) : Bool :=
  fr.st == .pending && (rcb s (fr.ch / 8)).frames.any (fun x => x.ch == fr.ch && x.path == fr.path &&
    (match x.st with | .shifting l => decide (l ≤ s.now) | .latched f => decide (s.now < f) | _ => false))

/-- A latch word may be sent for the frame in this tick (R80). -/
def mayLatch (s : State) (fr : Frame) : Bool :=
  fr.live && fr.inPlace s.now && !overwritten s fr && (!rcbBlocked s fr.ch || fr.cls == 1 || fr.rel)

/-- The frame a LATCH_WORD would name (R80). -/
def nextLatch (s : State) (g : Nat) : Option Frame :=
  if rcbRuns s && decide ((rcb s g).latchFree ≤ s.now) then pickFrame (mayLatch s) (rcb s g).frames else none

/-- A latch word, its RCB_CLK cycle 0 in bit 0 (R80): START, PATH, and a mask with the one bit of the frame's channel. -/
def latchWord (fr : Frame) : BitVec 10 := BitVec.ofNat 10 (1 + 2 * pnum fr.path + 4 * 2 ^ (fr.ch % 8))

/-- RCB_LAT in an RCB_CLK cycle of the present tick: the word sent in it, low where it carries none (R80). -/
def rcbLat (s : State) (g k : Nat) : Bool :=
  match (rcb s g).frames.find? (fun fr => fr.st == .latched (s.now + 1)) with
  | some fr => (latchWord fr).getLsbD k
  | none => false

/-- RCB_DO in an RCB_CLK cycle 0 to 9 of the present tick (R79): of a frame's 50 cycles the first is the START bit, then its 48 bits
follow, most significant first, and a low stop cycle, also where its latch word is sent in its last tick; low where no frame is
shifted. -/
def rcbDo (s : State) (g k : Nat) : Bool :=
  (rcb s g).frames.any (fun fr =>
    let j := 10 * (s.now + 4 - fr.shiftTo) + k
    (match fr.st with | .shifting _ | .latched _ => true | _ => false) && decide (s.now ≤ fr.shiftTo) &&
      (decide (j = 0) || (decide (j ≤ 48) && fr.bits.getLsbD (48 - j))))

/-- SWCODE of a frame as it is shifted: that of its slot (R81); a retry and a release frame repeat their frame's (R84, R361). -/
def shiftCode (s : State) (fr : Frame) : Nat :=
  if 1 < fr.attempt ∨ fr.rel then fr.swcode
  else if fr.opc = 1 ∨ fr.opc = 2 ∨ fr.opc = 3 then swcodeOf s fr.ch fr.slot else 0

/-- Start shifting a frame: SEQ is taken, the bus is busy for 5 ticks (R79, R81). -/
def startShift (g : Nat) (fr : Frame) (s : State) : State :=
  let key := 2 * fr.ch + pnum fr.path
  let q := Map.get 0 (rcb s g).seqs key
  setFrame fr { fr with seq := q, swcode := shiftCode s fr, st := .shifting (s.now + 4), shiftTo := s.now + 4 } s
    |> updRcb g (fun b => { b with busFree := s.now + 5, seqs := Map.put 0 b.seqs key ((q + 1) % 16) })

/-- Send the latch word for a frame (R80): it fires at the edge of the next tick. -/
def sendLatch (g : Nat) (fr : Frame) (s : State) : State :=
  setFrame fr { fr with st := .latched (s.now + 1) } s |> updRcb g (fun b => { b with latchFree := s.now + 5 })

/-- The frame that fires in this tick. -/
def firing (s : State) (g : Nat) : Option Frame := (rcb s g).frames.find? (fun fr => fr.st == .latched s.now)

/-- The frame that awaits its acknowledgement, with its firing: of several, the one that fired first. -/
def awaiting (s : State) (g : Nat) : Option (Frame × Nat) :=
  ((rcb s g).frames.filterMap (fun fr => match fr.st with | .fired f => some (fr, f) | _ => none)).foldl
    (fun r x => match r with
      | some y => if x.2 < y.2 then some x else some y
      | none => some x) none

/-- The frame is the one the change's table counts from: the MAKE of a tack, or the SWITCH of the other kind, for its target. -/
def Change.countsFrom (c : Change) (fr : Frame) : Bool :=
  c.path == fr.path && c.target == fr.slot && fr.role == (if c.tack then .make else .switch)

/-- A protocol error of the frame fired at f: RCB_ERR, RETRY_CNT, and a retry from f+8 or, after the third attempt, the
actions of R84 at f+8. R85 does not say whether a DISCONNECT sent again ranks as a DISCONNECT or as a retry: that it keeps class 1
is the model's choice (log entry 105), and so is that the error of a frame a DISCONNECT has discarded counts, with no retry. -/
def rcbError (fr : Frame) (f fe : Nat) (s : State) : State :=
  let s := flag (chA fr.ch R.chStat) 14 s |> bump (chA fr.ch R.chCnt) 24 8
  let again : Frame :=
    if fr.attempt < 3 then
      { fr with attempt := fr.attempt + 1, cls := if fr.cls = 1 then 1 else 2, ord := s.now, feStatus := fe, live := true,
                st := .queued (f + 8) }
    else { fr with feStatus := fe, st := .failed (f + 8) }
  if fr.void && fr.attempt < 3 then delFrame fr s
  else
  let s := setFrame fr again s
  -- a range change counts from the acknowledged firing of its own frame (R78)
  if ¬ fr.void ∧ (fr.role = .make ∨ fr.role = .switch) then
    updChan fr.ch (fun c => { c with chg := c.chg.map (fun x =>
      if x.countsFrom fr && x.fire == some f then { x with fire := none, acked := false } else x) }) s
  else s

/-- The frame of a group whose third attempt failed, when its actions are due. -/
def failedDue (s : State) (g : Nat) : Option Frame :=
  (rcb s g).frames.find? (fun fr => match fr.st with | .failed d => decide (d ≤ s.now) | _ => false)

/-- The frame comes into the front end's pending register at this tick edge, in which it may fire at once (R79, R80). -/
def Frame.arrives (now : Nat) (fr : Frame) : Bool :=
  match fr.st with
  | .shifting l => decide (l < now)
  | .latched f => decide (f = now)
  | _ => false

/-- A pending frame after a tick edge in which a later frame of its pair arrives (R79): the standing one is gone, to be formed again
when its place is free (R85); any other is queued again in its class and order, which is the model's choice (log entry 117). -/
def Frame.requeued (now : Nat) (fr : Frame) : Option Frame :=
  if fr.role = .standing ∨ fr.void then none else some { fr with st := .queued now }

/-- Frames move on at a tick edge: a shift that has ended puts its frame into the pending register, over any frame of the
same pair that still waits there (R79); of a discarded frame nothing more is heard (R85). -/
def rcbEdge (g : Nat) (s : State) : State :=
  let fs := (rcb s g).frames
  let here := fs.filter (Frame.arrives s.now)
  let move (fr : Frame) : Option Frame :=
    match fr.st with
    | .shifting l => if l < s.now then (if fr.void then none else some { fr with st := .pending }) else some fr
    | .pending => if here.any (fun d => d.ch == fr.ch && d.path == fr.path) then fr.requeued s.now else some fr
    | _ => some fr
  updRcb g (fun b => { b with frames := fs.filterMap move }) s

/-- The standing frame a path needs: its active slot has a partner, the channel is in service, frames are sent for it (R84) and no
entry is in progress, nor a change of the path, but for a tack that waits for this frame (R85). -/
def standingWanted (s : State) (n : Nat) (p : Path) : Option Nat :=
  let changing := (chan s n).chg.any (fun c => c.path == p && !(c.tack && c.phase == .standby))
  if modeNow s n = 0 || changing || connecting s n || (chan s n).fromMeas.isSome || rcbBlocked s n then none
  else partnerOf s n (slotNow s n p)

/-- Queue the standing frame of a path that has none, where no other frame occupies its place. -/
def queueStanding (n : Nat) (p : Path) (s : State) : State :=
  match standingWanted s n p with
  | none => s
  | some slot =>
    if (rcb s (n / 8)).frames.any (fun fr => fr.ch == n && fr.path == p && (fr.occupies s.now || (fr.role == .standing && !fr.void))) then s
    else queueFrame (newFrame n p 2 slot 5 .standing false s.now s.now) s

/-- Take a channel's standing frames off its bus, so that they are shifted again (R85); a shift under way completes. -/
def dropStanding (n : Nat) (s : State) : State :=
  let mine (fr : Frame) : Bool := fr.ch == n && fr.role == .standing
  updRcb (n / 8) (fun b => { b with
    frames := (b.frames.filter (fun fr => !mine fr || fr.onWay)).map (fun fr => if mine fr then { fr with void := true } else fr) }) s

/-- The RCB clocks stop for 8 ticks and every frame is flushed, the end of a hold that a release frame has earned with them; every channel counts as disconnected from this tick (R88). The 8
ticks begin inside tick t, with the next falling edge of RCB_CLK; that they are taken as ticks t to t+7, so that a frame may be
shifted from tick t+8, is the model's choice (log entry 88). -/
def stopRcbClocks (s : State) : State :=
  each (fun g => updRcb g (fun b => { b with frames := [] })) (groups s) { s with rcbStop := some (s.now + 8) }
    |> each (fun n => updChan n (fun c => { c with
        disconnected := true, holdEnd := []
        mv := { c.mv with sensed := ((s.now, none) :: c.mv.sensed).take 8 }
        mi := { c.mi with sensed := ((s.now, none) :: c.mi.sensed).take 8 } })) (chans s)

end Sys2Proof.Machine
end

