-- ==== Sys2Proof/Machine/Signal.lean ====
section
/-! DEFINITION. The calibration table and the two corrections it feeds, the clear code and the clear latch (05 R153 to
R157, 06 R174 to R182), and the MAC cost of a channel (03 R92, R93). -/

namespace Sys2Proof.Machine

/-! ### The calibration table (05 R154) -/

/-- Entry index of channel c, slot, path (0 force, 1 measure), segment. -/
def calIndex (c slot p k : Nat) : Nat := ((c * 16 + slot) * 2 + p) * 512 + k

/-- Address of an entry's low word. -/
def calA (e : Nat) : Nat := 0x2000000 + 8 * e

/-- OFS of an entry. -/
def calOfs (s : State) (e : Nat) : Int := sfld (rd s (calA e)) 0 24

/-- SLP of an entry, Q1.23. -/
def calSlp (s : State) (e : Nat) : Int :=
  let v := gf s (calA e + 4) 0 16 * 256 + gf s (calA e) 24 8
  if 2 ^ 23 ≤ v then (v : Int) - 2 ^ 24 else v

/-- The segment of a 24-bit code. -/
def calSeg (x : Int) : Nat := (x / 32768 + 256).toNat

/-- The correction common to R156 and R174, before sat24. -/
def calRaw (s : State) (e : Nat) (x : Int) : Int :=
  x + calOfs s e + rneDiv (calSlp s e * (x - ((calSeg x : Int) - 256) * 32768)) (2 ^ 23)

/-- The corrected code of a measure sample, and whether sat24 changed it (R156). -/
def calibrate (s : State) (n slot : Nat) (x : Int) : Int × Bool :=
  let y := calRaw s (calIndex n slot 1 (calSeg x)) x
  (sat 24 y, sat 24 y != y)

/-- A slot is in use for the calibration table (R155). -/
def calInUse (s : State) (n slot : Nat) : Bool :=
  slotNow s n .v == slot || slotNow s n .i == slot || partnerOf s n (slotNow s n .v) == some slot ||
    partnerOf s n (slotNow s n .i) == some slot || (chan s n).chg.any (fun c => c.target == slot)

/-! ### From command to DAC input code (06) -/

/-- The force slot of the committed mode (R174). -/
def forceSlot (s : State) (n : Nat) : Nat := slotNow s n (forcedPath (modeNow s n))

/-- The DAC input code of a command, and whether a saturation changed it (R174). -/
def correctCmd (s : State) (n : Nat) (cmd : Int) : Int × Bool :=
  let x := cmd * 16
  let y := calRaw s (calIndex n (forceSlot s n) 0 (calSeg x)) x
  let z := rneDiv (sat 24 y) 16
  (sat 20 z, sat 24 y != y || sat 20 z != z)

/-- The span zero code of a SPAN (R176). -/
def spanZero (span : Nat) : Int := if span = 3 ∨ span = 4 then -524288 else 0

/-- The clear code, a command (R179). -/
def clearCmd (s : State) (n : Nat) : Int :=
  if gb s (chA n R.dacClr) 20 then spanZero (gf s (chA n R.dacCfg) 0 3) else sfld (rd s (chA n R.dacClr)) 0 20

/-- Recompute the clear latch (R179). What the tick's read of the entry reports of it follows with the tick's computation. -/
def refreshClear (n : Nat) (s : State) : State :=
  updChan n (fun c => { c with clrLatch := (correctCmd s n (clearCmd s n)).1, clrDirty := false, clrAt := some s.now }) s

/-- The clear latch is to be recomputed at the first tick edge (R179). -/
def dirtyClear (n : Nat) (s : State) : State := updChan n (fun c => { c with clrDirty := true }) s

/-- It is to be where a change of mode or slot has moved the force slot. -/
def dirtyIfMoved (n : Nat) (before s : State) : State := whenB (forceSlot s n != forceSlot before n) (dirtyClear n) s

/-- Put an input code on the DAC (R175). -/
def setDac (n : Nat) (code : Int) (s : State) : State := sf (chA n R.dacCode) 0 20 (pat 20 code) s

/-- The DAC input switches to the clear latch (R182, R183); the command reads the clear code. -/
def dacToClear (n : Nat) (s : State) : State :=
  setDac n (chan s n).clrLatch s |> sf (chA n R.dacCmd) 0 20 (pat 20 (clearCmd s n))
    |> updChan n (fun c => { c with clrDac := some s.now, loop := { c.loop with cmd := clearCmd s n, code := c.clrLatch } })

/-- A rejection of 06: CFG_REJ and REJ_CNT of DAC_STAT (R187). -/
def dacReject (n : Nat) (s : State) : State := reject (chA n R.dacStat) 0 (chA n R.dacStat) 8 8 s

/-! ### Cost (03 R92, R93) -/

/-- The cost of a channel in a mode under a LOOP_CFG word. -/
def costOf (m : Nat) (cfg : Word) : Nat :=
  if isClosed m then
    24 + 5 * (fld cfg 0 3 + fld cfg 4 3) + (if bit cfg 8 then 6 else 0) + (if m = 7 then 8 else 0)
      + (if bit cfg 9 then 9 else 0) + (if bit cfg 10 then 12 else 0)
  else if m = 8 then 24 + (if bit cfg 10 then 12 else 0)
  else 0

/-- The committed cost of a channel. -/
def chCost (s : State) (n : Nat) : Nat := costOf (modeNow s n) (rd s (chA n R.loopCfg))

/-- Committed cost sum of a loop core. -/
def coreSum (s : State) (g : Nat) : Nat := ((List.range 8).map (fun j => chCost s (8 * g + j))).sum

/-- The mode a channel will have once the accepted writes of this tick land. -/
def modeAhead (s : State) (n : Nat) : Nat :=
  ((chan s n).shadow.filterMap (fun w => match w with | .mode c => some c | _ => none)).getLast?.getD (modeNow s n)

/-- The LOOP_CFG a channel will have once the accepted writes of this tick land. -/
def cfgAhead (s : State) (n : Nat) : Word :=
  ((chan s n).shadow.filterMap (fun w => match w with | .loopCfg c => some c | _ => none)).getLast?.getD
    (rd s (chA n R.loopCfg))

/-- The cost sum of the channel's core if the channel had a mode and configuration, with every accepted commit applied. -/
def sumWith (s : State) (n m : Nat) (cfg : Word) : Nat :=
  ((List.range 8).map (fun j =>
    let k := 8 * (n / 8) + j
    if k = n then costOf m cfg else costOf (modeAhead s k) (cfgAhead s k))).sum

/-! ### Open loop and use of banks (03) -/

/-- The loop is open: OFF, MEASURE, MANUAL, or LOOP_CTRL.OPEN in a closed mode (R119). -/
def openNow (s : State) (n : Nat) : Bool := !isClosed (modeNow s n) || gb s (chA n R.loopCtrl) 0

/-- The reef set is engaged (04 R138). -/
def reefOn (s : State) (n : Nat) : Bool := gb s (chA n R.luffStat) 1

/-- A range slot's bank is in use (R113). -/
def bankInUse (s : State) (n slot : Nat) : Bool :=
  slotNow s n .v == slot || slotNow s n .i == slot || (chan s n).chg.any (fun c => c.target == slot)

end Sys2Proof.Machine
end

