-- ==== Sys2Proof/Machine/Cascade.lean ====
section
/-! DEFINITION. The arithmetic of the force loop: sections, cascades, presets, the setpoint path, selection and the output
sum (03 R98 to R111, 02 R57, R58, R65, R66). Pure functions of coefficients and states. -/

namespace Sys2Proof.Machine

/-- The coefficients of one section (R112). -/
structure Coef where
  b0 : Int
  b1 : Int
  b2 : Int
  a1 : Int
  a2 : Int
  sh : Nat
  integ : Bool
  hi : Int
  lo : Int

/-- Channel offset of the coefficient set of a slot's bank, or of the reef set while it is engaged (R112, 04 R139). -/
def bankOff (s : State) (n slot : Nat) : Nat := if reefOn s n then 0x3000 else 0x1000 + 0x200 * slot

/-- Section i of the coefficient set at a channel offset. -/
def coefAt (s : State) (n off i : Nat) : Coef :=
  let a := chA n (off + 0x20 + 0x20 * i)
  { b0 := sfld (rd s a) 0 16, b1 := sfld (rd s a) 16 16, b2 := sfld (rd s (a + 4)) 0 16, a1 := sfld (rd s (a + 4)) 16 16,
    a2 := sfld (rd s (a + 8)) 0 16, sh := gf s (a + 8) 16 2, integ := gb s (a + 8) 20,
    hi := sgn (rd s (a + 12)), lo := sgn (rd s (a + 16)) }

/-- What one section makes of its input. -/
structure SecOut where
  y32 : Int
  y16 : Int
  st : Sec
  /-- A saturation changed its operand (R103). -/
  ovf : Bool
  /-- The anti-windup clamp changed s1 (R104). -/
  clamp : Bool

/-- The second state that a section takes from its input and 32-bit output (R102). -/
def s2Next (c : Coef) (x y : Int) : Int := ((c.b2 * x) * 2 - rneDiv (c.a2 * y) (2 ^ 15)) * (2 ^ c.sh : Nat)

/-- One section in transposed direct form II (R102). -/
def runSec (c : Coef) (last : Bool) (x : Int) (st : Sec) : SecOut :=
  let a := (c.b0 * x) * (2 ^ (1 + c.sh) : Nat) + st.s1
  let acc := sat 40 a
  let y32 := sat32 acc
  let r := rneDiv y32 (2 ^ 16)
  let y16 := sat 16 r
  let n1 := ((c.b1 * x) * 2 - rneDiv (c.a1 * y32) (2 ^ 15)) * (2 ^ c.sh : Nat) + st.s2
  let n2 := s2Next c x y32
  let t1 := sat 40 n1
  let k1 := if last && c.integ then min (max t1 c.lo) c.hi else t1
  { y32, y16, st := { s1 := k1, s2 := sat 40 n2 },
    ovf := acc != a || y32 != acc || y16 != r || t1 != n1 || sat 40 n2 != n2, clamp := k1 != t1 }

/-- A preset of a cascade's last section: tracking (R107) or output (R110), with its value t. -/
inductive PresetTo where
  | none
  | track (t : Int)
  | out (t : Int)
  deriving DecidableEq, Repr

/-- The preset section's states, whether an integrator clamp limited the preset, and whether s1 saturated (R107, R110, R111). -/
def presetSec (c : Coef) (x : Int) (st : Sec) : PresetTo → Sec × Bool × Bool
  | .none => (st, false, false)
  | .track t => ({ s1 := sat 40 t, s2 := sat 40 (s2Next c x t) }, false, false)
  | .out t =>
    let r := t - (c.b0 * x) * (2 ^ (1 + c.sh) : Nat)
    let k := if c.integ then min (max r c.lo) c.hi else r
    ({ s1 := sat 40 k, s2 := sat 40 (s2Next c x t) }, k != r, sat 40 k != k)

/-- What a cascade makes of its input. -/
structure CasOut where
  y : Int
  secs : Map Sec
  /-- Bit i: section i saturated. -/
  ovf : Nat
  clamp : Bool
  limited : Bool

/-- The sections of a cascade from section i on, the last of them preset (R101, R102). -/
def runCas (co : Nat → Coef) (pre : PresetTo) : Nat → Nat → Int → Map Sec → Nat → CasOut
  | 0, _, x, secs, ovf => { y := x, secs, ovf, clamp := false, limited := false }
  | left + 1, i, x, secs, ovf =>
    let c := co i
    let last := left == 0
    let st := Map.get {} secs i
    let p := if last then presetSec c x st pre else (st, false, false)
    let o := runSec c last x p.1
    let ovf := Nat.lor ovf (if o.ovf || p.2.2 then 2 ^ i else 0)
    let secs := Map.put {} secs i o.st
    if last then { y := o.y32, secs, ovf, clamp := o.clamp, limited := p.2.1 }
    else runCas co pre left (i + 1) o.y16 secs ovf

/-- The error of a cascade with an injected value (04 R142) and its windowed 16-bit input, and whether a saturation changed
either (R101, R103). -/
def casError (w m d : Int) (errShift : Nat) : Int × Int × Bool :=
  let e0 := sat32 (w - m)
  let e := sat32 (e0 + d)
  let x := rneDiv (e * (2 ^ errShift : Nat)) (2 ^ 16)
  (e, sat 16 x, e0 != w - m || e != e0 + d || sat 16 x != x)

/-! ### Limits (02 R57, R58) -/

/-- The limit register of a path and side. -/
def limOff (p : Path) (hi : Bool) : Nat :=
  match p, hi with
  | .v, true => R.vlimHi
  | .v, false => R.vlimLo
  | .i, true => R.ilimHi
  | .i, false => R.ilimLo

/-- The reference slot of a path's limits (LIM_REF). -/
def limRefSlot (s : State) (n : Nat) : Path → Nat
  | .v => gf s (chA n R.limRef) 0 3
  | .i => 8 + gf s (chA n R.limRef) 4 3

/-- The conversion of a limit to the active slot, before saturation. -/
def limOf (s : State) (n : Nat) (p : Path) (hi : Bool) : Int :=
  rescale (sgn (rd s (chA n (limOff p hi)))) (fsOf s n (limRefSlot s n p)) (fsOf s n (slotNow s n p))

/-- A limit as the latest commit converted it, before saturation. -/
def limRaw (s : State) (n : Nat) (p : Path) (hi : Bool) : Int :=
  let l := (chan s n).lims
  match p, hi with
  | .v, true => l.vHi
  | .v, false => l.vLo
  | .i, true => l.iHi
  | .i, false => l.iLo

/-- A limit converted to the active slot (R57). -/
def limAct (s : State) (n : Nat) (p : Path) (hi : Bool) : Int := sat32 (limRaw s n p hi)

/-- A converted limit of the path saturates. -/
def limClamped (s : State) (n : Nat) (p : Path) : Bool :=
  limAct s n p true != limRaw s n p true || limAct s n p false != limRaw s n p false

/-- A limit, LIM_REF or an active slot commits (R57): every limit is converted, and RNG_CLAMP shows whether one saturates. -/
def convertLimits (n : Nat) (s : State) : State :=
  let s := updChan n (fun c => { c with lims := { vHi := limOf s n .v true, vLo := limOf s n .v false,
                                                  iHi := limOf s n .i true, iLo := limOf s n .i false } }) s
  sb (chA n R.chStat) 11 (limClamped s n .v || limClamped s n .i) s

/-! ### The setpoint path (R98, R99; 02 R65, R66) -/

/-- The current setpoint of LOADR from the V measurement (R65). R65 does not give the rounding of the product, and R445 speaks of the conversion
of LOAD_G only: to nearest, ties to even, is the model's choice (log entry 122). -/
def loadR (s : State) (n : Nat) (v : Int) : Int :=
  let fv := fsOf s n (slotNow s n .v)
  let fi := fsOf s n (slotNow s n .i)
  -- G against VREF and IREF, Q4.28, converted by FS(Vactive) / FS(Iactive) relative to the reference pair
  let g := sgn (rd s (chA n R.loadG))
  let r1 := fsRatio fv (fsOf s n (limRefSlot s n .v))
  let r2 := fsRatio (fsOf s n (limRefSlot s n .i)) fi
  let ga := rneDiv (g * (r1.1 * r2.1 : Nat)) (r1.2 * r2.2)
  sat32 (rneDiv (-(ga * v)) (2 ^ 28))

/-- The current setpoint of LOADP from the V measurement (R66). -/
def loadP (s : State) (n : Nat) (v : Int) : Int :=
  let fv := fsOf s n (slotNow s n .v)
  let fi := fsOf s n (slotNow s n .i)
  let rv := fsRatio (fsOf s n (limRefSlot s n .v)) fv
  let ri := fsRatio (fsOf s n (limRefSlot s n .i)) fi
  let pa := rneDiv (sgn (rd s (chA n R.loadP)) * (rv.1 * ri.1 : Nat)) (rv.2 * ri.2)
  let vmin := rescale (sgn (rd s (chA n R.loadVmin))) (fsOf s n (limRefSlot s n .v)) fv
  let d := max (max v.natAbs vmin.toNat) 1
  sat32 (rneDiv (-(pa * 2 ^ 31 * (if v < 0 then -1 else 1))) d)

/-- One step of the halyard ramp (R99). -/
def rampStep (rate : Nat) (r target : Int) : Int :=
  if rate = 0 then target else r + max (-(rate : Int)) (min (target - r) rate)

/-- The generator's sample in a tick, and whether its conversion saturated (07 R199, R200). -/
def genTarget (s : State) (n : Nat) : Int × Bool :=
  let c := chan s n
  let cfg := rd s (chA n R.genCfg)
  let g := if bit cfg 0 then c.dds.last else sgn c.gen.last
  let p := forcedPath (modeNow s n)
  let ref := match p with | .v => fld cfg 1 3 | .i => 8 + fld cfg 5 3
  let x := rescale g (fsOf s n ref) (fsOf s n (slotNow s n p))
  (sat32 x, sat32 x != x)

/-! ### Selection and output (R105, R107) -/

/-- The output of the selector: compliance is picked where it lies strictly beyond the primary output (02 R58); of two equal
outputs the primary counts as picked, which R105 leaves open (log entry 87). -/
def selectOut (upper : Bool) (uP uC : Int) : Int × Bool :=
  if upper then (if uC < uP then (uC, true) else (uP, false)) else (if uP < uC then (uC, true) else (uP, false))

/-- The 20-bit command of an output value (R105). -/
def cmdOf (u : Int) : Int := sat 20 (rneDiv u (2 ^ 12))

end Sys2Proof.Machine
end

