-- ==== Sys2Proof/Machine/Gen.lean ====
section
/-! DEFINITION. The waveform generator: descriptors, the segment player with its ring, jumps, rewind marks and underruns,
and the DDS (07). -/

namespace Sys2Proof.Machine

/-! ### Descriptors (R201 to R204) -/

/-- Address of a word of generator descriptor d. -/
def gdA (n d off : Nat) : Nat := chA n (R.gd + 16 * d + off)

/-- Byte offset of a descriptor's segment in the DDR5 window. -/
def gdAddr (s : State) (n d : Nat) : Nat := gf s (gdA n d 0) 6 26 * 64 + gf s (gdA n d 4) 0 4 * 2 ^ 32

/-- LEN, in granules. -/
def gdLen (s : State) (n d : Nat) : Nat := gf s (gdA n d 8) 0 25

/-- VALID. -/
def gdValid (s : State) (n d : Nat) : Bool := gb s (gdA n d 12) 31

/-- Fitted DDR5 in bytes (11 R286). -/
def memSize (s : State) : Nat := 2 ^ (gf s R.memCfg 3 3) * 2 ^ 30

/-- READY of the DDR5 controller (11 R287). -/
def memReady (s : State) : Bool := gb s R.memStat 0

/-- Descriptors of a channel that are active: playing or primed, committed as next, or the target of an armed JUMP_NOW
(R203). -/
def activeDescs (s : State) (n : Nat) : List Nat :=
  let g := (chan s n).gen
  g.cur.toList ++ g.nxt.toList ++ (g.now_.map (·.1)).toList

/-- A rejection of the generator: CMD_REJ and REJ_CNT (R221). -/
def genReject (n : Nat) (s : State) : State := reject (chA n R.genStat) 13 (chA n R.genCnt) 16 8 s

/-- A rejection of the DDS (R221). -/
def ddsReject (n : Nat) (s : State) : State := reject (chA n R.ddsStat) 2 (chA n R.genCnt) 16 8 s

/-- Change the player. -/
def updGen (n : Nat) (f : Player → Player) (s : State) : State := updChan n (fun c => { c with gen := f c.gen }) s

/-- The check of a write of word +0xC that sets VALID (R202). -/
def gdCheck (s : State) (n d : Nat) : Bool :=
  let l := gdLen s n d
  decide (4 ≤ l) && decide (l ≤ 2 ^ 24) && decide (gdAddr s n d + 64 * l ≤ memSize s)

/-! ### The ring and its refill (R205) -/

/-- Samples in a play of a descriptor. -/
def playLen (s : State) (n d : Nat) : Nat := 16 * gdLen s n d

/-- The sample of count c was in the ring at core cycle 0 of the tick and can be read (R214). -/
def inRing (g : Player) (c : Nat) : Bool := decide (c < g.seen) && !g.bad.contains (c / 16 * 16)

/-- The burst of the sample of count c has been written as failed (R214). -/
def burstFailed (g : Player) (c : Nat) : Bool := decide (c < g.w) && g.bad.contains (c / 16 * 16)

/-- The burst of the sample due in this tick has failed (R214). -/
def dueFailed (s : State) (g : Player) : Bool := burstFailed g g.r || g.badAt == some s.now

/-- The next granule the refill may copy: its sample count and its byte offset, of the play in progress, of the play
committed as next, or of a JUMP_NOW's target; limited by the ring and by a mark (R205, R210). -/
def nextGranule (s : State) (n : Nat) : Option (Nat × Nat) :=
  let g := (chan s n).gen
  match g.cur with
  | none => none
  | some d =>
    let base := g.r - g.idx
    let stop := base + playLen s n d
    let room := decide (g.req + 16 ≤ g.r + 8192) && (match g.mark with | some m => decide (g.req + 16 ≤ m + 8192) | none => true)
    if !room then none
    else match g.now_ with
      | some (t, b) =>
        if g.req < b then some (g.req, gdAddr s n d + 4 * (g.req - base))
        else if g.req - b < playLen s n t then some (g.req, gdAddr s n t + 4 * (g.req - b)) else none
      | none =>
        if g.req < stop then some (g.req, gdAddr s n d + 4 * (g.req - base))
        else match g.nxt with
          | some e => if g.req - stop < playLen s n e then some (g.req, gdAddr s n e + 4 * (g.req - stop)) else none
          | none => none

/-- The refill stands still only because of the mark (R205). -/
def markStall (s : State) (n : Nat) : Bool :=
  let g := (chan s n).gen
  (nextGranule s n).isNone && (nextGranule (updGen n (fun g => { g with mark := none }) s) n).isSome && g.mark.isSome

/-- The queue of a port. -/
def portQ (s : State) (p : Nat) : List Req := Map.get [] s.arb.queues p

/-- Replace the queue of a port; AGE returns to 0 when it empties (R294). -/
def setPortQ (p : Nat) (q : List Req) (s : State) : State :=
  let s := { s with arb := { s.arb with queues := Map.put [] s.arb.queues p q } }
  if q.isEmpty && decide (gf s (R.arbStat + 4 * p) 0 6 ≠ 0) then sf (R.arbStat + 4 * p) 0 6 0 s else s

/-- The queued requests of a port, changed or dropped in place (R296). Where the port holds the grant, the request at the head of its
queue has been selected for issue: that it is withdrawn is counted, and the grant goes on with the next. -/
def mapPortQ (p : Nat) (f : Req → Option Req) (s : State) : State :=
  let sel := (s.arb.grant.any (fun g => g.1 == p)) && ((portQ s p).head?.any (fun r => (f r).isNone))
  whenB sel (bump (R.arbStat + 4 * p) 24 8) s |> setPortQ p ((portQ s p).filterMap f)

/-- The refill requests of a channel's generator that still wait, changed or dropped; one that has been issued, or has returned, keeps
its way, and its samples are thrown away where it is not changed. -/
def mapGenReqs (n : Nat) (f : Req → Option Req) (s : State) : State :=
  let keep : Req → Option Req := fun r => match r.who with | .gen m _ _ => if m = n then f r else some r | _ => some r
  let s := mapPortQ 4 keep s
  { s with arb := { s.arb with issued := s.arb.issued.map (fun x => { x with req := (keep x.req).getD x.req }),
                               inbox := s.arb.inbox.map (fun x => ((keep x.1).getD x.1, x.2)) } }

/-- A granule's samples enter the ring (R205); a failing burst marks its granule bad (R214). -/
def ringWrite (n first : Nat) (data : Option (List Byte)) (s : State) : State :=
  updGen n (fun g =>
    match data with
    | none => { g with w := max g.w (first + 16), bad := first :: g.bad }
    | some bs =>
      { g with
        w := max g.w (first + 16),
        ring := (List.range 16).foldl
          (fun m i => Map.put 0 m ((first + i) % 8192) (BitVec.ofNat 32 (leVal ((bs.drop (4 * i)).take 4)))) g.ring }) s

/-! ### Commands and their landing (R209 to R213) -/

/-- The player will run once the commands accepted in this tick have landed, a STOP apart. -/
def runAhead (s : State) (n : Nat) : Bool :=
  (chan s n).gen.run || (chan s n).shadow.any (fun w => match w with | .genStart _ => true | _ => false)

/-- PRIME or START is refused (R209). -/
def startRefused (s : State) (n d : Nat) : Bool := !gdValid s n d || runAhead s n

/-- JUMP or JUMP_NOW is refused (R209). -/
def jumpRefused (s : State) (n d : Nat) : Bool := !gdValid s n d || !runAhead s n

/-- The replay has reached the resume sample (R213). -/
def replayDue (s : State) (n : Nat) : Bool :=
  let g := (chan s n).gen
  g.run && !g.done && g.replay == some g.r

/-- A replay runs in this tick (R213). -/
def replaying (s : State) (n : Nat) : Bool := (chan s n).gen.replay.isSome && !replayDue s n

/-- MARK is refused (R212). -/
def markRefused (s : State) (n : Nat) : Bool := !runAhead s n || replaying s n

/-- REWIND is refused: no mark is set (R213). -/
def rewindRefused (s : State) (n : Nat) : Bool :=
  (chan s n).gen.mark.isNone && (chan s n).shadow.all (fun w => match w with | .genMark _ => false | _ => true)

/-- Accept a generator command into the shadow set, or reject it. -/
def genAccept (n : Nat) (refused : Bool) (w : FW) (s : State) : State :=
  if refused then genReject n s else updChan n (fun c => { c with shadow := c.shadow ++ [w] }) s

/-- The player stops: descriptors become inactive, ring, mark and pending jump are discarded, the output holds (R209). -/
def genStop (n : Nat) (s : State) : State :=
  mapGenReqs n (fun _ => none) s
    |> updGen n (fun g => { epoch := g.epoch + 1, last := g.last, done := g.done, pos := g.pos, gapDue := g.gapDue })

/-- PRIME lands (R209). -/
def landPrime (n d : Nat) (s : State) : State :=
  if gdValid s n d && !(chan s n).gen.run then
    genStop n s |> updGen n (fun g => { g with cur := some d })
  else genReject n s

/-- START lands (R209): an unprimed generator is primed first. -/
def landStart (n d : Nat) (s : State) : State :=
  let g := (chan s n).gen
  if g.run || (g.cur.isNone && !gdValid s n d) then genReject n s
  else
    let s := if g.cur.isNone then landPrime n d s else s
    updGen n (fun g => { g with run := true }) s

/-- JUMP lands (R208). -/
def landJump (n d : Nat) (s : State) : State :=
  if (chan s n).gen.run && gdValid s n d then updGen n (fun g => { g with pend := some d }) s else genReject n s

/-- An armed JUMP_NOW is at its boundary (R210), in a tick after that of its landing: no replay runs and the sample due is the first it
replaces. -/
def boundaryDue (s : State) (n : Nat) : Bool :=
  let g := (chan s n).gen
  g.run && !g.done && g.replay.isNone && decide (g.nowAt < s.now) && (match g.now_ with | some (_, b) => g.r == b | none => false)

/-- The target replaces the interrupted play (R210). -/
def jumpNow (n : Nat) (s : State) : State :=
  updGen n (fun g => match g.now_ with
    | some (d, _) => { g with plays := if g.cur = some d then g.plays + 1 else 0, cur := some d, now_ := none, idx := 0 }
    | none => g) s

/-- The boundary of a JUMP_NOW that lands in this tick, as a sample count (R210): the first granule start played strictly
after this tick, or the end of the play. A replay that ends in this tick plays the sample due. -/
def jumpBoundary (s : State) (n : Nat) : Nat :=
  let g := (chan s n).gen
  let base := g.r - g.idx
  let here := if (g.replay.isSome && g.replay != some g.r) || !inRing g g.r then g.idx else g.idx + 1
  let b := (here + 15) / 16 * 16
  base + min b (playLen s n (g.cur.getD 0))

/-- Normal playback resumes (R213). -/
def replayOver (n : Nat) (s : State) : State := updGen n (fun g => { g with replay := none }) s

/-- What precedes the sample of a tick: the end of a replay and the boundary of an armed JUMP_NOW (R210, R213). -/
def tickTurns (n : Nat) (s : State) : State :=
  let s := if replayDue s n then replayOver n s else s
  if boundaryDue s n then jumpNow n s else s

/-- JUMP_NOW lands (R210). One that is at its boundary in this tick takes effect first, also as a replay ends in it. -/
def landJumpNow (n d : Nat) (s : State) : State :=
  if !(chan s n).gen.run || !gdValid s n d then genReject n s
  else
    let s := tickTurns n s
    let b := jumpBoundary s n
    let ep := (chan s n).gen.epoch + 1
    mapGenReqs n (fun r => match r.who with
        | .gen m _ f => if f < b then some { r with who := .gen m ep f } else none
        | _ => some r) s
      |> updGen n (fun g => { g with nxt := none, pend := none, now_ := some (d, b), nowAt := s.now, epoch := ep, w := min g.w b
                                     badAt := if dueFailed s g then some s.now else none
                                     seen := min g.seen b, req := min g.req b, bad := g.bad.filter (· < b) })

/-- A mark is set on a sample: requests that would take W beyond 8,192 samples from it are withdrawn, to be made again when the mark
allows them (R205). -/
def setMark (n m : Nat) (s : State) : State :=
  let lim := m + 8192
  mapGenReqs n (fun r => match r.who with
      | .gen _ _ first => if first + 16 ≤ lim then some r else none
      | _ => some r) s
    |> updGen n (fun g => { g with mark := some m, req := min g.req (lim / 16 * 16) })

/-- The granule fits within the 8,192 samples from a mark (R205). -/
def underMark (g : Player) (first : Nat) : Bool := match g.mark with | some m => decide (first + 16 ≤ m + 8192) | none => true

/-- MARK lands (R212): it needs its sample to be held in the ring still, which keeps the 8,192 latest that were written. -/
def landMark (n back : Nat) (s : State) : State :=
  let g := (chan s n).gen
  if !g.run || replaying s n then genReject n s
  else
    -- samples played, with that of this tick where one plays
    let r := if inRing g g.r then g.r + 1 else g.r
    if back < r ∧ g.w ≤ r - 1 - back + 8192 then setMark n (r - 1 - back) s
    else reject (chA n R.genStat) 8 (chA n R.genCnt) 24 8 s

/-- REWIND lands (R213). -/
def landRewind (n : Nat) (s : State) : State :=
  match (chan s n).gen.mark with
  | some m => if (chan s n).gen.run then updGen n (fun g => { g with replay := some m }) s else genReject n s
  | none => genReject n s

/-! ### Playing (R200, R206, R210, R213, R214) -/

/-- The tick's sample of a running player: it plays, or the output holds under an underrun (R200, R214). -/
def playSample (s : State) (n : Nat) (g : Player) : Player :=
  match g.replay with
  | some p => { g with done := true, last := Map.get 0 g.ring (p % 8192), replay := some (p + 1) }
  | none =>
    if inRing g g.r then
      let len := playLen s n (g.cur.getD 0)
      { g with done := true, last := Map.get 0 g.ring (g.r % 8192), pos := g.idx, r := g.r + 1, idx := g.idx + 1,
               commitDue := decide (g.idx + 16 = len), endDue := decide (g.idx + 1 = len),
               hold := none, gapDue := g.hold }
    else
      match g.hold with
      -- a burst that fails while the output holds ends the hold (R214)
      | some h => { g with done := true, hold := some (h + 1), underDue := dueFailed s g }
      | none => { g with done := true, hold := some 1, underDue := true }

/-- Produce a channel's generator sample of this tick, once. -/
def ensurePlayed (n : Nat) (s : State) : State :=
  let s := tickTurns n s
  let g := (chan s n).gen
  if g.done || !g.run then s
  else
    let s := updGen n (playSample s n) s
    if (chan s n).gen.hold.isSome then count 0x0C n s else s

/-- A running player has still to play its sample of this tick. -/
def playPending (s : State) (n : Nat) : Bool := (chan s n).gen.run && !(chan s n).gen.done

/-- The descriptor that follows the play in progress (R206), be it valid or not. While a JUMP_NOW is armed nothing is committed: its
target follows (R203, R210). -/
def nextDesc (s : State) (n : Nat) : Option Nat :=
  let g := (chan s n).gen
  let d := g.cur.getD 0
  let w := rd s (gdA n d 12)
  if g.now_.isSome then none
  else if g.pend.isSome then g.pend
  else if bit w 28 ∨ g.plays < fld w 0 16 then some d
  else if bit w 29 then none
  else some (fld w 16 10)

/-- The commit decision (R206, R207, R208). -/
def commitNext (n : Nat) (s : State) : State :=
  match nextDesc s n with
  | none => updGen n (fun g => { g with commitDue := false }) s
  | some e =>
    if gdValid s n e then updGen n (fun g => { g with commitDue := false, nxt := some e, pend := none }) s
    else updGen n (fun g => { g with commitDue := false, pend := none }) s |> flag (chA n R.genStat) 10

/-- The last sample of a play plays (R206): from the next tick the committed play follows, or the target of an armed JUMP_NOW, or the
player stops. -/
def playOver (n : Nat) (s : State) : State :=
  let g := (chan s n).gen
  let s := updGen n (fun g => { g with endDue := false, turn := g.now_.isNone && g.nxt.isSome }) s
  if g.now_.isSome || g.nxt.isSome then s else updGen n (fun g => { g with stopDue := true }) s |> flag (chA n R.genStat) 12

/-- The player at core cycle 0 of a new tick, before commands land: the ring as it stands, and the committed play after one that has
ended. -/
def genBegin (n : Nat) (s : State) : State :=
  let g := (chan s n).gen
  if !g.done && !g.turn && g.seen == g.w then s
  else
    updGen n (fun g =>
      let g := { g with done := false, seen := g.w }
      if g.turn then { g with turn := false, plays := if g.cur = g.nxt then g.plays + 1 else 0, cur := g.nxt, nxt := none, idx := 0 }
      else g) s

/-- The player's tick edge: a stop that is due. -/
def genEdge (n : Nat) (s : State) : State := if (chan s n).gen.stopDue then genStop n s else s

/-- The channel with its player as this tick leaves it: its sample played, and the commit of this tick made. -/
def genView (n : Nat) (s : State) : State :=
  let s := ensurePlayed n s
  if (chan s n).gen.commitDue then commitNext n s else s

/-! ### Writes that touch active descriptors and segments (R202 to R204) -/

/-- Descriptors that are active in this tick: a commit of the tick counts from its start, and a play that ends until its end
(R203, R204). -/
def liveDescs (s : State) (n : Nat) : List Nat := activeDescs (genView n s) n

/-- A write of a descriptor word touches an active descriptor, or makes valid the one whose commit is still to be decided in this tick
(R204): in the latter case too the commit and the write fall in one tick. -/
def gdHeld (s : State) (n d off : Nat) (w : Word) : Bool :=
  let t := ensurePlayed n s
  (liveDescs s n).contains d ||
    (off == 12 && bit w 31 && gdCheck s n d && (chan t n).gen.commitDue && nextDesc t n == some d)

/-- Two byte ranges meet. -/
def meets (a la b lb : Nat) : Bool := decide (a < b + lb) && decide (b < a + la) && decide (0 < la)

/-- The channels one of whose active segments meets a byte range of DDR5 (R204). -/
def segHit (s : State) (o len : Nat) : List Nat :=
  (chans s).filter (fun n => (liveDescs s n).any (fun d => meets o len (gdAddr s n d) (64 * gdLen s n d)))

/-- Whether a write of a descriptor word is refused: it is active (R204), or it sets VALID and fails its check (R202). -/
def gdRefuses (s : State) (n d off : Nat) (w : Word) : Bool :=
  gdHeld s n d off w || (off == 12 && bit w 31 && !gdCheck s n d)

/-- A write of a descriptor word (R202, R204). -/
def gdWrite (n d off : Nat) (w : Word) (s : State) : State :=
  if gdHeld s n d off w then flag (chA n R.genStat) 9 s |> bump (chA n R.genCnt) 16 8
  else if off = 12 ∧ bit w 31 ∧ ¬ gdCheck s n d then genReject n s
  else
    let m : Word := if off = 0 then 0xFFFFFFC0 else if off = 4 then 0xF else if off = 8 then 0x1FFFFFF else 0xB3FFFFFF
    wr (gdA n d off) (w &&& m) s

/-! ### The DDS (R216 to R220) -/

/-- Sine of f/2^46 of a quarter turn, as a fraction of 2^60, by its series. -/
def sinQuarter (f : Nat) : Int :=
  let q : Int := 2 ^ 60
  -- pi/2 * f / 2^46, scaled by 2^60
  let x : Int := ((1811004864519280710 * f / 2 ^ 46 : Nat) : Int)
  let x2 : Int := x * x / q
  let t1 := q - x2 / 210
  let t2 := q - x2 * t1 / q / 156
  let t3 := q - x2 * t2 / q / 110
  let t4 := q - x2 * t3 / q / 72
  let t5 := q - x2 * t4 / q / 42
  let t6 := q - x2 * t5 / q / 20
  x * (q - x2 * t6 / q / 6) / q

/-- sin(2 pi acc / 2^48) * (2^31 - 1), by symmetry from the first quarter, without the free error. -/
def sineBase (acc : Nat) : Int :=
  let q := acc / 2 ^ 46 % 4
  let f := acc % 2 ^ 46
  let g := if q % 2 = 0 then f else 2 ^ 46 - f
  let v := rneDiv (sinQuarter g * (2 ^ 31 - 1)) (2 ^ 60)
  if q < 2 then v else -v

/-- The table value at a phase (R218). -/
def ddsValue (s : State) (n acc : Nat) : Int :=
  let u := acc / 2 ^ 16
  match gf s (chA n R.ddsCfg) 0 2 with
  | 0 => max (-(2 ^ 31 - 1)) (min (2 ^ 31 - 1) (sineBase acc + max (-255) (min 255 (Config.sineError acc))))
  | 1 =>
    let k : Nat := if u < 2 ^ 31 then u else 2 ^ 32 - u
    rneDiv (2 * (2 ^ 31 - 1) * (k : Int)) (2 ^ 31) - (2 ^ 31 - 1)
  | 2 => if acc / 2 ^ 47 % 2 = 0 then 2 ^ 31 - 1 else -(2 ^ 31 - 1)
  | _ => sgn (rd s (chA n (R.ddsTab + 4 * (acc / 2 ^ 38))))

/-- The committed frequency word. -/
def ddsFtw (s : State) (n : Nat) : Nat := (rd s (chA n R.ddsFtwLo)).toNat + gf s (chA n R.ddsFtwHi) 0 16 * 2 ^ 32

/-- Change the DDS. -/
def updDds (n : Nat) (f : Dds → Dds) (s : State) : State := updChan n (fun c => { c with dds := f c.dds }) s

/-- The DDS steps into a tick and forms its sample (R216 to R218). -/
def ddsEdge (n : Nat) (s : State) : State :=
  let d := (chan s n).dds
  if !d.run && !d.reset then s
  else
    let acc := if d.reset then (rd s (chA n R.ddsPhase0)).toNat * 2 ^ 16 else (d.acc + ddsFtw s n) % 2 ^ 48
    let x := rneDiv (ddsValue s n acc * sfld (rd s (chA n R.ddsAmp)) 0 16) (2 ^ 15) + sgn (rd s (chA n R.ddsOfs))
    let s := updDds n (fun e => { e with acc, reset := false, last := if e.run then sat32 x else e.last }) s
    if d.run && sat32 x != x then flag (chA n R.ddsStat) 1 s else s

/-- GO lands: a halted DDS starts with its accumulator reset (R217). -/
def landDdsGo (n : Nat) (s : State) : State := updDds n (fun d => { d with run := true, reset := d.reset || !d.run }) s

/-- HALT lands (R218). -/
def landDdsHalt (n : Nat) (s : State) : State := updDds n (fun d => { d with run := false }) s

/-- PHASE_RESET lands (R217). -/
def landDdsPhase (n : Nat) (s : State) : State := updDds n (fun d => { d with reset := true }) s

end Sys2Proof.Machine
end

