-- ==== Sys2Proof/Machine/Mem.lean ====
section
/-! DEFINITION. DDR5 with its lottery arbiter and the streams: queues, draws, grants, aging, bursts and their errors, heads,
spill rings and tails (11). -/

namespace Sys2Proof.Machine

/-! ### Arbiter queues (R291, R296) -/

/-- The port's queue has a free entry. -/
def portFree (s : State) (p : Nat) : Bool := decide ((portQ s p).length < 16)

/-- Queue a request; a requester whose port is full waits instead. -/
def enq (r : Req) (s : State) : State := if portFree s r.port then setPortQ r.port (portQ s r.port ++ [r]) s else s

/-- Some request of a requester is queued, issued or waiting with its data. -/
def outstanding (s : State) (p : Nat) (who : Who → Bool) : Bool :=
  (portQ s p).any (fun r => who r.who) || s.arb.issued.any (fun x => !x.dead && x.req.port == p && who x.req.who) ||
    s.arb.inbox.any (fun e => e.1.port == p && who e.1.who)

/-- Withdraw the queued requests of a requester (R296); of those in flight the data goes nowhere. -/
def withdraw (p : Nat) (who : Who → Bool) (s : State) : State :=
  let s := mapPortQ p (fun r => if who r.who then none else some r) s
  { s with arb := { s.arb with issued := s.arb.issued.map (fun x => if x.req.port == p && who x.req.who then { x with dead := true } else x)
                               inbox := s.arb.inbox.filter (fun e => !(e.1.port == p && who e.1.who)) } }

/-- Effective tickets of a port (R291). -/
def tickets (s : State) (p : Nat) : Nat :=
  let t := gf s (R.arbTkt0 + 4 * p) 0 8
  if p = 2 ∨ p = 10 then max t 16 else t

/-- AGE of a port. -/
def ageOf (s : State) (p : Nat) : Nat := gf s (R.arbStat + 4 * p) 0 6

/-- The Galois step of the arbiter's LFSR, x^32 + x^22 + x^2 + x + 1 (R292; log entry 10). -/
def lfsrStep (w : Word) : Word :=
  if bit w 0 then BitVec.ofNat 32 (Nat.xor (w.toNat / 2) 0x80200003) else BitVec.ofNat 32 (w.toNat / 2)

/-- The ports whose queues hold a request. -/
def eligible (s : State) : List Nat := (List.range 12).filter (fun p => !(portQ s p).isEmpty)

/-- The winner of a pick among the eligible ports. -/
def pickPort (s : State) : List Nat → Nat → Option Nat
  | [], _ => none
  | p :: t, k => if k < tickets s p then some p else pickPort s t (k - tickets s p)

/-- A draw is made (R292). -/
def drawDue (s : State) : Bool :=
  memReady s && s.arb.grant.isNone && s.arb.due.isEmpty && !(eligible s).isEmpty

/-- A port is granted its bursts; its AGE returns to 0. -/
def grantTo (p : Nat) (aging : Bool) (s : State) : State :=
  let s := sf (R.arbStat + 4 * p) 0 6 0 s
  { s with arb := { s.arb with grant := some (p, gf s (R.arbTkt0 + 4 * p) 8 3 + 1), aging } }

/-- The ports whose AGE has reached 32 are collected for an aging grant (R294). -/
def collectAged (s : State) : State :=
  if s.arb.due.isEmpty then
    { s with arb := { s.arb with due := (List.range 12).filter (fun p => decide (32 ≤ ageOf s p)) } } else s

/-- The draw (R292, R294). A draw without a winner is over at once: a parked port that has lost its 32nd draw to it is served before
the next, as R298 and R310 want (log entry 95). -/
def draw (s : State) : State :=
  let lf := if s.arb.seedNew then rd s R.arbSeed else s.arb.lfsr
  let el := eligible s
  let t := (el.map (tickets s)).sum
  let win := if t = 0 then none else pickPort s el (lf.toNat * t / 2 ^ 32)
  let s := { s with arb := { s.arb with lfsr := lfsrStep lf, seedNew := false } }
  let s := each (fun p s => if win = some p then s
                            else sf (R.arbStat + 4 * p) 0 6 (min 32 (ageOf s p + 1)) s |> count 0x12 p) el s
  match win with
  | some p => grantTo p false s |> count 0x10 p
  | none => collectAged s

/-- An aging grant is due (R294). -/
def agingDue (s : State) : Bool := memReady s && s.arb.grant.isNone && !s.arb.due.isEmpty

/-- The next aging grant (R294). -/
def agingGrant (s : State) : State :=
  match s.arb.due with
  | [] => s
  | p :: t =>
    let s := { s with arb := { s.arb with due := t } }
    if (portQ s p).isEmpty then s
    else grantTo p true s |> bump (R.arbStat + 4 * p) 16 8 |> count 0x13 p

/-- A burst is issued (R293). -/
def issueDue (s : State) : Bool := memReady s && s.arb.grant.isSome

/-- The grant has ended (R294). -/
def grantEnd (s : State) : State := collectAged { s with arb := { s.arb with grant := none, aging := false } }

/-- Whether a burst lies in the fitted DDR5 (R286). -/
def inFitted (s : State) (o : Nat) : Bool := decide (o + 64 ≤ memSize s)

/-- Bytes of a list of items. -/
def itemBytes (l : List (List Byte)) : Nat := (l.map List.length).sum

/-- The items a stream holds, oldest first. -/
def strItems (t : Stream) : List (List Byte) := t.tail ++ t.ring ++ t.head

/-- STR_CFG.EN. -/
def strEn (s : State) (k : Nat) : Bool := gb s (stA k R.strCfg) 0

/-- POLICY is DROP_NEW. -/
def strDropNew (s : State) (k : Nat) : Bool := gb s (stA k R.strCfg) 2

/-- Bytes of the spill ring. -/
def ringSize (s : State) (k : Nat) : Nat := 2 ^ (gf s (stA k R.strCfg) 3 5)

/-- Offset of the spill ring in DDR5. -/
def ringBase (s : State) (k : Nat) : Nat := gf s (stA k R.spillBaseLo) 20 12 * 2 ^ 20 + gf s (stA k R.spillBaseHi) 0 4 * 2 ^ 32

/-- The head has room for an item (R301). -/
def headRoom (s : State) (k len : Nat) : Bool := decide (itemBytes (strm s k).head + len ≤ 16384)

/-- Bytes placed in the ring from a position, wrapping at its size. -/
def ringRun (base size pos : Nat) : List Byte → List (Nat × Byte)
  | [] => []
  | b :: t => (base + pos % size, b) :: ringRun base size (pos + 1) t

/-- Where the j-th spill burst from a position on begins: bursts end at the ring's 64-byte lines. -/
def lineFrom (p j : Nat) : Nat := if j = 0 then p else (p / 64 + j) * 64

/-- Bytes of a stream that spill bursts have written and whose items they have not moved yet. -/
def spilled (s : State) (k : Nat) : Nat :=
  ((s.arb.inbox.filter (fun e => e.1.who == .spill k)).map (fun e => (e.2.getD []).length)).sum

/-- The first byte of a stream, by its place in the ring, that no spill burst has written. -/
def spillFrom (s : State) (k : Nat) : Nat := (strm s k).wpos + (strm s k).scred + spilled s k

/-- Offset of the burst that holds a place of the ring. -/
def ringLine (s : State) (k p : Nat) : Nat := ringBase s k + p / 64 * 64 % ringSize s k

/-- What a granted spill burst of a stream writes at its offset: the bytes of the head from the first one not yet written, up to the
end of a line of the ring; nothing, where that line is not its own. -/
def spillData (s : State) (k o : Nat) : List (Nat × Byte) :=
  let t := strm s k
  let p := spillFrom s k
  if ringLine s k p = o then ringRun (ringBase s k) (ringSize s k) p ((t.head.flatten.drop (p - t.wpos)).take (lineFrom p 1 - p)) else []

/-- The bytes a write request puts into DDR5 when it is issued. -/
def writeData (s : State) (r : Req) : List (Nat × Byte) :=
  match r.who with
  | .hostWr =>
    match s.hostJobs.find? (fun j => j.write && j.waiting.contains r.offset) with
    | some j => (memRun j.off j.data).filter (fun p => decide (r.offset ≤ p.1) && decide (p.1 < r.offset + 64))
    | none => []
  | .spill k => spillData s k r.offset
  | .rcBackup n i =>
    let t := (chan s n).rc.tab
    let p := max 1 (gf s (chA n R.rcCfg) 0 14)
    (List.range (min 16 (p - i))).flatMap (fun k => memRun (r.offset + 4 * k) (wBytes (Map.get 0 t (i + k))))
  | .log i =>
    -- four consecutive records from the on-die copy (13 R366)
    (List.range 16).flatMap (fun k => memRun (r.offset + 4 * k) (wBytes (rd s (R.flog + 16 * (i % 256 / 4 * 4) + 4 * k))))
  | _ => []

/-- The bytes a read request finds in DDR5 as it is issued (R297): of a refill, those of its line that have been written. -/
def readData (s : State) (r : Req) : List Byte :=
  match r.who with
  | .refill k b => Memory.bytes s.ddr r.offset (min 64 ((strm s k).wpos - 64 * b))
  | _ => Memory.bytes s.ddr r.offset 64

/-- A write that covers its whole burst ends a double-bit error of it (R288). -/
def rewrite (o : Nat) (out : List (Nat × Byte)) (s : State) : State :=
  if out.length < 64 then s
  else
    { s with badBursts := s.badBursts.filter (· != o)
             arb := { s.arb with issued := s.arb.issued.map (fun x => if x.req.offset = o then { x with rewritten := true } else x) } }

/-- The head of the granted port's queue is issued (R293): a write reaches DDR5 and a read takes what DDR5 holds, so that the bursts of
one address are performed in the order of their grants (R297); a burst beyond the fitted DDR5 is answered with an error
indication at once (R286). -/
def issueBurst (s : State) : State × List (Nat × Byte) :=
  match s.arb.grant with
  | none => (s, [])
  | some (p, k) =>
    match portQ s p with
    | [] => (grantEnd s, [])
    | r :: t =>
      let out := if inFitted s r.offset && r.write then writeData s r else []
      let got : Flight := { req := r, data := readData s r, bad := s.badBursts.contains r.offset }
      let s := setPortQ p t s
      let s := { s with arb := { s.arb with grant := some (p, k - 1) } }
      let s :=
        if !inFitted s r.offset then { s with arb := { s.arb with inbox := s.arb.inbox ++ [(r, none)] } }
        else if r.write then rewrite r.offset out { s with arb := { s.arb with inbox := s.arb.inbox ++ [(r, some (out.map (·.2)))] } }
        else { s with arb := { s.arb with issued := s.arb.issued ++ [got] } }
      let s := whenB (inFitted s r.offset) (count 0x11 p) s
      (if k ≤ 1 ∨ t.isEmpty then grantEnd s else s, out)

/-! ### Read errors (R288) -/

/-- The channel a read was made for, for INFO of the memory faults. -/
def reqChan : Who → Option Nat
  | .gen n _ _ | .list n _ _ | .calLd n _ | .rcBackup n _ | .rcRestore n _ => some n
  | .spill k | .refill k _ => if k < 32 then some k else none
  | _ => none

/-- INFO of MEM_ECC1 and MEM_ECC2 (13 R355). -/
def eccInfo (r : Req) (addr : Bool) : Nat :=
  r.port + (if r.who = .scrub then 16 else 0) +
    (match reqChan r.who with | some n => n * 32 + 1024 | none => 0) + (if addr then 2048 else 0)

/-- A corrected read error. -/
def ecc1 (r : Req) (s : State) : State :=
  flag R.memStat 2 s |> bump R.memEcc 0 16 |> sendMsgAux 3 0x21 (r.offset / 4096) (eccInfo r false) r.offset

/-- An uncorrectable read error. -/
def ecc2 (r : Req) (addr : Bool) (s : State) : State :=
  (if addr then flag R.memStat 4 s |> bump R.memEcc 24 8 else flag R.memStat 3 s |> bump R.memEcc 16 8)
    |> wr64 R.memErrAddrLo (r.offset / 64 * 64)
    |> sendMsgAux 3 0x22 (r.offset / 4096) (eccInfo r addr) r.offset

/-- The flight of a request. -/
def flightOf (s : State) (r : Req) : Option Flight := s.arb.issued.find? (fun x => x.req == r)

/-- What a read burst finds: a burst with a standing double-bit error shows it again (R288). -/
def effResult (s : State) (x : Flight) (res : BurstResult) : BurstResult :=
  if res = .addr then .addr else if x.bad || s.badBursts.contains x.req.offset then .double else res

/-- The errors of a read burst are reported (R288), whether its requester still waits or not. -/
def reportRead (x : Flight) (res : BurstResult) (s : State) : State :=
  let r := x.req
  match res with
  | .clean => s
  | .single => ecc1 r s
  | .double =>
    ecc2 r false (if x.rewritten || s.badBursts.contains r.offset then s else { s with badBursts := s.badBursts ++ [r.offset] })
  | .addr => ecc2 r true s

/-- A read burst's data returns, or its error is reported (R288); the requester finds it in the inbox. -/
def completeBurst (r : Req) (res : BurstResult) (s : State) : State :=
  match flightOf s r with
  | none => s
  | some x =>
    let eff := effResult s x res
    let s := reportRead x eff { s with arb := { s.arb with issued := s.arb.issued.erase x } }
    let data := if eff = .clean ∨ eff = .single then some x.data else none
    if x.dead then s else { s with arb := { s.arb with inbox := s.arb.inbox ++ [(r, data)] } }

/-- Take the first inbox entry of a requester. -/
def fromInbox (s : State) (p : Nat) (who : Who → Bool) : Option (Req × Option (List Byte)) :=
  s.arb.inbox.find? (fun e => e.1.port == p && who e.1.who)

/-- Remove an inbox entry. -/
def dropInbox (e : Req × Option (List Byte)) (s : State) : State :=
  { s with arb := { s.arb with inbox := s.arb.inbox.erase e } }

/-! ### Streams (R300 to R309) -/

/-- Items move straight from the head to the tail while the ring is empty and the tail has room (R301). -/
def headToTail : List (List Byte) → List (List Byte) → List (List Byte) × List (List Byte)
  | [], tail => ([], tail)
  | it :: t, tail => if itemBytes tail + it.length ≤ 16384 then headToTail t (tail ++ [it]) else (it :: t, tail)

/-- The oldest read counts from now, and becomes due once the stream holds an item (R305, R306). -/
def readHead (k : Nat) (s : State) : State :=
  let some_ := !(strItems (strm s k)).isEmpty
  updStrm k (fun t => match t.reads with
    | r :: l => { t with reads := { r with oldest := some (r.oldest.getD s.now),
                                           due := if some_ then some (r.due.getD s.now) else none } :: l }
    | [] => t) s

/-- Let items flow inside the die: what spill bursts have written of an item that moves straight to the tail counts for nothing. -/
def flowStream (k : Nat) (s : State) : State :=
  let t := strm s k
  let r := headToTail t.head t.tail
  if !t.ring.isEmpty || r.1.length == t.head.length then s
  else
    updStrm k (fun t => { t with head := r.1, tail := r.2, scred := 0 })
      { s with arb := { s.arb with inbox := s.arb.inbox.filter (fun e => e.1.who != .spill k) } }

/-- An item is refused or discarded and counted. -/
def strDropItem (k : Nat) (s : State) : State :=
  flag (stA k R.strStat) 3 s |> bump (stA k R.strDrop) 0 32 |> count 0x1A k

/-- Offer an item (R302): whether the stream has done with it. Under BLOCK its producer keeps one that the head refuses; `never` marks
producers that never wait, for whom a refused item is lost (04 R145, 05 R169) and counts as an event (15 R405). That one refused under BLOCK is not in the stream's
own DROP_CNT is the model's choice (log entry 135). -/
def offer (k : Nat) (never : Bool) (it : List Byte) (s : State) : Bool × State :=
  if !strEn s k then (true, strDropItem k s)
  else if headRoom s k it.length then
    (true, updStrm k (fun t => { t with head := t.head ++ [it] }) s |> countBy 0x18 k it.length |> flowStream k |> readHead k)
  else
    let s := updStrm k (fun t => { t with fullNow := true }) s
    if strDropNew s k then (!never, strDropItem k s) else (false, whenB never (count 0x1A k) s)

/-- Where the next spill burst to ask for begins in the ring: after those that are queued. -/
def spillPos (s : State) (k : Nat) : Nat := lineFrom (spillFrom s k) ((portQ s 2).countP (fun r => r.who == .spill k))

/-- The head must write one more burst to the ring: items wait that the bursts asked for do not cover, and the ring has room
(R301). -/
def spillWanted (s : State) (k : Nat) : Bool :=
  let t := strm s k
  let p := spillPos s k
  decide (p < t.wpos + itemBytes t.head) && decide (lineFrom p 1 - t.rpos ≤ ringSize s k)

/-- Whole items that a number of written bytes covers, and the bytes left over. -/
def spillItems (cred : Nat) : List (List Byte) → Nat × List (List Byte) × List (List Byte)
  | [] => (0, [], [])
  | it :: t =>
    if it.length ≤ cred then
      let r := spillItems (cred - it.length) t
      (r.1, it :: r.2.1, r.2.2)
    else (cred, [], it :: t)

/-- A granted spill burst has written a number of bytes (R301): the items that are whole in the ring move there. -/
def spill (k len : Nat) (s : State) : State :=
  let t := strm s k
  let r := spillItems (t.scred + len) t.head
  updStrm k (fun t => { t with head := r.2.2, ring := t.ring ++ r.2.1, wpos := t.wpos + itemBytes r.2.1, scred := r.1 }) s
    |> flowStream k

/-- Items of the ring with their end positions, from the oldest on. -/
def ringEnds (pos : Nat) : List (List Byte) → List (Nat × Nat × List Byte)
  | [] => []
  | it :: t => (pos, pos + it.length, it) :: ringEnds (pos + it.length) t

/-- The request is a refill of the stream. -/
def isRefill (k : Nat) : Who → Bool
  | .refill j _ => j == k
  | _ => false

/-- The burst, counted from the ring's first byte, that the stream's next refill request names: the one at the refill position,
or the one after those already asked for. -/
def refillNext (s : State) (k : Nat) : Nat :=
  let asked (r : Req) : List Nat := match r.who with | .refill j b => if j = k then [b + 1] else [] | _ => []
  ((portQ s 3 ++ (s.arb.issued.filter (fun x => !x.dead)).map (·.req) ++ s.arb.inbox.map (·.1)).flatMap asked).foldl max ((strm s k).fpos / 64)

/-- The ring has bytes still to ask for and the tail has room for every item that the next burst touches or that comes before
it (R301). -/
def refillWanted (s : State) (k : Nat) : Bool :=
  let t := strm s k
  let b := refillNext s k
  let items := (ringEnds t.rpos t.ring).filter (fun x => decide (x.1 < 64 * b + 64))
  decide (64 * b < t.wpos) && decide (t.fpos < t.wpos) && decide (itemBytes t.tail + itemBytes (items.map (·.2.2)) ≤ 16384)

/-- Items cut out of the bytes that the ring has given back. -/
def cutOut (bs : List Byte) : List (List Byte) → List (List Byte) × List Byte
  | [] => ([], bs)
  | it :: t =>
    let r := cutOut (bs.drop it.length) t
    (bs.take it.length :: r.1, r.2)

/-- A refill burst of the line at the refill position returns (R301, R303): the items it completes move to the tail, as the ring gave
them back; a failing burst loses the items it touches. -/
def refill (k : Nat) (data : Option (List Byte)) (s : State) : State :=
  let t := strm s k
  let line := t.fpos / 64 * 64
  let e := match data with | some bs => line + bs.length | none => min (line + 64) t.wpos
  let items := ringEnds t.rpos t.ring
  let lost := if data.isSome then [] else items.filter (fun x => decide (x.1 < e) && decide (t.fpos < x.2.1))
  let kept := items.filter (fun x => !lost.contains x)
  let done := kept.takeWhile (fun x => decide (x.2.1 ≤ e))
  let rest := kept.drop done.length
  let rpos := match rest with | x :: _ => x.1 | [] => t.wpos
  let bytes := match data with | some bs => t.fbuf ++ bs.drop (t.fpos - line) | none => []
  let out := cutOut bytes (done.map (·.2.2))
  let s := updStrm k (fun t => { t with tail := t.tail ++ out.1, ring := rest.map (·.2.2), rpos, fpos := max e rpos,
                                        fbuf := if data.isSome then out.2 else [] }) s
  let s := if data.isSome then s else each (fun _ s => strDropItem k s) lost (flag (stA k R.strStat) 6 s)
  flowStream k s

/-- Discard everything a stream holds and withdraw its refills (R308). -/
def purgeItems (k : Nat) (s : State) : State :=
  withdraw 3 (isRefill k) s |> withdraw 2 (fun w => w == .spill k)
    |> updStrm k (fun t => { t with head := [], ring := [], tail := [], rpos := t.wpos, fpos := t.wpos, scred := 0, fbuf := [] })

/-- Post the spill bursts that the waiting items fill: as many as P2's queue takes. -/
def postSpills (k : Nat) : Nat → State → State
  | 0, s => s
  | fuel + 1, s =>
    if spillWanted s k && portFree s 2 then
      postSpills k fuel
        (enq { port := 2, offset := ringLine s k (spillPos s k), who := .spill k, write := true } s)
    else s

/-- Post the refill bursts that the tail has room for: as many as P3's queue takes. -/
def postRefills (k : Nat) : Nat → State → State
  | 0, s => s
  | fuel + 1, s =>
    let b := refillNext s k
    if refillWanted s k && portFree s 3 then
      postRefills k fuel
        (enq { port := 3, offset := ringLine s k (64 * b), who := .refill k b, write := false } s)
    else s

/-- Post the spill and refill requests a stream needs (R291, R301). -/
def postStream (k : Nat) (s : State) : State := postRefills k 16 (postSpills k 16 s)

end Sys2Proof.Machine
end

