-- ==== Sys2Proof/Machine/Super.lean ====
section
/-! DEFINITION. Loop supervision: the repetitive controller, the luff detector and the injection unit, as they run in a
tick and at its edge (04). -/

namespace Sys2Proof.Machine

/-- Change the repetitive controller. -/
def updRc (n : Nat) (f : Rc → Rc) (s : State) : State := updChan n (fun c => { c with rc := f c.rc }) s

/-- Change the luff detector. -/
def updLuff (n : Nat) (f : Luff → Luff) (s : State) : State := updChan n (fun c => { c with luff := f c.luff }) s

/-- Change the loop engine's memory of a channel. -/
def updLoop (n : Nat) (f : Loop → Loop) (s : State) : State := updChan n (fun c => { c with loop := f c.loop }) s

/-- RC_EN is committed and the unit is present (R123, R126). -/
def rcEn (s : State) (n : Nat) : Bool := hasRc s && gb s (chA n R.loopCfg) 8

/-- PTR. -/
def rcPtr (s : State) (n : Nat) : Nat := gf s (chA n R.rcStat) 0 13

/-- P. -/
def rcP (s : State) (n : Nat) : Nat := max 1 (gf s (chA n R.rcCfg) 0 14)

/-- D, ticks per entry. -/
def rcD (s : State) (n : Nat) : Nat := 2 ^ (gf s (chA n R.rcCfg) 16 4)

/-- The repetitive term of a tick (R126). -/
def rcTerm (s : State) (n : Nat) : Int :=
  if rcEn s n && isClosed (modeNow s n) then sgn (Map.get 0 (chan s n).rc.tab (rcPtr s n)) else 0

/-- A rejection of the repetitive controller (R125). -/
def rcReject (n : Nat) (s : State) : State := flag (chA n R.rcStat) 15 s

/-- The entry in progress has had its last tick. -/
def rcTurns (s : State) (n : Nat) : Bool := rcEn s n && decide (rcD s n ≤ (chan s n).rc.tick + 1)

/-- The pointer wraps of its own at the coming tick edge. -/
def rcWraps (s : State) (n : Nat) : Bool := rcTurns s n && decide (rcP s n ≤ rcPtr s n + 1)

/-- The pointer moves at a tick edge (R126). -/
def rcEdge (n : Nat) (s : State) : State :=
  if !rcEn s n then s
  else if !rcTurns s n then updRc n (fun r => { r with tick := r.tick + 1 }) s
  else
    sf (chA n R.rcStat) 0 13 (if rcWraps s n then 0 else rcPtr s n + 1) s
      |> updRc n (fun r => { r with tick := 0, esum := 0, valid := true })

/-- A wrap of its own while SYNC_EN is committed to 1, in a tick without the event, sets RESYNC (R129). -/
def rcResync (n : Nat) (s : State) : State :=
  let ctrl := rd s (chA n R.rcCtrl)
  if bit ctrl 1 && !s.asserting.contains (fld ctrl 2 6) then flag (chA n R.rcStat) 13 s else s

/-- LEARN is committed to 1 while a backup runs: BK_TORN sets (R131). -/
def rcTorn (n : Nat) (s : State) : State :=
  if (chan s n).rc.xfer.any (fun x => !x.1) && gb s (chA n R.rcCtrl) 0 then flag (chA n R.rcStat) 17 s else s

/-- The pointer returns to entry 0, which begins in this tick; an entry cut short is skipped (R128, R129). -/
def rcRestart (skip : Bool) (n : Nat) (s : State) : State :=
  let r := (chan s n).rc
  let s := if skip && decide (r.tick ≠ 0) then bump (chA n R.rcStat) 24 8 s else s
  sf (chA n R.rcStat) 0 13 0 s
    |> updRc n (fun r => { r with tick := 0, esum := 0, valid := true, endDue := false })

/-- A line asserts that synchronises the period (R129). -/
def rcSync (e n : Nat) (s : State) : State :=
  let ctrl := rd s (chA n R.rcCtrl)
  if rcEn s n && bit ctrl 1 && fld ctrl 2 6 == e then rcRestart true n s else s

/-- The error of a tick is summed and the entry's validity kept (R127, R128). -/
def rcTick (n : Nat) (good : Bool) (e32 : Int) (s : State) : State :=
  if !rcEn s n then s
  else updRc n (fun r => { r with esum := sat 40 (r.esum + (if good then e32 else 0)), valid := r.valid && good,
                                  endDue := decide (r.tick + 1 = rcD s n) }) s

/-- The update at the end of an entry, or its skip (R127, R128). Of an entry that
has had no update since it was cleared, restored or written, Tprev is its present value: the model's choice (log entry 124). -/
def rcLearn (n : Nat) (s : State) : State :=
  let r := (chan s n).rc
  let s := updRc n (fun r => { r with endDue := false }) s
  if !r.valid then bump (chA n R.rcStat) 24 8 s
  else if !gb s (chA n R.rcCtrl) 0 then s
  else
    let p := rcP s n
    let dlog := gf s (chA n R.rcCfg) 16 4
    let em := sat32 (rneDiv r.esum (2 ^ dlog))
    let k := (rcPtr s n + (p - gf s (chA n R.rcLead) 0 13 % p)) % p
    let km := (k + (p - 1)) % p
    let q := rd s (chA n R.rcQf)
    let t (i : Nat) : Word := Map.get 0 r.tab i
    let before := ((Map.get none r.prev km).getD (t km))
    let tap := sfld q 0 16 * sgn (t k) + sfld q 16 16 * (sgn before + sgn (t ((k + 1) % p)))
    let x := rneDiv tap (2 ^ 15) + rneDiv (sfld (rd s (chA n R.rcGain)) 0 16 * em) (2 ^ 15)
    let s := updRc n (fun r => { r with tab := Map.put 0 r.tab k (toW (sat32 x)), prev := Map.put none r.prev k (some (t k)) }) s
    if sat32 x != x then flag (chA n R.rcStat) 14 s else s

/-- A table entry replaced from outside: it has had no update since. -/
def rcStore (n i : Nat) (w : Word) (s : State) : State :=
  updRc n (fun r => { r with tab := Map.put 0 r.tab i w, prev := Map.put none r.prev i none }) s

/-! ### The luff detector (R134 to R137) -/

/-- LUFF_EN is committed. -/
def luffEn (s : State) (n : Nat) : Bool := gb s (chA n R.loopCfg) 9

/-- Detection restarts (R136). -/
def luffRestart (n : Nat) (s : State) : State :=
  updLuff n (fun l => { assertDue := l.assertDue }) s |> sf (chA n R.luffStat) 4 4 0

/-- The band-pass section's coefficients. -/
def luffCoef (s : State) (n : Nat) : Coef :=
  let a := rd s (chA n R.luffBq0)
  let b := rd s (chA n R.luffBq1)
  let c := rd s (chA n R.luffBq2)
  { b0 := sfld a 0 16, b1 := sfld a 16 16, b2 := sfld b 0 16, a1 := sfld b 16 16, a2 := sfld c 0 16, sh := fld c 16 2,
    integ := false, hi := 0, lo := 0 }

/-- The detector in a completed tick on the selected cascade's input (R134, R135). That ZHYST is signed, with y > ZHYST tested first, and
that the largest |y| is 0x8000 for y = -32768 is the model's choice (log entry 137). -/
def luffTick (n : Nat) (x0 : Int) (s : State) : State :=
  let l := (chan s n).luff
  let o := runSec (luffCoef s n) false x0 { s1 := l.s1, s2 := l.s2 }
  let y := o.y16
  let z := sfld (rd s (chA n R.luffAmp)) 16 16
  let sign := if z < y then some true else if y < -z then some false else l.sign
  let cross := l.sign.isSome && sign != l.sign
  let w := max 16 (gf s (chA n R.luffWin) 0 16)
  updLuff n (fun l => { l with s1 := o.st.s1, s2 := o.st.s2, sign, ticks := l.ticks + 1,
                               crossings := l.crossings + (if cross then 1 else 0),
                               peak := max l.peak y.natAbs, endDue := decide (w ≤ l.ticks + 1) }) s
    |> sb (chA n R.luffStat) 2 true

/-- The detector does not run in a tick: ACTIVE clears and detection restarts (R134, R136). That ticks
in OFF and MEASURE, which are neither completed nor missed, clear ACTIVE is the model's choice (log entry 126). -/
def luffIdle (n : Nat) (s : State) : State :=
  sb (chA n R.luffStat) 2 false s |> luffRestart n

/-- A window ends (R135, R137): the counts are shown and RUN moves; at K the detector is to assert. -/
def luffWindow (n : Nat) (s : State) : State :=
  let l := (chan s n).luff
  let cr := rd s (chA n R.luffCross)
  let amp := sfld (rd s (chA n R.luffAmp)) 0 16
  let ok := decide (fld cr 0 16 ≤ l.crossings) && decide (l.crossings ≤ fld cr 16 16) && decide (amp < l.peak)
  let run := if ok then gf s (chA n R.luffStat) 4 4 + 1 else 0
  let k := max 1 (gf s (chA n R.luffCfg) 4 4)
  let s := wr (chA n R.luffLast) (BitVec.ofNat 32 (l.peak.toNat + l.crossings * 2 ^ 16)) s
    |> updLuff n (fun l => { l with ticks := 0, crossings := 0, peak := 0, endDue := false, assertDue := decide (k ≤ run) })
  sf (chA n R.luffStat) 4 4 (if k ≤ run then 0 else run) s

/-! ### Injection (R140 to R145) -/

/-- An injection runs in the current tick (R143). -/
def injRuns (s : State) (n : Nat) : Bool :=
  match (chan s n).inj with
  | some i => i.ended.isNone && decide (i.first ≤ s.now) && decide (s.now ≤ i.last)
  | none => false

/-- The PRBS-15 step, x^15 + x^14 + 1 (R141; log entry 10). -/
def prbsStep (x : Nat) : Nat := x * 2 % 2 ^ 15 + (x / 2 ^ 14 + x / 2 ^ 13) % 2

/-- Change the injection. -/
def updInj (n : Nat) (f : Inj → Inj) (s : State) : State := updChan n (fun c => { c with inj := c.inj.map f }) s

/-- The injected value of the current tick; 0 while none runs (R141). That one beyond Q1.31 is summed as it is, and wraps in its field
of the record, is the model's choice (log entry 138). -/
def injValue (s : State) (n : Nat) : Int :=
  if !injRuns s n then 0
  else match (chan s n).inj with
    | none => 0
    | some i =>
      let amp := sfld i.cfg 16 16
      if bit i.cfg 2 then (if i.chip then amp * 2 ^ 16 else -(amp * 2 ^ 16))
      else rneDiv ((chan s n).dds.last * amp) (2 ^ 15)

/-- The injected value where the injection point is p. -/
def injAt (s : State) (n p : Nat) : Int :=
  if ((chan s n).inj.map (fun i => fld i.cfg 0 2)) = some p then injValue s n else 0

/-- The tick edge of an injection: its first tick is stamped, its PRBS chip sampled every HOLD + 1 ticks (R141), and RUN
shown. -/
def injEdge (n : Nat) (s : State) : State :=
  match (chan s n).inj with
  | none => s
  | some i =>
    if i.ended.isSome || decide (s.now < i.first) then s
    else
      let x := (lcore s (n / 8)).prbs
      let s := if s.now = i.first then updInj n (fun i => { i with startTime := ticktime48 s, prbs0 := if bit i.cfg 2 then x else 0 }) s else s
      if (s.now - i.first) % (fld i.cfg 8 8 + 1) = 0 then updInj n (fun i => { i with chip := x / 2 ^ 14 % 2 == 1 }) s else s

/-- The injection ends with an END code (R143, R144): RUN clears, DONE sets, the trailer is to be written. -/
def injFinish (code n : Nat) (s : State) : State :=
  match (chan s n).inj with
  | some i => if i.ended.isSome then s
              else updInj n (fun i => { i with ended := some code }) s |> sb (chA n R.injStat) 0 false |> flag (chA n R.injStat) 2
  | none => s

/-- The tick record of an injection, offered to the capture stream; one that finds the head full is dropped (R144, R145). -/
def injRecord (n : Nat) (d e u m : Int) (s : State) : State :=
  match (chan s n).inj with
  | some i =>
    if !injRuns s n then s
    else
      let it := wBytes (toW d) ++ wBytes (toW e) ++ wBytes (toW u) ++ wBytes (toW m)
      -- a record cannot pass a header that still waits for space (R145)
      let r := if i.headerDone then offer (32 + i.stream) true it s else (false, s)
      updInj n (fun i => if r.1 && strEn s (32 + i.stream) then { i with written := i.written + 1 } else { i with dropped := i.dropped + 1 }) r.2
  | none => s

end Sys2Proof.Machine
end

