-- ==== Sys2Proof/Machine/Meas.lean ====
section
/-! DEFINITION. The measurement path: samples, pair modes and corrections, apertures and their records, raw capture and
calibration loads (05). -/

namespace Sys2Proof.Machine

/-- Byte offset between the registers of the two paths' apertures. -/
def apOff (p : Path) (off : Nat) : Nat := off + 0x20 * pnum p

/-! ### Samples (R147, R153, R156, R157, R448; 02 R75) -/

/-- A sample as the consumers take it: the normalised measurement, whether it was clipped, whether it was replaced. -/
structure Sampled where
  m : Int
  clip : Bool
  err : Bool

/-- PAIR mode of a path (R146). -/
def pairMode (s : State) (n : Nat) (p : Path) : Nat := gf s (chA n R.pairCfg) (2 * pnum p) 2

/-- A pair mode has been written in this tick: the sampling changes with the next (R148). -/
def pairFresh (s : State) (n : Nat) (p : Path) : Bool := ((chan s n).path p).mixTo == s.now + 3

/-- The pair mode in effect in this tick (R148). -/
def pairNow (s : State) (n : Nat) (p : Path) : Nat := if pairFresh s n p then ((chan s n).path p).modeWas else pairMode s n p

/-- The pair runs split in the current tick (R147). -/
def splitNow (s : State) (n : Nat) (p : Path) : Bool :=
  let m := (chan s n).path p
  match m.splitFrom with
  | none => false
  | some f => decide (f ≤ s.now) && (match m.splitTo with | none => true | some t => decide (s.now ≤ t))

/-- The slot of the sample used in this tick, from the frames fired on the path (R448). -/
def sensedSlot (s : State) (n : Nat) (p : Path) : Nat :=
  match ((chan s n).path p).sensed.find? (fun x => decide (x.1 + 3 ≤ s.now)) with
  | some x => x.2.getD (slotNow s n p)
  | none => slotNow s n p

/-- The corrections of B that a sample taken k ticks ago carries: every update applies to the samples taken from the tick edge
after it on (R149, R151). -/
def corrAt (s : State) (n : Nat) (p : Path) (k : Nat) : Corr := (((chan s n).path p).corr[k]?).getD {}

/-- B' of R146: converter B's code with the gain and then the offset of R149. The order of the two, the rounding to nearest, ties to
even, and the saturation to 24 bits are the model's reading (log entry 89). -/
def correctB (c : Corr) (b : Int) : Int := sat 24 (rneDiv (b * c.gain * 2 ^ 6 + c.ofs * 2 ^ 30) (2 ^ 36))

/-- The mean of A and B' (R146), to nearest, ties to even (log entry 89). -/
def meanAB (a b : Int) : Int := rneDiv (a + b) 2

/-- A chain's code with B's correction for the loop sample of this tick, which was taken three ticks ago (R47, R152). -/
def chainB (s : State) (n : Nat) (p : Path) (b : SampleIn) : SampleIn :=
  { b with code := BitVec.ofInt 24 (correctB (corrAt s n p 3) b.code.toInt) }

/-- A pair cross-check runs on the path (13 R368). -/
def crossTest (s : State) (n : Nat) (p : Path) : Bool := s.fc.tests.any (fun t => t.running && t.block == (2, 2 * n + pnum p))

/-- A pair cross-check takes the difference of the corrected codes of one instant (13 R368; log entry 99). -/
def crossTake (n : Nat) (p : Path) (a b : SampleIn) (s : State) : State :=
  let d := a.code.toInt - (chainB s n p b).code.toInt
  { s with fc := { s.fc with tests := s.fc.tests.map (fun t =>
      if t.running && t.block == (2, 2 * n + pnum p) then { t with reads := t.reads + 1, sum := t.sum + d } else t) } }

/-- The code of the path's pair while it is not split (R146): the mean of A and B' in AVERAGE, else what the chain delivers as A;
while the modes mix (R148), that too, and A alone while a cross-check runs (13 R368). -/
def chainCode (s : State) (n : Nat) (p : Path) (a b : SampleIn) : SampleIn :=
  if pairNow s n p = 1 ∧ (((chan s n).path p).mixTo < s.now ∨ pairFresh s n p) ∧ ¬ crossTest s n p then
    let b' := chainB s n p b
    { a with code := BitVec.ofInt 24 (meanAB a.code.toInt b'.code.toInt), endCode := a.endCode || b.endCode }
  else a

/-- One converter's sample corrected with the entries of a slot, in that slot's scale (R153, R156, R157). -/
def correctSample (n slot : Nat) (prev : Int) (x : SampleIn) (s : State) : Sampled × State :=
  let c := calibrate s n slot x.code.toInt
  if x.ecc2 then
    (⟨prev, x.endCode, true⟩, flag (chA n R.calStat) 1 s |> sendMsg (srcChan n) 0x10 (calIndex n slot 1 (calSeg x.code.toInt)) 0)
  else (⟨c.1 * 320, c.2 || x.endCode, false⟩, if x.ecc1 then bump (chA n R.calStat) 8 8 s else s)

/-- The weight of crossfade step k of M, a Q1.15 code (02 R75). -/
def xfadeW (k m : Nat) : Int := rneDiv ((k * 2 ^ 15 : Nat) : Int) m

/-- The crossfaded measurement in the old slot's scale, rounded once (02 R75). -/
def crossfade (k m : Nat) (mo mn : Int) (fsNew fsOld : Word) : Int :=
  if k = 0 then mo
  else if m ≤ k then rescale mn fsNew fsOld
  else
    let w := xfadeW k m
    let r := fsRatio fsNew fsOld
    rneDiv (mo * (2 ^ 15 - w) * r.2 + mn * w * r.1) (2 ^ 15 * r.2)

/-- A sample of a slot in the scale of the active slot (R448); one that R157 replaces is in it already. -/
def inActive (s : State) (n : Nat) (p : Path) (slot : Nat) (x : Sampled) : Sampled :=
  let act := slotNow s n p
  if slot = act ∨ x.err then x else { x with m := rescale x.m (fsOf s n slot) (fsOf s n act) }

/-- The tick's two sample pairs join the running block of the path's estimator (R146, R149). That a block counts no tick in which B
takes no input of A's (SINGLE, a split pair, a cross-check), and counts under FREEZE, is the model's choice (log entry 129). -/
def countPairs (n : Nat) (p : Path) (s : State) : State :=
  if pairNow s n p == 2 || splitNow s n p || crossTest s n p then s else updMeas n p (fun m => { m with pairs := m.pairs + 2 }) s

/-- The path's sample of the tick in the scale of the active slot (R147, R448, 02 R75). A sample that R157 replaces takes the
previous one, which is in the active slot's scale already. -/
def pathSample (n : Nat) (p : Path) (a b : SampleIn) (s : State) : Sampled × State :=
  let prev := match p with | .v => (chan s n).loop.prevV | .i => (chan s n).loop.prevI
  let act := slotNow s n p
  let r : Sampled × State :=
    if splitNow s n p then
      let b := chainB s n p b
      let slot := ((chan s n).path p).splitB
      let alone (s : State) : Sampled × State := let x := correctSample n slot prev b s; (inActive s n p slot x.1, x.2)
      match (chan s n).chg with
      | some c =>
        -- until BREAK fires both converters are mixed; then B alone is used
        if c.tack && c.path == p && act == c.old && ((chan s n).path p).splitTo.isNone then
          let x := correctSample n c.old prev a s
          let y := correctSample n c.target prev b x.2
          let m := gf s (chA n R.tackCfg) 0 6
          let fsO := fsOf s n c.old
          (⟨crossfade c.k m x.1.m y.1.m (if y.1.err then fsO else fsOf s n c.target) fsO, x.1.clip || (y.1.clip && c.k != 0),
            x.1.err || (y.1.err && c.k != 0)⟩, y.2)
        else alone s
      | none => alone s
    else
      let slot := sensedSlot s n p
      let x := correctSample n slot prev (chainCode s n p a b) s
      (inActive s n p slot x.1, x.2)
  let s := if r.1.clip then flag (chA n R.pairStat) (4 + pnum p) r.2 else r.2
  let s := countPairs n p (if crossTest s n p then crossTake n p a b s else s)
  (r.1, updLoop n (fun l => match p with | .v => { l with prevV := r.1.m } | .i => { l with prevI := r.1.m }) s)

/-! ### Apertures (R159 to R164) -/

/-- The record buffer of the channel is full under BLOCK (R167). -/
def recFull (s : State) (n : Nat) : Bool := decide (8 ≤ (chan s n).recs.length)

/-- An aperture that waits for its first sample in a tick. -/
def newAp (start mode : Nat) : Ap :=
  { cfg := 0, len := 0, i := 0, sum := 0, wsum := 0, incl := 0, min := 0, max := 0, flags := 0, cmp := 0, missed := 0,
    lines := 0, armed := false, n := 0, trunc := false, start, mode0 := mode, got := start }

/-- Show RUN and QUEUED (R172). -/
def showAp (n : Nat) (p : Path) (s : State) : State :=
  let m := (chan s n).path p
  sb (chA n (apOff p R.apStat)) 0 (m.ap.any (fun a => decide (a.start ≤ s.now))) s
    |> sb (chA n (apOff p R.apStat)) 1 m.queued

/-- A trigger for a path takes effect in this tick (R159, R160, R163, R167). -/
def apTrigger (n : Nat) (p : Path) (s : State) : State :=
  let m := (chan s n).path p
  let a := chA n (apOff p R.apStat)
  let drop (s : State) : State :=
    let k := if gb s a 2 then 2 else 3
    flag a 2 s |> bump a 16 16
      |> updMeas n p (fun m => { m with ovr := min 15 (m.ovr + 1), trigs := m.trigs ++ [k]
                                        before := some (m.before.getD (gf s a 16 16, m.ovr)) })
  if m.stop then s
  else if recFull s n then drop s
  else match m.ap with
    | none => updMeas n p (fun m => { m with ap := some (newAp (s.now + 1) (modeNow s n)), trigs := m.trigs ++ [0] }) s
    | some _ =>
      if m.cont || m.queued then drop s
      else updMeas n p (fun m => { m with queued := true, trigs := m.trigs ++ [1] }) s |> showAp n p

/-- The running aperture of a channel closes in this tick: by its own length, or with the line event caused in this tick (R160, R164). -/
def apEndsNow (s : State) (n : Nat) (a : Ap) : Bool :=
  a.closed || (decide (0 < a.n) && decide (a.start + a.n = s.now + 1))
    || (decide (a.lines = 1) && !a.armed && decide (a.start ≤ s.now) && s.caused.contains (gf s (chA n R.lineCfg) 0 6))

/-- What STOP makes of the running aperture (R163): one that a trigger of the same tick started is none; one that closes in this tick
stays as it is; any other closes in the next tick, but in this one where its closing line is still caused in it. R163 speaks of an
aperture that takes samples: that one which waits for its first line ends with no record is the model's choice (log entry 112). -/
def apStopped (s : State) (n : Nat) (m : Meas) (x : Ap) : Option Ap :=
  if (x.start = s.now + 1 ∧ m.trigs.contains 0) ∨ x.armed then none
  else if apEndsNow s n x then some x
  else some { x with n := s.now + 2 - x.start, trunc := true, lines := if x.lines = 1 then 1 else 0 }

/-- NPLC × LINE_NOM (R164). R164 gives NPLC = 0 its meaning and LINE_NOM = 0 none: that it acts as 1 is the model's choice (log entry 127). -/
def lineLen (s : State) (n : Nat) (a : Ap) : Nat := max 1 (fld a.len 0 16) * max 1 (rd s (chA n R.lineNom)).toNat

/-- The line event of a channel asserts in this tick (R164). -/
def lineAssert (n : Nat) (s : State) : State :=
  let each1 (p : Path) (s : State) : State :=
    updMeas n p (fun m => { m with lsLast := some s.now, ap := m.ap.map (fun a =>
      if a.armed then { a with armed := false, start := s.now, got := s.now }
      else if bit a.cfg 9 && decide (1 < a.lines) && decide (0 < a.i) then { a with lines := a.lines - 1 } else a) }) s
  let s := match (chan s n).mv.lsLast with
    | some t => wr (chA n R.linePer) (BitVec.ofNat 32 (s.now - t)) s
    | none => s
  each1 .v s |> each1 .i

/-- The timeout of R164 expires in this tick for a path. -/
def lineTmoDue (s : State) (n : Nat) (p : Path) : Bool :=
  let m := (chan s n).path p
  let ev := gf s (chA n R.lineCfg) 0 6
  let tmo := gf s (chA n R.lineCfg) 8 24
  match m.ap with
  | none => false
  | some a =>
    bit a.cfg 9 && !a.trunc && decide (0 < a.lines) && m.lsLast != some s.now && !s.asserting.contains ev &&
      (if a.armed then decide (max a.start (match m.lsLast with | some t => if a.start ≤ t then t else a.start | none => a.start) + tmo ≤ s.now)
       else decide ((m.lsLast.getD a.start) + tmo ≤ s.now))

/-- The line timeout expires: the aperture starts or its length is completed in nominal periods (R164). -/
def lineTimeout (n : Nat) (p : Path) (s : State) : State :=
  flag (chA n (apOff p R.apStat)) 3 s
    |> updMeas n p (fun m => { m with ap := m.ap.map (fun a =>
        let a := { a with flags := Nat.lor a.flags (2 ^ 11), lines := 0 }
        if a.armed then { a with armed := false, start := s.now, got := s.now, n := lineLen s n a }
        else { a with n := max (s.now + 1 - a.start) (lineLen s n a) }) })

/-- What the line event and its timeout do to a channel's aperture in this tick, done before a STOP of the tick (R163, R164). -/
def lineFirst (n : Nat) (p : Path) (s : State) : State :=
  let s := whenB (s.asserting.contains (gf s (chA n R.lineCfg) 0 6) && (chan s n).mv.lsLast != some s.now) (lineAssert n) s
  whenB (lineTmoDue s n p) (lineTimeout n p) s

/-- STOP of a path (R163): triggers of the same tick are discarded and not counted, the queue and CONT end, and the running
aperture closes in the next tick. -/
def apStop (n : Nat) (p : Path) (s : State) : State :=
  let s := lineFirst n p s
  let m := (chan s n).path p
  let a := chA n (apOff p R.apStat)
  let s := match m.before with | some b => sf a 16 16 b.1 s | none => s
  let s := if m.trigs.contains 3 then sb a 2 false s else s
  updMeas n p (fun m => { m with ap := m.ap.bind (apStopped s n m), queued := false, cont := false, stop := true, trigs := []
                                 ovr := (m.before.map (·.2)).getD m.ovr, before := none }) s
    |> showAp n p

/-- STOP of both paths on a furl or CLR_N (R163, 13 R359). -/
def apStopAll (n : Nat) (s : State) : State := apStop n .v s |> apStop n .i

/-- The triggers that the tick has dropped are counted (15 R408), a STOP having taken out its own (R163). -/
def apDrops (n : Nat) (s : State) : State :=
  let k (m : Meas) : Nat := (m.trigs.filter (fun k => decide (2 ≤ k))).length
  let d := k (chan s n).mv + k (chan s n).mi
  if d = 0 then s else countBy 0x0B n d s

/-- What follows an aperture that closed in the tick before (R159, R160): the queued one, the next under CONT, or none. -/
def apNext (now mode : Nat) (m : Meas) : Meas :=
  if m.ap.any (fun a => a.closed) then
    { m with ap := if m.queued || m.cont then some (newAp now mode) else none, queued := false }
  else m

/-- An aperture whose first sample falls in this tick latches its configuration (R159, R164). For an aperture timed by a line R159
names both the tick of its first sample and tick n+1: that it latches in n+1, as it begins to wait, is the model's choice (log entry
112). R164 takes the tick after a close to be the assertion tick: that after a close by a timeout, or of an aperture not timed by the
line, the next one waits for the next assertion is the model's choice too. -/
def apLatch (s : State) (n : Nat) (p : Path) (a : Ap) : Ap :=
  if a.start ≠ s.now ∨ a.i ≠ 0 ∨ a.armed then a
  else
    let cfg := rd s (chA n (apOff p R.apCfg))
    let len := rd s (chA n (apOff p R.apLen))
    let a := { a with cfg, len }
    if bit cfg 9 then { a with armed := true, lines := max 1 (fld len 0 16) }
    else { a with n := if a.trunc then a.n else if len = 0 then 2 ^ 32 else len.toNat }

/-- The tick edge of a path's apertures: triggers of the old tick are settled, a closed aperture gives way to the next, and one
whose first sample falls in this tick latches its configuration. -/
def apEdge (n : Nat) (p : Path) (s : State) : State :=
  let m := (chan s n).path p
  if m.ap.isNone && m.trigs.isEmpty && !m.stop then s
  else
    updMeas n p (fun m =>
      let m := apNext s.now (modeNow s n) m
      let ap := m.ap.map (apLatch s n p)
      { m with ap, trigs := [], before := none, stop := false, cont := ap.any (fun a => bit a.cfg 7 && !a.trunc) }) s
      |> showAp n p

/-- The flags a tick's sample adds (R166). -/
def sampleFlags (s : State) (n : Nat) (p : Path) (x : Sampled) (incl : Bool) (mode0 : Nat) : Nat :=
  let b (c : Bool) (i : Nat) : Nat := if c then 2 ^ i else 0
  b (incl && decide (2 ^ 31 ≤ x.m.natAbs)) 0 + b (incl && x.clip) 1 + b (!incl) 4 + b (gb s (chA n R.chStat) 4) 5
    + b (modeNow s n == 0) 6 + b (inHold s n) 7 + b (!gb s (chA n R.pairStat) (pnum p)) 8 + b x.err 9
    + b (modeNow s n != mode0) 13

/-- The aperture takes the tick's sample (R161). MODE_NOW of its first tick is what a change of mode is held against (R166). -/
def apTake (s : State) (n : Nat) (p : Path) (x : Sampled) (missed : Bool) (a : Ap) : Ap :=
  if a.armed || a.closed || decide (s.now < a.start) || decide (a.got ≠ s.now) then a
  else
    let incl := gf s (chA n R.rngStat) 8 3 != 6
    let mode0 := if a.i = 0 then modeNow s n else a.mode0
    let a := { a with
      i := a.i + 1, got := s.now + 1, mode0, flags := Nat.lor a.flags (sampleFlags s n p x incl mode0),
      cmp := a.cmp + (if gb s (chA n R.chStat) 4 then 1 else 0), missed := a.missed + (if missed then 1 else 0)
      hist := if bit a.cfg 8 then (if incl then .sample x.m else .gap) :: a.hist else [] }
    if incl then
      { a with sum := a.sum + x.m, wsum := a.wsum + 1, incl := a.incl + 1,
               min := if a.incl = 0 then x.m else min a.min x.m, max := if a.incl = 0 then x.m else max a.max x.m }
    else a

/-- The weighted sum of a triangular aperture of length N and the sum of its weights, from what it took, newest first: sample i
has the weight min(i + 1, N - i), a sample of the gap none, and a rescale acts on the sum of the samples before it (R161,
R162). -/
def triSum (len : Nat) : List ApItem → Nat → Int × Nat
  | [], _ => (0, 0)
  | .sample m :: t, i =>
    let r := triSum len t (i - 1)
    let w := min i (len + 1 - i)
    (r.1 + w * m, r.2 + w)
  | .gap :: t, i => triSum len t (i - 1)
  | .scale fo fn :: t, i =>
    let r := triSum len t i
    (rescale r.1 fo fn, r.2)

/-- The sum and the weights of an aperture that closes with the samples it has taken (R161). -/
def apSum (a : Ap) : Int × Nat := if bit a.cfg 8 then triSum a.i a.hist a.i else (a.sum, a.wsum)

/-- Rescale the running apertures of a path at a bank switch (R162). -/
def apRescale (n : Nat) (p : Path) (fsOld fsNew : Word) (s : State) : State :=
  updMeas n p (fun m => { m with ap := m.ap.map (fun a =>
    if a.start ≤ s.now ∧ ¬ a.armed ∧ ¬ a.closed then
      { a with sum := rescale a.sum fsOld fsNew, min := rescale a.min fsOld fsNew, max := rescale a.max fsOld fsNew,
               hist := if bit a.cfg 8 then .scale fsOld fsNew :: a.hist else [], flags := Nat.lor a.flags 8 } else a) }) s

/-- The running aperture of a path closes in this tick (R160, R163, R164): its record is formed after every sequencer slot (09 R257). -/
def apCloseDue (s : State) (n : Nat) (p : Path) : Bool :=
  match ((chan s n).path p).ap with
  | none => false
  | some a =>
    decide (256 ≤ s.slot) && !a.closed && decide (a.got = s.now + 1) && decide (0 < a.i) &&
      ((decide (0 < a.n) && decide (a.n ≤ a.i) && (a.lines == 0 || a.trunc)) ||
       (decide (a.lines = 1) && s.caused.contains (gf s (chA n R.lineCfg) 0 6)))

/-! ### Records (R165, R166) -/

/-- The binary32 pattern of a sign and the exact value v * 2^e, to nearest, ties to even. -/
def f32Round (neg : Bool) (v : Nat) (e : Int) : Nat :=
  if v = 0 then 0
  else
    let sh : Int := max ((Nat.log2 v : Int) + 1 - 24) (-149 - e)
    let m0 : Nat := if sh ≤ 0 then v * 2 ^ (-sh).toNat else (rneDiv v (2 ^ sh.toNat)).toNat
    let m : Nat := if m0 = 2 ^ 24 then 2 ^ 23 else m0
    let sh := if m0 = 2 ^ 24 then sh + 1 else sh
    let ex : Int := if m < 2 ^ 23 then 0 else e + sh + 150
    (if neg then 2 ^ 31 else 0) + (if ex < 255 then ex.toNat * 2 ^ 23 + m % 2 ^ 23 else 0x7F800000)

/-- A Q1.31 value of a full scale in a stream's value format (R165). -/
def valueFmt (bin : Bool) (v : Int) (fs : Word) : Nat :=
  if bin then f32Round (decide (v < 0)) (v.natAbs * (f32 fs).1) ((f32 fs).2 - 149 - 31) else pat 32 v

/-- Pair mode of a path as records and raw blocks report it: 0b11 while split (R166, R168). -/
def pairShown (s : State) (n : Nat) (p : Path) : Nat := if splitNow s n p then 3 else pairNow s n p

/-- The record of a closing aperture: its Q1.31 value, its flags and its bytes. -/
def apRecord (s : State) (n : Nat) (p : Path) (a : Ap) (m : Meas) : Int × Nat × List Byte :=
  let slot := slotNow s n p
  let fs := fsOf s n slot
  let bin := (strm s n).fmt
  -- the weights of R161 are those of the length with which it closes (log entry 11)
  let k := apSum a
  let raw := rneDiv k.1 k.2
  let v := if a.incl = 0 then 0 else sat32 raw
  let fl := a.flags + (if a.incl ≠ 0 ∧ sat32 raw ≠ raw then 4 else 0) + (if a.trunc && decide (a.n ≤ a.i) then 2 ^ 10 else 0)
    + (if a.incl = 0 then 2 ^ 12 else 0) + pairShown s n p * 2 ^ 14
  let ext := if bit a.cfg 10 then
      leBytes 4 (min a.incl (2 ^ 32 - 1)) ++ leBytes 4 (valueFmt bin (sat32 a.min) fs) ++ leBytes 4 (valueFmt bin (sat32 a.max) fs)
        ++ leBytes 2 (min a.cmp 65535) ++ leBytes 1 (min a.missed 255) ++ leBytes 1 0x5E
    else []
  (v, fl, leBytes 6 (ticktime48 s) ++ leBytes 1 (n + 32 * pnum p + (if bin then 64 else 0))
    ++ leBytes 1 (slot + 16 * min m.ovr 15) ++ leBytes 4 (valueFmt bin v fs) ++ leBytes 2 fl
    ++ leBytes 2 (m.apnum % 65536) ++ ext)

/-- Put a record into the channel's stream, or into its record buffer under BLOCK (R167); while EN is 0 it is discarded at once, whatever
waits (11 R302). -/
def putRecord (n : Nat) (it : List Byte) (s : State) : State :=
  if strEn s n && !(chan s n).recs.isEmpty then updChan n (fun c => { c with recs := c.recs ++ [it] }) s
  else
    let r := offer n false it s
    if r.1 then r.2 else updChan n (fun c => { c with recs := c.recs ++ [it] }) r.2

/-- Offer the waiting records again, in order (R167, 11 R302). -/
def flushRecs (n : Nat) : List (List Byte) → State → State
  | [], s => s
  | it :: t, s =>
    let r := offer n false it s
    if r.1 then flushRecs n t (updChan n (fun c => { c with recs := t }) r.2) else r.2

/-- An aperture closes (R160): its record is formed. It counts as running to the end of the tick, when the next may follow it. -/
def apClose (n : Nat) (p : Path) (s : State) : State :=
  let m := (chan s n).path p
  match m.ap with
  | none => s
  | some a =>
    let r := apRecord s n p a m
    wr (chA n (apOff p R.apLast)) (toW r.1) s
      |> wr (chA n (apOff p R.apLstat)) (BitVec.ofNat 32 (slotNow s n p + r.2.1 * 2 ^ 16))
      |> updMeas n p (fun m => { m with ap := some { a with closed := true }, apnum := (m.apnum + 1) % 65536, ovr := 0
                                        fresh := true, before := m.before.map (fun b => (b.1, 0)) })
      |> putRecord n r.2.2 |> count 0x0A n |> showAp n p

/-! ### Raw capture (R168, R169) -/

/-- Bytes of a raw block: header and sample words. -/
def rawBlock (n : Nat) (p : Path) (time mode drops : Nat) (last : Bool) (ws : List Word) : List Byte :=
  leBytes 6 time ++ leBytes 1 (n + 32 * pnum p + 128) ++ leBytes 1 0xC2 ++ leBytes 1 mode ++ leBytes 1 (if last then 1 else 0)
    ++ leBytes 2 (min drops 65535) ++ leBytes 4 ws.length ++ ws.flatMap wBytes

/-- A sample word of a raw block: code, converter, end code, and position in 12.5 ns steps (R168). -/
def rawWord (code : Int) (conv : Nat) (end_ : Bool) (pos : Nat) : Word :=
  BitVec.ofNat 32 (pat 24 code + conv * 2 ^ 24 + (if end_ then 2 ^ 25 else 0) + pos * 2 ^ 26)

/-- The sample words of a tick, the output of the pair after interleave correction (R146, R168). The order of two words of one
position, A before B, is the model's (log entry 89). -/
def rawWords (s : State) (n : Nat) (p : Path) (x : RawIn) : List Word :=
  let c := corrAt s n p 0
  let a (k : ConvOut) (pos : Nat) : Word := rawWord k.code.toInt 0 k.endCode pos
  let b (k : ConvOut) (pos : Nat) : Word := rawWord (correctB c k.code.toInt) 1 k.endCode pos
  let m (k l : ConvOut) (pos : Nat) : Word :=
    rawWord (meanAB k.code.toInt (correctB c l.code.toInt)) 0 (k.endCode || l.endCode) pos
  match pairShown s n p with
  | 0 => [a x.a0 0, b x.b0 1, a x.a1 2, b x.b1 3]
  | 1 => [m x.a0 x.b0 0, m x.a1 x.b1 2]
  | 2 => [a x.a0 0, a x.a1 2]
  | _ => [a x.a0 0, b x.b0 0, a x.a1 2, b x.b1 2]

/-- An item is a raw block: longer than any 16-byte record, and marked in its bytes 6 and 7 (R165, R168, 09 R257). -/
def isRawBlock (it : List Byte) : Bool := decide (16 < it.length) && (it.getD 6 0).getLsbD 7 && it.getD 7 0 == 0xC2

/-- Offer a raw block of channel n: one that finds the head full is dropped whole and counted, whatever the policy (R169). -/
def rawOffer (n k : Nat) (it : List Byte) (s : State) : Bool × State :=
  let o := offer k true it s
  (o.1, whenB (!o.1) (bump (chA n R.rawStat) 16 16) o.2)

/-- Send the open block of a path (R168, R169). -/
def rawFlush (n : Nat) (p : Path) (last : Bool) (s : State) : State :=
  match (chan s n).raw with
  | none => s
  | some r =>
    let ws := match p with | .v => r.blkV | .i => r.blkI
    if ws.isEmpty then s
    else
      let it := match p with
        | .v => rawBlock n p r.tV r.modeV r.dropV last ws
        | .i => rawBlock n p r.tI r.modeI r.dropI last ws
      let o := rawOffer n r.dst it s
      updChan n (fun c => { c with raw := c.raw.map (fun r => match p with
        | .v => { r with blkV := [], dropV := if o.1 then 0 else r.dropV + 1 }
        | .i => { r with blkI := [], dropI := if o.1 then 0 else r.dropI + 1 }) }) o.2

/-- A tick's sample words enter a path's block (R168). A block holds samples of one pair mode, the one its header gives: where the
mode changes, the open block leaves. -/
def rawPath (n : Nat) (p : Path) (x : RawIn) (s : State) : State :=
  match (chan s n).raw with
  | none => s
  | some r =>
    if !(gb s (chA n R.rawCfg) (pnum p)) || decide (s.now < r.first) || decide (r.last < s.now) then s
    else
      let ws := rawWords s n p x
      let mode := pairShown s n p
      let k : Nat × Nat := match p with | .v => (r.blkV.length, r.modeV) | .i => (r.blkI.length, r.modeI)
      let s := if k.1 + ws.length ≤ 1020 ∧ k.2 = mode then s else rawFlush n p false s
      updChan n (fun c => { c with raw := c.raw.map (fun r => match p with
        | .v => { r with tV := if r.blkV.isEmpty then ticktime48 s else r.tV, modeV := mode, blkV := r.blkV ++ ws }
        | .i => { r with tI := if r.blkI.isEmpty then ticktime48 s else r.tI, modeI := mode, blkI := r.blkI ++ ws }) }) s

/-- The capture's last tick has been sampled (R168). -/
def rawEnd (n : Nat) (s : State) : State :=
  rawFlush n .v true s |> rawFlush n .i true
    |> updChan n (fun c => { c with raw := none }) |> flag (chA n R.rawStat) 2

/-! ### Calibration loads (R158) -/

/-- A load's request. -/
def isCalLd (n : Nat) : Who → Bool
  | .calLd m _ => m == n
  | _ => false

/-- A load ends with a status flag. -/
def calEnd (n i : Nat) (s : State) : State :=
  withdraw 8 (isCalLd n) s |> updChan n (fun c => { c with calLd := none }) |> sb (chA n R.calStat) 2 false |> flag (chA n R.calStat) i

/-- A load whose slot has become in use is abandoned in that tick (R158). -/
def calCheck (n : Nat) (s : State) : State :=
  match (chan s n).calLd with
  | some l => if calInUse s n l.slot then calEnd n 3 s else s
  | none => s

/-! ### Background correction (R149 to R151) -/

/-- A step towards an estimate, limited. -/
def stepTo (cur move lim : Int) : Int := cur + max (-lim) (min move lim)

/-- The corrections of a path hold: FREEZE, SINGLE, split (R151), or a pair cross-check (13 R368). -/
def corrHeld (s : State) (n : Nat) (p : Path) : Bool :=
  gb s (chA n R.pairCfg) (4 + pnum p) || pairNow s n p == 2 || splitNow s n p || crossTest s n p

/-- CONV of a path changes; a clear of it is reported (R150, 13 R355). -/
def setConv (n : Nat) (p : Path) (b : Bool) (s : State) : State :=
  let was := gb s (chA n R.pairStat) (pnum p)
  let s := sb (chA n R.pairStat) (pnum p) b s
  if was && !b then sendMsg (srcChan n) 0x11 0 (pnum p) s else s

/-- An estimator block of 4,096 sample pairs is complete (R149). -/
def blockDue (s : State) (n : Nat) (p : Path) : Bool := decide (4096 ≤ ((chan s n).path p).pairs)

/-- The end of an estimator block (R149, R150): the next begins with the next pair. -/
def blockEnd (n : Nat) (p : Path) (e : Estimate) (s : State) : State :=
  let a := fun off => chA n (off + 0x10 * pnum p)
  let s := updMeas n p (fun m => { m with pairs := 0 }) s
  let s := if corrHeld s n p then s else
    sf (a R.corrOfs) 0 30 (pat 30 (sat 30 (stepTo (sfld (rd s (a R.corrOfs)) 0 30) e.dOfs 256))) s
      |> wr (a R.corrGain) (toW (sat32 (stepTo (sgn (rd s (a R.corrGain))) e.dGain 4096)))
      |> (fun s => if e.slope then sf (a R.corrSkew) 0 9 (pat 9 (sat 9 (stepTo (sfld (rd s (a R.corrSkew)) 0 9) e.dSkew 1))) s else s)
  -- residual bounds: offset 16 codes = 1024 * 2^-6, gain 2^-20 = 1024 * 2^-30, skew 50 fs = 2 steps
  let inB := decide (e.rOfs.natAbs ≤ 1024) && decide (e.rGain.natAbs ≤ 1024) && decide (e.rSkew.natAbs ≤ 2)
  let out2 := decide (2048 < e.rOfs.natAbs) || decide (2048 < e.rGain.natAbs) || decide (4 < e.rSkew.natAbs)
  if pairNow s n p == 2 then s
  else
    let good := if inB then ((chan s n).path p).good + 1 else 0
    let s := updMeas n p (fun m => { m with good := min 16 good }) s
    if out2 then setConv n p false s else if 16 ≤ good then setConv n p true s else s

end Sys2Proof.Machine
end

