-- ==== Sys2Proof/Machine/Range.lean ====
section
/-! DEFINITION. Mode changes, the entry sequence, range changes, HOLD and pulse trains of a channel, and what a fired or
acknowledged RCB frame does to them (02). -/

namespace Sys2Proof.Machine

/-! ### The shadow set (01 R14 to R17) -/

/-- Accept a force-side write of a channel; it lands at the next tick edge (R15). -/
def accept (n : Nat) (w : FW) (s : State) : State := updChan n (fun c => { c with shadow := c.shadow ++ [w] }) s

/-- The channel offset of the coefficient set a commit addresses (03 R114, 04 R138). -/
def commitOff (s : State) (n slot : Nat) : Nat :=
  if reefOn s n ∧ slot = forceSlot s n then 0x3000 else 0x1000 + 0x200 * slot

/-- The first word of the section a commit addresses (03 R114). -/
def commitAt (s : State) (n sec slot : Nat) : Nat := commitOff s n slot + 0x20 + 0x20 * sec

/-- The committed value of a channel register with the accepted writes and section commits of this tick applied in order (R17). -/
def ahead (s : State) (n off : Nat) : Word :=
  (chan s n).shadow.foldl (fun v w => match w with
    | .reg o m x => if o = off then mergeMask m v x else v
    | .bank o m x => if o = off then mergeMask m v x else v
    | .secCommit i k a b c =>
      let o := commitAt s n i k
      if off = o then a else if off = o + 4 then b else if off = o + 8 then mergeMask 0x3FFFF v c else v
    | _ => v) (rd s (chA n off))

/-- A commit accepted in this tick writes the register (03 R114). -/
def commitWaits (s : State) (n off : Nat) : Bool :=
  (chan s n).shadow.any (fun w => match w with
    | .secCommit i k _ _ _ => decide (commitAt s n i k ≤ off) && decide (off ≤ commitAt s n i k + 8)
    | _ => false)

/-- A setpoint write is accepted (03 R99). -/
def acceptSp (n : Nat) (w : Word) (s : State) : State := accept n (.sp w) s

/-! ### Modes: acceptance (R51, R56) -/

/-- The clear condition of CLR_N is latched (06 R184); mode writes are taken from the tick after it clears (R185). -/
def clrLatched (s : State) : Bool := gb s R.clrStat 0 || decide (s.now < s.clrFree)

/-- A DAC read-back sweep runs on the channel (13 R368). -/
def sweeping (s : State) (n : Nat) : Bool := s.fc.tests.any (fun t => t.running && t.sweep && t.block == (3, n))

/-- A mode write is rejected (R51); before READY no channel can leave OFF (14 R389). -/
def modeRefused (s : State) (n code : Nat) : Bool :=
  decide (8 < code) || (decide (gf s R.devState 3 2 ≠ 3) && decide (code ≠ 0)) || ((furled s n || s.fc.released.contains n || clrLatched s) && decide (code ≠ 0)) ||
    decide (760 < sumWith s n code (cfgAhead s n))

/-- A mode write of any source (R51, R52, R56): rejected, held, or accepted into the shadow set. One that is held takes the place of
an OFF accepted before it in its tick (01 R17). -/
def writeMode (n code : Nat) (s : State) : State :=
  if modeRefused s n code then chReject n 7 s
  else if code ≠ 0 ∧ (modeBlocked s n || sweeping s n) then
    updChan n (fun c => { c with heldMode := some code,
                                 shadow := c.shadow.filter (fun w => match w with | .mode _ => false | _ => true) }) s
      |> sb (chA n R.chStat) 8 true
  else accept n (.mode code) s

/-! ### Range changes: showing and ending (R67, R447) -/

/-- PHASE of the current tick. -/
def setPhase (n ph : Nat) (s : State) : State := sf (chA n R.rngStat) 8 3 ph s

/-- Change the range change in progress. -/
def updChg (n : Nat) (f : Change → Change) (s : State) : State := updChan n (fun c => { c with chg := c.chg.map f }) s

/-- The range change is in its gap (R77). -/
def inGap (s : State) (n : Nat) : Bool := (chan s n).chg.any (fun c => c.phase == .gap)

/-- The present tick is the last of the change (R447): the loop resumes in it, the BREAK fires in it, or it is that of its
abandonment. -/
def Change.last (c : Change) : Bool := c.abandoned || c.phase == .resume || c.phase == .break_

/-- The change's last tick is over: it ends, and from now on BUSY and PHASE read 0 (R447). -/
def chgEdge (n : Nat) (s : State) : State :=
  let s := if (chan s n).chg.any Change.last then updChan n (fun c => { c with chg := none }) s |> dropStanding n else s
  if (chan s n).chg.isNone then sf (chA n R.rngStat) 7 4 0 s else s

/-- A tick in HOLD moves the rows that are still to come of a range change on by one tick (R84, R361). That a hold for another cause
than a frame of the change moves them by its length is the model's choice (log entry 118). -/
def chgHeld (n : Nat) (s : State) : State :=
  if inHold s n then updChg n (fun c => if c.fire.isSome then { c with held := c.held + 1 } else c) s else s

/-- The count of completed changes and the suppression of down decisions (R67, R72). -/
def chgDone (n : Nat) (s : State) : State :=
  bump (chA n R.rngStat) 16 16 s |> count 0x05 n
    |> updChan n (fun c => { c with downFrom := s.now + gf s (chA n R.arCfg) 16 16 + 1, up := 0, dn := 0 })

/-- The active slot of a path becomes another: setpoint, ramp and limits follow (R57, R70). -/
def switchSlot (n : Nat) (p : Path) (new : Nat) (s : State) : State :=
  let old := slotNow s n p
  let fo := fsOf s n old
  let fn := fsOf s n new
  -- the sample of the tick before, which may replace one of a later tick (05 R157), is kept in the active slot's scale
  let s := updLoop n (fun l => match p with
    | .v => { l with prevV := rescale l.prevV fo fn }
    | .i => { l with prevI := rescale l.prevI fo fn }) s
  let s :=
    if p = forcedPath (modeNow s n) then
      let x := rescale (sgn (rd s (chA n R.sp))) fo fn
      let r := rescale (chan s n).loop.ramp fo fn
      let s := wr (chA n R.sp) (toW (sat32 x)) s |> updLoop n (fun l => { l with ramp := sat32 r })
      if sat32 x != x || sat32 r != r then flag (chA n R.chStat) 12 s else s
    else s
  setSlot n new s |> dirtyIfMoved n s |> convertLimits n |> calCheck n

/-- The active slot changes at a bank switch: running apertures are rescaled as well (05 R162). -/
def bankSlot (n : Nat) (p : Path) (new : Nat) (s : State) : State :=
  apRescale n p (fsOf s n (slotNow s n p)) (fsOf s n new) s |> switchSlot n p new

/-- Record a preset due in the next completed tick (03 R109, R122). -/
def addPreset (n : Nat) (p : Preset) (s : State) : State := updLoop n (fun l => { l with presets := l.presets ++ [p] }) s

/-- The preset of a bank switch: the cascade of the changed path, to the last command, its other sections cleared (03 R109). R109 does
not say what a bank switch does while the loop is open: that it presets and clears nothing, then or as the loop closes, is the model's
choice (log entry 106). -/
def bankPreset (n : Nat) (p : Path) (s : State) : State :=
  if openNow s n then s
  else
    let prim := decide (forcedPath (modeNow s n) = p)
    addPreset n { prim, comp := !prim, target := (chan s n).loop.cmd, clear := true, clearAll := false } s

/-! ### OFF (R52, R78, R361) -/

/-- The range change in progress is abandoned; this is its last tick, in which it still counts as in progress (R78, R447), and a held
request follows in the next (R71). That the
split of the path of an abandoned tack ends in this tick at once is the model's choice (log entry 107); the two ticks on converter B
after a tack that has ended run on (05 R147). -/
def abandon (n : Nat) (s : State) : State :=
  updChan n (fun c => { c with chg := c.chg.map (fun g => { g with abandoned := true }), up := 0, dn := 0, arDue := none
                               freeFrom := if c.chg.isSome then s.now + 1 else c.freeFrom
                               mv := if c.mv.splitTo.isSome then c.mv else { c.mv with splitFrom := none }
                               mi := if c.mi.splitTo.isSome then c.mi else { c.mi with splitFrom := none } }) s

/-- A held mode write is cancelled (R56). -/
def cancelHeld (n : Nat) (s : State) : State :=
  updChan n (fun c => { c with heldMode := none }) s |> sb (chA n R.chStat) 8 false

/-- Commit a mode: CH_STAT shows it, OPEN clears (03 R119), the selector begins fresh (R61), a train ends with the pulsed
modes (R64). That CH_MODE, the requested mode, takes it too, so that it reads 0 after a furl or CLR_N, is the model's choice (log
entry 132). -/
def commitMode (n code : Nat) (s : State) : State :=
  sf (chA n R.chStat) 0 4 code s |> sf (chA n R.chMode) 0 4 code |> sb (chA n R.chStat) 4 false
    |> sb (chA n R.loopCtrl) 0 false
    |> updChan n (fun c => { c with
        train := if code = modeNow s n then c.train else none
        loop := { c.loop with selC := false } })
    |> (fun s => if isClosed code then s else wr (chA n R.spEff) 0 s)
    -- OFF and MEASURE release the reef set and end an injection (04 R139, R143)
    |> whenB (decide (code < 2)) (fun s => sb (chA n R.luffStat) 1 false s |> injFinish 2 n)
    |> dirtyIfMoved n s

/-- OFF commits: sequences, holds and held modes end; the command becomes the clear code (R52, R78, R361); a held range request
follows in the next tick (R71). -/
def goOff (n : Nat) (s : State) : State :=
  updChan n (fun c => { c with freeFrom := if modeBlocked s n then s.now + 1 else c.freeFrom }) s |> commitMode n 0 |> abandon n |> cancelHeld n
    |> sb (chA n R.chStat) 9 false |> sb (chA n R.chStat) 10 false
    |> updChan n (fun c => { c with
        entry := none, fromMeas := none, openWith := none, holdFrames := [], holdEnd := [], train := none
        loop := { c.loop with presets := [], adopt := false, zeroAll := false, rampFromMeas := false } })

/-- An OFF write lands (R52): in any other mode DISCONNECT is queued at first priority. -/
def landOff (n : Nat) (s : State) : State :=
  if modeNow s n = 0 then cancelHeld n s |> sb (chA n R.loopCtrl) 0 false else goOff n s |> queueDisconnect n

/-! ### Landing of modes (R52 to R55, R119, R120) -/

/-- The entry sequence starts (R53). -/
def startEntry (n code : Nat) (s : State) : State :=
  let v := slotNow s n .v
  let i := slotNow s n .i
  let last : List (Nat × Path × Nat) := if code = 1 then [] else [(6, .v, 0)]
  commitMode n code s |> sb (chA n R.chStat) 9 true
    |> updChan n (fun c => { c with
        holdFrames := []
        entry := some { todo := [(1, Path.i, i), (4, Path.v, 0)] ++ last, waiting := 3 + last.length, lastFire := 0,
                        lastAck := 0, settle := max (settleOf s n v) (settleOf s n i), measure := decide (code = 1) } })
    |> queueFrame (newFrame n .v 1 v 4 .entry true s.now s.now)

/-- The adoption of the measurement where no setpoint write came in time (R54). -/
def adoptSp (n old new : Nat) (s : State) : State :=
  if forcedPath old ≠ forcedPath new ∨ old = 1 then
    if (chan s n).spWritten then s else updLoop n (fun l => { l with adopt := true }) s
  else s

/-- A mode lands (R52). A write of the closed mode that is committed already has no row in R52: that it changes nothing but to clear
OPEN is the model's choice (log entry 131). -/
def landMode (n code : Nat) (s : State) : State :=
  let m := modeNow s n
  let cmd := (chan s n).loop.cmd
  if code = 0 then landOff n s
  else if m = 0 then startEntry n code s
  else if m = 1 then
    if code = 1 then commitMode n 1 s
    else
      sf (chA n R.chMode) 0 4 code s |> updChan n (fun c => { c with fromMeas := some (code, none) })
        |> queueFrame (newFrame n .v 6 0 4 .forceEn true s.now s.now)
  else if code = 1 then
    commitMode n 1 s |> updLoop n (fun l => { l with presets := [], adopt := false, rampFromMeas := false })
      |> queueFrame (newFrame n .v 7 0 4 .forceDis true s.now s.now)
  else if code = 8 then
    let s := if m = 8 ∨ (chan s n).manAt = some s.now then s else sf (chA n R.manCode) 0 20 (pat 20 cmd) s
    commitMode n 8 s |> updLoop n (fun l => { l with presets := [], adopt := false, rampFromMeas := false })
  else if m = 8 then
    commitMode n code s |> adoptSp n 8 code
      |> addPreset n { prim := true, comp := false, target := sfld (rd s (chA n R.manCode)) 0 20, clear := true, clearAll := true }
  else if m = code then
    if gb s (chA n R.loopCtrl) 0 then
      commitMode n code s |> addPreset n { prim := true, comp := false, target := cmd, clear := false, clearAll := false }
    else s
  else
    commitMode n code s |> adoptSp n m code
      |> addPreset n { prim := true, comp := false, target := cmd, clear := false, clearAll := false }

/-- A held mode write may land (R56). -/
def heldModeDue (s : State) (n : Nat) : Bool :=
  (chan s n).heldMode.isSome && !modeBlocked s n && !sweeping s n && decide ((chan s n).freeFrom ≤ s.now)

/-- OPEN lands (03 R119): the command of the last completed tick is held, or the loop closes on the held command. -/
def landOpen (n : Nat) (b : Bool) (s : State) : State :=
  let was := gb s (chA n R.loopCtrl) 0
  let s' := sb (chA n R.loopCtrl) 0 b s
  if !isClosed (modeNow s n) || was == b then s'
  else if b then updLoop n (fun l => { l with held := l.cmd }) s'
  else addPreset n { prim := true, comp := false, target := (chan s n).loop.cmd, clear := false, clearAll := false } s'

/-- A held mode write lands, as one accepted in the tick before, or is rejected as such a one would be (R51, R56); a write of
OPEN of that tick applies after the clear (03 R119). -/
def landHeldMode (n : Nat) (s : State) : State :=
  match (chan s n).heldMode with
  | none => s
  | some code =>
    let s := cancelHeld n s
    if modeRefused s n code then chReject n 7 s
    else
      let s := landMode n code s
      match (chan s n).openAt with
      | some (t, b) =>
        if t ≠ s.now then s
        else if (chan s n).fromMeas.isSome then updChan n (fun c => { c with openWith := some b }) s
        else landOpen n b s
      | none => s

/-! ### The end of the entry sequence and of an entry from MEASURE (R53, R54, R55) -/

/-- The entry sequence is complete (R53 steps 4 and 5). That it ends in no tick of a HOLD, whatever its cause, is the model's choice
(log entry 118). -/
def connectingEndDue (s : State) (n : Nat) : Bool :=
  match (chan s n).entry with
  | none => false
  | some e => connecting s n && !inHold s n && e.todo.isEmpty && e.waiting == 0 &&
      decide (max (e.lastFire + e.settle) (e.lastAck + 1) ≤ s.now)

/-- The loop closes, or MANUAL drives, and CONNECTING clears (R53 steps 5 to 7). That a
mode or range write held by the entry comes in the tick after this one is the model's choice (R56, R71; log entry 123). -/
def endConnecting (n : Nat) (s : State) : State :=
  let s := sb (chA n R.chStat) 9 false s |> updChan n (fun c => { c with
      entry := none, freeFrom := s.now + 1, up := 0, dn := 0, loop := { c.loop with presets := [] } })
  if isClosed (modeNow s n) then
    addPreset n { prim := true, comp := false, target := clearCmd s n, clear := true, clearAll := true } s
      |> updLoop n (fun l => { l with rampFromMeas := true })
  else s

/-- FORCE_EN has fired in an earlier tick (R52). -/
def fromMeasDue (s : State) (n : Nat) : Bool :=
  match (chan s n).fromMeas with
  | some (_, some f) => decide (f < s.now)
  | _ => false

/-- Every state of both cascades is zero (R55), in a tick whose loop is open. -/
def zeroStates (n : Nat) (s : State) : State :=
  if (chan s n).loop.zeroAll then updLoop n (fun l => { l with secs := [], zeroAll := false }) s else s

/-- The mode commits after MEASURE (R52, R54, R55). A write of OPEN accepted with the mode write applies after the clear (03 R119);
that of one which lands in the commit tick itself, accepted later, the clear wins, is the model's choice (log entry 108). -/
def commitFromMeas (n : Nat) (s : State) : State :=
  match (chan s n).fromMeas with
  | none => s
  | some (code, _) =>
    let s := commitMode n code s
    let s := if isClosed code then adoptSp n 1 code s |> updLoop n (fun l => { l with zeroAll := true, presets := [] }) else s
    let s := match (chan s n).openWith with | some b => landOpen n b s | none => s
    let s := whenB (openNow s n) (zeroStates n) s
    updChan n (fun c => { c with fromMeas := none, openWith := none, freeFrom := s.now + 1, spWritten := false }) s

/-! ### Range requests (R71, R72, R74, R77) -/

/-- A range request waits while a change, an entry or a HOLD is in progress (R71). -/
def rangeBlocked (s : State) (n : Nat) : Bool := modeBlocked s n || decide (s.now < (chan s n).freeFrom)

/-- A range change is decided in this tick (R71): a tack where the target is the active slot's partner. -/
def startChange (n : Nat) (p : Path) (target : Nat) (s : State) : State :=
  let old := slotNow s n p
  let tack := partnerOf s n old == some target
  updChan n (fun c => { c with
      up := 0, dn := 0, arDue := none
      chg := some { path := p, target, old, tack, phase := .standby, decided := s.now, fire := none, acked := false, k := 0,
                    breakFire := none } }) s
    |> sf (chA n R.rngStat) 7 9 (1 + 2 * 1 + 16 * pnum p + 32 * (target % 16)) |> calCheck n

/-- A request for a slot lands (R71): at once in OFF, held, or as a decision. The requests of one tick are held together, since
both quantities may be asked for in it and each then takes its turn (log entry 85). -/
def requestSlot (n : Nat) (p : Path) (slot : Nat) (s : State) : State :=
  if modeNow s n = 0 then (if slotNow s n p = slot then s else switchSlot n p slot s)
  else if rangeBlocked s n then
    updChan n (fun c => match p with | .v => { c with heldV := some slot } | .i => { c with heldI := some slot }) s
  else if slotNow s n p = slot then s
  else startChange n p slot s

/-- A held range request may be decided (R71). -/
def heldRangeDue (s : State) (n : Nat) : Bool :=
  ((chan s n).heldV.isSome || (chan s n).heldI.isSome) && !rangeBlocked s n

/-- Held requests are taken, the V request first (R71). -/
def takeHeldRange (n : Nat) (s : State) : State :=
  let c := chan s n
  let s := updChan n (fun c => { c with heldV := none, heldI := none }) s
  let s := match c.heldV with | some k => requestSlot n .v k s | none => s
  match c.heldI with | some k => requestSlot n .i k s | none => s

/-- Eligible slots of a path that lie above or below the active one (R72). -/
def eligibleSlots (s : State) (n : Nat) (p : Path) (up : Bool) : List Nat :=
  let act := fsOf s n (slotNow s n p)
  ((List.range 8).map (fun i => 8 * pnum p + i)).filter (fun k =>
    gb s (chA n R.arMask) k && (if up then fsLt act (fsOf s n k) else fsLt (fsOf s n k) act))

/-- The nearest of the eligible slots in full scale (R72). Of slots of equal FS the lowest number is taken: the model's choice (log
entry 130). -/
def nearestSlot (s : State) (n : Nat) (up : Bool) (l : List Nat) : Option Nat :=
  l.foldl (fun b k => match b with
    | none => some k
    | some j => if (if up then fsLt (fsOf s n k) (fsOf s n j) else fsLt (fsOf s n j) (fsOf s n k)) then some k else some j) none

/-- LIMFLOOR forbids a slot: its full scale lies below the larger limit of the path in engineering units (R72). In MEASURE no limit
pair is active; that the VLIM pair, of the quantity autorange acts on, is then the floor is the model's choice (log entry 83). -/
def belowFloor (s : State) (n : Nat) (p : Path) (k : Nat) : Bool :=
  let hi := (sgn (rd s (chA n (limOff p true)))).natAbs
  let lo := (sgn (rd s (chA n (limOff p false)))).natAbs
  let r := fsRatio (fsOf s n (limRefSlot s n p)) (fsOf s n k)
  decide (2 ^ 31 * r.2 < max hi lo * r.1)

/-- The path autorange acts on (R72). -/
def autoPath (m : Nat) : Option Path :=
  if m = 2 ∨ m = 4 then some .i else if m = 1 ∨ m = 3 ∨ m = 5 ∨ m = 6 ∨ m = 7 then some .v else none

/-- An autorange decision (R72). -/
def autoDecide (n : Nat) (s : State) : State :=
  match (chan s n).arDue, autoPath (modeNow s n) with
  | some up, some p =>
    let s := updChan n (fun c => { c with arDue := none }) s
    if (chan s n).chg.isSome || connecting s n || inHold s n then s
    else match nearestSlot s n up (eligibleSlots s n p up) with
      | none => s
      | some k => if !up && gb s (chA n R.arCfg) 1 && belowFloor s n p k then s else startChange n p k s
  | _, _ => s

/-- The autorange conditions of a tick on the unsaturated measurement (R72): the counts, and a decision on the last tick of
DWELL. -/
def autoCount (n : Nat) (m : Path → Int) (s : State) : State :=
  let c := chan s n
  let cfg := rd s (chA n R.arCfg)
  let none_ (s : State) : State := if c.up = 0 ∧ c.dn = 0 then s else updChan n (fun c => { c with up := 0, dn := 0 }) s
  match autoPath (modeNow s n) with
  | none => none_ s
  | some p =>
    let asked := c.shadow.any (fun w => match w, p with | .rangeV _, .v => true | .rangeI _, .i => true | _, _ => false)
    if !bit cfg 0 || c.chg.isSome || c.heldV.isSome || c.heldI.isSome || connecting s n || inHold s n || asked then none_ s
    else
      let th := rd s (chA n R.arThr)
      let u := min (fld th 0 16) 12500
      let d := min (fld th 16 16) u
      let a := (m p).natAbs * 10000
      let up := decide (u * 2 ^ 31 ≤ a) || (limClamped s n p && gb s (chA n R.chStat) 4 && p != forcedPath (modeNow s n))
      let dn := decide (a < d * 2 ^ 31)
      let nu := if up then c.up + 1 else 0
      let nd := if dn then c.dn + 1 else 0
      let dw := max 1 (fld cfg 8 8)
      let due : Option Bool :=
        if s.now < c.arFrom then none
        else if dw ≤ nu then some true
        else if dw ≤ nd ∧ c.downFrom ≤ s.now then some false else none
      updChan n (fun c => { c with up := nu, dn := nd, arDue := due }) s

/-! ### The tack (R74, R75) -/

/-- The standing frame of a tack in its place at the front end; one that is to be re-shifted is not (R85). -/
def standingAt (s : State) (n : Nat) (c : Change) : Option Frame :=
  (rcb s (n / 8)).frames.find? (fun fr => fr.ch == n && fr.path == c.path && fr.role == .standing && fr.slot == c.target &&
    !fr.void && fr.inPlace s.now && !overwritten s fr)

/-- The standing frame in its place for which the tack of a channel waits (R74). -/
def tackWaits (s : State) (n : Nat) : Option Frame :=
  match (chan s n).chg with
  | none => none
  | some c => if c.tack && c.phase == .standby && !c.abandoned && !inHold s n then standingAt s n c else none

/-- The latch word of a tack's MAKE may be sent in this tick (R74, R80): no other frame waits for one, and of several waiting
tacks the one whose standing frame was queued first goes first (R85). -/
def tackDue (s : State) (n : Nat) : Bool :=
  match tackWaits s n with
  | none => false
  | some fr => rcbRuns s && decide ((rcb s (n / 8)).latchFree ≤ s.now) && (nextLatch s (n / 8)).isNone &&
      ((List.range 8).filterMap (fun j => tackWaits s (8 * (n / 8) + j))).all (fun x => !x.before fr)

/-- The decision tick T of a tack (R74): the latch word for the MAKE is sent; the pair runs split from T+1 (05 R147). -/
def decideTack (n : Nat) (s : State) : State :=
  match (chan s n).chg with
  | none => s
  | some c =>
    match standingAt s n c with
    | none => s
    | some fr =>
      setFrame fr { fr with role := .make, live := true, st := .latched (s.now + 1) } s
        |> updRcb (n / 8) (fun b => { b with latchFree := s.now + 5 })
        |> updChg n (fun c => { c with phase := .makeSettle, decided := s.now }) |> setPhase n 2
        |> updMeas n c.path (fun m => { m with splitFrom := some (s.now + 1), splitTo := none, splitB := c.target })

/-- The crossfade step of the current tick, counted from the acknowledged firing of the MAKE (R74, R78). -/
def fadeStep (s : State) (n : Nat) : Nat :=
  match (chan s n).chg with
  | none => 0
  | some c =>
    match c.fire with
    | some f => if c.tack && c.acked then s.now + 1 - (f + c.held + settleOf s n c.target) else 0
    | none => 0

/-- A crossfade step falls in this tick; in HOLD the change is suspended (R84). -/
def fadeDue (s : State) (n : Nat) : Bool :=
  match (chan s n).chg with
  | none => false
  | some c => !inHold s n && !c.abandoned && (c.phase == .makeSettle || c.phase == .crossfade) && decide (0 < fadeStep s n) && decide (c.k ≠ fadeStep s n) &&
      decide (fadeStep s n ≤ gf s (chA n R.tackCfg) 0 6)

/-- A crossfade step (R75). -/
def fade (n : Nat) (s : State) : State :=
  updChg n (fun c => { c with phase := .crossfade, k := fadeStep s n }) s |> setPhase n 3

/-- The bank switch of a tack falls in this tick (R74, R84). -/
def bankDue (s : State) (n : Nat) : Bool :=
  match (chan s n).chg with
  | none => false
  | some c => !inHold s n && !c.abandoned && (c.phase == .makeSettle || c.phase == .crossfade) && decide (gf s (chA n R.tackCfg) 0 6 < fadeStep s n)

/-- The bank switch (R74): slot, rescales, presets; the BREAK may fire. -/
def switchBank (n : Nat) (s : State) : State :=
  match (chan s n).chg with
  | none => s
  | some c =>
    let s := bankSlot n c.path c.target s |> bankPreset n c.path
      |> updChg n (fun c => { c with phase := .bankSwitch, k := 0 }) |> setPhase n 4
    updRcb (n / 8) (fun b => { b with frames := b.frames.map (fun fr =>
      if fr.ch == n && fr.path == c.path && fr.role == .break_ && !fr.void then { fr with live := true } else fr) }) s

/-! ### Break before make (R77) -/

/-- The decision of a break-before-make change is still to queue its SWITCH. -/
def bbmDue (s : State) (n : Nat) : Bool :=
  (chan s n).chg.any (fun c => !c.tack && !c.abandoned && c.phase == .standby && c.decided == s.now && c.fire.isNone && !c.acked)

/-- The decision tick (R77): the SWITCH frame is queued for the next tick. -/
def decideBbm (n : Nat) (s : State) : State :=
  match (chan s n).chg with
  | none => s
  | some c =>
    queueFrame (newFrame n c.path 1 c.target 4 .switch true s.now (s.now + 1)) s
      |> updChg n (fun c => { c with acked := true })

/-- The tick after the decision: the gap begins (R77). -/
def gapEdge (n : Nat) (s : State) : State :=
  match (chan s n).chg with
  | some c => if !c.tack && c.phase == .standby && decide (c.decided < s.now) then
      updChg n (fun c => { c with phase := .gap }) s |> setPhase n 6 else s
  | none => s

/-- The loop resumes in this tick (R77, R84). -/
def resumeDue (s : State) (n : Nat) : Bool :=
  match (chan s n).chg with
  | some c => (match c.fire with
      | some f => !inHold s n && !c.abandoned && c.phase == .gap && decide (f + c.held + settleOf s n c.target ≤ s.now)
      | none => false)
  | none => false

/-- The resume tick, the last of the change (R77, R447). -/
def resumeBbm (n : Nat) (s : State) : State :=
  match (chan s n).chg with
  | none => s
  | some c =>
    bankSlot n c.path c.target s |> bankPreset n c.path
      |> updChg n (fun c => { c with phase := .resume }) |> setPhase n 4 |> chgDone n

/-! ### What a frame does when it fires and when it is acknowledged (R53, R74, R77, R84, R361; 05 R448) -/

/-- The front end presents another slot on a path from this firing on (05 R448). -/
def pushSensed (n : Nat) (p : Path) (slot f : Nat) (s : State) : State :=
  updMeas n p (fun m => { m with sensed := ((f, some slot) :: m.sensed).take 8 }) s

/-- From this firing on the active slot counts as sensed on both paths (05 R448). -/
def pushUnsensed (n f : Nat) (s : State) : State :=
  updMeas n .v (fun m => { m with sensed := ((f, none) :: m.sensed).take 8 }) s
    |> updMeas n .i (fun m => { m with sensed := ((f, none) :: m.sensed).take 8 })

/-- The BREAK of a tack is queued again after a firing of its MAKE (R74); one that is being shifted completes its shift (R79) and is
not latched. -/
def queueBreak (n : Nat) (c : Change) (s : State) : State :=
  let mine (fr : Frame) : Bool := fr.ch == n && fr.path == c.path && fr.role == .break_ && fr.slot == c.old
  updRcb (n / 8) (fun b => { b with
    frames := (b.frames.filter (fun fr => !mine fr || fr.onWay)).map (fun fr => if mine fr then { fr with void := true, live := false } else fr) }) s
    |> queueFrame (newFrame n c.path 3 c.old 3 .break_ false s.now s.now)

/-- The next frame of the entry sequence (R53). -/
def nextEntry (n : Nat) (s : State) : State :=
  match (chan s n).entry with
  | some e =>
    (match e.todo with
     | (opc, p, slot) :: t =>
       updChan n (fun c => { c with entry := some { e with todo := t } }) s
         |> queueFrame (newFrame n p opc slot 4 .entry true s.now s.now)
     | [] => s)
  | none => s

/-- A frame takes effect at a firing. -/
def fired (fr : Frame) (f : Nat) (s : State) : State :=
  let n := fr.ch
  let s := if fr.opc = 1 then pushSensed n fr.path fr.slot f s else s
  let s := if fr.opc = 4 then updChan n (fun c => { c with disconnected := false }) s else s
  let s := if fr.opc = 5 then pushUnsensed n f s else s
  if fr.void then s else
  match fr.role with
  | .entry => if fr.attempt = 1 ∧ ¬ fr.rel then nextEntry n s else s
  | .forceEn => updChan n (fun c => { c with fromMeas := c.fromMeas.map (fun x => (x.1, some (x.2.getD f))) }) s
  | .switch => updChg n (fun c => if c.countsFrom fr then { c with fire := some f, held := 0 } else c) s
  | .make =>
    (match (chan s n).chg with
     | some c => if c.countsFrom fr && c.phase == .makeSettle then
         updChg n (fun c => { c with fire := some f, held := 0 }) s |> queueBreak n c else s
     | none => s)
  | .break_ =>
    (match (chan s n).chg with
     | some c => if c.tack && c.path == fr.path && c.old == fr.slot && c.phase == .bankSwitch then
         updChg n (fun c => { c with phase := .break_, breakFire := some f }) s |> setPhase n 5 |> chgDone n
           |> updMeas n fr.path (fun m => { m with splitTo := some (s.now + 2) }) |> pushSensed n fr.path c.target f
       else s
     | none => s)
  | _ => s

/-- A frame is validly acknowledged in tick a, after its firing at f. -/
def acked (fr : Frame) (f a : Nat) (s : State) : State :=
  let n := fr.ch
  match fr.role with
  | .entry =>
    updChan n (fun c => { c with entry := c.entry.map (fun e =>
      { e with waiting := e.waiting - 1, lastFire := max e.lastFire f, lastAck := max e.lastAck a }) }) s
  | .make => updChg n (fun c => if c.countsFrom fr && c.fire == some f then { c with acked := true } else c) s
  | .disconnect => updChan n (fun c => { c with disconnected := true }) s
  | _ => s

/-- The frame whose firing falls in this tick fires (R80). A release frame's effect waits for the end of the hold. -/
def fireFrame (g : Nat) (s : State) : State :=
  match firing s g with
  | none => s
  | some fr =>
    let s := setFrame fr { fr with st := .fired s.now } s
    if fr.rel then s else fired fr s.now s

/-- The 48 bits of a status frame carry a valid acknowledgement of a command frame (R83). -/
def ackValid (fr : Frame) (b : Nat) : Bool :=
  decide (crc8 (msbBits 40 (b / 256)) = b % 256) && decide (b / 2 ^ 32 % 2 ^ 12 = fr.body / 2 ^ 24 % 2 ^ 12) &&
    decide (b / 2 ^ 16 % 2 = 1)

/-- A status frame was received whole (R83, R84). RCB_LAST takes what a frame that is on time brings, also where it is corrupt or
refuses; a late one is not taken as an acknowledgement and leaves RCB_LAST (log entry 84: the spec does not say which status
frames count as "the latest acknowledgement"). -/
def takeStatus (g : Nat) (late : Bool) (bits : Nat) (s : State) : State :=
  match awaiting s g with
  | none => s
  | some (fr, f) =>
    let fe := bits / 2 ^ 16 % 2 ^ 16
    if late then rcbError fr f fe s
    else
      let s := wr (chA fr.ch R.rcbLast) (BitVec.ofNat 32 (fe + bits / 2 ^ 32 % 16 * 2 ^ 16)) s
      if ackValid fr bits then
        let s := delFrame fr s
        if fr.void then s
        else if fr.rel then updChan fr.ch (fun c => { c with holdEnd := c.holdEnd ++ [fr] }) s else acked fr f s.now s
      else rcbError fr f fe s

/-! ### HOLD (R84, R361) -/

/-- A channel enters HOLD (R50). -/
def enterHold (n : Nat) (s : State) : State := sb (chA n R.chStat) 10 true s |> updChan n (fun c => { c with holdEnd := [] })

/-- The frames are attempts of one frame. -/
def Frame.same (a b : Frame) : Bool :=
  a.ch == b.ch && a.path == b.path && a.opc == b.opc && a.slot == b.slot && a.role == b.role

/-- The third attempt of a frame has failed (R84): it joins the frames a release has to send again, and the channel is in HOLD. Of a
frame that a DISCONNECT has discarded only the message is left. -/
def noAck (fr : Frame) (s : State) : State :=
  let n := fr.ch
  let s := delFrame fr s
  let s := if fr.void then s else
    updChan n (fun c => { c with holdFrames := c.holdFrames.filter (fun x => !x.same fr) ++ [fr] }) s
      |> whenB (modeNow s n != 0) (sb (chA n R.chStat) 10 true)
  sendMsg (srcChan n) 0x08 (fr.body / 2 ^ 24 % 2 ^ 16) fr.feStatus s

/-- The release frames of a held channel (R361): each failed frame that no release frame has brought to the front end yet, sent again;
a STATUS frame where none failed. R361 speaks of one failed frame; that each of several is sent again, and that the hold ends with the
last of them, is the model's choice (log entry 105). -/
def releaseFrames (s : State) (n : Nat) : List Frame :=
  let c := chan s n
  if c.holdFrames.isEmpty then
    (if c.holdEnd.isEmpty then [{ newFrame n .v 0 0 2 .release true s.now (s.now + 1) with rel := true }] else [])
  else (c.holdFrames.filter (fun x => !c.holdEnd.any x.same)).map (fun fr =>
    { fr with cls := 2, ord := s.now, attempt := 1, rel := true, live := true, feStatus := 0xFFFF, st := .queued (s.now + 1) })

/-- Every release frame of the hold has been acknowledged (R361). -/
def holdReleased (s : State) (n : Nat) : Bool :=
  let c := chan s n
  !c.holdEnd.isEmpty && c.holdFrames.all (fun x => c.holdEnd.any x.same)

/-- A held mode lands in the tick that begins, as one accepted in the tick before it (R56): what held it has ended with that tick. -/
def heldModeComes (s : State) (n : Nat) : Bool :=
  let c := chan s n
  c.heldMode.isSome && decide (c.freeFrom ≤ s.now) && !sweeping s n && !connecting s n && c.fromMeas.isNone &&
    c.chg.all Change.last && (!inHold s n || holdReleased s n)

/-- A suspended sequence goes on as though its failed frame had fired with its release frame (R361). -/
def resumeAt (fr : Frame) (s : State) : State :=
  let f := match fr.st with | .fired f => f | _ => s.now
  if fr.role = .release then s else fired fr f s |> acked fr f (s.now - 1)

/-- The hold ends at this tick edge (R361): a suspended sequence goes on, and a closed loop is preset to the held command. -/
def holdOver (n : Nat) (s : State) : State :=
  if !holdReleased s n then s
  else
    let done := (chan s n).holdEnd
    let s := sb (chA n R.chStat) 10 false s |> updChan n (fun c => { c with holdEnd := [], holdFrames := [], up := 0, dn := 0 })
      |> each resumeAt done
    if openNow s n || connecting s n || inGap s n then s
    else addPreset n { prim := true, comp := false, target := (chan s n).loop.cmd, clear := false, clearAll := false } s

/-! ### Pulse trains (R63, R64) -/

/-- PULSE_GO is rejected (R64). -/
def pulseRefused (s : State) (n : Nat) : Bool :=
  let w := fld (ahead s n R.pulseW) 0 24
  let per := (ahead s n R.pulsePer).toNat
  (modeNow s n != 4 && modeNow s n != 5) || (chan s n).train.isSome || decide (w < 20) ||
    (per != 0 && decide (per < w + 20)) || (chan s n).shadow.contains .pulseStop

/-- PULSE_GO is accepted or rejected. -/
def pulseGo (n : Nat) (s : State) : State := if pulseRefused s n then chReject n 15 s else accept n .pulseGo s

/-- PULSE_STOP is accepted; it beats a PULSE_GO of the same tick (R64). -/
def pulseStop (n : Nat) (s : State) : State :=
  let s := if (chan s n).shadow.contains .pulseGo then
      chReject n 15 s |> updChan n (fun c => { c with shadow := c.shadow.filter (fun w => w != .pulseGo) }) else s
  accept n .pulseStop s

/-- PULSE_GO lands (R63). Where a mode write of its tick has left FVP and FIP, it is rejected there (log entry 86). -/
def landPulseGo (n : Nat) (s : State) : State :=
  if modeNow s n ≠ 4 ∧ modeNow s n ≠ 5 then chReject n 15 s
  else
    let k := gf s (chA n R.pulseCnt) 0 24
    updChan n (fun c => { c with train := some { next := s.now, left := if k = 0 then none else some k, stop := false, lvl := 0,
                                                 w := 0, per := 0, last := none } }) s

/-- PULSE_STOP lands (R64). -/
def landPulseStop (n : Nat) (s : State) : State :=
  updChan n (fun c => { c with train := match c.train with
    | some t => if t.last.isSome then some { t with stop := true } else none
    | none => none }) s

/-- A pulse begins in this tick. -/
def pulseBeginDue (s : State) (n : Nat) : Bool :=
  (chan s n).train.any (fun t => t.next == s.now && t.last.isNone && !t.stop && t.left != some 0)

/-- A pulse begins: level, width and period are latched (R63). -/
def beginPulse (n : Nat) (s : State) : State :=
  let w := gf s (chA n R.pulseW) 0 24
  let per := (rd s (chA n R.pulsePer)).toNat
  updChan n (fun c => { c with train := c.train.map (fun t =>
    { t with lvl := sgn (rd s (chA n R.pulseLvl)), w, per, last := some (s.now + w - 1), next := t.next + per
             left := if per = 0 then some 0 else t.left.map (· - 1) }) }) s

/-- The pulse in progress has had its last tick. -/
def pulseEndDue (s : State) (n : Nat) : Bool :=
  (chan s n).train.any (fun t => match t.last with | some l => decide (l < s.now) || t.next == s.now && t.left != some 0 | none => false)

/-- A pulse ends; the train ends with its last pulse or with STOP (R63, R64). -/
def endPulse (n : Nat) (s : State) : State :=
  updChan n (fun c => { c with train := match c.train with
    | some t => if t.stop || t.left == some 0 then none else some { t with last := none }
    | none => none }) s

/-- The pulse level of the current tick, where a pulse holds (R63). -/
def pulseLevel (s : State) (n : Nat) : Option Int :=
  match (chan s n).train with
  | some t => (match t.last with | some l => if s.now ≤ l then some t.lvl else none | none => none)
  | none => none

/-! ### Limits (R57) -/

/-- A limit pair with HI not above LO. -/
def pairBad (s : State) (n : Nat) (p : Path) : Bool :=
  decide (sgn (rd s (chA n (limOff p true))) ≤ sgn (rd s (chA n (limOff p false))))

/-- Landed limit writes are checked against the pair before them (R57). -/
def checkPair (n : Nat) (p : Path) (hi lo : Word) (s : State) : State :=
  if pairBad s n p then
    wr (chA n (limOff p true)) hi s |> wr (chA n (limOff p false)) lo |> chReject n 16
  else s

end Sys2Proof.Machine
end

