-- ==== Sys2Proof/Machine/LoopTick.lean ====
section
/-! DEFINITION. The loop core's tick: the samples of a channel, its computation or its missed deadline, and what apertures,
autorange, supervision and capture take from it (03 R90 to R122, 02 R58 to R61). -/

namespace Sys2Proof.Machine

/-- A message sent in a given core cycle of this tick. -/
def sendMsgAt (cyc src kind addr info : Nat) (s : State) : State :=
  sendRaw { src, kind, inj := false, addr := addr % 2 ^ 24, info := info % 2 ^ 16, tick := s.now, time := ticktime s, cyc,
            forceFurl := false } s

/-- An occurrence counted in SAT_CNT (R96). -/
def satOccurs (n i : Nat) (s : State) : State := flag (chA n R.loopStat) i s |> bump (chA n R.loopCnt) 24 8

/-! ### Compliance (02 R58 to R61) -/

/-- The limit targeted for a measurement: upper at or above the midpoint (R58). -/
def upperTarget (s : State) (n : Nat) (p : Path) (m : Int) : Bool := decide (limAct s n p true + limAct s n p false ≤ 2 * m)

/-- A compliance entry (R59). -/
def enterCompliance (n : Nat) (upper : Bool) (s : State) : State :=
  flag (chA n R.chStat) 6 s |> sb (chA n R.chStat) 5 (!upper) |> wr64 (chA n R.cmpTickLo) (ticktime s)
    |> bump (chA n R.chCnt) 0 16 |> causeAt n 49

/-- The outcome of the selection of a completed tick is shown, and an entry recorded (R59). -/
def noteSelection (n : Nat) (upper selC : Bool) (s : State) : State :=
  let was := (chan s n).loop.selC
  let s := sb (chA n R.chStat) 4 selC s |> updLoop n (fun l => { l with selC, inCmp := selC })
  let s := if selC then count 0x04 n s else s
  if selC && !was then enterCompliance n upper s else s

/-- The limit comparison that takes the selector's place in MANUAL and with the loop open (R60). -/
def compareLimit (n : Nat) (p : Path) (m : Int) (s : State) : State :=
  let up := upperTarget s n p m
  let hit := if up then decide (limAct s n p true ≤ m) else decide (m ≤ limAct s n p false)
  noteSelection n up hit s

/-! ### The setpoint path (R98, R99, 02 R54) -/

/-- A new ramp starts from the measurement, or the measurement is adopted as setpoint (R54, R99). A target that lands in OFF or MEASURE
with RAMP_FROM_MEAS 1 has no measurement to start from in its tick: that its start stays pending until the first completed tick of a
closed mode, while one that lands in MANUAL is dropped, is the model's choice (log entry 110). -/
def startRamp (n : Nat) (mF : Int) (s : State) : State :=
  let l := (chan s n).loop
  let s := if l.adopt then
      wr (chA n R.sp) (toW mF) s |> updLoop n (fun l => { l with ramp := mF, adopt := false, rampFromMeas := false }) else s
  if (chan s n).loop.rampFromMeas then updLoop n (fun l => { l with ramp := mF, rampFromMeas := false }) s else s

/-- The effective setpoint of the tick before injection, and the ramp position (R98). -/
def setpointOf (s : State) (n : Nat) (mV : Int) : Int × Int × Bool :=
  let m := modeNow s n
  if m = 6 then (loadR s n mV, (chan s n).loop.ramp, false)
  else if m = 7 then (loadP s n mV, (chan s n).loop.ramp, false)
  else
    let g := if gb s (chA n R.spCfg) 0 then genTarget s n else (sgn (rd s (chA n R.sp)), false)
    let r := rampStep (gf s (chA n R.rampRate) 0 31) (chan s n).loop.ramp g.1
    let e := if m = 4 ∨ m = 5 then (pulseLevel s n).getD r else r
    (e, r, g.2)

/-- The effective setpoint of a tick of a closed mode (R98), whether its loop is computed or not; the ramp moves on with it (R99),
and a generator's sample that saturates sets CLIP (07 R199). -/
def formSetpoint (n : Nat) (mF mV : Int) (s : State) : Int × State :=
  let s := startRamp n mF s
  let e := setpointOf s n mV
  let sp := sat32 (e.1 + injAt s n 0)
  (sp, whenB e.2.2 (flag (chA n R.genStat) 11) s |> updLoop n (fun l => { l with ramp := e.2.1 }) |> wr (chA n R.spEff) (toW sp))

/-! ### The computation of a closed loop (R101 to R111) -/

/-- What a closed loop computes in one tick. -/
structure LoopOut where
  spEff : Int
  e32 : Int
  /-- Input of the first section of the primary and of the compliance cascade. -/
  xP : Int
  xC : Int
  uSel : Int
  selC : Bool
  upper : Bool
  u : Int
  cmd : Int
  secs : Map Sec
  ovf : Nat
  clampP : Bool
  clampC : Bool
  limited : Bool
  outSat : Bool

/-- The channel's inputs to a closed-loop computation: the effective setpoint, both measurements in Q1.31, the injected
values at the error and the output, and the repetitive term. -/
structure LoopArgs where
  spEff : Int
  mF : Int
  mL : Int
  dErr : Int
  dOut : Int
  rc : Int

/-- The states before the computation: cleared by a preset (R109) or by the entry from MEASURE (02 R55). -/
def clearedSecs (psec : Nat) (zeroAll : Bool) (ps : List Preset) (m : Map Sec) : Map Sec :=
  let all := zeroAll || ps.any (fun p => p.clearAll)
  let cp := ps.any (fun p => p.clear && p.prim)
  let cc := ps.any (fun p => p.clear && p.comp)
  m.filter (fun e => !(all || (cp && decide (e.1 < psec)) || (cc && decide (psec ≤ e.1))))

/-- The target command of the presets of one cascade, if any. Of two with different targets, as MAN_CODE (R120) and the last command
(R109, R118), the one added last is taken: the model's choice (log entry 133). -/
def presetCmd (f : Preset → Bool) (ps : List Preset) : Option Int := ((ps.filter f).getLast?).map (·.target)

/-- One closed-loop computation with the given presets (R101 to R111). Where the tick before formed no selector output (after
MANUAL, OFF, an open loop, HOLD or a gap), u_sel(n-1) of the tracking preset is the model's choice: the value that rounds to the
preset's target, or else to the held command, less OUT_OFS (log entry 91). -/
def computeLoop (s : State) (n : Nat) (a : LoopArgs) (ps : List Preset) : LoopOut :=
  let l := (chan s n).loop
  let fp := forcedPath (modeNow s n)
  let psec := gf s (chA n R.loopCfg) 0 3
  let csec := gf s (chA n R.loopCfg) 4 3
  let ofs := sgn (rd s (chA n R.outOfs))
  let bp := bankOff s n (slotNow s n fp)
  let bc := bankOff s n (slotNow s n (pother fp))
  let p := casError a.spEff a.mF a.dErr (gf s (chA n bp) 0 4)
  let upper := upperTarget s n (pother fp) a.mL
  let c := casError (limAct s n (pother fp) upper) a.mL 0 (gf s (chA n bc) 0 4)
  let ff := sat32 (rneDiv (a.spEff * sgn (rd s (chA n (bp + 4)))) (2 ^ 28))
  let anyT := presetCmd (fun _ => true) ps
  let base := if l.selOk then l.uSel else (anyT.getD l.cmd) * 2 ^ 12 - ofs
  let flip := l.selOk && l.selC && upper != l.upper
  let preP : PresetTo :=
    if l.zeroAll then .none
    else match presetCmd (fun p => p.prim) ps with
      | some t => .out (t * 2 ^ 12 - ofs - ff - a.rc)
      | none => if l.selC then .track (base - ff - a.rc) else .none
  let preC : PresetTo :=
    if l.zeroAll then .none
    else match presetCmd (fun p => p.comp) ps with
      | some t => .out (t * 2 ^ 12 - ofs)
      | none => if flip then .out l.uSel else if !l.selC || !ps.isEmpty then .track base else .none
  let secs := clearedSecs psec l.zeroAll ps l.secs
  let rp := runCas (coefAt s n bp) preP psec 0 p.2.1 secs (if p.2.2 then 1 else 0)
  let rcs := runCas (coefAt s n bc) preC csec psec c.2.1 rp.secs (if c.2.2 then Nat.lor rp.ovf (2 ^ psec) else rp.ovf)
  let up := rp.y + ff + a.rc
  let sel := selectOut upper (sat32 up) rcs.y
  let u := sel.1 + a.dOut + ofs
  { spEff := a.spEff, e32 := p.1, xP := p.2.1, xC := c.2.1, uSel := sel.1, selC := sel.2, upper, u := sat32 u,
    cmd := cmdOf (sat32 u), secs := rcs.secs, ovf := rcs.ovf, clampP := rp.clamp, clampC := rcs.clamp,
    limited := rp.limited || rcs.limited, outSat := sat32 up != up || sat32 u != u }

/-- The computation with the presets that are due; a compliance entry in the tick of a bank switch extends its preset to
both cascades, and is recorded though both outputs are then equal (02 R62). -/
def computeTick (s : State) (n : Nat) (a : LoopArgs) : LoopOut :=
  let ps := (chan s n).loop.presets
  let o := computeLoop s n a ps
  if o.selC && !(chan s n).loop.selC && ps.any (fun p => p.clear && !p.clearAll) then
    { computeLoop s n a (ps.map (fun p => if p.clear && !p.clearAll then { p with prim := true, comp := true } else p)) with
      selC := true, upper := o.upper }
  else o

/-! ### Delivery to the DAC (06 R174) -/

/-- The command of the tick and its input code: a double-bit error of the force entry repeats the code before (06 R174). -/
def deliver (n : Nat) (cmd : Int) (x : LoopIn) (s : State) : State :=
  let c := correctCmd s n cmd
  let s := if x.forceEcc1 then bump (chA n R.calStat) 8 8 s else s
  if x.forceEcc2 then
    flag (chA n R.calStat) 1 s |> sendMsg (srcChan n) 0x10 (calIndex n (forceSlot s n) 0 (calSeg (cmd * 16))) 0
      |> updLoop n (fun l => { l with cmd })
  else
    updLoop n (fun l => { l with cmd, code := c.1 }) (if c.2 then flag (chA n R.dacStat) 1 s else s)

/-! ### The tick of one channel -/

/-- The results of a completed closed-loop computation are taken (R105, R122). -/
def takeLoop (n : Nat) (o : LoopOut) (x : LoopIn) (s : State) : State :=
  let ps := (chan s n).loop.presets
  let restart := !ps.isEmpty || (chan s n).loop.zeroAll ||
    ((chan s n).loop.selOk && (chan s n).loop.selC && o.upper != (chan s n).loop.upper)
  let s := sb (chA n R.loopStat) 9 o.clampP s |> sb (chA n R.loopStat) 10 o.clampC
    |> noteSelection n o.upper o.selC
    |> updLoop n (fun l => { l with secs := o.secs, uSel := o.uSel, selOk := true, upper := o.upper, e32 := o.e32,
                                    presets := [], zeroAll := false, outSatNow := o.outSat })
  let s := if o.outSat then satOccurs n 8 s else s
  let s := if o.limited then satOccurs n 7 s else s
  let s := if o.ovf = 0 then s
    else wr (chA n R.secOvf) (BitVec.ofNat 32 (Nat.lor (rd s (chA n R.secOvf)).toNat o.ovf)) s |> bump (chA n R.secOvf) 16 16
  let s := if restart then luffRestart n s else s
  let s := if luffEn s n then luffTick n (if o.selC then o.xC else o.xP) s else luffIdle n s
  deliver n o.cmd x s

/-- No selector output is formed in this tick. -/
def noSelector (n : Nat) (s : State) : State :=
  updLoop n (fun l => { l with selOk := false, e32 := 0, outSatNow := false }) s

/-- A completed tick in which no cascade is computed: no integrator is at its clamp (R96), the detector does not run and the
repetitive controller learns nothing. That so it is in the ticks of a HOLD and of a gap with OPEN 0, where 04 R134 counts the loop as
closed, is the model's choice (log entry 136). -/
def noCascade (n : Nat) (s : State) : State :=
  noSelector n s |> sb (chA n R.loopStat) 9 false |> sb (chA n R.loopStat) 10 false |> luffIdle n |> rcTick n false 0

/-- A missed deadline (R121): everything keeps its value. -/
def missTick (n : Nat) (s : State) : State :=
  let run := gf s (chA n R.loopStat) 2 2
  let s := flag (chA n R.loopStat) 1 s |> bump (chA n R.loopCnt) 0 16 |> sf (chA n R.loopStat) 2 2 (min 3 (run + 1))
    |> count 0x03 n
    |> updLoop n (fun l => { l with missNow := true, dlDue := l.dlDue || decide (run = 2) })
  rcTick n false 0 s

/-- An injected tick is counted in its trailer (04 R144). That a missed tick whose retained IN_CMP is 1 counts among the ticks of bytes 8
and 9 as well is the model's choice (log entry 111). -/
def injCount (n : Nat) (missed : Bool) (s : State) : State :=
  if !injRuns s n then s
  else
    let cmp := gb s (chA n R.chStat) 4
    let rng := (chan s n).chg.isSome
    updInj n (fun i => { i with cmpTicks := i.cmpTicks + (if cmp then 1 else 0), missed := i.missed + (if missed then 1 else 0),
                                rngTicks := i.rngTicks + (if rng then 1 else 0) }) s

/-- The capture record of an injected tick (04 R144). In a tick whose loop is open or held the model writes e32 as 0 and u_sel as the
latest tick formed it, and it saturates u_sel + d to Q1.31: neither is stated (log entry 92). -/
def captureTick (n : Nat) (missed : Bool) (s : State) : State :=
  let l := (chan s n).loop
  let u := if modeNow s n = 8 then sfld (rd s (chA n R.manCode)) 0 20 * 2 ^ 12 else l.uSel
  let d := injValue s n
  let r := if missed then l.recU else sat32 (u + d)
  injCount n missed s |> injRecord n d l.e32 r l.mF |> updLoop n (fun l => { l with recU := r })

/-- The computation of a costed channel that completes (R90, R98, R105, R119, R120): in MANUAL and with the loop open a comparison
of the limits takes the selector's place (02 R60); while a HOLD or a gap runs, the command holds (R84, R77), and the entry sequence
commands the clear code (R53). With the loop open the command is the held one (R105, R119): that the repetitive term, which 04 R126
adds whether the loop is open or not, is then a term of the u_p of R105, which drives nothing while OPEN, is the model's reading (log
entry 93). After a HOLD, a gap and the ticks of CONNECTING the primary counts as the cascade picked in the tick before: the model's
choice (log entry 91). -/
def completeTick (n : Nat) (mV mI : Int) (x : LoopIn) (s : State) : State :=
  let m := modeNow s n
  let fp := forcedPath m
  let mF := sat32 (match fp with | .v => mV | .i => mI)
  let mL := sat32 (match pother fp with | .v => mV | .i => mI)
  let s := sf (chA n R.loopStat) 2 2 0 s |> count 0x02 n |> updLoop n (fun l => { l with missNow := false, mF })
  let e : Int × State := if isClosed m then formSetpoint n mF (sat32 mV) s else (0, s)
  let s := e.2
  if openNow s n || connecting s n || inHold s n || inGap s n then
    let s := noCascade n s |> whenB (openNow s n) (zeroStates n)
    let s := if openNow s n && !connecting s n then compareLimit n (pother fp) mL s
      else sb (chA n R.chStat) 4 false s |> updLoop n (fun l => { l with selC := false, inCmp := false })
    if inHold s n || inGap s n then s
    else if connecting s n then deliver n (clearCmd s n) x s
    else if m = 8 then
      let man := sfld (rd s (chA n R.manCode)) 0 20
      let cmd := if injRuns s n then sat 20 (man + rneDiv (injAt s n 2) (2 ^ 12)) else man
      updLoop n (fun l => { l with presets := [], adopt := false, zeroAll := false, rampFromMeas := false }) s |> deliver n cmd x
    else deliver n (chan s n).loop.held x s
  else
    let rc := rcTerm s n
    let o := computeTick s n { spEff := e.1, mF, mL, dErr := injAt s n 1, dOut := injAt s n 2, rc }
    takeLoop n o x s
      |> (fun s => rcTick n (!o.selC && (chan s n).chg.isNone && !injRuns s n) o.e32 s)

/-- A path's aperture and raw block take the tick (05). -/
def measurePath (n : Nat) (p : Path) (x : Sampled) (missed : Bool) (raw : RawIn) (s : State) : State :=
  updMeas n p (fun m => { m with ap := m.ap.map (apTake s n p x missed) }) s |> rawPath n p raw

/-- What the read of the force entry reports where the clear latch has been recomputed in this tick (06 R174, R179): a saturation, a
corrected error, or a double-bit error, after which the latch holds the uncorrected clear command. -/
def clearReport (n : Nat) (x : LoopIn) (s : State) : State :=
  let c := chan s n
  if c.clrAt ≠ some s.now then s
  else
    let cmd := clearCmd s n
    let s := if x.clearEcc1 then bump (chA n R.calStat) 8 8 s else s
    if x.clearEcc2 then
      let s := flag (chA n R.calStat) 1 s |> sendMsg (srcChan n) 0x10 (calIndex n (forceSlot s n) 0 (calSeg (cmd * 16))) 0
        |> updChan n (fun c => { c with clrLatch := cmd, loop := { c.loop with
            code := if c.clrDac = some s.now then cmd else c.loop.code } })
      if s.clrLow ∨ c.clrDac = some s.now then setDac n cmd s else s
    else if (correctCmd s n cmd).2 then flag (chA n R.dacStat) 1 s else s

/-- Bytes 8 to 23 of the signal record of a tick that is not missed (15 R399). -/
def traceBytes (s : State) (n : Nat) : List Byte :=
  let l := (chan s n).loop
  let m := modeNow s n
  wBytes (if isClosed m then rd s (chA n R.spEff) else 0) ++ wBytes (toW l.mF) ++ wBytes (if isClosed m && !openNow s n then toW l.e32 else 0)
    ++ leBytes 4 (pat 20 l.cmd + m * 2 ^ 20 + slotNow s n (forcedPath m) % 16 * 2 ^ 24)

/-- The tick of one channel: its samples, its computation, and their consumers. A tick in OFF or MEASURE is neither completed nor
missed, and that it leaves DL_RUN as it is, is the model's choice (R121; log entry 94); it commands the clear code (02 R52, 06 R174,
R182). -/
def channelTick (n : Nat) (x : LoopIn) (missed : Bool) (s : State) : State :=
  let s := clearReport n x s
  let v := pathSample n .v x.va x.vb s
  let i := pathSample n .i x.ia x.ib v.2
  let mV := v.1.m
  let mI := i.1.m
  let s := if missed then i.2
    else updLoop n (fun l => { l with lastV := mV, lastI := mI }) i.2
  let costed := isClosed (modeNow s n) || modeNow s n == 8
  let s := match x.memErr with
    | some e => if costed then sendMsgAt e.cyc (srcChan n) 0x0A e.word (if e.state then 1 else 0) s else s
    | none => s
  let s :=
    if !costed then
      noSelector n s |> luffIdle n |> rcTick n false 0
        |> updLoop n (fun l => { l with missNow := false, mF := sat32 mV }) |> deliver n (clearCmd s n) x
    else if missed then missTick n s
    else completeTick n mV mI x s
  let s := if missed && costed then s else updLoop n (fun l => { l with tRec := traceBytes s n }) s
  let s := captureTick n missed s |> autoCount n (fun p => match p with | .v => mV | .i => mI)
  measurePath n .v v.1 missed x.rawV s |> measurePath n .i i.1 missed x.rawI

/-- The channels of a core in ascending order against the 800 slots of the tick (R90, R91). -/
def coreTick (g : Nat) : List Nat → List LoopIn → Nat → State → State
  | n :: t, x :: ins, used, s =>
    let used := used + chCost s n + 2 * x.retries
    let missed := decide (chCost s n ≠ 0) && (x.memErr.isSome || decide (800 < used))
    coreTick g t ins used (channelTick n x missed s)
  | _, _, used, s => updLc g (fun c => { c with done := true, slots := used }) s |> countBy 0x0D g (min 800 used)

/-- The loop core of a group has still to compute in this tick. -/
def loopPending (s : State) (g : Nat) : Bool := !(lcore s g).done

/-- LOOP_COMPUTATION (R90). -/
def loopComputation (g : Nat) (ins : List LoopIn) (s : State) : State :=
  let ns := (List.range 8).map (fun j => 8 * g + j)
  each ensurePlayed ns s |> coreTick g ns ins 0

/-- The third consecutive miss is to be reported (R121). -/
def deadlineDue (s : State) (n : Nat) : Bool := (chan s n).loop.dlDue

/-- LOOP_DEADLINE (R121). -/
def deadlineSend (n : Nat) (s : State) : State :=
  updLoop n (fun l => { l with dlDue := false }) s |> sendMsg (srcChan n) 0x09 0 (gf s (chA n R.loopCnt) 0 16)

end Sys2Proof.Machine
end

