-- ==== Sys2Proof/Machine/EdgeUnits.lean ====
section
/-! DEFINITION. A unit of the edge timer: edges and their pairs, completions and overflows, and the order in which they come within a
tick (10 R267 to R280). -/

namespace Sys2Proof.Machine

/-- The core cycle, counted from the first tick, in which a tick begins; the coarse counter's phase is 0 there. -/
def cycleOf (tick : Nat) : Nat := 50 * tick

/-- START of a unit's latched configuration. -/
def etStart (e : EtUnit) : Nat := fld e.cfg 0 7

/-- STOP of a unit's latched configuration. -/
def etStop (e : EtUnit) : Nat := fld e.cfg 8 7

/-- BUSY follows an open measurement. -/
def showEt (u : Nat) (s : State) : State := sb (etA u R.etStat) 1 (etu s u).start.isSome s

/-- An ignored edge (R273). -/
def ignoreEdge (u : Nat) (s : State) : State := bump (etA u R.etStat) 16 16 s

/-- An interval of R270 between two edges, 0 for a coincidence (R274). -/
def interval (a b : EtEdge) : Int :=
  let x := ((b.c : Int) - a.c) * 2000 + a.f - b.f
  if x.natAbs < 6 then 0 else x

/-- Words 0 to 5 of a result (R279): the interval (none after an overflow), and the start edge. -/
def measWords (x : Option Int) (coinc coarse warm : Bool) (e : EtEdge) : List Word :=
  let v := x.getD 0
  let b (p : Bool) (i : Nat) : Nat := if p then 2 ^ i else 0
  [ toW (sat32 v),
    BitVec.ofNat 32 (b x.isSome 0 + b x.isNone 1 + b coinc 2 + b (decide (v < 0)) 3 + b coarse 4 + b warm 5
      + b (sat32 v != v) 6),
    BitVec.ofInt 32 v, BitVec.ofInt 32 (v / 2 ^ 32), BitVec.ofNat 32 e.time, BitVec.ofNat 32 (e.cyc + e.f * 2 ^ 16) ]

/-- The two words of a 64-bit value, low word first. -/
def dWords (v : Int) : List Word := [BitVec.ofInt 32 v, BitVec.ofInt 32 (v / 2 ^ 32)]

/-- The integer square root, found bit by bit from bit `b` downwards. -/
def isqrt : Nat → Nat → Nat → Nat
  | 0, _, acc => acc
  | b + 1, n, acc => isqrt b n (if (acc + 2 ^ b) * (acc + 2 ^ b) ≤ n then acc + 2 ^ b else acc)

/-- The square root of p / q rounded to nearest, ties to even. -/
def sqrtRne (p q : Nat) : Nat :=
  let y := isqrt 80 (4 * p / q) 0
  if y % 2 = 1 ∧ y / 2 % 2 = 0 ∧ y * y * q = 4 * p then y / 2 else (y + 1) / 2

/-- Words 6 to 15 of a statistics run (R278, R279). -/
def statWords (e : EtUnit) : List Word :=
  let cnt := [BitVec.ofNat 32 e.count, BitVec.ofNat 32 e.ovf]
  if e.count = 0 then cnt ++ List.replicate 8 0
  else
    let var := e.count * e.sumSq - e.sum.natAbs * e.sum.natAbs
    cnt ++ dWords (rneDiv (e.sum * 2 ^ 16) e.count) ++ dWords (sqrtRne (var * 2 ^ 32) (e.count * e.count)) ++ dWords e.min
      ++ dWords e.max

/-- Set bits of the flags word of a result. -/
def flagWords (add : Nat) : List Word → List Word
  | a :: f :: t => a :: (f ||| BitVec.ofNat 32 add) :: t
  | l => l

/-- The unit completes in this tick (R276, R277): it disarms, ETDu is caused in the core cycle of the completion, and the block is
written at the next edge. -/
def etFinish (u cyc : Nat) (trunc : Bool) (s : State) : State :=
  let e := etu s u
  let block :=
    if e.stats then
      let w := if e.last.isEmpty then List.replicate 6 0 else e.last
      flagWords (2 ^ 9 + (if trunc then 2 ^ 7 else 0) + (if e.count = 0 then 2 ^ 8 else 0) + (if e.warm then 2 ^ 5 else 0)) w
        ++ statWords e
    else e.last ++ List.replicate 10 0
  sf (etA u R.etStat) 0 2 0 s
    |> updEt u (fun e => { e with armed := false, start := none, preStop := none, stop := none, result := some block })
    |> causeAt (40 + u) (cyc % 50)

/-- One measurement ends (R276 to R278), in the given core cycle. -/
def etMeasured (u cyc : Nat) (x : Option Int) (coinc coarse : Bool) (s : State) : State :=
  match (etu s u).start with
  | none => s
  | some st =>
    let s := updEt u (fun e =>
      let e := { e with last := measWords x coinc coarse e.warm st, start := none, stop := none, preStop := none, free := cyc + 1 }
      match x with
      | none => { e with ovf := e.ovf + 1 }
      | some v => { e with count := e.count + 1, sum := e.sum + v, sumSq := e.sumSq + v.natAbs * v.natAbs,
                           min := if e.count = 0 then v else min e.min v, max := if e.count = 0 then v else max e.max v }) s
      |> showEt u
    let e := etu s u
    if !e.stats || decide (e.n ≤ e.count + e.ovf) then etFinish u cyc false s else s

/-! ### Edges (R270, R273, R274) -/

/-- The core cycle an edge falls in: a fine edge is counted at the clock edge that ends its cycle (R270). -/
def EtEdge.at_ (e : EtEdge) : Nat := if e.coarse then e.c else e.c - 1

/-- The core cycle in which an edge's conversion has finished: a vernier converts a fine edge (R271); a coarse one is known
at once. -/
def convEnd (e : EtEdge) : Nat := if e.coarse then e.c else e.at_ + 100 + e.f

/-- The core cycle in which a closed measurement completes (R271). -/
def etDoneAt (e : EtUnit) : Option Nat :=
  match e.start, e.stop with
  | some a, some b => some (max (convEnd a) (convEnd b))
  | _, _ => none

/-- An edge is free of the stop vernier: no earlier stop still converts. -/
def stopFree (e : EtUnit) (x : EtEdge) : Bool :=
  match e.preStop with
  | some (p, _) => decide (convEnd p ≤ x.at_)
  | none => true

/-- A start edge opens a measurement, and closes it with an earlier stop where the rules say so (R273, R274). -/
def takeStart (u : Nat) (x : EtEdge) (s : State) : State :=
  let e := etu s u
  let pairs : Option EtEdge := match e.preStop with
    | some (p, _) =>
      let d := ((p.c : Int) - x.c) * 2000 + x.f - p.f
      if d.natAbs < 6 ∨ (bit e.cfg 15 ∧ d < 0 ∧ -4000 ≤ d) then some p else none
    | none => none
  let s := match e.preStop, pairs with
    | some (_, true), none => ignoreEdge u s
    | _, _ => s
  updEt u (fun e => { e with start := some x, stop := pairs, preStop := none }) s |> showEt u

/-- A stop edge (R273, R274). -/
def takeStop (u : Nat) (x : EtEdge) (s : State) : State :=
  let e := etu s u
  match e.start with
  | none =>
    if bit e.cfg 15 && !stopFree e x then ignoreEdge u s
    else
      let s := match e.preStop with | some (_, true) => ignoreEdge u s | _ => s
      updEt u (fun e => { e with preStop := some (x, !bit e.cfg 15) }) s
  | some a =>
    let d := ((x.c : Int) - a.c) * 2000 + a.f - x.f
    if d < 0 ∧ 6 ≤ d.natAbs ∨ (2 ^ 32 : Int) * 2000 ≤ d then ignoreEdge u s
    else updEt u (fun e => { e with stop := some x }) s

/-- An edge reaches an armed unit (R273): while a measurement converts, the cycle of its completion included, it is ignored. -/
def takeEdge (u src : Nat) (x : EtEdge) (s : State) : State :=
  let e := etu s u
  if e.stop.isSome || (e.start.isNone && decide (x.at_ < e.free)) then ignoreEdge u s
  else if src = etStart e ∧ (e.start.isNone ∨ src ≠ etStop e) then
    if e.start.isSome then ignoreEdge u s else takeStart u x s
  else takeStop u x s

/-- SLOPE of a comparator takes a crossing (R268). -/
def slopeOk (s : State) (i : Nat) (up : Bool) : Bool :=
  match gf s (R.cmpCfg + 4 * i) 12 2 with | 0 => up | 1 => !up | _ => true

/-- A comparator gives an edge with a vernier count: it is enabled, and SLOPE takes the crossing (R268, R270). -/
def fineOk (s : State) (src f : Nat) (up : Bool) : Bool :=
  decide (src < 8) && gb s (R.cmpCfg + 4 * src) 16 && slopeOk s src up && decide (1 ≤ f) && decide (f ≤ 2000)

/-- The core cycle in which a line was caused (R269), where the machine knows it: cycle 49 for CMPn, the completion cycle for ETDn,
the slot of TRIG or the write's cycle for SWn; else the one the command names, or the present one. -/
def causeCycle (s : State) (line cyc : Nat) : Nat :=
  match s.causedAt.find? (fun p => p.1 == line) with
  | some p => p.2
  | none => if cyc < 50 then cyc else s.cycle

/-- The unit is shown a coarse edge of a source, once in a tick. -/
def coarseEdge (u src k : Nat) (s : State) : State :=
  updEt u (fun e => { e with seen := src :: e.seen }) s
    |> takeEdge u src { c := cycleOf s.now + k, f := 0, coarse := true, time := ticktime s, cyc := k }

/-- The sources of an armed unit, the start's first. -/
def etSources (e : EtUnit) : List Nat := if etStart e = etStop e then [etStart e] else [etStart e, etStop e]

/-- A closed measurement completes in this tick. -/
def etDue (s : State) (u : Nat) : Bool :=
  (etu s u).armed && (match etDoneAt (etu s u) with | some k => decide (k < cycleOf (s.now + 1)) | none => false)

/-- Its completion (R276). -/
def etComplete (u : Nat) (s : State) : State :=
  let e := etu s u
  match e.start, e.stop with
  | some a, some b =>
    let raw := ((b.c : Int) - a.c) * 2000 + a.f - b.f
    etMeasured u (max (convEnd a) (convEnd b)) (some (interval a b)) (decide (raw.natAbs < 6)) (a.coarse || b.coarse) s
  | _, _ => s

/-- No stop edge closes a measurement within 2^32 ns (R275). -/
def etOvfDue (s : State) (u : Nat) : Bool :=
  let e := etu s u
  e.armed && e.stop.isNone && (match e.start with | some a => decide (a.at_ + 2 ^ 32 < cycleOf (s.now + 1)) | none => false)

/-- It ends with OVF (R275). -/
def etOverflow (u : Nat) (s : State) : State :=
  match (etu s u).start with
  | some a => flag (etA u R.etStat) 5 s |> etMeasured u (a.at_ + 2 ^ 32) none false a.coarse
  | none => s

/-! ### The order of a tick (R269, R271, R273, R275) -/

/-- What a unit meets in a tick without a command: the edge of a line it names, the completion of its measurement, an overflow. -/
inductive EtEvent where
  | edge (src : Nat)
  | done
  | over
  deriving DecidableEq, Repr

/-- What is still to come to a unit in this tick, with its core cycle; edges of a cycle come before what ends in it. -/
def etEvents (s : State) (u : Nat) : List (Nat × EtEvent) :=
  let e := etu s u
  if !e.armed then []
  else
    ((etSources e).filter (fun c => decide (0x40 ≤ c) && !e.seen.contains c && s.caused.contains (c - 0x40))).map
        (fun c => (cycleOf s.now + causeCycle s (c - 0x40) 50, EtEvent.edge c))
      ++ (if etDue s u then ((etDoneAt e).map (·, EtEvent.done)).toList else [])
      ++ (if etOvfDue s u then ((e.start).map (fun a => (a.at_ + 2 ^ 32, EtEvent.over))).toList else [])

/-- The first of those events of some units that a test takes, with its unit. -/
def etFirst (s : State) (l : List Nat) (p : Nat × Nat × EtEvent → Bool := fun _ => true) : Option (Nat × Nat × EtEvent) :=
  ((l.flatMap (fun u => (etEvents s u).map (fun x => (x.1, u, x.2)))).filter p).foldl
    (fun m x => match m with | some y => if x.1 < y.1 then some x else m | none => some x) none

/-- An event comes to its unit. -/
def etDo (u : Nat) (x : EtEvent) (s : State) : State :=
  match x with
  | .edge c => coarseEdge u c (causeCycle s (c - 0x40) 50) s
  | .done => etComplete u s
  | .over => etOverflow u s

/-- Everything of the tick that a test takes comes to the units now, in its order. -/
def etAdvance (p : Nat × Nat × EtEvent → Bool) : Nat → State → State
  | 0, s => s
  | fuel + 1, s =>
    match etFirst s (List.range (nEts s)) p with
    | some (_, u, x) => etAdvance p fuel (etDo u x s)
    | none => s

/-- The units are as a core cycle of this tick finds them. -/
def etUpTo (k : Nat) (s : State) : State := etAdvance (fun x => decide (x.1 < cycleOf s.now + k)) 64 s

/-- What comes to the units before a fine edge of unit u in core cycle k: of what falls in the cycle itself, the coarse edges, whose
instant is the start of the cycle (R270), the completions of other units, which may cause one, and an overflow whose ETD line it names. -/
def beforeFine (s : State) (u k : Nat) (x : Nat × Nat × EtEvent) : Bool :=
  let c := cycleOf s.now + k
  let first := match x.2.2 with
    | .edge _ => true
    | .done => x.2.1 != u
    | .over => x.2.1 != u && (etSources (etu s u)).contains (0x40 + 40 + x.2.1)
  decide (x.1 < c) || (decide (x.1 = c) && first)

/-- A command gives the core cycle in which a line was caused (R269), where the machine does not know it. -/
def noteCause (line cyc : Nat) (s : State) : State :=
  if cyc < 50 ∧ s.causedAt.all (fun p => p.1 != line) then { s with causedAt := s.causedAt ++ [(line, cyc)] } else s

/-- An edge of a source in a core cycle of this tick reaches a unit (R268 to R270), after everything that comes before it. -/
def edgeAt (u src f cyc : Nat) (up : Bool) (s : State) : State :=
  let e := etu s u
  if !(e.armed && (src == etStart e || src == etStop e)) then s
  else if src < 8 then
    if fineOk s src f up then
      let s := etAdvance (beforeFine s u (cyc % 50)) 64 s
      if (etu s u).armed then
        takeEdge u src { c := cycleOf s.now + cyc % 50 + 1, f, coarse := false, time := ticktime s, cyc := cyc % 50 } s
      else s
    else s
  else if e.seen.contains src then s
  else if src = 8 then coarseEdge u 8 0 s
  else if 0x40 ≤ src ∧ s.caused.contains (src - 0x40) then
    let s := noteCause (src - 0x40) cyc s
    let k := causeCycle s (src - 0x40) cyc
    let s := etUpTo k s
    if (etu s u).armed && !(etu s u).seen.contains src then coarseEdge u src k s else s
  else s

/-- The completion that falls in this tick, made now: the STOP of the same tick leaves it standing (R280). -/
def etSettle (u : Nat) (s : State) : State :=
  if etDue s u then etComplete u s else if etOvfDue s u then etOverflow u s else s

/-- A measurement or run is discarded, and a stop that found no start counts as ignored (R273, R277, R280). -/
def etDrop (u : Nat) (s : State) : State :=
  let s := match (etu s u).preStop with | some (_, true) => ignoreEdge u s | _ => s
  sf (etA u R.etStat) 0 2 0 s |> updEt u (fun e => { e with armed := false, start := none, preStop := none, stop := none })

/-- An edge timer unit disarms without a result in the present core cycle; what comes in an earlier one stands (R272, R280). -/
def etDisarm (u : Nat) (s : State) : State :=
  let s := if (etu s u).armed then etUpTo s.cycle s else s
  etDrop u s |> updEt u (fun e => { e with armReq := none })

/-- The command of an event. -/
def etInstr (u : Nat) : EtEvent → Instr
  | .edge c => .edge u c 0 50 true
  | .done => .measurementComplete u
  | .over => .measurementOverflow u

/-- The next event of the units in this tick, where it comes before a core cycle. -/
def etNext (s : State) (k : Nat) : List Instr :=
  match etFirst s (List.range (nEts s)) with
  | some (c, u, x) => if c < cycleOf s.now + k then [etInstr u x] else []
  | none => []

end Sys2Proof.Machine
end

