-- ==== Sys2Proof/Machine/Ctx.lean ====
section
/-! DEFINITION. Contexts, shared resources, barriers, context exceptions, the instruction cache and the list units (08, 09
R263 to R266). -/

namespace Sys2Proof.Machine

/-! ### Contexts (R222 to R227) -/

/-- The context bound to a channel. -/
def boundCtx (s : State) (n : Nat) : Option Nat :=
  if gb s (sqA n R.seqStat) 12 then some (gf s (sqA n R.seqStat) 0 12) else none

/-- State of a context (R222). -/
def ctxState (s : State) (x : Nat) : Nat := gf s (cxA x R.cxState) 0 3

/-- Set a bound context's state, in its image and in SEQ_STAT. -/
def setCtxState (n x st : Nat) (s : State) : State :=
  sf (cxA x R.cxState) 0 3 st s |> sf (sqA n R.seqStat) 13 3 st |> updSeq n (fun q => { q with stateChg := true })

/-- WAIT_KIND of a wait (R246). -/
def waitKind : Wait → Nat
  | .none => 0
  | .wait _ => 1
  | .event _ _ _ => 2
  | .sync _ => 3
  | .acq _ => 4
  | .list => 5
  | .fetch _ => 6

/-- The context of a channel waits. -/
def setWait (n : Nat) (w : Wait) (s : State) : State :=
  updSeq n (fun q => { q with wait := w }) s |> sf (sqA n R.seqStat) 16 4 (waitKind w)

/-- The context of a channel executes instructions in this tick (R230). -/
def seqReady (s : State) (n : Nat) : Bool :=
  let q := seq s n
  (match boundCtx s n with | some x => ctxState s x == 2 | none => false) && q.wait == .none && decide (q.from_ ≤ s.now) &&
    !(q.own && q.pendSt.isSome)

/-- A context that ends its tick without a WAIT-class instruction (08 R231). -/
def exhausted (s : State) (n : Nat) : Bool := seqReady s n && (seq s n).chainTo.isNone

/-- PC of a context. -/
def pcOf (s : State) (x : Nat) : Nat := gf s (cxA x R.cxPc) 0 20

/-- A general register; g0 reads zero. -/
def gReg (s : State) (x i : Nat) : Word := if i = 0 then 0 else rd s (cxA x (R.cxG0 + 4 * i))

/-- Write a general register; a write to g0 is discarded (09 R248). -/
def setG (x i : Nat) (w : Word) (s : State) : State := if i = 0 then s else wr (cxA x (R.cxG0 + 4 * i)) w s

/-- Byte offset of a program in the DDR5 window. -/
def progBase (s : State) (x : Nat) : Nat := gf s (cxA x R.cxBaseLo) 12 20 * 2 ^ 12 + gf s (cxA x R.cxBaseHi) 0 4 * 2 ^ 32

/-! ### Shared resources (R236 to R239; 11 R299) -/

/-- The resource is shareable: a trigger output. -/
def shareable (r : Nat) : Bool := decide (12 ≤ r) && decide (r ≤ 19)

/-- The resource is present (00 R1). -/
def hasRes (s : State) (r : Nat) : Bool :=
  if r < 8 then decide (r < nEts s) else if r < 20 then true else decide (r < 36) && hasGroup s ((r - 20) / 4)

/-- HELD of a context. -/
def holds (s : State) (x r : Nat) : Bool := if r < 32 then gb s (cxA x R.cxHeldLo) r else gb s (cxA x R.cxHeldHi) (r - 32)

/-- Set HELD of a context. -/
def setHeld (x r : Nat) (b : Bool) (s : State) : State :=
  if r < 32 then sb (cxA x R.cxHeldLo) r b s else sb (cxA x R.cxHeldHi) (r - 32) b s

/-- The host holds a resource. -/
def hostHolds (s : State) (r : Nat) : Bool := (resOf s r).holders.contains .host

/-- The highest resource a context holds, plus one; 0 where it holds none. -/
def topHeld (s : State) (x : Nat) : Nat :=
  ((List.range 36).filter (holds s x)).foldl (fun m r => max m (r + 1)) 0

/-- A capture stream is held for a channel, by its bound context; one the host holds no channel can write (04 R143, 05 R169,
11 R299). -/
def streamHeld (s : State) (n cap : Nat) : Bool :=
  (resOf s (8 + cap)).holders.any (fun h => match h with | .host => false | .ctx _ m => m == n)

/-- An injection or raw capture still writes into a capture stream (R239). -/
def capBusy (s : State) (cap : Nat) : Bool :=
  (chans s).any (fun n =>
    let c := chan s n
    c.inj.any (fun i => i.stream == cap) || c.injOld.any (fun i => i.stream == cap) ||
      c.shadow.contains .injGo && gf s (chA n R.injCfg) 4 2 == cap || c.raw.any (fun r => r.dst == 32 + cap))

/-- HELD of a holder that is a context. -/
def showHeld (r : Nat) (b : Bool) (h : Holder) (s : State) : State :=
  match h with
  | .ctx x _ => setHeld x r b s
  | .host => s

/-- A holder gives a resource up in tick u (R238); a capture stream still written stays held until later (R239, 04 R145). -/
def giveUp (h : Holder) (r u : Nat) (s : State) : State :=
  let s := if r < 8 then etDisarm r s else s
  if 8 ≤ r ∧ r ≤ 11 ∧ capBusy s (r - 8) then updRes r (fun q => { q with deferred := true }) s
  else updRes r (fun q => { q with holders := q.holders.filter (· != h), freed := some u }) s |> showHeld r false h

/-- A deferred release takes effect (R239). -/
def releaseDeferred (cap : Nat) (s : State) : State :=
  if (resOf s (8 + cap)).deferred && !capBusy s cap then
    each (showHeld (8 + cap) false) (resOf s (8 + cap)).holders s
      |> updRes (8 + cap) (fun q => { q with holders := [], deferred := false, freed := some s.now })
  else s

/-- A holder takes a resource. -/
def takeRes (h : Holder) (r : Nat) (s : State) : State :=
  updRes r (fun q => { q with holders := q.holders ++ [h] }) s |> showHeld r true h

/-- The resource can be had at once (R237). -/
def freeNow (s : State) (r : Nat) : Bool :=
  shareable r || ((resOf s r).holders.isEmpty && (resOf s r).queue.isEmpty)

/-- A resource released in an earlier tick is due to the head of its queue (R238). -/
def grantDue (s : State) (r : Nat) : Bool :=
  let q := resOf s r
  q.holders.isEmpty && !q.queue.isEmpty && (match q.freed with | some u => decide (u < s.now) | none => true)

/-- The grant (R238): the context executes its next instruction at slot 0 of this tick. -/
def grantRes (r : Nat) (s : State) : State :=
  match (resOf s r).queue with
  | [] => s
  | h :: t =>
    let s := updRes r (fun q => { q with queue := t, freed := none }) s |> takeRes h r
    match h with
    | .ctx _ n => setWait n .none s
    | .host => s

/-! ### Stopping a context (R226, R227) -/

/-- A context leaves RUN or LOADING in tick u: resources, barrier arrival and pending ACQ are given up (R227). -/
def dropAll (n x u : Nat) (s : State) : State :=
  let s := each (fun r s => if holds s x r then giveUp (.ctx x n) r u s else s) (List.range 36) s
  let s := match (seq s n).wait with
    | .acq r => updRes r (fun q => { q with queue := q.queue.filter (· != .ctx x n) }) s
    | .sync b => { s with barGone := s.barGone ++ [(b, n)] }
    | _ => s
  setWait n .none s

/-- The context stops by its own act in this tick, in a state from the next tick on (R226, R242). -/
def stopSelf (n x st : Nat) (s : State) : State :=
  dropAll n x s.now s |> updSeq n (fun q => { q with pendSt := some st, own := true, used := 8 })

/-- The bound context is halted at once, as by a furl (R226). -/
def haltNow (n : Nat) (s : State) : State :=
  match boundCtx s n with
  | none => s
  | some x =>
    if ctxState s x = 1 ∨ ctxState s x = 2 then
      dropAll n x s.now s |> setCtxState n x 3
        |> updSeq n (fun q => { q with pendSt := none, own := false, chainTo := none })
    else s

/-- HALT of the host or of an ABORT (R224, 12 R338): the context executes nothing from the next tick; its own outcome in
this tick stands. -/
def haltNext (n : Nat) (s : State) : State :=
  match boundCtx s n with
  | none => s
  | some x =>
    if (ctxState s x = 1 ∨ ctxState s x = 2) ∧ ¬ (seq s n).own then updSeq n (fun q => { q with pendSt := some 3 }) s else s

/-! ### Exceptions (R242 to R244) -/

/-- Channels whose latch a furl decided now keeps set, although the host released them in this tick (13 R363). -/
def keptFurls (targets : List Nat) (act : Act) (s : State) : List Nat :=
  s.fc.released.filter (fun n => act == .dev || (act == .furl && targets.contains n))

/-- DEV_FURL stays set against a write of 1 of the tick in which a device furl is decided, which is counted once (13 R374). -/
def keptDevFurl (s : State) : State :=
  if s.fc.devKept then s else bump R.devStat 8 8 { s with fc := { s.fc with devKept := true } }

/-- A furl decided in the tick in which the host writes 1 to its latch: the latch stays set (13 R363), and a device furl is counted
(R374). -/
def keepFurl (targets : List Nat) (act : Act) (s : State) : State :=
  let back := keptFurls targets act s
  let s := each (fun n => sb R.chFurled n true) back
    { s with fc := { s.fc with released := s.fc.released.filter (fun n => !back.contains n) } }
  if act = .dev ∧ s.fc.devReleased then
    sf R.devStat 0 2 3 { s with fc := { s.fc with devReleased := false } } |> keptDevFurl
  else s

/-- Schedule a reaction for channels (13 R351), with the log index of its record where there is one. -/
def react (at_ : Nat) (targets : List Nat) (act : Act) (idx : Option Nat) (s : State) : State :=
  let s := keepFurl targets act s
  { s with fc := { s.fc with reacts := s.fc.reacts ++ [{ at_, targets, act, idx }] } }

/-- The bound context of a channel raises an exception in this tick (R242, R243). -/
def raiseExc (n code : Nat) (s : State) : State :=
  match boundCtx s n with
  | none => s
  | some x =>
    if (ctxState s x ≠ 1 ∧ ctxState s x ≠ 2) ∨ (seq s n).pendSt = some 4 then s
    else
      let s := sf (cxA x R.cxState) 16 8 code s |> sf (cxA x R.cxExcPc) 0 20 (pcOf s x)
        |> wr (cxA x R.cxExcTick) (BitVec.ofNat 32 (ticktime s))
        |> flag (sqA n R.seqStat) 23 |> stopSelf n x 4
        |> updSeq n (fun q => { q with exc := true, chainTo := none })
        |> sendMsg (0x10 + n / 4) (0x80 + code) (x + n * 4096) code
      match gf s (sqA n R.seqCfg) 0 2 with
      | 1 => react (s.now + 1) [n] .hold84 none s
      | 2 => react (s.now + 1) [n] .off none s
      | 3 => react (s.now + 1) [n] .furl none s
      | _ => s

/-! ### Binding (R224, R225, R228) -/

/-- Lines a context pins, by its image. -/
def pinCount (s : State) (x : Nat) : Nat := if gb s (cxA x R.cxState) 3 then gf s (cxA x R.cxPin) 0 12 else 0

/-- The DDR5 lines a context will pin once it is bound. -/
def pinLines (s : State) (x : Nat) : List Nat := (List.range (pinCount s x)).map (fun i => progBase s x / 64 + i)

/-- The lines the context of a channel locked when it was bound; its image may be rewritten while it is stopped. -/
def lockedLines (s : State) (n : Nat) : List Nat := (List.range (seq s n).pinLen).map (fun i => (seq s n).pinBase + i)

/-- The lines pinned by the contexts that remain bound to channels other than one: those locked, and those of a context a CHAIN
of this tick binds in the place of another. -/
def pinnedOthers (s : State) (n : Nat) : List Nat :=
  ((chans s).filter (· != n)).foldl (fun l m =>
    let ls := match (seq s m).chainTo with | some y => pinLines s y | none => lockedLines s m
    l ++ ls.filter (fun y => !l.contains y)) []

/-- All pinned lines. -/
def pinned (s : State) : List Nat :=
  (chans s).foldl (fun l m => l ++ (lockedLines s m).filter (fun y => !l.contains y)) []

/-- The pins of context x do not fit once it is bound to channel n (R228). -/
def pinsBad (s : State) (n x : Nat) : Bool :=
  let o := pinnedOthers s n
  decide (2048 < o.length + ((pinLines s x).filter (fun y => !o.contains y)).length)

/-- Words of a cached line. -/
def cached (s : State) (line : Nat) : Bool := !(Map.get [] s.icache line).isEmpty

/-- The locked lines of a channel's context that are not in the cache. -/
def pinMissing (s : State) (n : Nat) : List Nat := (lockedLines s n).filter (fun l => !cached s l)

/-- The list of a channel is emptied (09 R265). -/
def emptyList (n : Nat) (s : State) : State :=
  withdraw 5 (fun w => match w with | .list m _ _ => m == n | _ => false) s
    |> updChan n (fun c => { c with list := { epoch := c.list.epoch + 1 } })
    |> wr (lsA n R.lstBase) 0 |> wr (lsA n R.lstLen) 0 |> wr (lsA n R.lstIdx) 0
    |> sf (lsA n R.lstStat) 0 7 0 |> sb (lsA n R.lstStat) 7 false |> sb (lsA n R.lstStat) 8 true

/-- Context x becomes the channel's active context; it executes from a tick on, or loads its pins first (R224, R228). -/
def bindTo (n x from_ : Nat) (s : State) : State :=
  let s := sf (sqA n R.seqStat) 0 12 x s |> sb (sqA n R.seqStat) 12 true |> sf (cxA x R.cxState) 8 5 n
    |> setWait n .none
    |> updSeq n (fun q => { q with from_, pendSt := none, own := false, chainTo := none, pinBase := progBase s x / 64,
                                   pinLen := pinCount s x })
  setCtxState n x (if (pinMissing s n).isEmpty then 2 else 1) s

/-- A context becomes IDLE and the channel has none bound. -/
def unbind (n x : Nat) (s : State) : State :=
  setCtxState n x 0 s |> sf (sqA n R.seqStat) 0 20 0 |> updSeq n (fun q => { q with pinBase := 0, pinLen := 0, left := some x })

/-- CMD_REJ. -/
def seqReject (n : Nat) (s : State) : State := flag (sqA n R.seqStat) 20 s

/-- BIND (R224). -/
def bindCtx (n x : Nat) (s : State) : State :=
  let stopped := match boundCtx s n with
    | some y => ctxState s y == 3 || ctxState s y == 4
    | none => true
  if nCtxs s ≤ x then s
  else if (ctxState s x != 0 || !stopped) = true then seqReject n s
  else if pinsBad s n x then seqReject n s |> flag (sqA n R.seqStat) 22
  else
    let s := match boundCtx s n with | some y => unbind n y s | none => s
    bindTo n x (s.now + 1) s |> emptyList n

/-- HALT by the host (R224). -/
def hostHalt (n : Nat) (s : State) : State :=
  match boundCtx s n with
  | some x => if ctxState s x = 1 ∨ ctxState s x = 2 then haltNext n s else seqReject n s
  | none => seqReject n s

/-- RESUME (R224); where an UNBIND of the same tick was accepted before it, the later command stands (log entry 80). -/
def hostResume (n : Nat) (s : State) : State :=
  match boundCtx s n with
  | some x =>
    if ctxState s x = 3 ∨ ctxState s x = 4 then
      setCtxState n x 2 s |> updSeq n (fun q => { q with from_ := s.now + 1, pendSt := none })
    else seqReject n s
  | none => seqReject n s

/-- UNBIND (R224). -/
def hostUnbind (n : Nat) (s : State) : State :=
  match boundCtx s n with
  | some x =>
    if ctxState s x = 3 ∨ ctxState s x = 4 then updSeq n (fun q => { q with pendSt := some 0 }) s else seqReject n s
  | none => seqReject n s

/-- The hand-over of CHAIN (R225): x inherits every resource A held. -/
def handOver (n a x : Nat) (s : State) : State :=
  let s := each (fun r s => if holds s a r then
      setHeld a r false s |> setHeld x r true
        |> updRes r (fun q => { q with holders := q.holders.map (fun h => if h = .ctx a n then .ctx x n else h) })
    else s) (List.range 36) s
  setCtxState n a 0 s |> bindTo n x s.now

/-- At a tick edge a sequencer's pending change of state happens, and CMP and the slots start anew (R225, R226, R230). -/
def seqEdge (n : Nat) (s : State) : State :=
  match boundCtx s n with
  | none => updSeq n (fun q => { q with used := 0, executed := 0, firstPc := none, branch := false, exc := false,
                                        exhaust := false, stateChg := false, left := none, pendSt := none, own := false }) s
  | some x =>
    let q := seq s n
    let s := updSeq n (fun q => { q with used := 0, executed := 0, firstPc := none, branch := false, exc := false,
                                         exhaust := false, stateChg := false, left := none }) s
    let s := match q.chainTo, q.pendSt with
      | some y, _ => handOver n x y s
      | none, some st =>
        let s := if q.own then s else if st = 3 then dropAll n x (s.now - 1) s else s
        let s := updSeq n (fun q => { q with pendSt := none, own := false }) s
        if st = 0 then unbind n x s else setCtxState n x st s
      | none, none => s
    match boundCtx s n with
    | some y => if ctxState s y = 2 then sb (cxA y R.cxFlags) 3 (chan s n).loop.inCmp s else s
    | none => s

/-! ### Barriers (01 R44 to R46; R240) -/

/-- COUNT of a barrier. -/
def barCount (s : State) (b : Nat) : Nat := min 32 (gf s (R.barCfg + 4 * b) 0 6)

/-- Channels whose contexts wait at a barrier, or did until they were stopped in this tick (R227), those of earlier ticks before those
of this one, each by number. -/
def barWaiting (s : State) (b : Nat) : List Nat :=
  let w := (chans s).filter (fun n => (seq s n).wait == .sync b || s.barGone.contains (b, n))
  w.filter (fun n => !s.barArr.contains (b, n)) ++ w.filter (fun n => s.barArr.contains (b, n))

/-- Complete generations of a barrier, released for the next tick (R45, R46). -/
def barRelease (b : Nat) (s : State) : State :=
  let w := barWaiting s b
  let c := barCount s b
  if c = 0 ∨ w.length < c then s
  else
    let k := w.length / c
    each (fun n s => if (seq s n).wait = .sync b then setWait n .none s else s) (w.take (k * c)) s
      |> sf (R.barCfg + 4 * b) 24 8 (gf s (R.barCfg + 4 * b) 24 8 + k)

/-- Channels whose contexts a HALT accepted in this tick will stop: their arrival at a barrier is withdrawn in it (R227). -/
def barLeaving (s : State) : List Nat := (chans s).filter (fun n => (seq s n).pendSt == some 3 && !(seq s n).own)

/-- The barriers at the end of a tick: releases, then withdrawals (R46, R227), and ARRIVED, which so shows a context from the tick
after its arrival on (log entry 81). -/
def barEdge (s : State) : State :=
  let gone := barLeaving s
  if s.barArr.isEmpty && s.barGone.isEmpty && gone.isEmpty then s
  else
    let bs := List.range 64
    let s := each barRelease bs s
    let s := each (fun n s => match (seq s n).wait with | .sync _ => setWait n .none s | _ => s) gone s
    each (fun b s => sf (R.barCfg + 4 * b) 8 6 (barWaiting s b).length s) bs { s with barArr := [], barGone := [] }

/-! ### The instruction cache (R228, R229) -/

/-- Lines wanted from DDR5: by the bound contexts, and those an upset has invalidated (13 R355). -/
def wantedLines (s : State) : List Nat :=
  s.refetch ++ (chans s).flatMap (fun n => match boundCtx s n with
    | some x =>
      if ctxState s x = 1 then (pinMissing s n).take 16
      else match (seq s n).wait with | .fetch l => [l] | _ => []
    | none => [])

/-- Post the fetch requests that are wanted and not outstanding (R229). -/
def postFetch (s : State) : State :=
  each (fun l s => if cached s l || outstanding s 6 (fun w => w == .fetch l) then s
    else enq { port := 6, offset := 64 * l, who := .fetch l, write := false } s) (wantedLines s) s

/-- A cache fill waits. -/
def fillDue (s : State) (line : Nat) : Bool := (fromInbox s 6 (fun w => w == .fetch line)).isSome

/-- Contexts that wait for a line, or load it, with their channels. -/
def lineWaiters (s : State) (line : Nat) : List Nat :=
  (chans s).filter (fun n => (seq s n).wait == .fetch line ||
    (match boundCtx s n with | some x => ctxState s x == 1 && (lockedLines s n).contains line | none => false))

/-- A line leaves the cache for a new one where all 4,096 are used; which one the spec does not say, so the command names
it, and an unpinned one is taken where it names none. -/
def evictFor (evict : Option Nat) (s : State) : State :=
  if s.icache.length < 4096 then s
  else
    let free := (s.icache.map (·.1)).filter (fun l => !(pinned s).contains l)
    let v := match evict with | some e => if free.contains e then some e else free.head? | none => free.head?
    match v with
    | some e => { s with icache := Map.del e s.icache }
    | none => s

/-- A requested line arrives (R229), or its fetch fails (R244). -/
def cacheFill (line : Nat) (evict : Option Nat) (s : State) : State :=
  match fromInbox s 6 (fun w => w == .fetch line) with
  | none => s
  | some e =>
    let ws := lineWaiters s line
    let s := { dropInbox e s with refetch := s.refetch.filter (· != line) }
    match e.2 with
    | none => each (fun n s => setWait n .none s |> raiseExc n 0x0A) ws s
    | some bs =>
      let words := (List.range 16).map (fun i => BitVec.ofNat 32 (leVal ((bs.drop (4 * i)).take 4)))
      let s := evictFor evict s
      let s := { s with icache := Map.put [] s.icache line words }
      each (fun n s => match (seq s n).wait with
        | .fetch _ => setWait n .none s |> updSeq n (fun q => { q with from_ := s.now + 1 })
        | _ => s) ws s

/-- A double-bit error in the instruction cache (13 R355): the line is invalidated, IC_ECC is sent, and the line is asked for again
through P6; who needs it waits as on a miss. -/
def cacheUpset (line : Nat) (s : State) : State :=
  sendMsg 5 0x23 (line % 4096) 0 { s with icache := Map.del line s.icache, refetch := s.refetch.filter (· != line) ++ [line] } |> postFetch

/-- Every pinned line of a LOADING context is in the cache (R228). -/
def pinsLoaded (s : State) (n : Nat) : Bool :=
  match boundCtx s n with
  | some x => ctxState s x == 1 && (pinMissing s n).isEmpty
  | none => false

/-- LOADING ends (R228): RUN, executing from the next tick. -/
def pinsDone (n : Nat) (s : State) : State :=
  match boundCtx s n with
  | some x => setCtxState n x 2 s |> updSeq n (fun q => { q with from_ := s.now + 1 })
  | none => s

/-- FLUSH (R229). -/
def flushCache (s : State) : State :=
  let keep := pinned s
  { s with icache := s.icache.filter (fun e => keep.contains e.1) }

/-- A word of a program, where its line is in the cache. -/
def progWord (s : State) (x pc : Nat) : Option Word :=
  let o := progBase s x + 4 * pc
  match Map.get [] s.icache (o / 64) with
  | [] => none
  | ws => some (ws.getD (o % 64 / 4) 0)

/-! ### The list unit (09 R263 to R266) -/

/-- LEN of a list. -/
def listLen (s : State) (n : Nat) : Nat := gf s (lsA n R.lstLen) 0 25

/-- IDX of a list. -/
def listIdx (s : State) (n : Nat) : Nat := gf s (lsA n R.lstIdx) 0 25

/-- WRAP of a list. -/
def listWrap (s : State) (n : Nat) : Bool := gb s (lsA n R.lstStat) 7

/-- Show FILL and END. -/
def showList (n : Nat) (s : State) : State :=
  let l := (chan s n).list
  sf (lsA n R.lstStat) 0 7 l.buf.length s
    |> sb (lsA n R.lstStat) 8 (!l.started || (listIdx s n == listLen s n && !listWrap s n))

/-- The byte offset and the first entry of the next burst a list may prefetch: room for a whole burst's entries, and never
beyond its last entry without WRAP (R263). -/
def nextListBurst (s : State) (n : Nat) : Option (Nat × Nat) :=
  let l := (chan s n).list
  let i := if listWrap s n && listLen s n ≤ l.req then l.req % listLen s n else l.req
  if l.started && decide (l.buf.length + 16 ≤ 64) && decide (i < listLen s n) then
    some (gf s (lsA n R.lstBase) 0 30 * 64 + i / 16 * 64, i)
  else none

/-- The prefetch of a list wants a burst and has none outstanding. -/
def postList (n : Nat) (s : State) : State :=
  match nextListBurst s n with
  | none => s
  | some (o, i) =>
    if outstanding s 5 (fun w => match w with | .list m _ _ => m == n | _ => false) then s
    else enq { port := 5, offset := o, who := .list n (chan s n).list.epoch i, write := false } s

/-- A list burst waits with its data. -/
def listDue (s : State) (n : Nat) : Bool :=
  (fromInbox s 5 (fun w => match w with | .list m _ _ => m == n | _ => false)).isSome

/-- A list prefetch burst arrives (R264): its entries enter the buffer, and a stalled LIST.NEXT executes again in the next
tick. -/
def listArrive (n : Nat) (s : State) : State :=
  match fromInbox s 5 (fun w => match w with | .list m _ _ => m == n | _ => false) with
  | none => s
  | some e =>
    let s := dropInbox e s
    match e.1.who with
    | .list _ ep i =>
      if ep ≠ (chan s n).list.epoch then s
      else
        let k := min (16 - i % 16) (listLen s n - i)
        let es : List (Option Word) := match e.2 with
          | none => List.replicate k none
          | some bs => (List.range k).map (fun j => some (BitVec.ofNat 32 (leVal ((bs.drop (4 * (i % 16 + j))).take 4))))
        let s := if e.2.isNone then flag (lsA n R.lstStat) 9 s else s
        let s := updChan n (fun c => { c with list := { c.list with buf := c.list.buf ++ es, req := i + k } }) s |> showList n
        if (seq s n).wait = .list then setWait n .none s |> updSeq n (fun q => { q with from_ := s.now + 1 }) else s
    | _ => s

end Sys2Proof.Machine
end

