-- ==== Sys2Proof/Machine/ChanRegs.lean ====
section
/-! DEFINITION. What a write of a register of a channel window does when it is accepted: the LOOP, MEAS, DAC and RANGE
sub-blocks (02 to 06). Force-side writes enter the shadow set and land at the next tick edge (01 R15). -/

namespace Sys2Proof.Machine

/-! ### Plain words (00 R4) -/

/-- Writable bits of the register at an address. -/
def rwMask (a : Nat) : Word := match rowAt a with | some r => r.rw | none => 0

/-- A write that takes effect when accepted: RW bits take it, W1C bits written 1 clear (R4). -/
def plainWrite (a : Nat) (w : Word) (s : State) : State :=
  match rowAt a with
  | none => s
  | some r => wr a (mergeMask r.rw (rd s a) w &&& ~~~(w &&& r.w1c)) s

/-- A write would change a writable bit of the register. -/
def differs (s : State) (a : Nat) (w : Word) : Bool := ((rd s a ^^^ w) &&& rwMask a) != 0

/-- A force-side write of a plain register of a channel. -/
def forceWrite (n off : Nat) (w : Word) (s : State) : State := accept n (.reg off (rwMask (chA n off)) w) s

/-! ### Mode and control (02 R49, R64) -/

/-- CNT_CLR (R49). -/
def clearChCnt (n : Nat) (s : State) : State := wr (chA n R.chCnt) 0 s

/-- A write of CH_CTRL, its command bits in ascending order. -/
def chCtrlWrite (n : Nat) (w : Word) (s : State) : State :=
  whenB (bit w 0) (pulseGo n) s |> whenB (bit w 1) (pulseStop n) |> whenB (bit w 2) (clearChCnt n)

/-! ### LOOP_CFG, commits and banks (03 R93, R95, R104, R113, R114, R118; 04 R138) -/

/-- A rejection of 03: its flag of LOOP_STAT and REJ_CNT (R96). -/
def loopReject (n i : Nat) (s : State) : State := reject (chA n R.loopStat) i (chA n R.loopCnt) 16 8 s

/-- The section counts of a LOOP_CFG write and whether they are rejected: both are kept where either may not change (R95). -/
def secCounts (s : State) (n : Nat) (cur w : Word) : Nat × Nat × Bool :=
  let p := fld w 0 3
  let c := fld w 4 3
  if p = fld cur 0 3 ∧ c = fld cur 4 3 then (p, c, false)
  else if openNow s n ∧ 1 ≤ p ∧ p ≤ 6 ∧ 1 ≤ c ∧ c ≤ 4 ∧ p + c ≤ 8 then (p, c, false)
  else (fld cur 0 3, fld cur 4 3, true)

/-- A write of LOOP_CFG (R93, R95). -/
def loopCfgWrite (n : Nat) (w : Word) (s : State) : State :=
  let k := secCounts s n (cfgAhead s n) w
  let en : Word := setFld (mergeMask 0x700 0 w) 8 1 (if hasRc s && bit w 8 then 1 else 0)
  let cfg := setFld (setFld en 0 3 k.1) 4 3 k.2.1
  if 760 < sumWith s n (modeAhead s n) cfg then loopReject n 5 s
  else accept n (.loopCfg cfg) s |> whenB k.2.2 (loopReject n 5)

/-- SEC_COMMIT: the staging set is copied at acceptance (R114). -/
def secCommit (n sec slot : Nat) (s : State) : State :=
  let a := chA n (R.stg + 16 * sec)
  accept n (.secCommit sec slot (rd s a) (rd s (a + 4)) (rd s (a + 8))) s

/-- A bank, or the reef set, is in use (R113, 04 R138). -/
def setInUse (s : State) (n off : Nat) : Bool :=
  if 0x3000 ≤ off then reefOn s n else bankInUse s n ((off - 0x1000) / 0x200)

/-- The rejection of a bank or reef set write: COEF_REJ and its count for both, and REEF_REJ for the reef set (R113, 04 R138). -/
def bankReject (n off : Nat) (s : State) : State :=
  loopReject n 4 s |> whenB (decide (0x3000 ≤ off)) (flag (chA n R.luffStat) 3)

/-- A clamp write would leave INT_HI not greater than INT_LO (R104). -/
def clampBad (s : State) (n off : Nat) (w : Word) : Bool :=
  if off % 0x20 = 0xC then decide (sgn w ≤ sgn (ahead s n (off + 4)))
  else if off % 0x20 = 0x10 then decide (sgn (ahead s n (off - 4)) ≤ sgn w)
  else false

/-- A write of the RWI word of a section (R104, R113). One that takes effect as it is accepted stands against a commit of the section
accepted before it in its tick (01 R17). -/
def sectionWrite (n off : Nat) (w : Word) (s : State) : State :=
  let a := chA n off
  let late := accept n (.bank off (rwMask a) w)
  let same := !differs s a w
  if same && ((ahead s n off ^^^ w) &&& rwMask a) == 0 then s
  else if clampBad s n off w then bankReject n off s
  else if !setInUse s n off then plainWrite a w s |> whenB (commitWaits s n off) late
  else if openNow s n then late s
  else if same then s else bankReject n off s

/-- A write of a bank's header: KFF is force-side (01 R14); ERR_SHIFT of a bank in use lands as well (R118); VALID of the
reef set is idle while the set is not in use or the loop is open (04 R138). -/
def headerWrite (n off : Nat) (w : Word) (s : State) : State :=
  let m := rwMask (chA n off)
  let reef := decide (0x3000 ≤ off)
  let used := setInUse s n off
  let bad := reef && off % 0x200 == 0 && bit w 8 != bit (ahead s n off) 8 && used && !openNow s n
  let m := if bad then m &&& 0xF else m
  let s := if off % 0x200 = 4 ∨ used then accept n (.bank off m w) s
    else wr (chA n off) (mergeMask m (rd s (chA n off)) w) s
  whenB bad (bankReject n off) s

/-- A write into a coefficient bank or the reef set. -/
def bankWrite (n off : Nat) (w : Word) (s : State) : State :=
  if (rowAt (chA n off)).isNone then s
  else if (off - 0x1000) % 0x200 < 8 then headerWrite n off w s
  else sectionWrite n off w s

/-- SP_CFG: SRC is force-side, RAMP_FROM_MEAS takes effect when accepted (R97). -/
def spCfgWrite (n : Nat) (w : Word) (s : State) : State :=
  sb (chA n R.spCfg) 1 (bit w 1) s |> accept n (.src (bit w 0))

/-! ### The repetitive controller (04 R125, R130, R131) -/

/-- A write of RC_CFG (R130), P and DLOG each on its own (00 R5): a new one takes effect with the pointer at 0, at once. That an entry
in progress is cut without counting in SKIP_CNT, and that entry 0 begins with this tick, is the model's choice (log entry 139). -/
def rcCfgWrite (n : Nat) (w : Word) (s : State) : State :=
  if !hasRc s || !differs s (chA n R.rcCfg) w then s
  else
    let a := chA n R.rcCfg
    let p := fld w 0 14
    let d := fld w 16 4
    let idle := !gb s (chA n R.loopCfg) 8 || openNow s n
    let okP := p == gf s a 0 14 || (idle && decide (16 ≤ p) && decide (p ≤ 8192) && decide (gf s (chA n R.rcLead) 0 13 < p))
    let okD := d == gf s a 16 4 || (idle && decide (d ≤ 8))
    let w' := setFld (setFld (rd s a) 0 14 (if okP then p else gf s a 0 14)) 16 4 (if okD then d else gf s a 16 4)
    let s := if differs s a w' then wr a w' s |> rcRestart false n else s
    whenB (!(okP && okD)) (rcReject n) s

/-- A write of RC_LEAD (R130). -/
def rcLeadWrite (n : Nat) (w : Word) (s : State) : State :=
  if !hasRc s then s else if rcP s n ≤ fld w 0 13 then rcReject n s else forceWrite n R.rcLead w s

/-- CLEAR lands on the next tick (R131). -/
def rcClear (n : Nat) (s : State) : State := if hasRc s then accept n .rcClear s else s

/-- BK_BUSY. -/
def rcBusy (s : State) (n : Nat) : Bool := (chan s n).rc.xfer.isSome

/-- Byte offset of the backup. -/
def rcBkOff (s : State) (n : Nat) : Nat := gf s (chA n R.rcBkLo) 6 26 * 64 + gf s (chA n R.rcBkHi) 0 4 * 2 ^ 32

/-- A backup or restore starts, at the offset RC_BK holds as its command is accepted (17 R436, R437). -/
def rcStart (n : Nat) (restore : Bool) (s : State) : State :=
  updRc n (fun r => { r with xfer := some (restore, 0, 0), bkAt := rcBkOff s n }) s |> sb (chA n R.rcStat) 16 true

/-- BACKUP (R131): BK_TORN sets if LEARN is 1 at any time during the copy. -/
def rcBackup (n : Nat) (s : State) : State :=
  if !hasRc s then s else if rcBusy s n then rcReject n s
  else rcStart n false s |> whenB (gb s (chA n R.rcCtrl) 0) (flag (chA n R.rcStat) 17)

/-- RESTORE (R131). -/
def rcRestore (n : Nat) (s : State) : State :=
  if !hasRc s then s
  else if rcBusy s n || gb s (chA n R.rcCtrl) 0 || (gb s (chA n R.loopCfg) 8 && !openNow s n) then rcReject n s
  else rcStart n true s

/-- A write of RC_CTRL: its fields are force-side (R130), its commands act by their own rules. -/
def rcCtrlWrite (n : Nat) (w : Word) (s : State) : State :=
  if !hasRc s then s
  else forceWrite n R.rcCtrl w s |> whenB (bit w 8) (rcClear n) |> whenB (bit w 9) (rcBackup n)
    |> whenB (bit w 10) (rcRestore n)

/-- The index of RC_TDATA moves on after each access (R125). -/
def tidxNext (n : Nat) (s : State) : State := sf (chA n R.rcTidx) 0 13 (gf s (chA n R.rcTidx) 0 13 + 1) s

/-- A write of RC_TDATA (R131). -/
def rcTdataWrite (n : Nat) (w : Word) (s : State) : State :=
  if !hasRc s then s
  else if gb s (chA n R.rcCtrl) 0 then rcReject n s |> tidxNext n
  else rcStore n (gf s (chA n R.rcTidx) 0 13) w s |> tidxNext n

/-- The entry that RC_TDATA reads. -/
def rcTdata (s : State) (n : Nat) : Word := Map.get 0 (chan s n).rc.tab (gf s (chA n R.rcTidx) 0 13)

/-! ### The luff detector and the reef set (04 R136, R139) -/

/-- A write of a register of the luff detector lands and restarts detection (R136). -/
def luffWrite (n off : Nat) (w : Word) (s : State) : State :=
  accept n (.luffReg off (rwMask (chA n off)) w) s

/-- The reef set as it will be once the accepted commands have landed. -/
def reefAhead (s : State) (n : Nat) : Bool :=
  ((chan s n).shadow.filterMap (fun w => match w with | .reef b => some b | _ => none)).getLast?.getD (reefOn s n)

/-- A rejected reef command (R139). -/
def reefReject (n : Nat) (s : State) : State := flag (chA n R.luffStat) 3 s

/-- REEF_SET is refused (R139). -/
def reefRefused (s : State) (n : Nat) : Bool :=
  !bit (rd s (chA n 0x3000)) 8 || reefAhead s n || !(isClosed (modeNow s n) || modeNow s n == 8)

/-- REEF_SET (R139). -/
def reefSet (n : Nat) (s : State) : State :=
  if reefRefused s n then reefReject n s
  else accept n (.reef true) s

/-- REEF_REL (R139). -/
def reefRel (n : Nat) (s : State) : State := if reefAhead s n then accept n (.reef false) s else reefReject n s

/-- RESTART of the luff detector (R136). -/
def luffRestartCmd (n : Nat) (s : State) : State := accept n .luffRestart s

/-- A write of LUFF_CTRL. -/
def luffCtrlWrite (n : Nat) (w : Word) (s : State) : State :=
  whenB (bit w 0) (reefSet n) s |> whenB (bit w 1) (reefRel n) |> whenB (bit w 2) (luffRestartCmd n)

/-! ### Injection (04 R140, R143, R145) -/

/-- An injection runs: from its landing to its end. -/
def injBusy (s : State) (n : Nat) : Bool := (chan s n).inj.any (fun i => i.ended.isNone)

/-- A rejected start or write of the injection unit (R140). -/
def injReject (n : Nat) (s : State) : State := flag (chA n R.injStat) 1 s

/-- A write of INJ_CFG or INJ_N, idle while no injection runs (R140). That an open loop does not make up for a unit that is busy, here
and in `rawCfgWrite`, `corrWrite` and `tackCfgWrite`, is the model's reading of 00 R5 (log entry 14). -/
def injCfgWrite (n off : Nat) (w : Word) (s : State) : State :=
  if injBusy s n && differs s (chA n off) w then injReject n s
  else if off = R.injN ∧ w = 0 then injReject n s
  else plainWrite (chA n off) w s

/-- GO is rejected (R143, R145). -/
def injRefused (s : State) (n : Nat) : Bool :=
  let cfg := rd s (chA n R.injCfg)
  let m := modeNow s n
  let pt := fld cfg 0 2
  !gb s (chA n R.loopCfg) 10 || !(isClosed m || m == 8) || pt == 3 || (m == 8 && pt != 2) || injBusy s n ||
    (!bit cfg 2 && gb s (chA n R.spCfg) 0 && gb s (chA n R.genCfg) 0 && (chan s n).dds.run) ||
    !streamHeld s n (fld cfg 4 2) || (chan s n).shadow.contains .injStop

/-- INJ_CTRL.GO (R143). -/
def injGo (n : Nat) (s : State) : State :=
  if injRefused s n then injReject n s else if (chan s n).shadow.contains .injGo then s else accept n .injGo s

/-- INJ_CTRL.STOP; it beats a GO of the same tick (R143, R145). -/
def injStop (n : Nat) (s : State) : State :=
  let s := if (chan s n).shadow.contains .injGo then
      injReject n s |> updChan n (fun c => { c with shadow := c.shadow.filter (· != .injGo) }) else s
  accept n .injStop s

/-- A write of INJ_CTRL. -/
def injCtrlWrite (n : Nat) (w : Word) (s : State) : State := whenB (bit w 0) (injGo n) s |> whenB (bit w 1) (injStop n)

/-! ### The LOOP sub-block -/

/-- A write into the LOOP sub-block, banks apart. -/
def loopWrite (n off : Nat) (w : Word) (s : State) : State :=
  if off = R.chMode then writeMode n (fld w 0 4) s
  else if off = R.chCtrl then chCtrlWrite n w s
  else if R.vlimHi ≤ off ∧ off ≤ R.ilimLo then accept n (.limit off w) s
  else if R.limRef ≤ off ∧ off ≤ R.loadVmin then forceWrite n off w s
  else if off = R.loopCfg then loopCfgWrite n w s
  else if off = R.loopCtrl then accept n (.open_ (bit w 0)) s
  else if off = R.sp then acceptSp n w s
  else if off = R.spCfg then spCfgWrite n w s
  else if off = R.rampRate ∨ off = R.manCode ∨ off = R.outOfs then forceWrite n off w s
  else if off = R.secCommit then secCommit n (fld w 0 3) (fld w 4 4) s
  else if off = R.rcCfg then rcCfgWrite n w s
  else if off = R.rcGain ∨ off = R.rcQf then (if hasRc s then forceWrite n off w s else s)
  else if off = R.rcLead then rcLeadWrite n w s
  else if off = R.rcCtrl then rcCtrlWrite n w s
  else if off = R.rcTdata then rcTdataWrite n w s
  else if R.rcStat ≤ off ∧ off ≤ R.rcTidx then (if hasRc s then plainWrite (chA n off) w s else s)
  else if R.luffCfg ≤ off ∧ off ≤ R.luffBq2 then luffWrite n off w s
  else if off = R.luffCtrl then luffCtrlWrite n w s
  else if off = R.injCfg ∨ off = R.injN then injCfgWrite n off w s
  else if off = R.injCtrl then injCtrlWrite n w s
  else plainWrite (chA n off) w s

/-! ### The MEAS sub-block (05) -/

/-- A rejected write of the pair unit (R148, R171). -/
def pairReject (n : Nat) (s : State) : State := flag (chA n R.pairStat) 6 s

/-- A path's pair mode is idle (R148). -/
def pairIdle (s : State) (n : Nat) (p : Path) : Bool :=
  openNow s n && ((chan s n).path p).ap.isNone && !((chan s n).path p).queued && (chan s n).chg.isNone &&
    !((chan s n).raw.isSome && gb s (chA n R.rawCfg) (pnum p))

/-- A write of a pair mode field (R148): the sampling changes from the next tick. -/
def pairModeWrite (n : Nat) (p : Path) (m : Nat) (s : State) : State :=
  if m = pairMode s n p then s
  else if m = 3 ∨ ¬ pairIdle s n p then pairReject n s
  else
    sf (chA n R.pairCfg) (2 * pnum p) 2 m s
      |> updMeas n p (fun x => { x with mixTo := s.now + 3, modeWas := pairNow s n p, good := 0 })
      |> updChan n (fun c => { c with arFrom := s.now + 4 })

/-- A write of PAIR_CFG. -/
def pairCfgWrite (n : Nat) (w : Word) (s : State) : State :=
  pairModeWrite n .v (fld w 0 2) s |> pairModeWrite n .i (fld w 2 2) |> sf (chA n R.pairCfg) 4 2 (fld w 4 2)

/-- The corrections written since the last tick edge apply to the samples taken from this one on (R149, R151). -/
def corrEdge (n : Nat) (p : Path) (s : State) : State :=
  let a := fun off => chA n (off + 0x10 * pnum p)
  let c : Corr := { ofs := sfld (rd s (a R.corrOfs)) 0 30, gain := sgn (rd s (a R.corrGain)) }
  let l := ((chan s n).path p).corr
  if (l = [] ∧ c = {}) ∨ (l.length = 4 ∧ l.all (· == c)) then s else updMeas n p (fun m => { m with corr := (c :: m.corr).take 4 }) s

/-- The effects of an accepted pair mode write on the tick after it: CONV clears, to set again under R150, and the dwell count restarts
(R148). -/
def pairEdge (n : Nat) (p : Path) (s : State) : State :=
  let s := corrEdge n p s
  if ((chan s n).path p).mixTo = s.now + 2 then
    sb (chA n R.pairStat) (pnum p) false s |> updChan n (fun c => { c with up := 0, dn := 0 })
      |> updMeas n p (fun m => { m with good := 0, pairs := 0 })
  else s

/-- A write of a correction register, idle while its path's FREEZE is 1 (R151, R171; log entry 14). -/
def corrWrite (n : Nat) (p : Path) (off : Nat) (w : Word) (s : State) : State :=
  if !differs s (chA n off) w then s
  else if gb s (chA n R.pairCfg) (4 + pnum p) then plainWrite (chA n off) w s else pairReject n s

/-- A write of AP_CTRL. -/
def apCtrlWrite (n : Nat) (p : Path) (w : Word) (s : State) : State :=
  whenB (bit w 0) (apTrigger n p) s |> whenB (bit w 1) (apStop n p)

/-- A rejected start or write of raw capture (R169, R173). -/
def rawReject (n : Nat) (s : State) : State := flag (chA n R.rawStat) 1 s

/-- A write of RAW_CFG or RAW_N, idle while no capture runs (log entry 14). -/
def rawCfgWrite (n off : Nat) (w : Word) (s : State) : State :=
  if ((chan s n).raw.isSome && differs s (chA n off) w) || (off == R.rawN && w == 0) then rawReject n s
  else plainWrite (chA n off) w s

/-- RAW_CTRL.GO (R168, R169). -/
def rawGo (n : Nat) (s : State) : State :=
  let cfg := rd s (chA n R.rawCfg)
  if (chan s n).raw.isSome || fld cfg 0 2 == 0 || (bit cfg 2 && !streamHeld s n (fld cfg 3 2)) ||
      (chan s n).rawStopAt == some s.now then rawReject n s
  else
    updChan n (fun c => { c with raw := some {
        first := s.now + 1, last := s.now + (rd s (chA n R.rawN)).toNat, blkV := [], blkI := [], tV := 0, tI := 0, dropV := 0,
        dropI := 0, dst := if bit cfg 2 then 32 + fld cfg 3 2 else n } }) s

/-- RAW_CTRL.STOP (R169): the capture ends after the next tick's samples; one accepted in this tick never starts, be it accepted
before the STOP or after. -/
def rawStop (n : Nat) (s : State) : State :=
  let s := updChan n (fun c => { c with rawStopAt := some s.now }) s
  match (chan s n).raw with
  | none => s
  | some r =>
    if r.first = s.now + 1 then rawReject n s |> updChan n (fun c => { c with raw := none })
    else updChan n (fun c => { c with raw := some { r with last := min r.last (s.now + 1) } }) s

/-- A write of RAW_CTRL: with both bits the stop wins (R169). -/
def rawCtrlWrite (n : Nat) (w : Word) (s : State) : State := whenB (bit w 0) (rawGo n) s |> whenB (bit w 1) (rawStop n)

/-- A rejected table write or load (R155, R158). -/
def calReject (n : Nat) (s : State) : State := reject (chA n R.calStat) 0 (chA n R.calStat) 16 8 s

/-- Byte offset of the source of a load. -/
def calSrc (s : State) (n : Nat) : Nat := gf s (chA n R.calSrcLo) 12 20 * 2 ^ 12 + gf s (chA n R.calSrcHi) 0 4 * 2 ^ 32

/-- CAL_LD.GO (R158): the load reads from the source committed as GO is accepted (17 R436). -/
def calGo (n : Nat) (s : State) : State :=
  let slot := gf s (chA n R.calLd) 0 4
  if calInUse s n slot || (chan s n).calLd.isSome then calReject n s
  else
    updChan n (fun c => { c with calLd := some { slot, path := gf s (chA n R.calLd) 4 1, src := calSrc s n } }) s
      |> sb (chA n R.calStat) 2 true

/-- A write of CAL_LD: its fields take effect first (00 R5). -/
def calLdWrite (n : Nat) (w : Word) (s : State) : State := plainWrite (chA n R.calLd) w s |> whenB (bit w 5) (calGo n)

/-- A write into the MEAS sub-block. -/
def measWrite (n off : Nat) (w : Word) (s : State) : State :=
  if off = R.pairCfg then pairCfgWrite n w s
  else if R.corrOfs ≤ off ∧ off < R.corrOfs + 0x20 then corrWrite n (if off < R.corrOfs + 0x10 then .v else .i) off w s
  else if off = R.apCtrl then apCtrlWrite n .v w s
  else if off = R.apCtrl + 0x20 then apCtrlWrite n .i w s
  else if off = R.rawCfg ∨ off = R.rawN then rawCfgWrite n off w s
  else if off = R.rawCtrl then rawCtrlWrite n w s
  else if off = R.calLd then calLdWrite n w s
  else plainWrite (chA n off) w s

/-! ### The RANGE sub-block (02 R69, R71, R85) -/

/-- A descriptor's slot is in use: it is not idle (R69). -/
def descInUse (s : State) (n slot : Nat) : Bool := calInUse s n slot

/-- Descriptor slot's SETTLE, PARTNER and PEN pass R69 against the table and XFADE. -/
def descOk (s : State) (n k xf : Nat) : Bool :=
  let w := rd s (chA n (R.desc3 + 16 * k))
  let p := fld w 8 4
  f32Pos (fsOf s n k) && decide (1 ≤ fld w 0 8) &&
    (!bit w 12 || (decide (p / 8 = k / 8) && p != k && decide (8 ≤ fld w 0 8) && decide (8 ≤ settleOf s n p) &&
      decide (settleOf s n p + xf ≤ 37)))

/-- A partnership of the table is broken: SETTLE of descriptor or partner below 8, or partner SETTLE + XFADE above 37. -/
def pairOk (s : State) (n k xf : Nat) : Bool :=
  match partnerOf s n k with
  | none => true
  | some p => decide (8 ≤ settleOf s n k) && decide (8 ≤ settleOf s n p) && decide (settleOf s n p + xf ≤ 37)

/-- The parts of a descriptor word that R69 may accept apart from one another (00 R5), as masks, the largest first. Where several
parts of word +0xC break a condition together, which of them is kept back is the model's choice (log entry 90): SETTLE first,
then PARTNER, then PEN. -/
def descParts (off : Nat) : List Word :=
  if off % 16 = 12 then [0x1FFF, 0x1F00, 0x10FF, 0x0FFF, 0x1000, 0x0F00, 0x00FF] else [0xFFFFFFFF]

/-- A write of some bits of a descriptor word leaves descriptors that pass R69. -/
def descPasses (s : State) (n off : Nat) (m w : Word) : Bool :=
  let k := (off - R.desc) / 16
  let t := plainWrite (chA n off) (mergeMask m (rd s (chA n off)) w) s
  let xf := gf s (chA n R.tackCfg) 0 6
  descOk t n k xf && (List.range 16).all (fun j => j = k || pairOk t n j xf)

/-- A write of a descriptor word (R69): of a descriptor that is not idle nothing is taken; else the parts that may stand. An accepted
one re-shifts the standing frames (R85). -/
def descWrite (n off : Nat) (w : Word) (s : State) : State :=
  if !differs s (chA n off) w then s
  else if descInUse s n ((off - R.desc) / 16) then chReject n 13 s
  else
    match (descParts off).find? (fun m => descPasses s n off m w) with
    | none => chReject n 13 s
    | some m =>
      let w' := mergeMask m (rd s (chA n off)) w
      let s := if differs s (chA n off) w' then
          plainWrite (chA n off) w' s |> dropStanding n else s
      whenB (((w ^^^ w') &&& rwMask (chA n off)) != 0) (chReject n 13) s

/-- A write of TACK_CFG (R69; log entry 14). -/
def tackCfgWrite (n : Nat) (w : Word) (s : State) : State :=
  let xf := fld w 0 6
  if xf = gf s (chA n R.tackCfg) 0 6 then s
  else if (chan s n).chg.isSome || decide (xf < 4) || decide (32 < xf) || !(List.range 16).all (fun j => pairOk s n j xf) then
    chReject n 13 s
  else plainWrite (chA n R.tackCfg) w s

/-- A RANGE write is accepted for a path; it beats an autorange decision of the same tick (R71). -/
def rangeReq (n : Nat) (p : Path) (slot : Nat) (s : State) : State :=
  let s := if autoPath (modeNow s n) = some p then updChan n (fun c => { c with arDue := none, up := 0, dn := 0 }) s else s
  accept n (match p with | .v => .rangeV (slot % 8) | .i => .rangeI (8 + slot % 8)) s

/-- A write of RNG_SEL. -/
def rngSelWrite (n : Nat) (w : Word) (s : State) : State := rangeReq n .v (fld w 0 3) s |> rangeReq n .i (fld w 4 3)

/-- A write into the RANGE sub-block. -/
def rangeRegWrite (n off : Nat) (w : Word) (s : State) : State :=
  if off = R.rngSel then rngSelWrite n w s
  else if off = R.tackCfg then tackCfgWrite n w s
  else if R.desc ≤ off ∧ off < R.desc + 0x100 then descWrite n off w s
  else plainWrite (chA n off) w s

/-! ### The DAC sub-block (06 R177, R178, R181) -/

/-- SPAN as the accepted writes of this tick leave it: what a later write of the tick is held against (01 R5, R17; log entry 104). -/
def spanAhead (s : State) (n : Nat) : Nat :=
  ((chan s n).shadow.filterMap (fun w => match w with | .span c => some c | _ => none)).getLast?.getD (gf s (chA n R.dacCfg) 0 3)

/-- DAC_CLR as the accepted writes of this tick leave it. -/
def dacClrAhead (s : State) (n : Nat) : Word :=
  ((chan s n).shadow.filterMap (fun w => match w with | .dacClr w => some w | _ => none)).getLast?.getD (rd s (chA n R.dacClr))

/-- A write of DAC_CFG (R177). -/
def spanWrite (n : Nat) (w : Word) (s : State) : State :=
  if fld w 0 3 = spanAhead s n then s
  else if modeNow s n ≠ 0 ∨ 5 ≤ fld w 0 3 then dacReject n s
  else accept n (.span (fld w 0 3)) s

/-- A write of DAC_CLR (R181). A field is written where it differs from what the accepted writes of the tick leave (log entry 104). That several rejected fields of one word
count once is the model's choice (00 R5; log entry 120). -/
def dacClrWrite (n : Nat) (w : Word) (s : State) : State :=
  if ((dacClrAhead s n ^^^ w) &&& rwMask (chA n R.dacClr)) = 0 then s
  else if modeNow s n ≠ 0 ∨ gb s R.clrStat 0 ∨ furled s n then dacReject n s
  else accept n (.dacClr w) s

/-- A write into the DAC sub-block. -/
def dacWrite (n off : Nat) (w : Word) (s : State) : State :=
  if off = R.dacCfg then spanWrite n w s
  else if off = R.dacOfs then forceWrite n off w s
  else if off = R.dacClr then dacClrWrite n w s
  else plainWrite (chA n off) w s

end Sys2Proof.Machine
end

