-- ==== Sys2Proof/Machine/Conv.lean ====
section
/-! DEFINITION. The generator's and the DDS's registers (07 R208 to R221), CLR_N (06 R183 to R185) and the monitor
converters (06 R188 to R198). -/

namespace Sys2Proof.Machine

/-! ### Generator commands and registers (07) -/

/-- PRIME. -/
def primeCmd (n d : Nat) (s : State) : State := genAccept n (startRefused s n d) (.genPrime d) s

/-- START. -/
def startCmd (n d : Nat) (s : State) : State := genAccept n (startRefused s n d) (.genStart d) s

/-- STOP. -/
def stopCmd (n : Nat) (s : State) : State := accept n .genStop s

/-- JUMP. -/
def jumpCmd (n d : Nat) (s : State) : State := genAccept n (jumpRefused s n d) (.genJump d) s

/-- JUMP_NOW. -/
def jumpNowCmd (n d : Nat) (s : State) : State := genAccept n (jumpRefused s n d) (.genJumpNow d) s

/-- MARK. -/
def markCmd (n back : Nat) (s : State) : State := genAccept n (markRefused s n) (.genMark back) s

/-- REWIND. -/
def rewindCmd (n : Nat) (s : State) : State := genAccept n (rewindRefused s n) .genRewind s

/-- UNMARK. -/
def unmarkCmd (n : Nat) (s : State) : State := accept n .genUnmark s

/-- A write of GEN_CTRL: its command bits in ascending order. -/
def genCtrlWrite (n : Nat) (w : Word) (s : State) : State :=
  let d := fld w 8 10
  whenB (bit w 0) (primeCmd n d) s |> whenB (bit w 1) (startCmd n d) |> whenB (bit w 2) (stopCmd n)
    |> whenB (bit w 3) (jumpCmd n d) |> whenB (bit w 4) (jumpNowCmd n d) |> whenB (bit w 5) (markCmd n (fld w 18 14))
    |> whenB (bit w 6) (rewindCmd n) |> whenB (bit w 7) (unmarkCmd n)

/-- A write of GEN_CFG: SRC is idle while the player is stopped and nothing is primed; the reference slots are force-side. -/
def genCfgWrite (n : Nat) (w : Word) (s : State) : State :=
  let bad := bit w 0 != gb s (chA n R.genCfg) 0 && (chan s n).gen.cur.isSome
  let s := if bad then genReject n s else sb (chA n R.genCfg) 0 (bit w 0) s
  sb (chA n R.genCfg) 8 (bit w 8) s |> accept n (.genCfg 0xEE w)

/-- A write of DDS_FTW_LO goes into the port's latch (R219, 17 R436). Port 3 is the channel's sequencer. -/
def ftwLo (port n : Nat) (w : Word) (s : State) : State := { s with latches := Map.put 0 s.latches (64 * port + n) w }

/-- A write of DDS_FTW_HI makes both words land together (R219, 17 R436). -/
def ftwHi (port n : Nat) (w : Word) (s : State) : State :=
  accept n (.ddsFtw (Map.get 0 s.latches (64 * port + n)) (w &&& 0xFFFF)) s

/-- A write of a user table entry (R220). -/
def ddsTabWrite (n i : Nat) (w : Word) (s : State) : State :=
  if gf s (chA n R.ddsCfg) 0 2 = 3 ∧ (chan s n).dds.run then ddsReject n s else plainWrite (chA n (R.ddsTab + 4 * i)) w s

/-- DDS_CTRL.GO. -/
def ddsGo (n : Nat) (s : State) : State := accept n .ddsGo s

/-- DDS_CTRL.HALT. -/
def ddsHalt (n : Nat) (s : State) : State := accept n .ddsHalt s

/-- DDS_CTRL.PHASE_RESET. -/
def ddsPhase (n : Nat) (s : State) : State := accept n .ddsPhase s

/-- A write of DDS_CTRL. -/
def ddsCtrlWrite (n : Nat) (w : Word) (s : State) : State :=
  whenB (bit w 0) (ddsGo n) s |> whenB (bit w 1) (ddsHalt n) |> whenB (bit w 2) (ddsPhase n)

/-- A write into the GEN sub-block through a port. -/
def genWrite (port n off : Nat) (w : Word) (s : State) : State :=
  if off = R.genCfg then genCfgWrite n w s
  else if off = R.genCtrl then genCtrlWrite n w s
  else if off = R.ddsCfg then accept n (.ddsTable (fld w 0 2)) s
  else if off = R.ddsFtwLo then ftwLo port n w s
  else if off = R.ddsFtwHi then ftwHi port n w s
  else if off = R.ddsPhase0 ∨ off = R.ddsAmp ∨ off = R.ddsOfs then forceWrite n off w s
  else if off = R.ddsCtrl then ddsCtrlWrite n w s
  else if R.ddsTab ≤ off ∧ off < R.ddsTab + 0x1000 then ddsTabWrite n ((off - R.ddsTab) / 4) w s
  else if R.gd ≤ off then gdWrite n ((off - R.gd) / 16) ((off - R.gd) % 16) w s
  else plainWrite (chA n off) w s

/-- A write of a register of a channel's window, by its offset (17 R443). -/
def chanWrite (port n off : Nat) (w : Word) (s : State) : State :=
  if off < 0x1000 then loopWrite n off w s
  else if off < 0x3200 then bankWrite n off w s
  else if off < 0x6000 then measWrite n off w s
  else if off < 0x8000 then dacWrite n off w s
  else if off < 0xA000 then rangeRegWrite n off w s
  else genWrite port n off w s

/-! ### CLR_N (06 R183 to R185) -/

/-- CLR_N falls (R183): without any clock, every force DAC's input switches to its clear latch. -/
def clrFall (s : State) : State :=
  each (fun n s => setDac n (chan s n).clrLatch s) (chans s) { s with clrLow := true, clrDue := true }

/-- The falling level is to be recognised. -/
def clrRecDue (s : State) : Bool := s.clrDue

/-- Schedule OFF on every channel at the next tick, no DISCONNECT being sent (R184). -/
def clrReact (s : State) : State := react (s.now + 1) (chans s) .clr none s

/-- The tick in which CLR_N is recognised low (R184). -/
def clrSeen (s : State) : State :=
  let s := flag R.clrStat 0 { s with clrDue := false, clrRec := some s.now } |> sb R.clrStat 1 s.clrLow |> bump R.clrStat 8 8
  stopRcbClocks s |> each apStopAll (chans s) |> each abandon (chans s) |> clrReact

/-- CLR_N rises (R185). -/
def clrRise (s : State) : State := sb R.clrStat 1 false { s with clrLow := false }

/-- A write of 1 to CLR_LATCH (R185). -/
def clrLatchWrite (s : State) : State :=
  if gb s R.clrStat 1 || s.clrRec == some s.now || !gb s R.clrStat 0 then s
  else sb R.clrStat 0 false { s with clrFree := s.now + 1 }

/-- RCB_CLK runs again after its 8 ticks (02 R88). -/
def rcbRestartDue (s : State) : Bool := match s.rcbStop with | some t => decide (t ≤ s.now) | none => false

/-- RCB_CLK restarts. -/
def rcbRestart (s : State) : State := { s with rcbStop := none }

/-! ### Monitor converters (06 R188 to R198) -/

/-- An input code that converts on MAg (R189). -/
def monInput (s : State) (g i : Nat) : Bool :=
  (decide (i < 8) && hasChan s (8 * g + i)) || (decide (8 ≤ i) && decide (i < 12)) || (decide (0x10 ≤ i) && decide (i ≤ 0x19)) || i == 0x1F

/-- A monitor rejection: CFG_REJ (R195, R198). -/
def monReject (g : Nat) (s : State) : State := flag (maA g R.maStat) 3 s

/-- A write of MA_CFG or a SCAN entry lands at the next slot boundary (R190). -/
def monLater (g off : Nat) (w : Word) (s : State) : State := updMon g (fun m => { m with writes := m.writes ++ [(off, w)] }) s

/-- A write of a SCAN entry: a reserved input is rejected, the other fields take effect (R189, 00 R5). -/
def scanWrite (g off : Nat) (w : Word) (s : State) : State :=
  if monInput s g (fld w 0 6) then monLater g off w s
  else
    let cur := ((mon s g).writes.filter (fun x => x.1 == off)).getLast?.map (·.2) |>.getD (rd s (maA g off))
    monReject g s |> monLater g off (setFld w 0 6 (fld cur 0 6))

/-- A request slot holds a pending or running request. -/
def reqPending (s : State) (g k : Nat) : Bool :=
  let m := mon s g
  m.pend.any (fun r => r.src == k) || m.conv.any (fun c => c.1.src == k) || m.fin.any (fun c => c.1.src == k)

/-- Result register of a request source. -/
def reqRes (k : Nat) : Nat := if k = 4 then R.fpRes else R.injRes + 4 * k

/-- A CAL was accepted in this tick: a request of the same tick counts as pending before it (R196). -/
def calNow (s : State) (g : Nat) : Bool := (mon s g).calWait && (mon s g).calAt == s.now

/-- A request becomes pending (R193, R194, R196). -/
def monRequest (g : Nat) (r : MonReq) (s : State) : State :=
  updMon g (fun m => { m with pend := m.pend ++ [r], calAfter := if calNow s g then m.calAfter + 1 else m.calAfter }) s
    |> sf (maA g (reqRes r.src)) 24 2 0 |> whenB (calNow s g) (flag (maA g R.maStat) 1)

/-- A write of INJ_REQk by its holder (R192, R193). -/
def injReqWrite (g k : Nat) (w : Word) (s : State) : State :=
  if reqPending s g k || !monInput s g (fld w 0 6) then flag (maA g R.maStat) 4 s
  else monRequest g { input := fld w 0 6, chk := bit w 6, limset := fld w 8 3, src := k, entry := 0, at_ := s.now } s

/-- A write of INJ_REQk by the host, who must hold the slot (R192). -/
def hostInjReq (g k : Nat) (w : Word) (s : State) : State :=
  if hostHolds s (20 + 4 * g + k) then injReqWrite g k w s else flag (maA g R.maStat) 4 s

/-- The conversion of a request runs, or its result is still to come: its STATUS is PENDING (R194). -/
def reqRuns (s : State) (g : Nat) : Bool := (mon s g).conv.any (fun c => c.1.src != 5) || (mon s g).fin.any (fun c => c.1.src != 5)

/-- MA_CTRL.CAL (R195, R196). -/
def monCalCmd (g : Nat) (s : State) : State :=
  if gb s (maA g R.maStat) 0 then monReject g s
  else if (mon s g).calWait then s
  else
    let k := (mon s g).pend.length
    updMon g (fun m => { m with calWait := true, calAfter := k, calAt := s.now }) s
      |> whenB (decide (0 < k) || reqRuns s g) (flag (maA g R.maStat) 1)

/-- A write into a monitor converter's window. -/
def monWrite (g off : Nat) (w : Word) (s : State) : State :=
  if off = R.maCfg then monLater g off w s
  else if off = R.maCtrl then whenB (bit w 0) (monCalCmd g) s
  else if R.scan ≤ off ∧ off < R.scan + 0x80 then scanWrite g off w s
  else if R.injReq ≤ off ∧ off < R.injReq + 0x10 then hostInjReq g ((off - R.injReq) / 4) w s
  else plainWrite (maA g off) w s

/-- SCAN_LEN, values above 32 acting as 32. -/
def scanLen (s : State) (g : Nat) : Nat := min 32 (gf s (maA g R.maCfg) 0 6)

/-- The waiting writes land (R190). -/
def monLand (g : Nat) (s : State) : State :=
  let old := gf s (maA g R.maCfg) 0 6
  let s := each (fun x s => plainWrite (maA g x.1) x.2 s) (mon s g).writes s |> updMon g (fun m => { m with writes := [] })
  if gf s (maA g R.maCfg) 0 6 ≠ old then sf (maA g R.maStat) 8 5 0 s else s

/-- The request the converter takes at a boundary: FP first, then INJ0 to INJ3 (R193). -/
def pickReq (now : Nat) (l : List MonReq) : Option MonReq :=
  [4, 0, 1, 2, 3].findSome? (fun k => l.find? (fun r => r.src == k && decide (r.at_ < now)))

/-- The request that the boundary of this tick takes for its slot (R193, R196): none while a calibration runs, and of one that waits for
its turn only those pending before it. -/
def monNext (s : State) (g : Nat) : Option MonReq :=
  let m := mon s g
  if m.calSlots.isSome then none else if m.calWait then pickReq s.now (m.pend.take m.calAfter) else pickReq s.now m.pend

/-- The conversion of a slot begins. -/
def monBegin (g : Nat) (r : MonReq) (s : State) : State := updMon g (fun m => { m with conv := some (r, s.now, 0) }) s

/-- A scan slot (R190). -/
def monScan (g : Nat) (s : State) : State :=
  let len := scanLen s g
  if gb s (maA g R.maCfg) 6 && decide (0 < len) then
    let i := gf s (maA g R.maStat) 8 5 % len
    let w := rd s (maA g (R.scan + 4 * i))
    monBegin g { input := fld w 0 6, chk := bit w 6, limset := fld w 8 3, src := 5, entry := i, at_ := s.now } s
      |> sf (maA g R.maStat) 8 5 ((i + 1) % len)
  else s

/-- A request is taken for the slot. -/
def monTake (g : Nat) (r : MonReq) (s : State) : State :=
  updMon g (fun m => { m with pend := m.pend.erase r }) s |> monBegin g r

/-- A slot boundary is due. -/
def slotDue (s : State) (g : Nat) : Bool := s.now % 80 == 0 && decide ((mon s g).next ≤ s.now)

/-- A conversion slot boundary (R188, R190, R193, R195, R196). -/
def slotBoundary (g : Nat) (s : State) : State :=
  let s := updMon g (fun m => { m with
    next := s.now + 1, fin := m.conv.map (fun c => (c.1, s.now + 1, c.2.2)), conv := none }) s |> monLand g
  let m := mon s g
  match m.calSlots with
  | some k => updMon g (fun m => { m with calSlots := some (k + 1) }) s
  | none => match monNext s g with
    | some r => monTake g r s |> whenB m.calWait (updMon g (fun m => { m with calAfter := m.calAfter - 1 }))
    | none =>
      if m.calWait ∧ m.calAfter = 0 ∧ m.calAt < s.now then
        updMon g (fun m => { m with calWait := false, calSlots := some 0 }) s |> sb (maA g R.maStat) 0 true
      else monScan g s

/-- At a tick edge the old tick's codes enter the expected value of a read-back (R191). -/
def monEdge (g : Nat) (s : State) : State :=
  match (mon s g).conv with
  | some c =>
    if c.1.input < 8 then
      let n := 8 * g + c.1.input
      let x := 16 * sfld (rd s (chA n R.dacCode)) 0 20 + 4 * (chan s n).ofs
      updMon g (fun m => { m with conv := m.conv.map (fun c => (c.1, c.2.1, c.2.2 + x)) }) s
    else s
  | none => s

/-- A check fails (R191): the channel and converter flags, the count and the message. -/
def monOut (g : Nat) (r : MonReq) (dev : Nat) (s : State) : State :=
  let s := bump (maA g R.maStat) 16 8 s
  if r.input < 8 then
    let n := 8 * g + r.input
    flag (chA n R.dacStat) 2 s |> bump (chA n R.dacStat) 16 16 |> flag (maA g R.maStat) 5
      |> sendMsg (8 + g) 0x12 n (min dev 65535)
  else
    let e := if r.src = 5 then r.entry else 0x80 + r.src
    flag (maA g R.maStat) 6 s |> sendMsgAux (8 + g) 0x13 (g * 256 + e) r.input r.limset

/-- A conversion asked for by a self-test has its result (13 R368); that of the reference cross-check is judged by ±500 µV. -/
def fpResult (g input : Nat) (res : Int) (out : Bool) (s : State) : State :=
  { s with fc := { s.fc with tests := s.fc.tests.map (fun t =>
      let mine := t.running && decide (t.reads < t.asked) &&
        (t.block == (3, 8 * g + input) && decide (input < 8) || t.block == (4, 64 * g + input))
      let bad := if t.kind = 0x14 then decide (500 < res.natAbs) else out
      if mine then { t with reads := t.reads + 1, fails := t.fails + (if bad then 1 else 0) } else t) } }

/-- A conversion's result is available. -/
def resultDue (s : State) (g : Nat) : Bool := (mon s g).fin.any (fun f => decide (f.2.1 ≤ s.now))

/-- The result register and the window check are updated (R188, R191, R194). -/
def monResult (g : Nat) (res : Int) (s : State) : State :=
  match (mon s g).fin with
  | none => s
  | some (r, _, sum) =>
    let res := sat 24 res
    let dev := (res - rneDiv sum 80).natAbs
    let lo := sfld (rd s (maA g (R.limLo + 4 * r.limset))) 0 24
    let hi := sfld (rd s (maA g (R.limHi + 4 * r.limset))) 0 24
    let out := r.chk && (if r.input < 8 then decide (gf s (maA g R.rbWin) 0 16 < dev) else decide (res < lo) || decide (hi < res))
    let s := updMon g (fun m => { m with fin := none }) s
    let s := if r.input < 8 then wr (chA (8 * g + r.input) R.dacRb) (BitVec.ofNat 32 (pat 24 res + 2 ^ 24)) s else s
    let o := if out then 1 else 0
    let s := if r.src = 5 then wr (maA g (R.res + 4 * r.entry)) (BitVec.ofNat 32 (pat 24 res + 2 ^ 24 + o * 2 ^ 25)) s
      else wr (maA g (reqRes r.src)) (BitVec.ofNat 32 (pat 24 res + 2 ^ 24 + o * 2 ^ 26)) s
    whenB out (monOut g r dev) s |> whenB (r.src == 4) (fpResult g r.input res out)

/-- Calibration may complete: its 32nd slot runs, or a later one (R195). -/
def calDone (s : State) (g : Nat) : Bool := (mon s g).calSlots.any (fun k => decide (31 ≤ k))

/-- Calibration completes (R197). -/
def calComplete (g : Nat) (s : State) : State := updMon g (fun m => { m with calSlots := none }) s |> sb (maA g R.maStat) 0 false

/-- CAL_TMO in slots (R198). -/
def calTmo (s : State) (g : Nat) : Nat := max 33 (gf s (maA g R.maCfg) 8 8)

/-- Calibration times out (R197). -/
def calTmoDue (s : State) (g : Nat) : Bool := (mon s g).calSlots.any (fun k => decide (calTmo s g ≤ k))

/-- The timeout of a calibration (R197). -/
def calTimeout (g : Nat) (s : State) : State :=
  let held := (mon s g).pend
  calComplete g s |> flag (maA g R.maStat) 2 |> sendMsg (8 + g) 0x14 0 0
    |> each (fun r s => sf (maA g (reqRes r.src)) 24 2 2 s) held |> updMon g (fun m => { m with pend := [] })
    |> (fun s => { s with fc := { s.fc with tests := s.fc.tests.map (fun t => { t with asked := t.asked - (held.filter (fun r =>
        r.src == 4 && t.running && (t.block == (3, 8 * g + r.input) || t.block == (4, 64 * g + r.input)))).length }) } })

end Sys2Proof.Machine
end

