-- ==== Sys2Proof/Machine/Land.lean ====
section
/-! DEFINITION. What lands at a tick edge on a channel (01 R14 to R17): the accepted writes of the old tick in the order the
chapters give, and the delivery of its command to the DAC. -/

namespace Sys2Proof.Machine

/-- The cascade a coefficient set supplies: (primary, compliance). The reef set supplies both while it is engaged. -/
def supplies (s : State) (n off : Nat) : Bool × Bool :=
  if 0x3000 ≤ off then (reefOn s n, reefOn s n)
  else
    let slot := (off - 0x1000) / 0x200
    let fp := forcedPath (modeNow s n)
    if reefOn s n then (false, false) else (slotNow s n fp == slot, slotNow s n (pother fp) == slot)

/-- The last item of a shadow set that a selection picks (R17). -/
def lastOf {α : Type} (f : FW → Option α) (ws : List FW) : Option α := (ws.filterMap f).getLast?

/-- LOOP_CFG lands (03 R95, 04 R126, R136, R143). RC_EN and LUFF_EN "landing as 1" are taken as changes from 0 to 1: that a write of 1
over a 1 restarts nothing is the model's choice (log entry 109). -/
def landLoopCfg (n : Nat) (w : Word) (s : State) : State :=
  let old := rd s (chA n R.loopCfg)
  wr (chA n R.loopCfg) w s |> whenB (bit w 8 && !bit old 8) (rcRestart false n)
    |> whenB (bit w 9 && !bit old 9) (luffRestart n) |> whenB (!bit w 10) (injFinish 2 n)

/-- The channel as it is committed in this tick, with what the tick's events commit: the slot of a bank switch, and the mode of an
entry from MEASURE or of a held write. A commit of coefficients and a change of KFF or ERR_SHIFT are judged against it (03 R115,
R117, R118). -/
def landedView (n : Nat) (s : State) : State :=
  whenB (bankDue s n) (switchBank n) s |> whenB (resumeDue s n) (resumeBbm n) |> whenB (fromMeasDue s n) (commitFromMeas n)
    |> whenB (heldModeDue s n) (landHeldMode n)

/-- Base offsets of the coefficient sets that the bank words of a shadow set address. -/
def bankBases (ws : List FW) : List Nat :=
  (ws.filterMap (fun w => match w with | .bank off _ _ => some (off - off % 0x200) | _ => none)).eraseDups

/-- KFF or ERR_SHIFT of a coefficient set differs between two states. -/
def headerMoved (n off : Nat) (s t : State) : Bool :=
  gf s (chA n off) 0 4 != gf t (chA n off) 0 4 || rd s (chA n (off + 4)) != rd t (chA n (off + 4))

/-- KFF or ERR_SHIFT of a set in use has changed with the landing (03 R118): the cascade it supplies is preset. `v` is the landed
channel, `s0` the state before the landing. -/
def landHeader (n off : Nat) (s0 v s : State) : State :=
  let k := supplies v n off
  if headerMoved n off s0 s && (k.1 || k.2) && !openNow v n then
    addPreset n { prim := k.1, comp := k.2, target := (chan s n).loop.cmd, clear := false, clearAll := false } s
  else s

/-- A section commit lands (03 R114 to R117), judged against the landed channel `v`. -/
def landCommit (n sec slot : Nat) (w0 w1 w2 : Word) (v s : State) : State :=
  let off := commitOff v n slot
  let used := setInUse v n off
  let a := chA n (commitAt v n sec slot)
  let psec := gf v (chA n R.loopCfg) 0 3
  let csec := gf v (chA n R.loopCfg) 4 3
  let last := decide (sec + 1 = psec) || decide (sec + 1 = psec + csec)
  if used && last && gb s (a + 8) 20 && !openNow v n then loopReject n 4 s
  else
    let t := wr a w0 s |> wr (a + 4) w1 |> wr (a + 8) (mergeMask 0x3FFFF (rd s (a + 8)) w2)
    let k := supplies v n off
    let prim := k.1 && decide (sec < psec) && gb s (chA n R.loopStat) 9
    let comp := k.2 && decide (psec ≤ sec) && decide (sec < psec + csec) && gb s (chA n R.loopStat) 10
    if prim || comp then
      whenB (!openNow v n) (addPreset n { prim, comp, target := (chan s n).loop.cmd, clear := false, clearAll := false }) t
        |> satOccurs n 6 |> sendMsg (srcChan n) 0x0B (sec + 16 * slot) 0
    else t

/-- The writes of coefficients of a shadow set, in order: of the commits of one section and slot the last one stands, and a direct
write after it takes the place of what it wrote (R17; 03 R113, R114). -/
def coefWrites : List FW → List FW
  | [] => []
  | .secCommit i k a b c :: t =>
    if t.any (fun x => match x with | .secCommit i' k' _ _ _ => i' == i && k' == k | _ => false) then coefWrites t
    else .secCommit i k a b c :: coefWrites t
  | .bank o m w :: t => .bank o m w :: coefWrites t
  | _ :: t => coefWrites t

/-- A write of coefficients lands after those before it, a commit judged against the landed channel `v`. -/
def landCoef (n : Nat) (v : State) (w : FW) (s : State) : State :=
  match w with
  | .secCommit i k a b c => landCommit n i k a b c v s
  | .bank off m w => wr (chA n off) (mergeMask m (rd s (chA n off)) w) s
  | _ => s

/-- A RANGE write lands for a path (02 R71). -/
def landRange (n : Nat) (p : Path) (slot : Nat) (s : State) : State :=
  let s := match p with
    | .v => sf (chA n R.rngSel) 0 3 slot s
    | .i => sf (chA n R.rngSel) 4 3 (slot - 8) s
  if modeNow s n ≠ 0 ∧ slot = slotNow s n p ∧ ¬ (chan s n).chg.any (fun g => g.path == p) then s
  else if modeNow s n ≠ 0 ∧ (chan s n).heldMode.isSome then
    updChan n (fun c => match p with | .v => { c with heldV := some slot } | .i => { c with heldI := some slot }) s
  else requestSlot n p slot s

/-- The RANGE writes of a tick land, the V request first (02 R71); they take the place of what is held, which is one write deep. -/
def landRanges (n : Nat) (ws : List FW) (s : State) : State :=
  let v := lastOf (fun w => match w with | .rangeV k => some k | _ => none) ws
  let i := lastOf (fun w => match w with | .rangeI k => some k | _ => none) ws
  if v.isNone && i.isNone then s
  else
    let s := updChan n (fun c => { c with heldV := none, heldI := none }) s
    let s := match v with | some k => landRange n .v k s | none => s
    match i with | some k => landRange n .i k s | none => s

/-- The reef set is engaged or released (04 R139): both cascades are preset to the last command and cleared. In OFF and MEASURE, which
release the set, none is engaged. -/
def landReef (n : Nat) (b : Bool) (s : State) : State :=
  if reefOn s n = b ∨ (b && decide (modeNow s n < 2)) then s
  else
    let s := sb (chA n R.luffStat) 1 b s |> luffRestart n
    if isClosed (modeNow s n) then
      addPreset n { prim := true, comp := true, target := (chan s n).loop.cmd, clear := true, clearAll := true } s
    else s

/-- GO of an injection lands (04 R143): it runs for N ticks from this one, unless the channel has left the modes that carry
one. INJ_CFG and INJ_N are taken as they stand now: that a write after GO in its tick counts, and that POINT and CAP
are not judged again, is the model's choice (log entry 128). -/
def landInjGo (n : Nat) (s : State) : State :=
  let cfg := rd s (chA n R.injCfg)
  let k := rd s (chA n R.injN)
  let i : Inj := { first := s.now, last := s.now + k.toNat - 1, chip := false, prbs0 := 0, written := 0, dropped := 0,
                   cmpTicks := 0, missed := 0, rngTicks := 0, stop := false, ended := none, headerDone := false,
                   startTime := ticktime48 s, stream := fld cfg 4 2, amp := BitVec.ofNat 32 (fld cfg 16 16), n := k, cfg }
  let s := updChan n (fun c => { c with injOld := c.injOld ++ c.inj.toList, inj := some i }) s
  let m := modeNow s n
  if (isClosed m || m == 8) && gb s (chA n R.loopCfg) 10 then s else injFinish 2 n s

/-- STOP of an injection lands: this tick is its last (R143). -/
def landInjStop (n : Nat) (s : State) : State :=
  updInj n (fun i => if i.ended.isNone && decide (s.now < i.last) then { i with last := s.now, stop := true } else i) s

/-- TABLE and FTW of the DDS land; both new together reset the accumulator (07 R217, R219). -/
def landDds (n : Nat) (ws : List FW) (s : State) : State :=
  let t := (ws.filterMap (fun w => match w with | .ddsTable t => some t | _ => none)).getLast?
  let f := (ws.filterMap (fun w => match w with | .ddsFtw lo hi => some (lo, hi) | _ => none)).getLast?
  let newT := t.any (fun t => t != gf s (chA n R.ddsCfg) 0 2)
  let newF := f.any (fun f => f.1 != rd s (chA n R.ddsFtwLo) || f.2 != rd s (chA n R.ddsFtwHi))
  let s := match t with | some t => wr (chA n R.ddsCfg) (BitVec.ofNat 32 t) s | none => s
  let s := match f with | some f => wr (chA n R.ddsFtwLo) f.1 s |> wr (chA n R.ddsFtwHi) f.2 | none => s
  whenB (newT && newF) (landDdsPhase n) s

/-- The registers of the plain writes: they land first, in order of acceptance (R17). -/
def landPlain (n : Nat) (w : FW) (s : State) : State :=
  match w with
  | .reg off m w => wr (chA n off) (mergeMask m (rd s (chA n off)) w) s
  | .limit off w => wr (chA n off) w s
  | .genCfg m w => wr (chA n R.genCfg) (mergeMask m (rd s (chA n R.genCfg)) w) s
  | .bank off m w => wr (chA n off) (mergeMask m (rd s (chA n off)) w) s
  | .luffReg off m w => wr (chA n off) (mergeMask m (rd s (chA n off)) w) s |> luffRestart n
  | .luffRestart => luffRestart n s
  | .span c => wr (chA n R.dacCfg) (BitVec.ofNat 32 c) s |> dirtyClear n
  | .dacClr w => wr (chA n R.dacClr) (w &&& 0x1FFFFF) s |> dirtyClear n
  | .sp w => wr (chA n R.sp) w s
  | .rcClear => updRc n (fun r => { r with tab := [], prev := [], valid := false }) s
  | _ => s

/-- SP_CFG.SRC lands, and where a target has landed with it or by a setpoint write, a ramp from the measurement starts if
RAMP_FROM_MEAS is 1 (03 R99). -/
def landTarget (n : Nat) (ws : List FW) (s : State) : State :=
  let b := (lastOf (fun w => match w with | .src b => some b | _ => none) ws).getD (gb s (chA n R.spCfg) 0)
  let sp := ws.any (fun w => match w with | .sp _ => true | _ => false)
  sb (chA n R.spCfg) 0 b s
    |> whenB (gb s (chA n R.spCfg) 1 && (sp || gb s (chA n R.spCfg) 0 != b)) (updLoop n (fun l => { l with rampFromMeas := true }))

/-- Generator and DDS commands land one by one. -/
def landGen (n : Nat) (w : FW) (s : State) : State :=
  match w with
  | .genPrime d => landPrime n d s
  | .genStart d => landStart n d s
  | .genJump d => landJump n d s
  | .genJumpNow d => landJumpNow n d s
  | .genMark b => landMark n b s
  | .genRewind => landRewind n s
  | .genUnmark => updGen n (fun g => { g with mark := none }) s
  | .genStop => genStop n s
  | .ddsGo => landDdsGo n s
  | .ddsHalt => landDdsHalt n s
  | .ddsPhase => landDdsPhase n s
  | .pulseGo => landPulseGo n s
  | .pulseStop => landPulseStop n s
  | .injGo => landInjGo n s
  | .injStop => landInjStop n s
  | _ => s

/-- A REWIND accepted before a MARK of its tick applies after it (07 R211). -/
def afterMarks (w : FW) : List FW → List FW
  | [] => [w]
  | h :: t => if t.any (fun x => match x with | .genMark _ => true | _ => false) then h :: afterMarks w t
              else match h with
                | .genMark _ => h :: w :: t
                | _ => w :: h :: t

/-- The order in which generator commands of one tick apply (07 R211): the later of two jumps decides, MARK before REWIND,
STOP last; of GO and HALT the later decides. -/
def genOrder : List FW → List FW
  | [] => []
  | w :: t =>
    let r := genOrder t
    let jump (x : FW) : Bool := match x with | .genJump _ | .genJumpNow _ => true | _ => false
    match w with
    | .genJump _ | .genJumpNow _ => if t.any jump then r else w :: r
    | .genRewind => afterMarks w r
    | .genStop => if r.contains .genStop then r else r ++ [w]
    | .ddsGo => if t.contains .ddsHalt || t.contains .ddsGo then r else w :: r
    | .ddsHalt => if t.contains .ddsHalt || t.contains .ddsGo then r else w :: r
    | _ => w :: r

/-- A mode lands, or is held where a condition of R56 has begun since it was accepted (02 R52, R56); it takes the place of an older
one that is held. A write of OPEN of its tick waits with an entry from MEASURE (03 R119). -/
def landModeOrHold (n code : Nat) (open? : Option Bool) (s : State) : State :=
  if code ≠ 0 ∧ modeBlocked s n then
    updChan n (fun c => { c with heldMode := some code }) s |> sb (chA n R.chStat) 8 true
  else
    let s := cancelHeld n s |> landMode n code
    if (chan s n).fromMeas.isSome then updChan n (fun c => { c with openWith := open? }) s else s

/-- Limit registers of a path before and after the plain writes: a pair that fails its check is kept as it was (02 R57). Where a
limit or LIM_REF has landed, all are converted. -/
def landLimits (n : Nat) (ws : List FW) (s t : State) : State :=
  let k (p : Path) (hi : Bool) := rd s (chA n (limOff p hi))
  let moved := ws.any (fun w => match w with | .limit _ _ => true | .reg off _ _ => off == R.limRef | _ => false)
  if moved then
    checkPair n .v (k .v true) (k .v false) t |> checkPair n .i (k .i true) (k .i false) |> convertLimits n
  else t

/-- The tick and value of the writes that a held mode of this tick would still meet (02 R52, 03 R119). -/
def noteWrites (n : Nat) (ws : List FW) (s : State) : State :=
  let wrote (f : FW → Bool) : Bool := ws.any f
  updChan n (fun c => { c with
    spWritten := wrote (fun w => match w with | .sp _ => true | _ => false) || (c.spWritten && c.fromMeas.isSome)
    manAt := if wrote (fun w => match w with | .reg off _ _ => off == R.manCode | _ => false) then some s.now else c.manAt
    openAt := match lastOf (fun w => match w with | .open_ b => some b | _ => none) ws with
      | some b => some (s.now, b)
      | none => c.openAt }) s

/-- What depends on the landed mode, slots and structure: coefficient commits and the presets of changed headers. -/
def landCoefs (n : Nat) (ws : List FW) (s0 s : State) : State :=
  let cs := coefWrites ws
  if cs.isEmpty then s
  else
    let v := landedView n s
    each (fun off => landHeader n off s0 v) (bankBases ws) s |> each (landCoef n v) cs

/-- Everything accepted for a channel in the old tick lands (R15): of several writes of one field the last, and no effect of the
others (R17). -/
def landChan (n : Nat) (s : State) : State :=
  let ws := (chan s n).shadow
  if ws.isEmpty && (chan s n).holdEnd.isEmpty then
    if (chan s n).spWritten && (chan s n).fromMeas.isNone then updChan n (fun c => { c with spWritten := false }) s else s
  else
    let t := each (landPlain n) ws s |> landTarget n ws |> landLimits n ws s |> landDds n ws |> noteWrites n ws |> holdOver n
    let t := match lastOf (fun w => match w with | .loopCfg w => some w | _ => none) ws with
      | some w => landLoopCfg n w t | none => t
    let o := lastOf (fun w => match w with | .open_ b => some b | _ => none) ws
    -- a RANGE write accepted in OFF is active at once, before a mode leaves OFF; any other comes after the mode (02 R71)
    let off := modeNow s n == 0
    let t := whenB off (landRanges n ws) t
    let t := match lastOf (fun w => match w with | .mode c => some c | _ => none) ws with
      | some c => landModeOrHold n c o t | none => t
    let t := match o with
      | some b => landOpen n b t | none => t
    let t := whenB (!off) (landRanges n ws) t
    let t := match lastOf (fun w => match w with | .reef b => some b | _ => none) ws with
      | some b => landReef n b t | none => t
    landCoefs n ws s t |> each (landGen n) (genOrder ws) |> updChan n (fun c => { c with shadow := [] })

/-! ### The DAC at a tick edge (06 R174, R175, R178, R183) -/

/-- The command of the old tick and its code reach the DAC, with the offset code of the old tick. -/
def deliverEdge (n : Nat) (s : State) : State :=
  let c := chan s n
  let s := sf (chA n R.dacCmd) 0 20 (pat 20 c.loop.cmd) s |> setDac n (if s.clrLow then c.clrLatch else c.loop.code)
  let o := sfld (rd s (chA n R.dacOfs)) 0 16
  if c.ofs = o then s else updChan n (fun c => { c with ofs := o }) s

/-- The channel's command is the clear code (R52, R53, R182). -/
def atClear (s : State) (n : Nat) : Bool := decide (modeNow s n < 2) || connecting s n

/-- A write of SPAN or DAC_CLR lands on a channel in OFF: its DAC takes the new clear code in that tick, be it leaving OFF or not
(R177, R181). -/
def clearLands (s : State) (n : Nat) : Bool :=
  modeNow s n == 0 && (chan s n).shadow.any (fun w => match w with | .span _ | .dacClr _ => true | _ => false)

/-- After the landing: the clear latch is recomputed where it is dirty (R179), and the DAC takes it at once where a write has moved it;
else the clear code comes through the tick path (R174, R182, 02 R52). -/
def clearEdge (n : Nat) (atOnce : Bool) (s : State) : State :=
  if !(chan s n).clrDirty then s else refreshClear n s |> whenB (atOnce && atClear s n) (dacToClear n)

/-- RC_EN as it will be committed in the new tick. -/
def rcEnNext (s : State) (n : Nat) : Bool :=
  match lastOf (fun w => match w with | .loopCfg w => some w | _ => none) (chan s n).shadow with
  | some w => bit w 8
  | none => true

/-- A channel at a tick edge, after its reactions: landing, then the units that step into the new tick. A wrap of the repetitive
controller's pointer is judged by the SYNC_EN that is committed as it wraps (04 R129). -/
def chanEdge (n : Nat) (s : State) : State :=
  let clr := clearLands s n
  let on := rcEnNext s n
  let wraps := on && rcWraps s n
  whenB on (rcEdge n) s |> chgEdge n |> chgHeld n |> genBegin n |> landChan n |> whenB wraps (rcResync n) |> rcTorn n
    |> gapEdge n |> genEdge n |> ddsEdge n |> injEdge n
    |> pairEdge n .v |> pairEdge n .i |> apEdge n .v |> apEdge n .i |> clearEdge n clr
    |> queueStanding n .v |> queueStanding n .i

end Sys2Proof.Machine
end

