-- ==== Sys2Proof/Machine/GenCmds.lean ====
section
/-! DEFINITION. The commands of chapter 07: the segment player and the DDS. -/

namespace Sys2Proof.Machine

/-- GEN_CTRL_PRIME (R209). -/
def execGenCtrlPrime (n d : Nat) (s : State) : Answer := onChan n s (primeCmd n (d % 1024))

/-- GEN_CTRL_START (R209). -/
def execGenCtrlStart (n d : Nat) (s : State) : Answer := onChan n s (startCmd n (d % 1024))

/-- GEN_CTRL_STOP (R209). -/
def execGenCtrlStop (n : Nat) (s : State) : Answer := onChan n s (stopCmd n)

/-- GEN_CTRL_JUMP (R208). -/
def execGenCtrlJump (n d : Nat) (s : State) : Answer := onChan n s (jumpCmd n (d % 1024))

/-- GEN_CTRL_JUMP_NOW (R210). -/
def execGenCtrlJumpNow (n d : Nat) (s : State) : Answer := onChan n s (jumpNowCmd n (d % 1024))

/-- GEN_CTRL_MARK (R212). -/
def execGenCtrlMark (n back : Nat) (s : State) : Answer := onChan n s (markCmd n (back % 16384))

/-- GEN_CTRL_REWIND (R213). -/
def execGenCtrlRewind (n : Nat) (s : State) : Answer := onChan n s (rewindCmd n)

/-- GEN_CTRL_UNMARK (R212). -/
def execGenCtrlUnmark (n : Nat) (s : State) : Answer := onChan n s (unmarkCmd n)

/-- GEN_DESCRIPTOR_WRITE (R202), at an offset of the channel window. -/
def execGenDescriptorWrite (n off : Nat) (w : Word) (s : State) : Answer :=
  onChan n s (whenB (decide (R.gd ≤ off) && decide (off < 0x10000)) (gdWrite n ((off - R.gd) / 16) ((off - R.gd) % 16 / 4 * 4) w))

/-- COMMIT_POINT (R206). -/
def execCommitPoint (n : Nat) (s : State) : Answer := whenDue n (fun t => (chan t n).gen.commitDue) s (commitNext n)

/-- PLAY_END (R206). -/
def execPlayEnd (n : Nat) (s : State) : Answer := whenDue n (fun t => (chan t n).gen.endDue) s (playOver n)

/-- JUMP_NOW_BOUNDARY (R210). -/
def execJumpNowBoundary (n : Nat) (s : State) : Answer := whenDue n (fun t => boundaryDue t n) s (jumpNow n)

/-- REPLAY_END (R213). -/
def execReplayEnd (n : Nat) (s : State) : Answer := whenDue n (fun t => replayDue t n) s (replayOver n)

/-- The refill may post a request through P4 (R205). -/
def genReqDue (s : State) (n : Nat) : Bool :=
  portFree s 4 && (nextGranule s n).any (fun g => !s.hostJobs.any (fun j => j.write && meets g.2 64 j.off j.len))

/-- A refill request is posted (R205). -/
def genReq (n : Nat) (s : State) : State :=
  match nextGranule s n with
  | some (first, off) =>
    enq { port := 4, offset := off, who := .gen n (chan s n).gen.epoch first, write := false } s
      |> updGen n (fun g => { g with req := first + 16 })
  | none => s

/-- REFILL_REQUEST (R205). -/
def execRefillRequest (n : Nat) (s : State) : Answer := whenDue n (fun t => genReqDue t n) s (genReq n)

/-- The refill burst that is dealt with next: the granule at W, or one to be thrown away: of an older epoch, a second copy of one that
is in the ring, or one beyond what a mark allows (R205). -/
def genBurst (s : State) (n : Nat) : Option (Req × Option (List Byte)) :=
  fromInbox s 4 (fun w => match w with
    | .gen m ep first =>
      m == n && (ep != (chan s n).gen.epoch || decide (first ≤ (chan s n).gen.w) || !underMark (chan s n).gen first)
    | _ => false)

/-- A refill burst arrives (R205, R214). -/
def genArrive (n : Nat) (s : State) : State :=
  match genBurst s n with
  | none => s
  | some e =>
    let s := dropInbox e s
    match e.1.who with
    | .gen _ ep first =>
      let g := (chan s n).gen
      if ep = g.epoch ∧ first = g.w ∧ underMark g first then ringWrite n first e.2 s else s
    | _ => s

/-- REFILL_BURST (R205). -/
def execRefillBurst (n : Nat) (s : State) : Answer := whenDue n (fun t => (genBurst t n).isSome) s (genArrive n)

/-- An underrun (R214): the flags, the count, the message, and the stop that UNDR or a failed burst calls for. A burst that fails
while the output holds already is no further underrun. -/
def underrun (n : Nat) (s : State) : State :=
  let g := (chan s n).gen
  let bad := dueFailed s g
  let fresh := decide (g.hold.getD 1 ≤ 1)
  let s := updGen n (fun g => { g with underDue := false }) s
    |> whenB fresh (fun s => flag (chA n R.genStat) 7 s |> bump (chA n R.genCnt) 0 16
      |> sendMsg (srcChan n) 0x18 g.idx (g.cur.getD 0))
    |> whenB bad (flag (chA n R.genStat) 14)
  if bad || gb s (chA n R.genCfg) 8 then
    updGen n (fun g => { g with stopDue := true, gapDue := some (g.hold.getD 1) }) s |> raiseExc n 0x0B
  else s

/-- GEN_UNDERRUN (R214). -/
def execGenUnderrun (n : Nat) (s : State) : Answer := whenDue n (fun t => (chan t n).gen.underDue) s (underrun n)

/-- The hold has ended: GEN_GAP is to be written. -/
def gapEndDue (s : State) (n : Nat) : Bool := (chan s n).gen.gapDue.isSome && !(chan s n).gen.stopDue

/-- GEN_GAP receives the length of the hold (R214). -/
def gapEnd (n : Nat) (s : State) : State :=
  let k := (chan s n).gen.gapDue.getD 0
  wr (chA n R.genGap) (BitVec.ofNat 32 (min k (2 ^ 32 - 1))) s |> updGen n (fun g => { g with gapDue := none })

/-- UNDERRUN_END (R214). -/
def execUnderrunEnd (n : Nat) (s : State) : Answer := whenDue n (fun t => gapEndDue t n) s (gapEnd n)

/-! ### The DDS (R216 to R220) -/

/-- DDS_FTW_LO_WRITE (R219): only TC0 reaches a channel (17 R434). -/
def execDdsFtwLoWrite (p : Port) (n : Nat) (w : Word) (s : State) : Answer := onChan n s (whenB (p == .tc0) (ftwLo 0 n w))

/-- DDS_FTW_HI_WRITE (R219). -/
def execDdsFtwHiWrite (p : Port) (n : Nat) (w : Word) (s : State) : Answer := onChan n s (whenB (p == .tc0) (ftwHi 0 n w))

/-- DDS_TAB_WRITE (R220). -/
def execDdsTabWrite (n i : Nat) (w : Word) (s : State) : Answer := onChan n s (whenB (decide (i < 1024)) (ddsTabWrite n i w))

/-- DDS_CTRL_GO (R217). -/
def execDdsCtrlGo (n : Nat) (s : State) : Answer := onChan n s (ddsGo n)

/-- DDS_CTRL_HALT (R218). -/
def execDdsCtrlHalt (n : Nat) (s : State) : Answer := onChan n s (ddsHalt n)

/-- DDS_CTRL_PHASE_RESET (R217). -/
def execDdsCtrlPhaseReset (n : Nat) (s : State) : Answer := onChan n s (ddsPhase n)

end Sys2Proof.Machine
end

