-- ==== Sys2Proof/Machine/LoopCmds.lean ====
section
/-! DEFINITION. The commands of chapters 03 and 04: the loop engine, banks and commits, the repetitive controller, the luff
detector and injections. -/

namespace Sys2Proof.Machine

/-- LOOP_COMPUTATION (R90): once per tick and group. -/
def execLoopComputation (g : Nat) (ins : List LoopIn) (s : State) : Answer :=
  whenGroup g (fun t => loopPending t g) s (loopComputation g ins)

/-- LOOP_DEADLINE (R121). -/
def execLoopDeadline (n : Nat) (s : State) : Answer := whenDue n (fun t => deadlineDue t n) s (deadlineSend n)

/-- LOOP_CFG_WRITE (R95). -/
def execLoopCfgWrite (n : Nat) (w : Word) (s : State) : Answer := onChan n s (loopCfgWrite n w)

/-- LOOP_CTRL_OPEN (R119). -/
def execLoopCtrlOpen (n : Nat) (s : State) : Answer := onChan n s (accept n (.open_ true))

/-- LOOP_CTRL_CLOSE (R119). -/
def execLoopCtrlClose (n : Nat) (s : State) : Answer := onChan n s (accept n (.open_ false))

/-- SP_WRITE (R99). -/
def execSpWrite (n : Nat) (w : Word) (s : State) : Answer := onChan n s (acceptSp n w)

/-- SEC_COMMIT (R114). -/
def execSecCommit (n : Nat) (w : Word) (s : State) : Answer := onChan n s (secCommit n (fld w 0 3) (fld w 4 4))

/-- BANK_WRITE (R113), at an offset of the channel window. -/
def execBankWrite (n off : Nat) (w : Word) (s : State) : Answer :=
  onChan n s (whenB (decide (0x1000 ≤ off) && decide (off < 0x3200)) (bankWrite n off w))

/-! ### The repetitive controller (04) -/

/-- RC_CFG_WRITE (R130). -/
def execRcCfgWrite (n : Nat) (w : Word) (s : State) : Answer := onChan n s (rcCfgWrite n w)

/-- RC_CTRL_CLEAR (R131). -/
def execRcCtrlClear (n : Nat) (s : State) : Answer := onChan n s (rcClear n)

/-- RC_CTRL_BACKUP (R131). -/
def execRcCtrlBackup (n : Nat) (s : State) : Answer := onChan n s (rcBackup n)

/-- RC_CTRL_RESTORE (R131). -/
def execRcCtrlRestore (n : Nat) (s : State) : Answer := onChan n s (rcRestore n)

/-- A request of a transfer of the channel. -/
def isRcXfer (n : Nat) : Who → Bool
  | .rcBackup m _ => m == n
  | .rcRestore m _ => m == n
  | _ => false

/-- The transfer of a channel posts its next burst through P9 (R131). That P is looked at as it stands at each burst, also where it
is written while BK_BUSY is 1, is the model's choice (log entry 125). -/
def postRc (n : Nat) (s : State) : State :=
  match (chan s n).rc.xfer with
  | none => s
  | some (restore, i, k) =>
    if rcP s n ≤ i || !portFree s 9 || outstanding s 9 (isRcXfer n) then s
    else
      enq { port := 9, offset := (chan s n).rc.bkAt + 4 * i, who := if restore then .rcRestore n i else .rcBackup n i, write := !restore } s
        |> updRc n (fun r => { r with xfer := some (restore, i + 16, k) })

/-- A burst of a transfer has been served: entries take their values as they arrive, an error ends the transfer (R131). -/
def rcArrive (n : Nat) (restore : Bool) (i : Nat) (data : Option (List Byte)) (s : State) : State :=
  match data with
  | none => flag (chA n R.rcStat) 18 s |> sb (chA n R.rcStat) 16 false |> updRc n (fun r => { r with xfer := none })
  | some bs =>
    let k := min 16 (rcP s n - i)
    let s := if restore then
        each (fun j s => rcStore n (i + j) (BitVec.ofNat 32 (leVal ((bs.drop (4 * j)).take 4))) s) (List.range k) s else s
    updRc n (fun r => { r with xfer := r.xfer.map (fun x => (x.1, x.2.1, x.2.2 + k)) }) s

/-- All entries of a transfer are done. -/
def rcXferDue (s : State) (n : Nat) : Bool := (chan s n).rc.xfer.any (fun x => decide (rcP s n ≤ x.2.2))

/-- RC_TRANSFER_DONE (R131). -/
def execRcTransferDone (n : Nat) (s : State) : Answer :=
  whenDue n (fun t => rcXferDue t n) s (fun t => updRc n (fun r => { r with xfer := none }) t |> sb (chA n R.rcStat) 16 false)

/-- RC_TDATA_ACCESS (R125, R131): only TC0 reaches a channel (17 R434). A read moves the index on as well. -/
def execRcTdataAccess (p : Port) (n : Nat) (wr : Option Word) (s : State) : Answer :=
  onChan n s (fun t =>
    if p ≠ .tc0 ∨ ¬ hasRc t then t else match wr with | some w => rcTdataWrite n w t | none => tidxNext n t)

/-- RC_ENTRY_END (R127). -/
def execRcEntryEnd (n : Nat) (s : State) : Answer := whenDue n (fun t => (chan t n).rc.endDue) s (rcLearn n)

/-! ### The luff detector and the reef set (04) -/

/-- LUFF_WINDOW_END (R135). -/
def execLuffWindowEnd (n : Nat) (s : State) : Answer := whenDue n (fun t => (chan t n).luff.endDue) s (luffWindow n)

/-- The detector's reaction (R137): none under FLAG, or while an injection runs with INJ_FLAG; REEF falls back to MANUAL. -/
def luffReaction (s : State) (n : Nat) : Option Act :=
  let cfg := rd s (chA n R.luffCfg)
  if bit cfg 2 && injRuns s n then none
  else match fld cfg 0 2 with
    | 0 => none
    | 1 => if reefOn s n || !gb s (chA n 0x3000) 8 then some .manual else some .reef
    | 2 => some .manual
    | _ => some .furl

/-- The detector asserts (R137). -/
def luffAssert (n : Nat) (s : State) : State :=
  let r := luffReaction s n
  let s := flag (chA n R.luffStat) 0 s |> bump (chA n R.luffStat) 8 8
    |> sendMsg (srcChan n) 0x0C 0 (gf s (chA n R.luffLast) 0 16)
    |> updLuff n (fun l => { l with assertDue := false })
  match r with
  | some a => react (s.now + 1) [n] a none s
  | none => s

/-- LOOP_LUFF (R137). -/
def execLoopLuff (n : Nat) (s : State) : Answer := whenDue n (fun t => (chan t n).luff.assertDue) s (luffAssert n)

/-- LUFF_CTRL_REEF_SET (R139). -/
def execLuffCtrlReefSet (n : Nat) (s : State) : Answer := onChan n s (reefSet n)

/-- LUFF_CTRL_REEF_REL (R139). -/
def execLuffCtrlReefRel (n : Nat) (s : State) : Answer := onChan n s (reefRel n)

/-- LUFF_CTRL_RESTART (R136). -/
def execLuffCtrlRestart (n : Nat) (s : State) : Answer := onChan n s (luffRestartCmd n)

/-! ### Injection (04 R143 to R145) -/

/-- INJ_CTRL_GO (R143). -/
def execInjCtrlGo (n : Nat) (s : State) : Answer := onChan n s (injGo n)

/-- INJ_CTRL_STOP (R143). -/
def execInjCtrlStop (n : Nat) (s : State) : Answer := onChan n s (injStop n)

/-- An injection has had its last tick. -/
def injOver (s : State) (n : Nat) : Bool := (chan s n).inj.any (fun i => i.ended.isNone && decide (i.last < s.now))

/-- INJECTION_END (R143). -/
def execInjectionEnd (n : Nat) (s : State) : Answer :=
  whenDue n (fun t => injOver t n) s (fun t => injFinish (if (chan t n).inj.any (·.stop) then 1 else 0) n t)

/-- The injection whose records come next: the oldest. -/
def injHead (s : State) (n : Nat) : Option Inj := ((chan s n).injOld ++ (chan s n).inj.toList).head?

/-- Change the oldest injection, or remove it. -/
def updInjHead (n : Nat) (f : Inj → Option Inj) (s : State) : State :=
  updChan n (fun c => match c.injOld with
    | i :: t => { c with injOld := (f i).toList ++ t }
    | [] => { c with inj := c.inj.bind f }) s

/-- The header record (R144). -/
def injHeader (n : Nat) (i : Inj) : List Byte :=
  leBytes 6 i.startTime ++ leBytes 1 (n + 32 * fld i.cfg 0 2 + (if bit i.cfg 2 then 128 else 0)) ++ leBytes 1 0xC1
    ++ leBytes 2 i.prbs0 ++ leBytes 2 i.amp.toNat ++ wBytes i.n

/-- The trailer record (R144). -/
def injTrailer (i : Inj) : List Byte :=
  leBytes 4 i.written ++ leBytes 4 i.dropped ++ leBytes 2 (min i.cmpTicks 65535) ++ leBytes 2 (min i.missed 65535)
    ++ leBytes 2 (min i.rngTicks 65535) ++ leBytes 1 (i.ended.getD 0) ++ leBytes 1 0xCE

/-- A record of a capture that waits for space can be written: the stream takes it. That one for a stream with EN 0 does not wait, but
is offered and discarded (11 R302), is the model's choice (log entry 134). -/
def capTakes (s : State) (i : Inj) : Bool := !strEn s (32 + i.stream) || headRoom s (32 + i.stream) 16

/-- The header is due. -/
def headerDue (s : State) (n : Nat) : Bool := (injHead s n).any (fun i => !i.headerDone && decide (i.first ≤ s.now) && capTakes s i)

/-- The header is written (R145). -/
def headerWrite_ (n : Nat) (s : State) : State :=
  match injHead s n with
  | some i => (offer (32 + i.stream) true (injHeader n i) s).2 |> updInjHead n (fun i => some { i with headerDone := true })
  | none => s

/-- CAPTURE_HEADER_WRITE (R145). -/
def execCaptureHeaderWrite (n : Nat) (s : State) : Answer := whenDue n (fun t => headerDue t n) s (headerWrite_ n)

/-- The trailer is due. -/
def trailerDue (s : State) (n : Nat) : Bool := (injHead s n).any (fun i => i.headerDone && i.ended.isSome && capTakes s i)

/-- The trailer is written, and a release that waited for it takes effect (R145, 08 R239). -/
def trailerWrite (n : Nat) (s : State) : State :=
  match injHead s n with
  | some i => (offer (32 + i.stream) true (injTrailer i) s).2 |> updInjHead n (fun _ => none) |> releaseDeferred i.stream
  | none => s

/-- CAPTURE_TRAILER_WRITE (R145). -/
def execCaptureTrailerWrite (n : Nat) (s : State) : Answer := whenDue n (fun t => trailerDue t n) s (trailerWrite n)

/-- The header or the trailer of a capture is held back: its stream has no room in this tick (11 R313, FULL). -/
def capHeld (s : State) (n : Nat) : Option Nat :=
  ((injHead s n).filter (fun i => ((!i.headerDone && decide (i.first ≤ s.now)) || (i.headerDone && i.ended.isSome)) && !capTakes s i)).map
    (fun i => 32 + i.stream)

/-- At the end of a tick a held header or trailer shows in FULL. -/
def capEdge (n : Nat) (s : State) : State :=
  match capHeld s n with | some k => updStrm k (fun t => { t with fullNow := true }) s | none => s

end Sys2Proof.Machine
end

