-- ==== Sys2Proof/Machine/MeasCmds.lean ====
section
/-! DEFINITION. The commands of chapters 05 and 06: measurement, raw capture, the calibration table, the force DAC, CLR_N and
the monitor converters. -/

namespace Sys2Proof.Machine

/-- PAIR_CFG_WRITE (R148). -/
def execPairCfgWrite (n : Nat) (w : Word) (s : State) : Answer := onChan n s (pairCfgWrite n w)

/-- INTERLEAVE_BLOCK_END (R149, R150). -/
def execInterleaveBlockEnd (n : Nat) (pa : Path) (est : Estimate) (s : State) : Answer :=
  whenDue n (fun t => blockDue t n pa) s (blockEnd n pa est)

/-- AP_CTRL_GO (R159). -/
def execApCtrlGo (n : Nat) (pa : Path) (s : State) : Answer := onChan n s (apTrigger n pa)

/-- AP_CTRL_STOP (R163). -/
def execApCtrlStop (n : Nat) (pa : Path) (s : State) : Answer := onChan n s (apStop n pa)

/-- APERTURE_CLOSE (R160). -/
def execApertureClose (n : Nat) (pa : Path) (s : State) : Answer := whenDue n (fun t => apCloseDue t n pa) s (apClose n pa)

/-- LINE_TMO (R164). -/
def execLineTmo (n : Nat) (pa : Path) (s : State) : Answer := whenDue n (fun t => lineTmoDue t n pa) s (lineTimeout n pa)

/-- RAW_CTRL_GO (R168). -/
def execRawCtrlGo (n : Nat) (s : State) : Answer := onChan n s (rawGo n)

/-- RAW_CTRL_STOP (R169). -/
def execRawCtrlStop (n : Nat) (s : State) : Answer := onChan n s (rawStop n)

/-- The capture's last tick has been sampled. -/
def rawOver (s : State) (n : Nat) : Bool :=
  (chan s n).raw.any (fun r => decide (r.last < s.now) || (r.last == s.now && (lcore s (n / 8)).done))

/-- RAW_CAPTURE_END (R168): the last blocks leave, and a release that waited for them takes effect (08 R239). -/
def execRawCaptureEnd (n : Nat) (s : State) : Answer :=
  whenDue n (fun t => rawOver t n) s (fun t => rawEnd n t |> each releaseDeferred [0, 1, 2, 3])

/-! ### The calibration table (05 R155, R158) -/

/-- Channel and slot of an entry. -/
def calChan (e : Nat) : Nat := e / 16384

/-- The port's latch of the calibration table (17 R436). -/
def calLatch (port : Nat) : Nat := 1024 + port

/-- A low-word write (R155). -/
def calLow (port : Nat) (w : Word) (s : State) : State := { s with latches := Map.put 0 s.latches (calLatch port) w }

/-- A high-word write (R155): the 48 bits of the entry are replaced together, or the write is rejected and the latch zeroed. -/
def calHigh (port e : Nat) (w : Word) (s : State) : State :=
  let c := calChan e
  if calInUse s c (e / 1024 % 16) then calReject c s |> calLow port 0
  else wr (calA e) (Map.get 0 s.latches (calLatch port)) s |> wr (calA e + 4) (w &&& 0xFFFF)

/-- CAL_LOW_WORD_WRITE (R155): only TC0 reaches the table (17 R434). -/
def execCalLowWordWrite (p : Port) (e : Nat) (w : Word) (s : State) : Answer :=
  onChan (calChan e) s (whenB (p == .tc0) (calLow 0 w))

/-- CAL_HIGH_WORD_WRITE (R155). -/
def execCalHighWordWrite (p : Port) (e : Nat) (w : Word) (s : State) : Answer :=
  onChan (calChan e) s (whenB (p == .tc0) (calHigh 0 e w))

/-- CAL_LD_GO (R158). -/
def execCalLdGo (n : Nat) (w : Word) (s : State) : Answer := onChan n s (calLdWrite n (setFld w 5 1 1))

/-- A load posts its next burst through P8 (R158). -/
def postCal (n : Nat) (s : State) : State :=
  match (chan s n).calLd with
  | none => s
  | some l =>
    if 512 ≤ l.next || !portFree s 8 || outstanding s 8 (isCalLd n) then s
    else
      enq { port := 8, offset := l.src + 8 * l.next, who := .calLd n l.next, write := false } s
        |> updChan n (fun c => { c with calLd := some { l with next := l.next + 8 } })

/-- A load's burst arrives (R158). -/
def calArrive (n i : Nat) (data : Option (List Byte)) (s : State) : State :=
  match (chan s n).calLd, data with
  | none, _ => s
  | some _, none => calEnd n 4 s
  | some l, some bs =>
    each (fun j s =>
        let e := calIndex n l.slot l.path (i + j)
        wr (calA e) (BitVec.ofNat 32 (leVal ((bs.drop (8 * j)).take 4))) s
          |> wr (calA e + 4) (BitVec.ofNat 32 (leVal ((bs.drop (8 * j + 4)).take 2)))) (List.range 8) s
      |> updChan n (fun c => { c with calLd := some { l with done := l.done + 8 } })

/-- Every entry of a load has been written. -/
def calLoaded (s : State) (n : Nat) : Bool := (chan s n).calLd.any (fun l => decide (512 ≤ l.done))

/-- CAL_LOAD_DONE (R158). -/
def execCalLoadDone (n : Nat) (s : State) : Answer :=
  whenDue n (fun t => calLoaded t n) s (fun t => updChan n (fun c => { c with calLd := none }) t |> sb (chA n R.calStat) 2 false)

/-! ### The force DAC and CLR_N (06) -/

/-- SPAN_WRITE (R177). -/
def execSpanWrite (n : Nat) (w : Word) (s : State) : Answer := onChan n s (spanWrite n w)

/-- DAC_CLR_WRITE (R181). -/
def execDacClrWrite (n : Nat) (w : Word) (s : State) : Answer := onChan n s (dacClrWrite n w)

/-- CLR_N_ASSERT (R183): it needs no clock. Under reset only the level of the pin moves, to be found at PLL lock (R184). -/
def execClrNAssert (s : State) : Answer := if s.inReset then .next { s with clrLow := true } else live s clrFall

/-- CLR_N_RECOGNISED (R184). -/
def execClrNRecognised (s : State) : Answer := clocked s (fun t => whenB (clrRecDue t) clrSeen t)

/-- CLR_N_DEASSERT (R185). -/
def execClrNDeassert (s : State) : Answer := if s.inReset then .next { s with clrLow := false } else live s clrRise

/-- CLR_LATCH_CLEAR (R185). -/
def execClrLatchClear (s : State) : Answer := clocked s clrLatchWrite

/-! ### The monitor converters (06 R188 to R197) -/

/-- CONVERSION_SLOT_BOUNDARY (R190, R193). -/
def execConversionSlotBoundary (g : Nat) (s : State) : Answer := whenGroup g (fun t => slotDue t g) s (slotBoundary g)

/-- CONVERSION_RESULT (R188, R191). -/
def execConversionResult (g : Nat) (res : Int) (s : State) : Answer := whenGroup g (fun t => resultDue t g) s (monResult g res)

/-- INJ_REQ (R192, R193). -/
def execInjReq (g k : Nat) (w : Word) (s : State) : Answer := whenGroup g (fun _ => decide (k < 4)) s (hostInjReq g k w)

/-- MA_CTRL_CAL (R195). -/
def execMaCtrlCal (g : Nat) (s : State) : Answer := whenGroup g (fun _ => true) s (monCalCmd g)

/-- CALIBRATION_COMPLETE (R197). -/
def execCalibrationComplete (g : Nat) (s : State) : Answer := whenGroup g (fun t => calDone t g) s (calComplete g)

/-- MON_CAL (R197). -/
def execMonCal (g : Nat) (s : State) : Answer := whenGroup g (fun t => calTmoDue t g) s (calTimeout g)

end Sys2Proof.Machine
end

