-- ==== Sys2Proof/Machine/Edge.lean ====
section
/-! DEFINITION. The edge timer: time-stamped edges, single measurements and statistics runs, result blocks, and the
time-base check (10). -/

namespace Sys2Proof.Machine

/-- The unit is present (R267). -/
def hasEt (s : State) (u : Nat) : Bool := decide (u < nEts s)

/-- The EDGE block is present (R267). -/
def hasEdge (s : State) : Bool := decide (0 < nEts s)

/-- The effect of a command of edge timer unit u. -/
def onEt (u : Nat) (s : State) (f : State → State) : Answer := clocked s (fun t => if hasEt t u then f t else t)

/-- A source code of R269. -/
def srcOk (c : Nat) : Bool := decide (c ≤ 8) || decide (0x40 ≤ c)

/-! ### Arming and stopping (R272, R277) -/

/-- CMD_REJ of a command from a host that does not hold the unit (R272, R284). -/
def etCmdReject (u : Nat) (s : State) : State := flag (etA u R.etStat) 4 s

/-- An arm is accepted; it lands on the next tick. -/
def etArm (u : Nat) (stats : Bool) (s : State) : State := updEt u (fun e => { e with armReq := some stats }) s

/-- TB_WARM. -/
def tbWarm (s : State) : Bool := gb s R.tbStat 1

/-- The arm lands (R272, R280). -/
def etArmLand (u : Nat) (s : State) : State :=
  match (etu s u).armReq with
  | none => s
  | some stats =>
    updEt u (fun e => { armed := true, stats, block := e.block, landed := s.now, cfg := rd s (etA u R.etCfg), n := gf s (etA u R.etN) 0 25, warm := tbWarm s }) s
      |> sf (etA u R.etStat) 0 3 1

/-! ### STOP (R277, R280) -/

/-- STOP by the holder (R277, R280): a run ends with what it has; a single measurement is abandoned. -/
def etHalt (u : Nat) (s : State) : State :=
  if !(etu s u).armed then s
  else
    let s := etUpTo s.cycle s |> etSettle u
    let e := etu s u
    if !e.armed then s
    else if e.stats then
      let s := match e.preStop with | some (_, true) => ignoreEdge u s | _ => s
      etFinish u s.cycle true s
    else etDrop u s

/-- A write of ET_CTRL (R272, R284). -/
def etCtrlWrite (u : Nat) (w : Word) (s : State) : State :=
  if !bit w 0 && !bit w 2 then s
  else if !hostHolds s u then etCmdReject u s
  else whenB (bit w 2) (etHalt u) s |> whenB (bit w 0) (etArm u (bit w 1))

/-! ### Result blocks (R276) -/

/-- The result block of a completion in the latest tick is still to be written (R276). -/
def etBlockDue (s : State) (u : Nat) : Bool := (etu s u).block.isSome

/-- Store consecutive words. -/
def storeWords (a : Nat) : List Word → State → State
  | [], s => s
  | w :: t, s => storeWords (a + 4) t (wr a w s)

/-- The result block is written and DONE sets, unless an arm has landed at the same tick edge (R276, R280). -/
def etBlock (u : Nat) (s : State) : State :=
  match (etu s u).block with
  | some ws =>
    let e := etu s u
    storeWords (etA u R.etRes0) ws s |> sb (etA u R.etStat) 2 (!(e.armed && e.landed == s.now))
      |> updEt u (fun e => { e with block := none })
  | none => s

/-- Stops of earlier ticks that no start can pair with any more are counted as ignored (R273). -/
def countStop (u : Nat) (s : State) : State :=
  match (etu s u).preStop with
  | some (p, true) =>
    if p.c < cycleOf s.now ∨ (etu s u).armReq.isSome then ignoreEdge u s |> updEt u (fun e => { e with preStop := some (p, false) })
    else s
  | _ => s

/-- The tick edge itself is an edge in core cycle 0 for the units that name it (R269). -/
def tickSource (u : Nat) (s : State) : State :=
  if (etu s u).armed && (etSources (etu s u)).contains 8 then coarseEdge u 8 0 s else s

/-- A tick edge of the units: results, arms, ignored stops and the tick's own edge (R269, R276, R280). -/
def etEdge (u : Nat) (s : State) : State :=
  updEt u (fun e => { e with block := e.result, result := none, seen := [] }) s |> countStop u |> etArmLand u |> tickSource u

/-! ### Registers (R284) -/

/-- CFG_REJ of a unit. -/
def etReject (u : Nat) (s : State) : State := flag (etA u R.etStat) 3 s

/-- A write of ET_CFG, each field by itself (00 R5, R284). -/
def etCfgWrite (u : Nat) (w : Word) (s : State) : State :=
  let a := etA u R.etCfg
  let one (lo len : Nat) (ok : Bool) (s : State) : State :=
    if fld w lo len = gf s a lo len then s else if ok && !(etu s u).armed then sf a lo len (fld w lo len) s else etReject u s
  one 0 7 (srcOk (fld w 0 7)) s |> one 8 7 (srcOk (fld w 8 7)) |> one 15 1 true

/-- A write of ET_N. -/
def etNWrite (u : Nat) (w : Word) (s : State) : State :=
  let v := fld w 0 25
  if v = gf s (etA u R.etN) 0 25 then s
  else if (etu s u).armed ∨ v = 0 ∨ 2 ^ 24 < v then etReject u s
  else sf (etA u R.etN) 0 25 v s

/-- Comparator i is in use (R284). -/
def cmpBusy (s : State) (i : Nat) : Bool :=
  (List.range 8).any (fun u => (etu s u).armed && (etStart (etu s u) == i || etStop (etu s u) == i)) ||
    (gb s R.tbCfg 0 && gf s R.tbCfg 1 3 == i)

/-- A write of CMP_CFGi, each field by itself (R284). -/
def cmpCfgWrite (i : Nat) (w : Word) (s : State) : State :=
  let a := R.cmpCfg + 4 * i
  let one (lo len : Nat) (ok : Bool) (s : State) : State :=
    if fld w lo len = gf s a lo len then s else if ok && !cmpBusy s i then sf a lo len (fld w lo len) s else flag R.tbStat 4 s
  one 0 12 true s |> one 12 2 (fld w 12 2 != 3) |> one 14 2 true |> one 16 1 true

/-! ### The time base (R281, R282) -/

/-- TB_WARM sets; a return to 1 is counted, and every armed unit's result will say so (R279). -/
def tbSet (s : State) : State :=
  let s := if tbWarm s then s else flag R.tbStat 1 s |> bump R.tbStat 16 16
  each (fun u s => updEt u (fun e => if e.armed then { e with warm := true } else e) s) (List.range 8) s

/-- TB_WARM clears once OCXO_RDY is high and GOOD is 10. -/
def tbCheck (s : State) : State := if gb s R.tbStat 0 && decide (10 ≤ gf s R.tbStat 8 4) then sb R.tbStat 1 false s else s

/-- GOOD takes a value; a return to 0 sets TB_WARM. -/
def tbGood (v : Nat) (s : State) : State :=
  let back := decide (v = 0) && decide (gf s R.tbStat 8 4 ≠ 0)
  sf R.tbStat 8 4 v s |> whenB back tbSet |> tbCheck

/-- A gate ends with its measured length in units of 0.5 ps (R281). -/
def tbGate (len : Int) (s : State) : State :=
  if !gb s R.tbCfg 0 || !gb s (R.cmpCfg + 4 * gf s R.tbCfg 1 3) 16 then s
  else
    let sec : Int := 2 * 10 ^ 12
    let bad := decide (2 * 10 ^ 8 < (len - sec).natAbs)
    let prev := s.tb.lastDev
    let s := { s with tb := { s.tb with lastDev := some (len - sec), edgeAt := s.now } }
    let s := match prev with | some p => wr R.tbDrift (toW (sat32 (rneDiv (len - sec - p) 2))) s | none => s
    let good := match prev with | some p => decide ((len - sec - p).natAbs < 100000) | none => false
    let s := whenB bad (flag R.tbStat 2) s
    tbGood (if good && !bad then min 10 (gf s R.tbStat 8 4 + 1) else 0) s

/-- A reference edge reaches the check (R281): it begins the first gate, or ends a period; REF_DIV periods make a gate, timed from edge
to edge, and the next gate begins with the same edge. An edge that several commands bring to several units is one edge. -/
def tbEdge (c f : Nat) (s : State) : State :=
  let b := s.tb
  if b.last.any (fun l => l.1 == c) then s
  else
    let s := { s with tb := { b with edgeAt := s.now, last := some (c, f) } }
    match b.gate with
    | none => { s with tb := { s.tb with gate := some (c, f), periods := 0 } }
    | some g =>
      if b.periods + 1 < gf s R.tbCfg 4 24 then { s with tb := { s.tb with periods := b.periods + 1 } }
      else
        tbGate (((c : Int) - g.1) * 2000 + g.2 - f) { s with tb := { s.tb with gate := some (c, f), periods := 0 } }

/-- The edge of a comparator is one of the reference. -/
def tbTakes (s : State) (src f : Nat) (up : Bool) : Bool :=
  hasEdge s && gb s R.tbCfg 0 && src == gf s R.tbCfg 1 3 && fineOk s src f up

/-- No reference edge has arrived for 2 s (R281). -/
def tbLost (s : State) : Bool := hasEdge s && gb s R.tbCfg 0 && decide (s.tb.edgeAt + 40000000 ≤ s.now)

/-- The reference is lost (R281). -/
def tbRefLost (s : State) : State :=
  if tbLost s then tbGood 0 (flag R.tbStat 3 { s with tb := { edgeAt := s.now } }) else s

/-- The level of OCXO_RDY (R282). -/
def ocxoRdy (level : Bool) (s : State) : State :=
  let fell := gb s R.tbStat 0 && !level
  sb R.tbStat 0 level s |> whenB fell tbSet |> tbCheck

/-- A write of TB_CFG restarts the check and sets TB_WARM (R282). -/
def tbCfgW (w : Word) (s : State) : State :=
  plainWrite R.tbCfg w { s with tb := { edgeAt := s.now } } |> sf R.tbStat 8 4 0 |> tbSet

/-- A write into the EDGE block (R283). -/
def edgeWrite (off : Nat) (w : Word) (s : State) : State :=
  if !hasEdge s then s
  else if off = 0 then tbCfgW w s
  else if 0x100 ≤ off ∧ off < 0x120 then cmpCfgWrite ((off - 0x100) / 4) w s
  else if 0x1000 ≤ off ∧ off < 0x1800 then
    let u := (off - 0x1000) / 0x100
    if !hasEt s u then s
    else match off % 0x100 with
      | 0 => etCfgWrite u w s
      | 4 => etNWrite u w s
      | 8 => etCtrlWrite u w s
      | _ => plainWrite (0x50000 + off) w s
  else plainWrite (0x50000 + off) w s

/-! ### Commands -/

/-- ET_CTRL.ARM without STATS, by the host (R272). -/
def execEtCtrlArm (u : Nat) (s : State) : Answer := onEt u s (etCtrlWrite u 1)

/-- ET_CTRL.ARM with STATS (R277). -/
def execEtCtrlStats (u : Nat) (s : State) : Answer := onEt u s (etCtrlWrite u 3)

/-- ET_CTRL.STOP (R277). -/
def execEtCtrlStop (u : Nat) (s : State) : Answer := onEt u s (etCtrlWrite u 4)

/-- EDGE (R273): for the unit, and for the time-base check (R268). -/
def execEdge (u src f cyc : Nat) (s : State) (up : Bool := true) : Answer :=
  clocked s (fun t =>
    let t := if hasEt t u then edgeAt u src f cyc up t else t
    if tbTakes t src f up then tbEdge (cycleOf t.now + cyc % 50 + 1) f t else t)

/-- MEASUREMENT_COMPLETE (R276). -/
def execMeasurementComplete (u : Nat) (s : State) : Answer :=
  onEt u s (fun t => if etDue t u then etComplete u t else t)

/-- MEASUREMENT_OVERFLOW (R275). -/
def execMeasurementOverflow (u : Nat) (s : State) : Answer :=
  onEt u s (fun t => if etOvfDue t u then etOverflow u t else t)

/-- RESULT_BLOCK_WRITE (R276). -/
def execResultBlockWrite (u : Nat) (s : State) : Answer :=
  onEt u s (fun t => if etBlockDue t u then etBlock u t else t)

/-- TB_GATE_END (R281). -/
def execTbGateEnd (len : Int) (s : State) : Answer := clocked s (fun t => if hasEdge t then tbGate len t else t)

/-- REF_LOST (R281). -/
def execRefLost (s : State) : Answer := clocked s (fun t => if hasEdge t then tbRefLost t else t)

/-- OCXO_RDY_CHANGE (R282; 16 R422): under reset the pin's level alone. -/
def execOcxoRdyChange (level : Bool) (s : State) : Answer :=
  if s.inReset then .next { s with ocxo := level }
  else live s (fun t => if hasEdge t then ocxoRdy level { t with ocxo := level } else { t with ocxo := level })

/-- TB_CFG_WRITE (R282). -/
def execTbCfgWrite (w : Word) (s : State) : Answer := clocked s (edgeWrite 0 w)

end Sys2Proof.Machine
end

