-- ==== Sys2Proof/Machine/SeqCmds.lean ====
section
/-! DEFINITION. Commands to the sequencers: binding, the context store, the instruction cache, waits that end, grants of
shared resources and the arrival of list entries (08, 09 R264). -/

namespace Sys2Proof.Machine

/-- Context x is bound by a CHAIN that takes effect at the next tick edge. -/
def chainTarget (s : State) (x : Nat) : Bool := (chans s).any (fun n => (seq s n).chainTo == some x)

/-- A write of SEQ_CMD (R224). -/
def seqCmdWrite (n : Nat) (w : Word) (s : State) : State :=
  match fld w 0 3 with
  | 1 => if chainTarget s (fld w 16 12) then seqReject n s else bindCtx n (fld w 16 12) s
  | 2 => hostHalt n s
  | 3 => hostResume n s
  | 4 => hostUnbind n s
  | _ => s

/-- The rejection of a write to a context's image (R223). -/
def ctxReject (x : Nat) (s : State) : State :=
  if ctxState s x = 0 then flag R.icStat 12 s else flag (sqA (gf s (cxA x R.cxState) 8 5) R.seqStat) 21 s

/-- A write of a word of context x's image (R223). -/
def ctxWrite (x off : Nat) (w : Word) (s : State) : State :=
  let a := cxA x off
  if nCtxs s ≤ x ∨ off % 4 ≠ 0 ∨ ¬ differs s a w then s
  else if ctxState s x = 1 ∨ ctxState s x = 2 ∨ (off = R.cxDepth ∧ 8 < fld w 0 4) then ctxReject x s
  else plainWrite a w s

/-- A WAIT or YIELD has run its ticks (R233). -/
def waitDone (s : State) (n : Nat) : Bool := match (seq s n).wait with | .wait u => decide (u ≤ s.now) | _ => false

/-- The context of a channel executes again, at slot 0 of this tick. -/
def wake (n : Nat) (s : State) : State := setWait n .none s |> updSeq n (fun q => { q with from_ := s.now })

/-- Set the Z flag of the bound context. -/
def setZ (n : Nat) (z : Bool) (s : State) : State :=
  match boundCtx s n with | some x => sb (cxA x R.cxFlags) 0 z s | none => s

/-- A WAITEV has reached its timeout; an assertion in the same tick decides first (R234). -/
def waitevLate (s : State) (n : Nat) : Bool :=
  match (seq s n).wait with
  | .event e (some t) _ => decide (t ≤ s.now) && !s.asserting.contains e
  | _ => false

/-- A line asserts and releases the context that waits for it (R234). -/
def waitevSee (e n : Nat) (s : State) : State :=
  match (seq s n).wait with
  | .event l _ since => if l = e ∧ since < s.now then wake n s |> setZ n false else s
  | _ => s

/-- SEQ_CMD.BIND (R224). -/
def execSeqCmdBind (n x : Nat) (s : State) : Answer := onChan n s (seqCmdWrite n (BitVec.ofNat 32 (1 + x % 4096 * 65536)))

/-- SEQ_CMD.HALT (R224). -/
def execSeqCmdHalt (n : Nat) (s : State) : Answer := onChan n s (seqCmdWrite n 2)

/-- SEQ_CMD.RESUME (R224). -/
def execSeqCmdResume (n : Nat) (s : State) : Answer := onChan n s (seqCmdWrite n 3)

/-- SEQ_CMD.UNBIND (R224). -/
def execSeqCmdUnbind (n : Nat) (s : State) : Answer := onChan n s (seqCmdWrite n 4)

/-- CONTEXT_STORE_WRITE (R223). -/
def execContextStoreWrite (x off : Nat) (w : Word) (s : State) : Answer := clocked s (ctxWrite x off w)

/-- PIN_LOAD_DONE (R228). -/
def execPinLoadDone (n : Nat) (s : State) : Answer := whenDue n (fun t => pinsLoaded t n) s (pinsDone n)

/-- CACHE_FILL (R229; 13 R355). -/
def execCacheFill (line : Nat) (evict : Option Nat) (s : State) (upset : Option Nat := none) : Answer :=
  clocked s (fun t =>
    let t := match upset with | some l => cacheUpset l t | none => t
    if fillDue t line then cacheFill line evict t else t)

/-- IC_CTRL.FLUSH (R229). -/
def execIcCtrlFlush (s : State) : Answer := clocked s flushCache

/-- WAIT_EXPIRY (R233). -/
def execWaitExpiry (n : Nat) (s : State) : Answer := whenDue n (fun t => waitDone t n) s (wake n)

/-- WAITEV_TIMEOUT (R234): Z is set. -/
def execWaitevTimeout (n : Nat) (s : State) : Answer :=
  whenDue n (fun t => waitevLate t n) s (fun t => wake n t |> setZ n true)

/-- RESOURCE_GRANT (R238). -/
def execResourceGrant (r : Nat) (s : State) : Answer :=
  clocked s (fun t => if hasRes t r && grantDue t r then grantRes r t else t)

/-- LIST_ENTRY_ARRIVAL (09 R264). -/
def execListEntryArrival (n : Nat) (s : State) : Answer := whenDue n (fun t => listDue t n) s (listArrive n)

end Sys2Proof.Machine
end

