-- ==== Sys2Proof/Machine/View.lean ====
section
/-! DEFINITION. What a read of a register shows: the stored word, with the fields that follow other state laid over it. -/

namespace Sys2Proof.Machine

/-- 1 for true. -/
def b2n (b : Bool) : Nat := if b then 1 else 0

/-- A word with a field replaced. -/
def lay (lo len v : Nat) (w : Word) : Word := setFld w lo len v

/-- Bits of the numbers in a list that lie from `lo` on, as a word. -/
def bitsOf (lo : Nat) (l : List Nat) : Word :=
  l.foldl (fun w i => if lo ≤ i ∧ i < lo + 32 then w ||| BitVec.ofNat 32 (2 ^ (i - lo)) else w) 0

/-- GEN_STAT with its live bits (07 R221). -/
def genStatWord (s : State) (n : Nat) (w : Word) : Word :=
  let g := (chan (genView n s) n).gen
  lay 0 7 (b2n g.run + 2 * b2n (g.cur.isSome && !g.run) + 4 * b2n g.pend.isSome + 8 * b2n g.mark.isSome
    + 16 * b2n g.replay.isSome + 32 * b2n g.hold.isSome + 64 * b2n (markStall s n)) w

/-- GEN_SEG (07 R221). -/
def genSegWord (s : State) (n : Nat) : Word :=
  let g := (chan (genView n s) n).gen
  BitVec.ofNat 32 (g.cur.getD 0 + 2 ^ 10 * b2n g.cur.isSome + 2 ^ 16 * g.nxt.getD 0 + 2 ^ 26 * b2n g.nxt.isSome)

/-- A register of a channel's window, as read. -/
def chanView (s : State) (n off : Nat) (w : Word) : Word :=
  if off = R.loopCost then BitVec.ofNat 32 (chCost s n + 256 * coreSum s (n / 8))
  else if off = R.rcTdata then rcTdata s n
  else if off = R.loopStat then lay 0 1 (b2n (openNow s n)) w
  else if off = R.rawStat then lay 0 1 (b2n ((chan s n).raw.any (fun r => decide (r.first ≤ s.now)))) w
  else if off = R.injStat then lay 0 1 (b2n (injRuns s n)) w
  else if off = R.pairStat then lay 2 2 (b2n (splitNow s n .v) + 2 * b2n (splitNow s n .i)) w
  else if off = R.genStat then genStatWord s n w
  else if off = R.genSeg then genSegWord s n
  else if off = R.genPos then BitVec.ofNat 32 (chan (genView n s) n).gen.pos
  else if off = R.ddsStat then lay 0 1 (b2n (chan s n).dds.run) w
  else w

/-- A register of a stream's window, as read (11 R313). -/
def strView (s : State) (k off : Nat) (w : Word) : Word :=
  let t := strm s k
  if off = R.strStat then
    lay 0 3 (b2n (strItems t).isEmpty + 2 * b2n (!t.ring.isEmpty) + 4 * b2n t.fullLast) w |> lay 8 4 (min 8 t.reads.length)
  else if off = R.strFill then BitVec.ofNat 32 (min (itemBytes (strItems t)) (2 ^ 32 - 1))
  else w

/-- RES_OWN (08 R246). -/
def resOwnWord (s : State) (r : Nat) : Word :=
  let q := resOf s r
  let ctx := (q.holders.filterMap (fun h => match h with | .ctx x _ => some x | .host => none)).head?
  let waits := q.queue.filter (fun h => match h with | .ctx _ _ => true | .host => false)
  BitVec.ofNat 32 ((if shareable r then 0 else ctx.getD 0) + 2 ^ 12 * b2n ctx.isSome + 2 ^ 13 * b2n (q.holders.contains .host)
    + 2 ^ 16 * (if shareable r then q.holders.length else waits.length))

/-- The resource the host waits for (11 R299). -/
def hostWaits (s : State) : Option Nat := (List.range 36).find? (fun r => (resOf s r).queue.contains .host)

/-- The word a read of a device address shows. -/
def shown (s : State) (a : Nat) : Word :=
  let w := rd s a
  match blockOf a with
  | (.chan n, off) => chanView s n off w
  | (.stream k, off) => strView s k off w
  | (.ctx x, _) => if ctxState s x = 2 then ((s.edgeImg.find? (fun e => e.1 == a)).map (·.2)).getD w else w
  | (.seqb, off) =>
    if off = 4 then lay 0 12 (pinned s).length w
    else if 0x2000 ≤ off ∧ off < 0x2090 then resOwnWord s ((off - 0x2000) / 4)
    else w
  | (.mem, off) =>
    if 0x140 ≤ off ∧ off < 0x170 then lay 8 5 (portQ s ((off - 0x140) / 4)).length w
    else if off = 0x204 then
      (match hostWaits s with | some r => lay 0 7 (1 + 2 * r) w | none => w)
    else if off = 0x208 then bitsOf 0 ((List.range 36).filter (hostHolds s))
    else if off = 0x20C then bitsOf 32 ((List.range 36).filter (hostHolds s))
    else w
  | (.fault, off) => if off = 0x24 then bitsOf 0 ((chans s).filter (inHold s)) else w
  | (.device, off) =>
    if off = 0x68 then bitsOf 0 s.asserting else if off = 0x6C then bitsOf 32 s.asserting else w
  | _ => w

end Sys2Proof.Machine
end

