-- ==== Sys2Proof/Machine/Operands.lean ====
section
/-! DEFINITION. The operand forms of a Tysel instruction and the frame every instruction runs in: slots, field checks and
the advance of the PC (08 R230, 09 R247, R248). -/

namespace Sys2Proof.Machine

/-! ### Fields and operands (R247, R248) -/

/-- RB. -/
def TF.rb (f : TF) : Nat := f.imm.toNat / 4096

/-- FN. -/
def TF.fn (f : TF) : Nat := f.imm.toNat % 4096

/-- Bits of IMM16. -/
def TF.immBits (f : TF) (lo len : Nat) : Nat := f.imm.toNat / 2 ^ lo % 2 ^ len

/-- 1 + X, the words of the instruction. -/
def TF.words (f : TF) : Nat := if f.x then 2 else 1

/-- Operand b. -/
def opB (s : State) (x : Nat) (f : TF) : Word := if f.x then f.ext else gReg s x (TF.rb f)

/-- Operand v. -/
def opV (s : State) (x : Nat) (f : TF) : Word := if f.x then f.ext else gReg s x f.ra.toNat

/-- Operand ga. -/
def opA (s : State) (x : Nat) (f : TF) : Word := gReg s x f.ra.toNat

/-- Operand imm. -/
def opImm (f : TF) : Word := if f.x then f.ext else BitVec.signExtend 32 f.imm

/-- Operand target, from the PC of the instruction itself. -/
def opTarget (pc : Nat) (f : TF) : Nat :=
  if f.x then fld f.ext 0 20 else ((pc + 1 + f.imm.toInt) % (2 ^ 20 : Int)).toNat

/-- RD, RA, X and IMM16 are all 0. -/
def noFields (f : TF) : Bool := f.rd == 0 && f.ra == 0 && !f.x && f.imm == 0

/-- Operand b is well formed. -/
def bOk (f : TF) : Bool := !f.x || TF.rb f == 0

/-- Operand v is well formed, and no RB is used. -/
def vOk (f : TF) : Bool := (!f.x || f.ra == 0) && TF.rb f == 0

/-- Operand target is well formed. -/
def targetOk (f : TF) : Bool := !f.x || (f.imm == 0 && fld f.ext 20 12 == 0)

/-- An immediate form without RD, RA and X. -/
def immOnly (bound : Nat) (f : TF) : Bool := f.rd == 0 && f.ra == 0 && !f.x && decide (f.imm.toNat < bound)

/-! ### Running an instruction (08 R230, R242) -/

/-- The PC moves on by 1 + X. -/
def advance (x : Nat) (f : TF) (s : State) : State := sf (cxA x R.cxPc) 0 20 (pcOf s x + TF.words f) s

/-- The PC is set. -/
def jumpTo (x target : Nat) (s : State) : State := sf (cxA x R.cxPc) 0 20 target s

/-- A branch taken. -/
def branch (n x target : Nat) (s : State) : State := jumpTo x target s |> updSeq n (fun q => { q with branch := true })

/-- The slots of an instruction are taken. -/
def takeSlots (n cost pc : Nat) (s : State) : State :=
  updSeq n (fun q => { q with used := q.used + cost, executed := q.executed + cost, firstPc := some (q.firstPc.getD pc) }) s |> countBy 0x06 n cost

/-- The context bound to channel n executes an instruction of a slot cost, where it executes in this tick: one that does
not fit into the tick's slots waits for the next tick (R230); one whose fields are not as R248 wants raises ILLEGAL; else
its body acts on the context. -/
def runInstr (n cost : Nat) (ok : Bool) (body : Nat → State → State) (s : State) : State :=
  match boundCtx s n with
  | none => s
  | some x =>
    if 8 < (seq s n).used + cost then updSeq n (fun q => { q with used := 8 }) s
    else
      let s := takeSlots n cost (pcOf s x) s
      if ok then body x s else raiseExc n 1 s

/-- The answer of a Tysel instruction on channel n. -/
def tysel (n cost : Nat) (ok : Bool) (body : Nat → State → State) (s : State) : Answer :=
  whenDue n (fun t => seqReady t n) s (runInstr n cost ok body)

/-- A body that acts and moves on. -/
def thenNext (f : TF) (act : Nat → State → State) : Nat → State → State := fun x s => advance x f (act x s)

/-- A WAIT-class instruction ends the tick in a wait (R231). -/
def endTick (n : Nat) (w : Wait) (s : State) : State := setWait n w s |> updSeq n (fun q => { q with used := 8 })

/-- The unit an event line belongs to is present (01 R36). -/
def hasLine (s : State) (e : Nat) : Bool :=
  if e < 32 then hasChan s e else if e < 40 then true else if e < 48 then decide (e - 40 < nEts s) else decide (e < 64)

end Sys2Proof.Machine
end

