-- ==== Sys2Proof/Machine/Flags.lean ====
section
/-! DEFINITION. The flags of a context and every computation that sets them (08 R223, 09 R249, R251). -/

namespace Sys2Proof.Machine

/-- Flag Z. -/
def flagZ (s : State) (x : Nat) : Bool := gb s (cxA x R.cxFlags) 0

/-- Flag N. -/
def flagN (s : State) (x : Nat) : Bool := gb s (cxA x R.cxFlags) 1

/-- Flag C. -/
def flagC (s : State) (x : Nat) : Bool := gb s (cxA x R.cxFlags) 2

/-- Flag CMP. -/
def flagCmp (s : State) (x : Nat) : Bool := gb s (cxA x R.cxFlags) 3

/-- Flag OVF. -/
def flagOvf (s : State) (x : Nat) : Bool := gb s (cxA x R.cxFlags) 4

/-- Set Z. -/
def putZ (x : Nat) (b : Bool) (s : State) : State := sb (cxA x R.cxFlags) 0 b s

/-- Set C. -/
def putC (x : Nat) (b : Bool) (s : State) : State := sb (cxA x R.cxFlags) 2 b s

/-- Set OVF. -/
def putOvf (x : Nat) (b : Bool) (s : State) : State := sb (cxA x R.cxFlags) 4 b s

/-- Set Z and N from a result. -/
def putZN (x : Nat) (r : Word) (s : State) : State := putZ x (r == 0) s |> sb (cxA x R.cxFlags) 1 (bit r 31)

/-- The condition of BR.cc (R249). -/
def condition (s : State) (x cc : Nat) : Bool :=
  let z := flagZ s x
  let lt := flagN s x != flagOvf s x
  match cc with
  | 0 => true
  | 1 => z
  | 2 => !z
  | 3 => lt
  | 4 => !lt
  | 5 => !z && !lt
  | 6 => z || lt
  | 7 => flagC s x
  | 8 => !flagC s x
  | 9 => flagN s x
  | 10 => !flagN s x
  | 11 => flagOvf s x
  | 12 => !flagOvf s x
  | 13 => flagCmp s x
  | 14 => !flagCmp s x
  | _ => false

/-- A result of the ALU with the flags it sets besides Z and N; none where a flag keeps its value. -/
structure Alu where
  r : Word
  c : Option Bool
  ovf : Option Bool
  deriving DecidableEq, Repr

/-- ADD. -/
def aluAdd (a b : Word) : Alu :=
  { r := a + b, c := some (decide (2 ^ 32 ≤ a.toNat + b.toNat)), ovf := some ((a + b).toInt != a.toInt + b.toInt) }

/-- SUB and CMP. -/
def aluSub (a b : Word) : Alu :=
  { r := a - b, c := some (decide (a.toNat < b.toNat)), ovf := some ((a - b).toInt != a.toInt - b.toInt) }

/-- MUL, low word. -/
def aluMul (a b : Word) : Alu :=
  let p := a.toInt * b.toInt
  { r := toW p, c := some false, ovf := some (sat32 p != p) }

/-- MUL, Q1.31. -/
def aluMulQ (a b : Word) : Alu :=
  let p := rneDiv (a.toInt * b.toInt) (2 ^ 31)
  { r := toW (sat32 p), c := some false, ovf := some (sat32 p != p) }

/-- SHL. -/
def aluShl (a : Word) (k : Nat) : Alu :=
  { r := a <<< k, c := some (decide (1 ≤ k) && decide (k ≤ 32) && bit a (32 - k)), ovf := none }

/-- SHR, logical. -/
def aluShr (a : Word) (k : Nat) : Alu :=
  { r := a >>> k, c := some (decide (1 ≤ k) && decide (k ≤ 32) && bit a (k - 1)), ovf := none }

/-- SHR, arithmetic: the sign fills, and is shifted out beyond bit 31. -/
def aluSar (a : Word) (k : Nat) : Alu :=
  { r := a.sshiftRight k, c := some (decide (1 ≤ k) && bit a (min (k - 1) 31)), ovf := none }

/-- AND, OR and XOR. -/
def aluLogic (r : Word) : Alu := { r, c := none, ovf := none }

/-- Set the flags of a result. -/
def putFlags (x : Nat) (o : Alu) (s : State) : State :=
  let s := putZN x o.r s
  let s := match o.c with | some b => putC x b s | none => s
  match o.ovf with | some b => putOvf x b s | none => s

/-- Write a result to gd and set its flags. -/
def putAlu (x : Nat) (f : TF) (o : Alu) (s : State) : State := setG x f.rd.toNat o.r s |> putFlags x o

end Sys2Proof.Machine
end

