-- ==== Sys2Proof/Machine/TyselCore.lean ====
section
/-! DEFINITION. Tysel: control flow and arithmetic (09 R249 to R251). -/

namespace Sys2Proof.Machine

/-- NOP. -/
def execNop (n : Nat) (f : TF) (s : State) : Answer := tysel n 1 (noFields f) (thenNext f (fun _ s => s)) s

/-- HALT (08 R226). -/
def execHalt (n : Nat) (f : TF) (s : State) : Answer :=
  tysel n 1 (noFields f) (fun x s => advance x f s |> stopSelf n x 3) s

/-- JMP. -/
def execJmp (n : Nat) (f : TF) (s : State) : Answer :=
  tysel n (TF.words f) (f.rd == 0 && f.ra == 0 && targetOk f) (fun x s => branch n x (opTarget (pcOf s x) f) s) s

/-- BR.cc (R249). -/
def execBrCc (n : Nat) (f : TF) (s : State) : Answer :=
  tysel n (TF.words f) (f.rd != 15 && f.ra == 0 && targetOk f)
    (fun x s => if condition s x f.rd.toNat then branch n x (opTarget (pcOf s x) f) s else advance x f s) s

/-- DEPTH. -/
def stackDepth (s : State) (x : Nat) : Nat := gf s (cxA x R.cxDepth) 0 4

/-- CALL. -/
def execCall (n : Nat) (f : TF) (s : State) : Answer :=
  tysel n (TF.words f) (f.rd == 0 && f.ra == 0 && targetOk f)
    (fun x s =>
      let d := stackDepth s x
      if 8 ≤ d then raiseExc n 7 s
      else
        let pc := pcOf s x
        wr (cxA x (R.cxStk + 4 * d)) (BitVec.ofNat 32 ((pc + TF.words f) % 2 ^ 20)) s |> sf (cxA x R.cxDepth) 0 4 (d + 1)
          |> branch n x (opTarget pc f)) s

/-- RET. -/
def execRet (n : Nat) (f : TF) (s : State) : Answer :=
  tysel n 1 (noFields f)
    (fun x s =>
      let d := stackDepth s x
      if d = 0 then raiseExc n 8 s
      else sf (cxA x R.cxDepth) 0 4 (d - 1) s |> branch n x (gf s (cxA x (R.cxStk + 4 * (d - 1))) 0 20)) s

/-- Address of a loop counter. -/
def lcA (x i : Nat) : Nat := cxA x (R.cxLc + 4 * i)

/-- LOOP. -/
def execLoop (n : Nat) (f : TF) (s : State) : Answer :=
  tysel n (TF.words f) (decide (f.rd.toNat < 4) && f.ra == 0 && targetOk f)
    (fun x s =>
      let a := lcA x f.rd.toNat
      let v := (gf s a 0 24 + (2 ^ 24 - 1)) % 2 ^ 24
      let pc := pcOf s x
      let s := sf a 0 24 v s
      if v = 0 then advance x f s else branch n x (opTarget pc f) s) s

/-- MOV in its four forms. -/
def execMov (n : Nat) (f : TF) (s : State) : Answer :=
  let fn := TF.fn f
  let ok := !f.x && TF.rb f == 0 &&
    (match fn with
     | 0 => true
     | 1 => decide (f.rd.toNat < 4)
     | 2 => decide (f.ra.toNat < 4)
     | 3 => f.ra == 0
     | _ => false)
  tysel n 1 ok
    (thenNext f (fun x s => match fn with
      | 0 => setG x f.rd.toNat (opA s x f) s
      | 1 => sf (lcA x f.rd.toNat) 0 24 (fld (opA s x f) 0 24) s
      | 2 => setG x f.rd.toNat (BitVec.ofNat 32 (gf s (lcA x f.ra.toNat) 0 24)) s
      | _ => setG x f.rd.toNat (BitVec.ofNat 32 (ticktime s)) s)) s

/-- LDI. -/
def execLdi (n : Nat) (f : TF) (s : State) : Answer :=
  tysel n (TF.words f) (f.ra == 0 && (!f.x || f.imm == 0)) (thenNext f (fun x s => setG x f.rd.toNat (opImm f) s)) s

/-- An ALU instruction of register form. -/
def alu (n cost fns : Nat) (f : TF) (op : Word → Word → Alu) (s : State) : Answer :=
  tysel n (cost + (TF.words f - 1)) (bOk f && decide (TF.fn f < fns))
    (thenNext f (fun x s => putAlu x f (op (opA s x f) (opB s x f)) s)) s

/-- ADD. -/
def execAdd (n : Nat) (f : TF) (s : State) : Answer := alu n 1 1 f aluAdd s

/-- SUB. -/
def execSub (n : Nat) (f : TF) (s : State) : Answer := alu n 1 1 f aluSub s

/-- MUL: FN 0 the low word, FN 1 the Q1.31 product. -/
def execMul (n : Nat) (f : TF) (s : State) : Answer := alu n 2 2 f (if TF.fn f = 0 then aluMul else aluMulQ) s

/-- SHL. -/
def execShl (n : Nat) (f : TF) (s : State) : Answer := alu n 1 1 f (fun a b => aluShl a (fld b 0 6)) s

/-- SHR: FN 0 logical, FN 1 arithmetic. -/
def execShr (n : Nat) (f : TF) (s : State) : Answer :=
  alu n 1 2 f (fun a b => if TF.fn f = 0 then aluShr a (fld b 0 6) else aluSar a (fld b 0 6)) s

/-- AND. -/
def execAndOp (n : Nat) (f : TF) (s : State) : Answer := alu n 1 1 f (fun a b => aluLogic (a &&& b)) s

/-- OR. -/
def execOrOp (n : Nat) (f : TF) (s : State) : Answer := alu n 1 1 f (fun a b => aluLogic (a ||| b)) s

/-- XOR. -/
def execXorOp (n : Nat) (f : TF) (s : State) : Answer := alu n 1 1 f (fun a b => aluLogic (a ^^^ b)) s

/-- CMP: as SUB, with no result written. -/
def execCmp (n : Nat) (f : TF) (s : State) : Answer :=
  tysel n (TF.words f) (f.rd == 0 && bOk f && TF.fn f == 0)
    (thenNext f (fun x s => putFlags x (aluSub (opA s x f) (opB s x f)) s)) s

/-- An instruction whose opcode R253 does not list (R248). -/
def execIllegal (n : Nat) (_f : TF) (s : State) : Answer := tysel n 1 false (fun _ s => s) s

end Sys2Proof.Machine
end

