-- ==== Sys2Proof/Machine/TyselChan.lean ====
section
/-! DEFINITION. Tysel: the instructions that write and read the bound channel (09 R252 to R258). -/

namespace Sys2Proof.Machine

/-- The port number of a channel's sequencer (17 R434). -/
def seqPort : Nat := 3

/-- A write of a register of the bound channel. -/
def putChan (n off : Nat) (w : Word) (s : State) : State := chanWrite seqPort n off w s

/-- An instruction that reports a refusal in Z (R252). -/
def withZ (x : Nat) (refused : Bool) (act : State → State) (s : State) : State := act s |> putZ x refused

/-- MODE. -/
def execMode (n : Nat) (f : TF) (s : State) : Answer :=
  tysel n 1 (immOnly 16 f)
    (thenNext f (fun x s => withZ x (modeRefused s n (TF.immBits f 0 4)) (writeMode n (TF.immBits f 0 4)) s)) s

/-- RANGE. -/
def execRange (n : Nat) (f : TF) (s : State) : Answer :=
  let k := TF.immBits f 0 4
  tysel n 1 (immOnly 16 f) (thenNext f (fun _ s => rangeReq n (if k < 8 then .v else .i) (k % 8) s)) s

/-- A form with RD 0, an FN below a bound, and operand v. -/
def vForm (fns : Nat) (f : TF) : Bool := f.rd == 0 && vOk f && decide (TF.fn f < fns)

/-- FORCE (R254). -/
def execForce (n : Nat) (f : TF) (s : State) : Answer :=
  tysel n (TF.words f) (vForm 8 f)
    (thenNext f (fun x s =>
      let v := opV s x f
      match TF.fn f with
      | 0 => withZ x false (putChan n R.sp v) s
      | 1 => withZ x false (putChan n R.pulseLvl v) s
      | 2 => withZ x false (putChan n R.pulseW v) s
      | 3 => withZ x false (putChan n R.pulsePer v) s
      | 4 => withZ x false (putChan n R.pulseCnt v) s
      | 5 => withZ x (pulseRefused s n) (pulseGo n) s
      | 6 => withZ x false (pulseStop n) s
      | _ => withZ x false (putChan n R.manCode v) s)) s

/-- LIMIT (R254). -/
def execLimit (n : Nat) (f : TF) (s : State) : Answer :=
  tysel n (TF.words f) (vForm 7 f)
    (thenNext f (fun x s =>
      let v := opV s x f
      if TF.fn f < 4 then putChan n (R.vlimHi + 4 * TF.fn f) v s else putChan n (R.loadG + 4 * (TF.fn f - 4)) v s)) s

/-- RAMP (R254). -/
def execRamp (n : Nat) (f : TF) (s : State) : Answer :=
  tysel n (TF.words f) (vForm 3 f)
    (thenNext f (fun x s =>
      let v := opV s x f
      match TF.fn f with
      | 0 => putChan n R.rampRate v s
      | 1 => sb (chA n R.spCfg) 1 (bit v 0) s
      | _ => accept n (.src (bit v 0)) s)) s

/-- LOOP.OPEN (03 R119). -/
def execLoopOpen (n : Nat) (f : TF) (s : State) : Answer :=
  tysel n 1 (noFields f) (thenNext f (fun _ s => accept n (.open_ true) s)) s

/-- LOOP.CLOSE (03 R119). -/
def execLoopClose (n : Nat) (f : TF) (s : State) : Answer :=
  tysel n 1 (noFields f) (thenNext f (fun _ s => accept n (.open_ false) s)) s

/-- The operation of COEF, its FN below the operation, and RB 0. -/
def coefForm (op fns : Nat) (f : TF) : Bool :=
  decide (TF.fn f / 256 = op) && decide (TF.fn f % 256 < fns) && decide (f.rd.toNat < 8) && vOk f

/-- COEF STAGE (R255): staging is not force-side. -/
def execCoefStage (n : Nat) (f : TF) (s : State) : Answer :=
  tysel n (TF.words f) (coefForm 0 6 f)
    (thenNext f (fun x s =>
      let k := TF.fn f % 256
      let a := chA n (R.stg + 16 * f.rd.toNat + 4 * (k / 2))
      let v := opV s x f
      withZ x false (if k = 5 then sf a 16 2 (fld v 0 2) else sf a (16 * (k % 2)) 16 (fld v 0 16)) s)) s

/-- COEF COMMIT (R255). -/
def execCoefCommit (n : Nat) (f : TF) (s : State) : Answer :=
  tysel n 1 (coefForm 1 16 f && !f.x && f.ra == 0)
    (thenNext f (fun x s => withZ x false (secCommit n f.rd.toNat (TF.fn f % 256)) s)) s

/-- COEF RC (R255): LEARN and CLEAR, force-side. -/
def execCoefRc (n : Nat) (f : TF) (s : State) : Answer :=
  tysel n 1 (coefForm 2 3 f && !f.x && f.ra == 0 && f.rd == 0)
    (fun x s =>
      if !hasRc s then raiseExc n 2 s
      else thenNext f (fun x s => withZ x false (match TF.fn f % 256 with
        | 0 => accept n (.reg R.rcCtrl 1 0)
        | 1 => accept n (.reg R.rcCtrl 1 1)
        | _ => rcClear n) s) x s) s

/-- COEF REEF (R255). -/
def execCoefReef (n : Nat) (f : TF) (s : State) : Answer :=
  tysel n 1 (coefForm 3 2 f && !f.x && f.ra == 0 && f.rd == 0)
    (thenNext f (fun x s =>
      if TF.fn f % 256 = 0 then withZ x (reefRefused s n) (reefSet n) s else withZ x (!reefAhead s n) (reefRel n) s)) s

/-! ### Measurement (R256, R257) -/

/-- The paths MEAS names. -/
def measPaths (f : TF) : List Path := (if TF.immBits f 0 1 = 1 then [.v] else []) ++ (if TF.immBits f 1 1 = 1 then [.i] else [])

/-- MEAS triggers apertures. -/
def execMeas (n : Nat) (f : TF) (s : State) : Answer :=
  tysel n 1 (immOnly 4 f && !(measPaths f).isEmpty) (thenNext f (fun _ s => each (fun p s => apTrigger n p s) (measPaths f) s)) s

/-- MEAS with IMM16[2]: STOP. -/
def execMeasStop (n : Nat) (f : TF) (s : State) : Answer :=
  tysel n 1 (immOnly 8 f && TF.immBits f 2 1 == 1 && !(measPaths f).isEmpty)
    (thenNext f (fun _ s => each (fun p s => apStop n p s) (measPaths f) s)) s

/-- The path that MREAD FN 0 to 5 names. -/
def mreadPath (fn : Nat) : Path := if fn % 2 = 0 then .v else .i

/-- MREAD. -/
def execMread (n : Nat) (f : TF) (s : State) : Answer :=
  let fn := TF.fn f
  tysel n 1 (f.ra == 0 && TF.rb f == 0 && !f.x && (decide (fn < 6) || (decide (0x10 ≤ fn) && decide (fn < 0x15))))
    (thenNext f (fun x s =>
      let p := mreadPath fn
      let get (a : Nat) : State → State := setG x f.rd.toNat (shown s a)
      if fn < 2 then
        get (chA n (apOff p R.apLast)) s |> putZ x (!((chan s n).path p).fresh) |> updMeas n p (fun m => { m with fresh := false })
      else if fn < 4 then get (chA n (apOff p R.apLstat)) s |> putZ x (!((chan s n).path p).fresh)
      else if fn < 6 then
        let l := (chan s n).loop
        setG x f.rd.toNat (toW (sat32 (match p with | .v => l.lastV | .i => l.lastI))) s |> putZ x false
      else
        get (chA n (match fn with
          | 0x10 => R.chStat | 0x11 => R.rngStat | 0x12 => R.loopStat | 0x13 => R.genStat | _ => R.spEff)) s |> putZ x false)) s

/-- Result records of the apertures that close in this tick (R257). -/
def closingRecords (s : State) (n : Nat) : Nat :=
  let c (m : Meas) : Nat := if m.ap.any (apEndsNow s n) then 1 else 0
  c (chan s n).mv + c (chan s n).mi

/-- EMIT finds no room under BLOCK (R257). -/
def emitFull (s : State) (n : Nat) : Bool :=
  !strDropNew s n && decide (8 ≤ (chan s n).recs.length + (chan s n).emits.length + closingRecords s n)

/-- The 16-byte record of EMIT (R257). -/
def emitRecord (s : State) (n : Nat) (a b : Word) : List Byte :=
  leBytes 6 (ticktime48 s) ++ leBytes 1 (n % 32 + 128) ++ leBytes 1 0xC3 ++ wBytes a ++ wBytes b

/-- EMIT. -/
def execEmit (n : Nat) (f : TF) (s : State) : Answer :=
  tysel n 2 (f.rd == 0 && !f.x && TF.fn f == 0)
    (thenNext f (fun x s =>
      if emitFull s n then putZ x true s
      else withZ x false (updChan n (fun c => { c with emits := c.emits ++ [emitRecord s n (opA s x f) (gReg s x (TF.rb f))] })) s)) s

/-! ### The generator (R258) -/

/-- The form of a GEN command. -/
def genForm (k : Nat) (f : TF) : Bool := vForm 4 f && TF.fn f == k

/-- GEN PRIME. -/
def execGenPrime (n : Nat) (f : TF) (s : State) : Answer :=
  tysel n (TF.words f) (genForm 0 f)
    (thenNext f (fun x s => let d := fld (opV s x f) 0 10; withZ x (startRefused s n d) (primeCmd n d) s)) s

/-- GEN START. -/
def execGenStart (n : Nat) (f : TF) (s : State) : Answer :=
  tysel n (TF.words f) (genForm 1 f)
    (thenNext f (fun x s => let d := fld (opV s x f) 0 10; withZ x (startRefused s n d) (startCmd n d) s)) s

/-- GEN STOP. -/
def execGenStop (n : Nat) (f : TF) (s : State) : Answer :=
  tysel n (TF.words f) (genForm 2 f) (thenNext f (fun x s => withZ x false (stopCmd n) s)) s

/-- GEN UNMARK. -/
def execGenUnmark (n : Nat) (f : TF) (s : State) : Answer :=
  tysel n (TF.words f) (genForm 3 f) (thenNext f (fun x s => withZ x false (unmarkCmd n) s)) s

/-- SEG: a word of the descriptor g[RB]. -/
def execSeg (n : Nat) (f : TF) (s : State) : Answer :=
  tysel n (TF.words f) (f.rd == 0 && (!f.x || f.ra == 0) && decide (TF.fn f < 4))
    (thenNext f (fun x s =>
      let d := fld (gReg s x (TF.rb f)) 0 10
      let off := 4 * TF.fn f
      withZ x (gdRefuses s n d off (opV s x f)) (gdWrite n d off (opV s x f)) s)) s

/-- DDS. -/
def execDds (n : Nat) (f : TF) (s : State) : Answer :=
  tysel n (TF.words f) (vForm 9 f)
    (thenNext f (fun x s =>
      let v := opV s x f
      match TF.fn f with
      | 0 => ftwLo seqPort n v s
      | 1 => ftwHi seqPort n v s
      | 2 => putChan n R.ddsPhase0 v s
      | 3 => putChan n R.ddsAmp v s
      | 4 => putChan n R.ddsOfs v s
      | 5 => putChan n R.ddsCfg v s
      | 6 => ddsGo n s
      | 7 => ddsHalt n s
      | _ => ddsPhase n s)) s

/-- MARK. -/
def execMark (n : Nat) (f : TF) (s : State) : Answer :=
  tysel n (TF.words f) (vForm 1 f)
    (thenNext f (fun x s => withZ x (markRefused s n) (markCmd n (fld (opV s x f) 0 14)) s)) s

/-- REWIND. -/
def execRewind (n : Nat) (f : TF) (s : State) : Answer :=
  tysel n 1 (noFields f) (thenNext f (fun x s => withZ x (rewindRefused s n) (rewindCmd n) s)) s

/-- JUMP and JUMP_NOW. -/
def execJump (n : Nat) (f : TF) (s : State) : Answer :=
  tysel n (TF.words f) (vForm 2 f)
    (thenNext f (fun x s =>
      let d := fld (opV s x f) 0 10
      withZ x (jumpRefused s n d) (if TF.fn f = 0 then jumpCmd n d else jumpNowCmd n d) s)) s

end Sys2Proof.Machine
end

