-- ==== Sys2Proof/Machine/TyselSync.lean ====
section
/-! DEFINITION. Tysel: lists, waits, events, resources, edge timers, CHAIN and NOTIFY (09 R259 to R265; 08 R225, R233 to
R240). -/

namespace Sys2Proof.Machine

/-! ### Lists (R263, R264) -/

/-- LIST.LD is refused (R263). -/
def listRefused (s : State) (base len : Nat) : Bool :=
  decide (len = 0) || decide (2 ^ 24 < len) || decide (memSize s < 64 * base + 4 * len)

/-- A new list replaces the old one (R263). -/
def loadList (n base len : Nat) (wrap : Bool) (s : State) : State :=
  emptyList n s |> updChan n (fun c => { c with list := { c.list with started := true } })
    |> sf (lsA n R.lstBase) 0 30 base |> sf (lsA n R.lstLen) 0 25 len |> sb (lsA n R.lstStat) 7 wrap |> showList n |> postList n

/-- LIST.LD. -/
def execListLd (n : Nat) (f : TF) (s : State) : Answer :=
  tysel n 2 (f.rd == 0 && !f.x && decide (TF.fn f < 2))
    (thenNext f (fun x s =>
      let base := fld (opA s x f) 0 30
      let len := fld (gReg s x (TF.rb f)) 0 25
      if listRefused s base len then flag (lsA n R.lstStat) 10 s |> putZ x true
      else loadList n base len (TF.fn f == 1) s |> putZ x false)) s

/-- The list is exhausted (R264). -/
def listEnd (s : State) (n : Nat) : Bool := gb s (lsA n R.lstStat) 8

/-- An entry leaves the prefetch buffer (R264). -/
def listTake (n : Nat) (s : State) : State :=
  let i := listIdx s n + 1
  updChan n (fun c => { c with list := { c.list with buf := c.list.buf.tail } }) s
    |> sf (lsA n R.lstIdx) 0 25 (if i = listLen s n && listWrap s n then 0 else i) |> showList n |> postList n

/-- LIST.NEXT. -/
def execListNext (n : Nat) (f : TF) (s : State) : Answer :=
  tysel n 1 (f.ra == 0 && TF.rb f == 0 && !f.x && decide (TF.fn f < 2))
    (fun x s =>
      if listEnd s n then putZ x true s |> putC x true |> advance x f
      else match (chan s n).list.buf with
        | [] => bump (sqA n R.seqCnt) 24 8 s |> count 0x09 n |> endTick n .list
        | none :: _ => raiseExc n 0x0C s
        | some w :: _ =>
          let last := decide (listIdx s n + 1 = listLen s n)
          setG x f.rd.toNat w s |> putC x false |> putZ x last |> listTake n
            |> whenB (TF.fn f == 1) (putChan n R.sp w) |> advance x f) s

/-! ### Waits and events (R259, R260; 08 R233, R234, R240) -/

/-- The context resumes at slot 0 of a later tick. -/
def waitTicks (n k : Nat) (s : State) : State := endTick n (.wait (s.now + max 1 k)) s

/-- WAIT. -/
def execWait (n : Nat) (f : TF) (s : State) : Answer :=
  tysel n (TF.words f)
    (f.rd == 0 && (if f.x then f.ra == 0 && f.imm == 0 && fld f.ext 24 8 == 0 else f.ra == 0 || f.imm == 0))
    (fun x s =>
      let k := if f.x then fld f.ext 0 24 else if f.ra = 0 then f.imm.toNat else fld (opA s x f) 0 24
      advance x f s |> waitTicks n k) s

/-- YIELD. -/
def execYield (n : Nat) (f : TF) (s : State) : Answer :=
  tysel n 1 (noFields f) (fun x s => advance x f s |> waitTicks n 1) s

/-- WAITEV. -/
def execWaitev (n : Nat) (f : TF) (s : State) : Answer :=
  let e := TF.fn f
  tysel n (TF.words f) (f.rd == 0 && vOk f && decide (e < 64))
    (fun x s =>
      if !hasLine s e then raiseExc n 2 s
      else
        let m := fld (opV s x f) 0 24
        advance x f s |> endTick n (.event e (if m = 0 then none else some (s.now + m)) s.now)) s

/-- TRIG of a software event. -/
def execTrig (n : Nat) (f : TF) (s : State) : Answer :=
  tysel n 1 (immOnly 16 f) (thenNext f (fun x s => withZ x false (fun s => causeAt (48 + TF.immBits f 0 4) s.cycle s) s)) s

/-- TRIG of an output pin. -/
def execTrigPin (n : Nat) (f : TF) (s : State) : Answer :=
  let p := TF.immBits f 0 3
  tysel n 1 (immOnly 65536 f && TF.immBits f 3 13 == 4096)
    (thenNext f (fun x s =>
      let held := holds s x (12 + p)
      withZ x (!held) (whenB held (updTrig p (fun t => { t with drive := true }))) s)) s

/-- SYNC. -/
def execSync (n : Nat) (f : TF) (s : State) : Answer :=
  let b := TF.immBits f 0 6
  tysel n 1 (immOnly 64 f)
    (fun x s =>
      if (List.range 36).any (fun r => holds s x r && !shareable r) then raiseExc n 4 s
      else if barCount s b = 0 then raiseExc n 5 s
      else advance x f { s with barArr := s.barArr ++ [(b, n)] } |> endTick n (.sync b)) s

/-! ### Resources (08 R237, R238) -/

/-- ACQ. -/
def execAcq (n : Nat) (f : TF) (s : State) : Answer :=
  let r := TF.immBits f 0 6
  tysel n 1 (immOnly 36 f)
    (fun x s =>
      if !hasRes s r then raiseExc n 2 s
      else if r < topHeld s x then raiseExc n 3 s
      else
        let s := advance x f s
        if freeNow s r then takeRes (.ctx x n) r s
        else updRes r (fun q => { q with queue := q.queue ++ [.ctx x n] }) s |> endTick n (.acq r)) s

/-- REL. -/
def execRel (n : Nat) (f : TF) (s : State) : Answer :=
  let r := TF.immBits f 0 6
  tysel n 1 (immOnly 36 f)
    (fun x s =>
      if !hasRes s r then raiseExc n 2 s
      else if !holds s x r then raiseExc n 6 s
      else giveUp (.ctx x n) r s.now s |> advance x f) s

/-- ETARM (R261). -/
def execEtarm (n : Nat) (f : TF) (s : State) : Answer :=
  let u := TF.immBits f 0 3
  tysel n 1 (immOnly 16 f)
    (fun x s =>
      if !hasEt s u then raiseExc n 2 s
      else
        let held := holds s x u
        withZ x (!held) (whenB held (etArm u (TF.immBits f 3 1 == 1))) s |> advance x f) s

/-- ETREAD (R261). -/
def execEtread (n : Nat) (f : TF) (s : State) : Answer :=
  let u := TF.immBits f 0 3
  tysel n 1 (f.ra == 0 && !f.x && TF.rb f == 0 && TF.immBits f 3 1 == 0 && TF.immBits f 8 4 == 0)
    (fun x s =>
      if !hasEt s u then raiseExc n 2 s
      else
        let good := holds s x u && gb s (etA u R.etStat) 2
        withZ x (!good) (whenB good (setG x f.rd.toNat (rd s (etA u R.etRes0 + 4 * TF.immBits f 4 4)))) s |> advance x f) s

/-! ### CHAIN and NOTIFY (08 R225, 09 R262) -/

/-- CHAIN. -/
def execChain (n : Nat) (f : TF) (s : State) : Answer :=
  let y := TF.immBits f 0 12
  tysel n 1 (immOnly 4096 f)
    (fun x s =>
      if nCtxs s ≤ y then raiseExc n 2 s
      else if ctxState s y ≠ 0 ∨ chainTarget s y then raiseExc n 9 s
      else if pinsBad s n y then flag (sqA n R.seqStat) 22 s |> raiseExc n 9
      else advance x f s |> updSeq n (fun q => { q with pendSt := some 0, own := true, chainTo := some y, used := 8 })) s

/-- The NOTIFY packet (12 R336). -/
def notifyPkt (s : State) (n x code : Nat) (v : Word) : Pkt :=
  { cls := 1, opc := 0x40, tag := 0, status := 0, p0 := 0, p1 := 0,
    data := leBytes 6 (ticktime48 s) ++ leBytes 1 (n % 32) ++ leBytes 1 0xC4 ++ leBytes 2 (x % 4096) ++ leBytes 2 (code % 4096)
      ++ wBytes v }

/-- NOTIFY. -/
def execNotify (n : Nat) (f : TF) (s : State) : Answer :=
  tysel n (1 + TF.words f) (f.rd == 0 && vOk f)
    (thenNext f (fun x s =>
      if 4 ≤ (seq s n).notes then putZ x true s
      else withZ x false (fun s => sendPacket (notifyPkt s n x (TF.fn f) (opV s x f)) s
        |> updSeq n (fun q => { q with notes := q.notes + 1 })) s)) s

end Sys2Proof.Machine
end

