-- ==== Sys2Proof/Machine/MemCmds.lean ====
section
/-! DEFINITION. Commands of DDR5, the arbiter, the host's resources and the streams, and the host's accesses of DDR5 (11). -/

namespace Sys2Proof.Machine

/-! ### Training and configuration (R287, R311) -/

/-- CFG_REJ of the MEM block. -/
def memReject (s : State) : State := flag R.memStat 5 s

/-- MEM_CTRL.INIT (R287). -/
def memInit (s : State) : State := if memReady s || s.training then memReject s else { s with training := true }

/-- Training ends (R287). -/
def trained (ok : Bool) (s : State) : State :=
  if !s.training then s
  else
    let s := { s with training := false }
    if ok then flag R.memStat 0 s else flag R.memStat 1 s |> sendMsg 3 0x20 0 0

/-- A write of MEM_CFG, field by field (00 R5): the check of SIZE takes SUBCH as the word leaves it, and SUBCH may not be cleared
under a SIZE of 6 that stays. -/
def memCfgWrite (w : Word) (s : State) : State :=
  let idle := !memReady s && !s.training
  let a := R.memCfg
  let w := if s.variant = .vs3208 then setFld w 2 1 0 else w
  let one (lo len : Nat) (ok : Bool) (s : State) : State :=
    if fld w lo len = gf s a lo len then s else if ok && idle then sf a lo len (fld w lo len) s else memReject s
  let size := fld w 3 3
  let sizeOk := decide (2 ≤ size) && decide (size ≤ 6) && !(size == 6 && fld w 2 1 == 0)
  let after := if sizeOk then size else gf s a 3 3
  one 0 2 (fld w 0 2 != 3) s |> one 2 1 (!(fld w 2 1 == 0 && after == 6)) |> one 3 3 sizeOk |> one 6 1 true |> one 7 1 true
    |> one 8 1 true

/-- A write of ARB_SEED (R292, R312). -/
def seedWrite (w : Word) (s : State) : State :=
  if w = 0 then memReject s else wr R.arbSeed w { s with arb := { s.arb with seedNew := true } }

/-! ### The host's resources (R299) -/

/-- ORDER_REJ. -/
def orderReject (s : State) : State := flag R.resHstat 8 s

/-- The highest resource the host holds, plus one. -/
def hostTop (s : State) : Nat := ((List.range 36).filter (hostHolds s)).foldl (fun m r => max m (r + 1)) 0

/-- The host acquires a resource. -/
def hostAcq (r : Nat) (s : State) : State :=
  if !hasRes s r then s
  else if (hostWaits s).isSome || decide (r < hostTop s) then orderReject s
  else if freeNow s r then takeRes .host r s
  else updRes r (fun q => { q with queue := q.queue ++ [.host] }) s

/-- The host releases a resource, or gives up waiting for it. -/
def hostRel (r : Nat) (s : State) : State :=
  if !hasRes s r then s
  else if hostWaits s = some r then updRes r (fun q => { q with queue := q.queue.filter (· != .host) }) s
  else if hostHolds s r then giveUp .host r s.now s
  else flag R.resHstat 9 s

/-- A write of RES_HCMD (R312). -/
def resCmdWrite (w : Word) (s : State) : State :=
  let r := fld w 0 6
  if !bit w 6 && !bit w 7 then s
  else if (bit w 6 && bit w 7) || decide (35 < r) then orderReject s
  else if bit w 6 then hostAcq r s else hostRel r s

/-- A write into the MEM and ARB block. -/
def memWrite (off : Nat) (w : Word) (s : State) : State :=
  match off with
  | 0x000 => memCfgWrite w s
  | 0x004 => whenB (bit w 0) memInit s
  | 0x180 => seedWrite w s
  | 0x200 => resCmdWrite w s
  | _ => plainWrite (0x30000 + off) w s

/-! ### Host accesses of DDR5 (R286, R289, R297; 12 R331) -/

/-- Flits leave the receive buffer (12 R325). -/
def freeFlits (c k : Nat) (s : State) : State := updCls c (fun x => { x with cred := x.cred + k }) s

/-- A completion on a class. -/
def complete (cls opc tag status : Nat) (p0 p1 : Nat) (data : List Byte) (s : State) : State :=
  sendPacket { cls, opc := opc + 0x80, tag, status, p0, p1, data } s

/-- The bursts a byte range touches. -/
def burstsOf (off len : Nat) : List Nat := (List.range ((off + len - 1) / 64 - off / 64 + 1)).map (fun i => (off / 64 + i) * 64)

/-- The bursts a byte range covers only partly. -/
def partBursts (off len : Nat) : List Nat := (burstsOf off len).filter (fun b => decide (b < off) || decide (off + len < b + 64))

/-- The status that refuses an access of the window before it starts (17 R433; 11 R286). -/
def bulkRefusal (s : State) (addr len : Nat) : Option Nat :=
  if addr < 0x1000000000 ∨ len = 0 ∨ 4096 < len then some 0x0C
  else if !memReady s then some 3
  else if memSize s < addr - 0x1000000000 + len then some 2
  else none

/-- The request of an access of DDR5 has been executed: its flits are freed (12 R325). -/
def freeCur (s : State) : State := freeFlits 2 (lcls s 2).curFlits s |> updCls 2 (fun x => { x with curFlits := 0 })

/-- An access of DDR5 joins those in progress and keeps the flits of its request. -/
def addJob (j : HostJob) (s : State) : State :=
  updCls 2 (fun x => { x with curFlits := 0 }) { s with hostJobs := s.hostJobs ++ [{ j with flits := (lcls s 2).curFlits }] }

/-- A host write is accepted (R289), or refused: by its length (12 R333), before it starts, or at an active segment (07 R204). -/
def bulkWrite (tag addr : Nat) (data : List Byte) (s : State) : State :=
  let len := data.length
  let off := addr - 0x1000000000
  match (if 4096 < len then some 0x0D else bulkRefusal s addr len) with
  | some st => complete 3 0x20 tag st 0 0 [] s |> freeCur
  | none =>
    let hit := segHit s off len
    if !hit.isEmpty then each (fun n s => flag (chA n R.genStat) 9 s) hit s |> complete 3 0x20 tag 5 0 0 [] |> freeCur
    else addJob { write := true, tag, off, len, data, toRead := partBursts off len, toWrite := burstsOf off len, waiting := [],
                  failed := false } s

/-- A host read is accepted. -/
def bulkRead (tag addr len : Nat) (s : State) : State :=
  let off := addr - 0x1000000000
  match bulkRefusal s addr len with
  | some st => complete 3 0x21 tag st 0 0 [] s |> freeCur
  | none => addJob { write := false, tag, off, len, data := [], toRead := burstsOf off len, toWrite := [], waiting := [],
                     failed := false } s

/-- Put a job's requests for some bursts into a port's queue while it has free entries. -/
def postBursts (p : Nat) (who : Who) (write : Bool) : List Nat → State → List Nat × State
  | [], s => ([], s)
  | b :: t, s => if portFree s p then postBursts p who write t (enq { port := p, offset := b, who, write } s) else (b :: t, s)

/-- The job in progress, the oldest, posts its requests: reads first, then writes (R289). -/
def postJob (s : State) : State :=
  match s.hostJobs with
  | [] => s
  | j :: t =>
    let who := if j.write then Who.hostWr else Who.hostRd
    let p := if j.write then 0 else 1
    if !j.toRead.isEmpty then
      let r := postBursts p who false j.toRead s
      { r.2 with hostJobs := { j with toRead := r.1, waiting := j.waiting ++ j.toRead.take (j.toRead.length - r.1.length) } :: t }
    else if j.waiting.isEmpty && !j.failed && !j.toWrite.isEmpty then
      -- every write of the job becomes a request before the first is taken
      { s with hostJobs := { j with waiting := j.toWrite, toWrite := [] } :: t }
    else s

/-- Post the writes that wait for a free entry of P0. -/
def postWrites (s : State) : State :=
  match s.hostJobs with
  | j :: _ =>
    if j.write && j.toRead.isEmpty && j.toWrite.isEmpty && !j.failed then
      each (fun b s => if portFree s 0 && !(portQ s 0).any (fun r => r.offset == b) && !(s.arb.inbox.any (fun e => e.1.offset == b && e.1.port == 0))
        then enq { port := 0, offset := b, who := .hostWr, write := true } s else s) j.waiting s
    else s
  | [] => s

/-- The oldest job has done everything: its completion is sent (R288, R289). -/
def endJob (s : State) : State :=
  match s.hostJobs with
  | j :: t =>
    if !j.waiting.isEmpty || !j.toRead.isEmpty || (!j.failed && !j.toWrite.isEmpty) then s
    else
      let s := freeFlits 2 j.flits { s with hostJobs := t }
      if j.failed then complete 3 (if j.write then 0x20 else 0x21) j.tag 4 0 0 [] s
      else if j.write then complete 3 0x20 j.tag 0 0 0 [] s
      else
        let all := (burstsOf j.off j.len).flatMap (fun b => ((j.got.find? (fun g => g.1 == b)).map (·.2)).getD [])
        complete 3 0x21 j.tag 0 0 0 ((all.drop (j.off % 64)).take j.len) s
  | [] => s

/-- The jobs move on. -/
def pumpJobs (s : State) : State := endJob s |> postJob |> postWrites

/-- A burst of the oldest host job has come back. -/
def jobArrive (o : Nat) (data : Option (List Byte)) (s : State) : State :=
  match s.hostJobs with
  | j :: t =>
    let j := { j with waiting := j.waiting.erase o, failed := j.failed || data.isNone,
                      got := match data with | some bs => if j.write then j.got else j.got ++ [(o, bs)] | none => j.got }
    pumpJobs { s with hostJobs := j :: t }
  | [] => s

/-! ### Bursts that return (R288, R290) -/

/-- Ticks between two scrub reads: one pass in PERIOD hours of 7.2e10 ticks (R290). -/
def scrubEvery (s : State) : Nat := max 1 (max 1 (gf s R.scrubCfg 16 16) * 72000000000 * 64 / memSize s)

/-- The scrubber posts its next read (R290). -/
def postScrub (s : State) : State :=
  if gb s R.scrubCfg 0 && memReady s && s.now % scrubEvery s == 0 && !outstanding s 11 (fun w => w == .scrub) then
    enq { port := 11, offset := s.scrubAt * 64, who := .scrub, write := false } s
  else s

/-- A scrub read ends (R290). -/
def scrubEnd (x : Flight) (res : BurstResult) (s : State) : State :=
  let eff := effResult s x res
  let s := reportRead x eff { s with arb := { s.arb with issued := s.arb.issued.erase x } }
    |> whenB (eff == .single) (bump R.scrubStat 16 16)
  if memSize s ≤ (s.scrubAt + 1) * 64 then bump R.scrubStat 0 16 { s with scrubAt := 0 } else { s with scrubAt := s.scrubAt + 1 }

/-- A read of a burst re-read test has returned (13 R368). -/
def rereadEnd (i : Nat) (bad : Bool) (s : State) : State :=
  { s with fc := { s.fc with tests := s.fc.tests.map (fun t =>
      if t.idx = i then { t with reads := t.reads + 1, fails := t.fails + (if bad then 1 else 0) } else t) } }

/-- The error a burst re-read finds is of the kind of its record. -/
def sameError (s : State) (i : Nat) (r : BurstResult) : Bool :=
  s.fc.tests.any (fun t => t.idx == i && (if t.kind = 0x21 then r == .single else r == .double || r == .addr))

/-- How many records have been written since one, itself included; SEQ counts modulo 2^32 (13 R365). -/
def seqLag (s : State) (q : Nat) : Nat := ((rd s R.logSeq).toNat + 2 ^ 32 - q) % 2 ^ 32

/-- How far the mirror of the log is behind (13 R366). -/
def mirrorLag (s : State) : Nat := seqLag s (rd s R.mirSeq).toNat

/-- MIR_SEQ (13 R366): below it every record is mirrored. A record updated later leaves it where it is. -/
def showMirror (s : State) : State :=
  if !gb s R.mirCfg 0 then s
  else
    let lags := (s.fc.mirrorDirty.map (seqLag s)).filter (fun d => decide (d ≤ mirrorLag s))
    wr R.mirSeq (rd s R.logSeq - BitVec.ofNat 32 (lags.foldl max 0)) s

/-- The records of a mirrored burst are in DDR5 (13 R366). -/
def mirrorEnd (seq : Nat) (s : State) : State :=
  showMirror { s with fc := { s.fc with mirrorDirty := s.fc.mirrorDirty.filter (fun q => q / 4 != seq / 4) } }

/-- A returned burst whose requester acts on it at once; the others wait for their own command. -/
def routeOne (e : Req × Option (List Byte)) (s : State) : State :=
  match e.1.who with
  | .hostWr => dropInbox e s |> jobArrive e.1.offset e.2
  | .hostRd => dropInbox e s |> jobArrive e.1.offset e.2
  | .rcBackup n i => dropInbox e s |> rcArrive n false i e.2
  | .rcRestore n i => dropInbox e s |> rcArrive n true i e.2
  | .calLd n i => dropInbox e s |> calArrive n i e.2
  | .reread _ => dropInbox e s
  | .log i => dropInbox e s |> mirrorEnd i
  | .scrub => dropInbox e s
  | _ => s

/-- Route everything that has returned. -/
def route (s : State) : State := each routeOne s.arb.inbox s

/-- A read burst completes (R288). -/
def burstDone (r : Req) (res : BurstResult) (s : State) : State :=
  match flightOf s r with
  | none => s
  | some x =>
    if r.who = .scrub then scrubEnd x res s
    else
      let eff := effResult s x res
      let s := completeBurst r res s
      route (match r.who with
        | .reread i => rereadEnd i (sameError s i eff) s
        | _ => s)

/-! ### Stream reads (R305 to R309) -/

/-- SRC of a stream (13 R354). -/
def srcStream (k : Nat) : Nat := 0x40 + k

/-- The whole items a read takes, the oldest first. -/
def takeItems : Nat → List (List Byte) → List (List Byte)
  | _, [] => []
  | m, it :: t => if it.length ≤ m then it :: takeItems (m - it.length) t else []

/-- STALL_TMO. -/
def stallTmo (s : State) (k : Nat) : Nat := gf s (stA k R.strTmo) 0 16

/-- COALESCE. -/
def coalesce (s : State) (k : Nat) : Nat := gf s (stA k R.strTmo) 16 16

/-- The oldest read, its size, and the items of the stream. -/
def readNow (s : State) (k : Nat) : Option (Rd × List (List Byte)) := ((strm s k).reads.head?).map (fun r => (r, strItems (strm s k)))

/-- The oldest item is larger than the read. -/
def tooSmall (s : State) (k : Nat) : Bool :=
  match readNow s k with | some (r, it :: _) => decide (r.maxb < it.length) | _ => false

/-- The items of the oldest read's packet have come to the tail (R301). Items are available anywhere in the stream (R305); that a
packet which is complete but for the refill bursts of its items waits for them is the model's choice (log entry 25). -/
def packetHere (s : State) (k : Nat) : Bool :=
  match readNow s k with
  | some (r, items) => decide ((takeItems r.maxb items).length ≤ (strm s k).tail.length)
  | none => false

/-- The available items fill the read, or the next would not fit, or it need not wait (R305). -/
def readFull (s : State) (k : Nat) : Bool :=
  match readNow s k with
  | some (r, items) =>
    let l := takeItems r.maxb items
    r.due.isSome && packetHere s k &&
      (coalesce s k == 0 || tooSmall s k || decide (l.length < items.length) || itemBytes l == r.maxb)
  | none => false

/-- A due read has waited COALESCE ticks (R305). -/
def coalesced (s : State) (k : Nat) : Bool :=
  match readNow s k with
  | some (r, items) => !items.isEmpty && packetHere s k && r.due.any (fun d => decide (d + coalesce s k ≤ s.now))
  | none => false

/-- A record of this tick is still to enter the stream of a channel. -/
def recordsWait (s : State) (k : Nat) : Bool :=
  decide (k < 32) && strEn s k && (!(chan s k).recs.isEmpty || !(chan s k).emits.isEmpty)

/-- The oldest read has timed out on an empty stream (R306); an item that becomes available in the same tick is taken. -/
def readLate (s : State) (k : Nat) : Bool :=
  match readNow s k with
  | some (r, items) => items.isEmpty && !recordsWait s k && r.oldest.any (fun d => decide (d + stallTmo s k ≤ s.now))
  | none => false

/-- The oldest read leaves. -/
def popRead (k : Nat) (s : State) : State := updStrm k (fun t => { t with reads := t.reads.tail }) s |> readHead k

/-- The oldest read completes with items of the tail, or with TOO_SMALL (R305). -/
def serveRead (k : Nat) (s : State) : State :=
  match (strm s k).reads with
  | [] => s
  | r :: _ =>
    let seq := rd s (stA k R.strPktseq)
    if tooSmall s k then complete 3 3 r.tag 7 k seq.toNat [] s |> popRead k
    else
      let l := takeItems r.maxb (strm s k).tail
      if l.isEmpty then s
      else
        sendPacket { cls := 3, opc := 0x83, tag := r.tag, status := 0, p0 := k, p1 := seq.toNat, data := l.flatten,
                     items := l.map List.length } s
          |> wr (stA k R.strPktseq) (seq + 1)
          |> updStrm k (fun t => { t with tail := t.tail.drop l.length }) |> flowStream k |> popRead k

/-- The oldest read completes with EMPTY (R306). -/
def emptyRead (k : Nat) (s : State) : State :=
  match (strm s k).reads with
  | [] => s
  | r :: _ => complete 3 3 r.tag 6 k (rd s (stA k R.strPktseq)).toNat [] s |> popRead k

/-- PURGE (R308). -/
def purge (k : Nat) (s : State) : State :=
  let rs := (strm s k).reads
  each (fun r s => complete 3 3 r.tag 6 k (rd s (stA k R.strPktseq)).toNat [] s) rs (purgeItems k s)
    |> updStrm k (fun t => { t with reads := [] })

/-- Flits of a packet as announced (12 R320). -/
def Pkt.flits (p : Pkt) : Nat := 1 + (p.data.length + 31) / 32

/-- The packet of a stream in transmission on TC3 before its last flit, with its number and the flits sent (12 R337). -/
def sendingNow (s : State) (k : Nat) : Option (Nat × Pkt × Nat) :=
  let c := lcls s 3
  match c.tx with
  | some (q, p, sent) =>
    if sent + 2 ≤ p.flits ∧ ¬ c.reOpen ∧ p.opc = 0x83 ∧ p.p0 = k ∧ p.status = 0 ∧ p.cut = none then some (q, p, sent) else none
  | none => none

/-- Bytes of the items wholly within a number of payload bytes (12 R335). -/
def wholeBytes : Nat → List Nat → Nat
  | _, [] => 0
  | b, l :: t => if l ≤ b then l + wholeBytes (b - l) t else 0

/-- Flit i of a packet has gone out for the first time: the items it completes are delivered, and count in the window of their stream (R309;
15 R405). -/
def drained (p : Pkt) (i : Nat) (s : State) : State :=
  let n := wholeBytes (32 * i) p.items - wholeBytes (32 * (i - 1)) p.items
  if p.cls = 3 ∧ p.opc = 0x83 ∧ n ≠ 0 then updStrm p.p0 (fun t => { t with winBytes := t.winBytes + n }) s |> countBy 0x19 p.p0 n else s

/-- Items not wholly within a number of payload bytes. -/
def cutItems : Nat → List Nat → Nat
  | _, [] => 0
  | b, l :: t => if l ≤ b then cutItems (b - l) t else (l :: t).length

/-- DROP (R307): the packet in transmission ends with its next flit; false where there is none. -/
def strDropCmd (k : Nat) (s : State) : Bool × State :=
  match sendingNow s k with
  | none => (false, s)
  | some (q, p, sent) =>
    -- the credit of the flits that are not sent goes back to AVAIL (12 R325; the model's choice, log entry 115)
    (true, bumpBy (stA k R.strCdrop) 0 32 (cutItems (32 * sent) p.items)
      (updCls 3 (fun c => { c with tx := some (q, { p with cut := some (sent + 1) }, sent) }) s)
        |> sf (R.txcStat + 12) 0 16 (gf s (R.txcStat + 12) 0 16 + (p.flits - (sent + 1))))

/-! ### Stream registers (R313) -/

/-- CFG_REJ of a stream. -/
def strReject (k : Nat) (s : State) : State := flag (stA k R.strStat) 5 s

/-- The stream is idle (R313). -/
def strIdle (s : State) (k : Nat) : Bool := !strEn s k && (strItems (strm s k)).isEmpty && (strm s k).reads.isEmpty

/-- The ring lies in the fitted DDR5 and is aligned to its size (R313). -/
def ringOk (s : State) (k : Nat) : Bool :=
  decide (ringBase s k + ringSize s k ≤ memSize s) && decide (ringBase s k % ringSize s k = 0)

/-- A write of STR_CFG (R313): the fields first, then EN. -/
def strCfg (k : Nat) (w : Word) (s : State) : State :=
  let a := stA k R.strCfg
  let one (lo len : Nat) (ok : Bool) (s : State) : State :=
    if fld w lo len = gf s a lo len then s else if ok && strIdle s k then sf a lo len (fld w lo len) s else strReject k s
  let s := one 2 1 true s |> one 3 5 (decide (20 ≤ fld w 3 5) && decide (fld w 3 5 ≤ 30)) |> sb a 1 (bit w 1)
  if bit w 0 && !strEn s k && !ringOk s k then strReject k s else sb a 0 (bit w 0) s

/-- A write into a stream's window. -/
def strWrite (k off : Nat) (w : Word) (s : State) : State :=
  let a := stA k off
  let idleFields (fs : List (Nat × Nat)) (s : State) : State :=
    each (fun f s => if fld w f.1 f.2 = gf s a f.1 f.2 then s
      else if strIdle s k then sf a f.1 f.2 (fld w f.1 f.2) s else strReject k s) fs s
  if off = R.strCfg then strCfg k w s
  else if off = R.strCtrl then
    whenB (bit w 0) (fun s => (strDropCmd k s).2) s |> whenB (bit w 1) (purge k)
      |> whenB (bit w 2) (fun s => wr (stA k R.strDrop) 0 s |> wr (stA k R.strCdrop) 0)
  else if off = R.spillBaseLo then idleFields [(20, 12)] s
  else if off = R.spillBaseHi then idleFields [(0, 4)] s
  else if off = R.strTmo then idleFields [(0, 16), (16, 16)] s
  else plainWrite a w s

/-- A tick edge of a stream (R304, R306, R309). -/
def strEdge (k : Nat) (s : State) : State :=
  let t := strm s k
  let held := t.winHeld && !(strItems t).isEmpty
  let min_ := gf s (stA k R.drainMin) 0 24
  let ended := decide (t.winStart + 20000 ≤ s.now)
  let slow := if ended && held && decide (t.winBytes < min_) then some t.winBytes else t.slowDue
  updStrm k (fun t => { t with fmt := gb s (stA k R.strCfg) 1, fullNow := false, fullLast := t.fullNow, slowDue := slow,
                               winHeld := if ended then true else held, winStart := if ended then s.now else t.winStart,
                               winBytes := if ended then 0 else t.winBytes }) s
    |> flowStream k |> readHead k

/-- A drain window fell short (R309). -/
def strSlow (k : Nat) (s : State) : State :=
  match (strm s k).slowDue with
  | some b => flag (stA k R.strStat) 4 s |> sendMsg (srcStream k) 0x25 0 (min (b / 256) 65535)
                |> updStrm k (fun t => { t with slowDue := none })
  | none => s

/-! ### Commands -/

/-- The effect of a command of stream k. -/
def onStrm (k : Nat) (s : State) (f : State → State) : Answer := clocked s (fun t => if hasStream t k then f t else t)

/-- MEM_CTRL.INIT (R287). -/
def execMemCtrlInit (s : State) : Answer := clocked s memInit

/-- TRAINING_DONE (R287). -/
def execTrainingDone (ok : Bool) (s : State) : Answer := clocked s (trained ok)

/-- ARBITER_DRAW (R292). -/
def execArbiterDraw (s : State) : Answer := clocked s (fun t => if drawDue t then draw t else t)

/-- AGING_GRANT (R294). -/
def execAgingGrant (s : State) : Answer := clocked s (fun t => if agingDue t then agingGrant t else t)

/-- BURST_ISSUE (R293). -/
def execBurstIssue (s : State) : Answer :=
  clockedMem s (fun t => if issueDue t then ((route (issueBurst t).1), (issueBurst t).2) else (t, []))

/-- BURST_COMPLETION (R288). -/
def execBurstCompletion (r : Req) (res : BurstResult) (s : State) : Answer := clocked s (burstDone r res)

/-- SCRUB_READ (R290). -/
def execScrubRead (res : BurstResult) (s : State) : Answer :=
  clocked s (fun t => match t.arb.issued.find? (fun x => x.req.who == .scrub) with
    | some x => scrubEnd x res t
    | none => t)

/-- ARB_TKT_WRITE (R295). -/
def execArbTktWrite (p : Nat) (w : Word) (s : State) : Answer :=
  clocked s (fun t => if p < 12 then memWrite (0x100 + 4 * p) w t else t)

/-- ARB_SEED_WRITE (R292). -/
def execArbSeedWrite (w : Word) (s : State) : Answer := clocked s (seedWrite w)

/-- RES_HCMD.ACQ (R299). -/
def execResHcmdAcq (r : Nat) (s : State) : Answer := clocked s (resCmdWrite (BitVec.ofNat 32 (r % 64 + 64)))

/-- RES_HCMD.REL (R299). -/
def execResHcmdRel (r : Nat) (s : State) : Answer := clocked s (resCmdWrite (BitVec.ofNat 32 (r % 64 + 128)))

/-- STREAM_ITEM_OFFER (R302): a result record or an EMIT record that the head holds back stays with its producer, behind those that wait;
a raw block (its channel stands in byte 6) or a capture's record is lost (04 R145, 05 R167, R169). -/
def execStreamItemOffer (k : Nat) (it : List Byte) (s : State) : Answer :=
  onStrm k s (fun t =>
    let n := (it.getD 6 0).toNat % 32
    (if isRawBlock it && hasChan t n then (rawOffer n k it t).2
     else if k < 32 && !isRawBlock it then putRecord k it t
     else (offer k true it t).2) |> readHead k)

/-- Items that touch a word of a stage: its position there, and four bytes (13 R355). -/
def touched (pos : Nat) (l : List (List Byte)) : List (Nat × Nat × List Byte) :=
  (ringEnds 0 l).filter (fun x => decide (x.1 < pos + 4) && decide (pos < x.2.1))

/-- The items of a stage without those that touch a word. -/
def untouched (pos : Nat) (l : List (List Byte)) : List (List Byte) :=
  ((ringEnds 0 l).filter (fun x => !(decide (x.1 < pos + 4) && decide (pos < x.2.1)))).map (·.2.2)

/-- A double-bit error in a stream's head or tail (13 R355): STR_MEM is sent, and the items that touch the word are discarded and
counted. What the head has written ahead of itself into the ring is written again. -/
def strMem (k : Nat) (tail : Bool) (word pos : Nat) (s : State) : State :=
  let lost := touched pos (if tail then (strm s k).tail else (strm s k).head)
  let s := sendMsg (srcStream k) 0x24 word (b2n tail) s
  let s := if tail then updStrm k (fun t => { t with tail := untouched pos t.tail }) s
    else
      withdraw 2 (fun w => w == .spill k) s |> updStrm k (fun t => { t with head := untouched pos t.head, scred := 0 })
  each (fun _ s => strDropItem k s) lost s |> flowStream k |> readHead k |> postStream k

/-- An upset of a stage, where there is one. -/
def strUpset (k : Nat) (tail : Bool) (upset : Option (Nat × Nat)) (s : State) : State :=
  match upset with | some (word, pos) => strMem k tail word pos s | none => s

/-- STREAM_SPILL (R301; 13 R355). -/
def execStreamSpill (k : Nat) (s : State) (upset : Option (Nat × Nat) := none) : Answer :=
  onStrm k s (fun t =>
    let t := strUpset k false upset t
    match fromInbox t 2 (fun w => w == .spill k) with
    | some e => postStream k (match e.2 with | some bs => spill k bs.length (dropInbox e t) | none => dropInbox e t)
    | none => t)

/-- The refill of the stream whose turn it is: of the burst at the refill position, or of one that is no longer wanted. -/
def refillTurn (s : State) (k : Nat) : Who → Bool
  | .refill j b => j == k && decide (b ≤ (strm s k).fpos / 64)
  | _ => false

/-- A refill burst has returned; one of items already discarded brings nothing. -/
def refillArrive (k : Nat) (e : Req × Option (List Byte)) (s : State) : State :=
  let due := match e.1.who with | .refill _ b => decide ((strm s k).fpos / 64 = b) | _ => false
  let s := dropInbox e s
  (if due then refill k e.2 s |> readHead k else s) |> postStream k

/-- STREAM_REFILL (R301, R303). -/
def execStreamRefill (k : Nat) (res : BurstResult) (s : State) : Answer :=
  onStrm k s (fun t =>
    let t := match fromInbox t 3 (refillTurn t k), t.arb.issued.find? (fun x => !x.dead && refillTurn t k x.req.who) with
      | none, some x => completeBurst x.req res t
      | _, _ => t
    match fromInbox t 3 (refillTurn t k) with
    | some e => refillArrive k e t
    | none => t)

/-- STR_CFG_WRITE (R313). -/
def execStrCfgWrite (k : Nat) (w : Word) (s : State) : Answer := onStrm k s (strCfg k w)

/-- STR_CTRL.DROP (R307). -/
def execStrCtrlDrop (k : Nat) (s : State) : Answer := onStrm k s (strWrite k R.strCtrl 1)

/-- STR_CTRL.PURGE (R308). -/
def execStrCtrlPurge (k : Nat) (s : State) : Answer := onStrm k s (strWrite k R.strCtrl 2)

/-- STR_CTRL.CNT_CLR (R313). -/
def execStrCtrlCntClr (k : Nat) (s : State) : Answer := onStrm k s (strWrite k R.strCtrl 4)

/-- STREAM_READ_COMPLETE (R305; 13 R355). -/
def execStreamReadComplete (k : Nat) (s : State) (upset : Option (Nat × Nat) := none) : Answer :=
  onStrm k s (fun t => let t := strUpset k true upset t; if readFull t k then serveRead k t else t)

/-- COALESCE_EXPIRY (R305). -/
def execCoalesceExpiry (k : Nat) (s : State) : Answer := onStrm k s (fun t => if coalesced t k then serveRead k t else t)

/-- STREAM_READ_TIMEOUT (R306). -/
def execStreamReadTimeout (k : Nat) (s : State) : Answer := onStrm k s (fun t => if readLate t k then emptyRead k t else t)

/-- STREAM_SLOW (R309). -/
def execStreamSlow (k : Nat) (s : State) : Answer := onStrm k s (fun t => if (strm t k).slowDue.isSome then strSlow k t else t)

end Sys2Proof.Machine
end

