-- ==== Sys2Proof/Machine/Fault.lean ====
section
/-! DEFINITION. The fault collector (13): lanyard messages, records, classes and reactions, self-tests, the mirror of the log,
holds and furls and their release, and fault injection. -/

namespace Sys2Proof.Machine

/-! ### Holds and furls (R359 to R363) -/

/-- A shadow window of 64 ticks opens in this tick (R372). -/
def openWindow (idx ch : Option Nat) (test : Bool) (s : State) : State :=
  { s with fc := { s.fc with windows := { idx, first := s.now, last := s.now + 63, ch, test } :: s.fc.windows } }

/-- The DAC takes the clear latch, recomputed first where that is due (06 R179, R182); after a loss of the clock no tick edge
recomputes it (14 R388). -/
def toClear (n : Nat) (s : State) : State := dacToClear n (if (chan s n).clrDirty && running s then refreshClear n s else s)

/-- OFF commits under CLR_N (06 R184): the command is the clear code even where CLR_N has risen again, and no frame queued since
the flush is left (02 R88). -/
def clearOff (n : Nat) (s : State) : State := goOff n s |> dropFrames n |> toClear n

/-- A channel furl applies (R359); on a furled channel nothing further happens (R363). -/
def furlChan (idx : Option Nat) (n : Nat) (s : State) : State :=
  if furled s n then s
  else
    let ran := match boundCtx s n with | some x => ctxState s x == 1 || ctxState s x == 2 | none => false
    let s := goOff n s |> queueDisconnect n |> toClear n |> haltNow n |> whenB ran (flag (sqA n R.seqStat) 24) |> apStopAll n
      |> genStop n |> injFinish 2 n
    (if (chan s n).raw.isSome then rawEnd n s else s) |> sb R.chFurled n true |> openWindow idx (some n) false

/-- A device furl applies, on the channels that confirm it (R360, R373). -/
def furlDeviceBut (silent : List Nat) (idx : Option Nat) (s : State) : State :=
  if gb s R.devStat 0 then s
  else
    each (furlChan idx) ((chans s).filter (fun n => !silent.contains n)) s |> stopRcbClocks |> sf R.devStat 0 2 3 |> bump R.devStat 8 8 |> openWindow idx none false

/-- A device furl applies (R360). -/
def furlDevice (idx : Option Nat) : State → State := furlDeviceBut [] idx

/-- The channel is in MANUAL or a closed mode. -/
def drives (s : State) (n : Nat) : Bool := isClosed (modeNow s n) || modeNow s n == 8

/-- The reactions due for a channel apply, the strongest of them (R363); under CLR_N the channel goes to OFF with no DISCONNECT and its
DAC to the clear latch, whatever else would turn it off (02 R88, R89). -/
def reactChan (acts : List React) (n : Nat) (s : State) : State :=
  let mine := acts.filter (fun r => r.targets.contains n)
  let has (a : Act) : Bool := mine.any (fun r => r.act == a)
  match mine.find? (fun r => r.act == .furl) with
  | some r => furlChan r.idx n s
  | none =>
    if has .clr then clearOff n s
    else if has .off then landOff n s
    else
      let s := if !drives s n then s else if has .manual then landMode n 8 s else if has .reef then landReef n true s else s
      if modeNow s n ≠ 0 ∧ (has .hold84 || (has .hold && drives s n)) then enterHold n s else s

/-- Some reaction applies in this tick. -/
def reactDue (s : State) : Bool := s.fc.reacts.any (fun r => decide (r.at_ ≤ s.now))

/-- The writes a reaction overrides: the state 01 R14 lists, and what a chapter calls force-side. Of the writes that also land
at a tick edge, R14 names neither the span, the clear code, LOOP_CFG, the luff detector and the reef set, the clear of the learned
table nor an injection's start and stop: they stand (log entry 82). Starts and stops of pulse trains are force-side by 09 R254. -/
def FW.forceSide : FW → Bool
  | .loopCfg _ | .span _ | .dacClr _ | .rcClear | .luffReg _ _ _ | .luffRestart | .reef _ | .injGo
  | .injStop => false
  | _ => true

/-- A reaction has an effect on a channel as the tick begins: CH_HOLD has none in OFF and MEASURE, the hold of 02 R84 none in OFF
(R361), and on a furled channel nothing further happens (R363). -/
def reactsOn (s : State) (n : Nat) (r : React) : Bool :=
  match r.act with
  | .hold => r.targets.contains n && drives s n
  | .hold84 => r.targets.contains n && modeNow s n != 0
  | .furl => r.targets.contains n && !furled s n
  | .dev => !furled s n
  | _ => r.targets.contains n

/-- A reaction overrides the writes accepted for a channel: where it has an effect, and the hold of 02 R84, which an exception decides
whatever the mode (08 R243), in OFF as well. -/
def overrides (s : State) (n : Nat) (r : React) : Bool := reactsOn s n r || (r.act == .hold84 && r.targets.contains n)

/-- The reactions of the tick lose the channels on which they have no effect. -/
def trimReacts (s : State) : State :=
  { s with fc := { s.fc with reacts := s.fc.reacts.map (fun r =>
      if r.at_ ≤ s.now then { r with targets := r.targets.filter (fun n => reactsOn s n r) } else r) } }

/-- At a tick edge the reactions of the new tick override the force-side writes accepted for their channels in the old one (01
R19), and an assertion under REACT = REEF a release of the reef set, also where MANUAL is its reaction (04 R137, R139). A held mode
counts as such a write where it would land in the new tick (02 R56); that one which is still held then stays held is the model's
choice (log entry 119). The mode writes a clear condition discards are rejected (06 R184). -/
def overrideWrites (s : State) : State :=
  let due := s.fc.reacts.filter (fun r => decide (r.at_ ≤ s.now))
  each (fun n s =>
    let mine := due.filter (overrides s n)
    if mine.isEmpty then s
    else
      let rej := mine.any (fun r => r.act == .clr)
      let reef := mine.any (fun r => r.act == .reef || (r.act == .manual && gf s (chA n R.luffCfg) 0 2 == 1))
      let modes := (chan s n).shadow.filter (fun w => match w with | .mode c => rej && c != 0 | _ => false)
      let held := heldModeComes s n
      each (fun _ s => chReject n 7 s) modes s |> whenB held (cancelHeld n) |> whenB (held && rej) (chReject n 7)
        |> updChan n (fun c => { c with shadow := c.shadow.filter (fun w => !w.forceSide && !(reef && w == .reef false)) }))
    (if due.isEmpty then [] else chans s) s |> trimReacts

/-! ### Classes and targets (R356 to R358) -/

/-- Class of a kind, by KIND_MAP as it stood at the start of the tick (R356). -/
def classOf (s : State) (kind : Nat) : Nat :=
  let a := R.kindMap0 + 4 * (kind / 16)
  fld ((Map.get none s.fc.kinds a).getD (rd s a)) (2 * (kind % 16)) 2

/-- Reactions of a class (R357). -/
def reactBits (s : State) (c : Nat) : Word := rd s (R.classCfg0 + 4 * c)

/-- A CTX_ kind. -/
def isCtxKind (k : Nat) : Bool := decide (0x81 ≤ k) && decide (k ≤ 0x8C)

/-- Target channels of a message (R358). -/
def targetsOf (s : State) (src kind addr info : Nat) : List Nat :=
  let l : List Nat :=
    if 0x20 ≤ src ∧ src < 0x40 then [src - 0x20]
    else if 0x10 ≤ src ∧ src < 0x18 then (if isCtxKind kind then [addr / 4096 % 32] else [])
    else if 8 ≤ src ∧ src < 0xC then (if kind = 0x12 then [addr % 32] else (List.range 8).map (fun i => 8 * (src - 8) + i))
    else if src = 3 then (if info / 1024 % 2 = 1 then [info / 32 % 32] else [])
    else if 0x40 ≤ src ∧ src < 0x60 then [src - 0x40]
    else if 0x60 ≤ src ∧ src < 0x64 then
      (resOf s (8 + (src - 0x60))).holders.filterMap (fun h => match h with | .ctx _ n => some n | .host => none)
    else []
  l.filter (hasChan s)

/-- Decide reactions in this tick (R351): they apply at the next. -/
def decideReacts (bits : Word) (targets : List Nat) (idx : Option Nat) (s : State) : State :=
  whenB (bit bits 2) (react (s.now + 1) targets .hold idx) s |> whenB (bit bits 3) (react (s.now + 1) targets .furl idx)
    |> whenB (bit bits 4) (react (s.now + 1) [] .dev idx)

/-! ### The log and its mirror (R364 to R367) -/

/-- Address of a record. -/
def recA (i : Nat) : Nat := R.flog + 16 * (i % 256)

/-- A record is written or updated: the mirror has to take it (R366). -/
def markDirty (seq : Nat) (s : State) : State :=
  if gb s R.mirCfg 0 && !s.fc.mirrorDirty.contains seq then
    { s with fc := { s.fc with mirrorDirty := s.fc.mirrorDirty ++ [seq] } } else s

/-- A mirror 256 records behind, the newest included, skips what it lacks (R366). -/
def mirrorSkip (s : State) : State :=
  if gb s R.mirCfg 0 && decide (256 ≤ mirrorLag s) then
    flag R.fcStat 4 { s with fc := { s.fc with mirrorDirty := [] } } |> wr R.mirSeq (rd s R.logSeq)
  else s

/-- Bytes of the record at a log index. -/
def recBytes (s : State) (i : Nat) : List Byte := (List.range 4).flatMap (fun k => wBytes (rd s (recA i + 4 * k)))

/-- The four words of a record (R364). -/
def recWords (m : Msg) (real inj sec : Bool) (cls tst idx : Nat) : List Word :=
  [BitVec.ofNat 32 (m.info + m.addr % 2 ^ 16 * 2 ^ 16),
   BitVec.ofNat 32 (m.addr / 2 ^ 16 + (b2n inj) * 2 ^ 15 + m.kind * 2 ^ 16 + m.src * 2 ^ 24),
   BitVec.ofNat 32 m.time,
   BitVec.ofNat 32 (m.time / 2 ^ 32 % 2 ^ 16 + (cls + 4 * tst + 16 * b2n real + 64 * b2n sec) * 2 ^ 16 + idx * 2 ^ 24)]

/-- A FAULT packet waits for TC1, among at most 16 (R367). -/
def noteBytes (data : List Byte) (s : State) : State :=
  if ((lcls s 1).txq.filter (fun p => p.opc == 0x41)).length < 16 then
    sendPacket { cls := 1, opc := 0x41, tag := 0, status := 0, p0 := 0, p1 := 0, data } s
  else flag R.fcStat 7 s

/-- The words of a record are stored at consecutive addresses. -/
def putWords (a : Nat) : List Word → State → State
  | [], s => s
  | w :: t, s => putWords (a + 4) t (wr a w s)

/-- A record is written (R365). `det` remembers a primary record of a real fault for R353. -/
def writeRec (ws : List Word) (det : Nat × Nat × Nat × Nat) (s : State) : State :=
  let seq := (rd s R.logSeq).toNat
  let old := (seq + 2 ^ 32 - 256) % 2 ^ 32
  let s := if (gb s (recA seq + 12) 20 || gb s (recA seq + 4) 15) && decide ((rd s R.logRd).toNat ≤ old) then flag R.fcStat 3 s |> bump R.fcStat 24 8 else s
  putWords (recA seq) ws { s with fc := { s.fc with det := Map.put (0, 0, 0, 0) s.fc.det (seq % 256) det } }
    |> wr R.logSeq (BitVec.ofNat 32 (seq + 1)) |> flag R.fcStat 0 |> count 0x29 0 |> markDirty seq |> mirrorSkip |> showMirror

/-- The next mirror burst to write (R366): the burst of the oldest record the mirror lacks. -/
def mirrorNext (s : State) : Option Req :=
  match s.fc.mirrorDirty with
  | [] => none
  | q :: t =>
    let seq := t.foldl (fun a b => if seqLag s a < seqLag s b then b else a) q
    let base := gf s R.mirBaseLo 12 20 * 2 ^ 12 + gf s R.mirBaseHi 0 4 * 2 ^ 32
    let off := base + seq % 2 ^ (gf s R.mirCfg 1 5) / 4 * 64
    if gb s R.mirCfg 0 && !outstanding s 10 (fun w => match w with | .log _ => true | _ => false) then
      some { port := 10, offset := off, who := .log seq, write := true } else none

/-! ### Self-tests (R368, R369) -/

/-- The block a fault's self-test works on; none where its kind names no test (R355, R369). -/
def testBlock (m : Msg) : Option (Nat × Nat) :=
  let bank (tag unit b : Nat) : Option (Nat × Nat) := some (1, (tag * 64 + unit) * 2 ^ 16 + b)
  if m.kind = 0x0A then bank (m.info % 2) ((m.src - 0x20) / 8) (m.addr / 2048)
  else if m.kind = 0x10 then bank 2 0 (m.addr / 2048)
  else if m.kind = 0x23 then bank 3 0 (m.addr / 128)
  else if m.kind = 0x24 then bank (4 + m.info % 2) (m.src - 0x40) (m.addr / 2048)
  else if m.kind = 0x11 then some (2, 2 * (m.src - 0x20) + m.info % 2)
  else if m.kind = 0x12 then some (3, m.addr % 32)
  else if m.kind = 0x13 then some (4, 64 * (m.src - 8) + m.info % 64)
  else if m.kind = 0x14 then some (4, 64 * (m.src - 8) + 0x19)
  else if m.kind = 0x21 ∨ m.kind = 0x22 then some (5, m.aux / 64)
  else if m.kind = 0x30 then some (6, 0)
  else none

/-- Ticks to the result (R368). -/
def testTicks (t : Test) : Nat :=
  match t.block.1 with
  | 1 => 1088
  | 2 => 4096
  | 3 => 480
  | 4 => 240
  | _ => 200

/-- Conversions or reads a test makes. -/
def testNeeds (t : Test) : Nat :=
  match t.block.1 with
  | 3 => if t.sweep then 5 else 3
  | 4 => 2
  | 5 => 2
  | _ => 0

/-- Change the test of a record. -/
def updTest (seq : Nat) (f : Test → Test) (s : State) : State :=
  { s with fc := { s.fc with tests := s.fc.tests.map (fun t => if t.idx = seq then f t else t) } }

/-- A running test asks for its next conversion or read. -/
def askTest (t : Test) (s : State) : State :=
  if !t.running || decide (testNeeds t ≤ t.asked) then s
  else match t.block.1 with
    | 5 =>
      if outstanding s 11 (fun w => w == .reread t.idx) || !portFree s 11 then s
      else enq { port := 11, offset := t.block.2 * 64, who := .reread t.idx, write := false } s
             |> updTest t.idx (fun t => { t with asked := t.asked + 1 })
    | _ =>
      let g := if t.block.1 = 3 then t.block.2 / 8 else t.block.2 / 64
      let input := if t.block.1 = 3 then t.block.2 % 8 else t.block.2 % 64
      if (mon s g).pend.any (fun r => r.src == 4) then s
      else monRequest g { input, chk := t.kind != 0x14, limset := t.aux % 8, src := 4, entry := 0, at_ := s.now } s
             |> updTest t.idx (fun t => { t with asked := t.asked + 1 })

/-- Every running test asks for what it needs. -/
def askTests (s : State) : State := each askTest s.fc.tests s

/-- The test at a log index that may start (R368). -/
def startable (s : State) (i : Nat) : Option Test :=
  s.fc.tests.find? (fun t => !t.running && t.shares.isNone && t.copyEnd.isNone && decide (t.start ≤ s.now) && t.idx % 256 == i % 256)

/-- A self-test starts, or its record shares the test that runs on its block (R369). -/
def startTest (t : Test) (s : State) : State :=
  match s.fc.tests.find? (fun u => u.running && u.block == t.block) with
  | some u => updTest t.idx (fun t => { t with shares := some u.idx }) s
  | none =>
    let sweep := t.block.1 == 3 && (chan s t.block.2).disconnected
    let s := updTest t.idx (fun t => { t with running := true, start := s.now, sweep }) s
    let s := match t.block.1 with
      | 2 => openWindow (some (t.idx % 256)) (some (t.block.2 / 2)) true s
      | 3 => openWindow (some (t.idx % 256)) (some t.block.2) true s
      | 6 => if gf s R.lnkStat 0 3 < 5 then sf R.lnkStat 0 3 0 s else s
      | _ => s
    askTests s

/-- A lane loopback that no lane has failed waits for the link to train (R368; log entry 101). -/
def awaitsLink (t : Test) : Bool := t.running && t.block.1 == 6 && t.reads == 1

/-- The link is UP. -/
def linkUp (s : State) : Bool := gf s R.lnkStat 0 3 == 5

/-- The running test at a log index whose result may come (R368): after its conversions or reads, or in its last tick; of a lane
loopback without a failed lane, once the link has trained. -/
def endable (s : State) (i : Nat) : Option Test :=
  s.fc.tests.find? (fun t => t.running && t.idx % 256 == i % 256 && (!awaitsLink t || linkUp s) &&
    ((decide (0 < testNeeds t) && decide (testNeeds t ≤ t.reads)) || decide (t.start + testTicks t ≤ s.now + 1)))

/-- Lanes in a mask. -/
def laneCount (m : Nat) : Nat := ((List.range 4).filter (fun i => m.testBit i)).length

/-- The outcome (R368): by the conversions or reads a test has made; by the mean difference a pair cross-check has found; on the link
also by the width it has trained to; else as the event says. -/
def outcome (s : State) (t : Test) (persistent : Bool) : Bool :=
  if 0 < testNeeds t ∧ testNeeds t ≤ t.reads then decide ((if t.block.1 = 4 then 2 else 1) ≤ t.fails)
  else if t.block.1 = 2 ∧ 0 < t.reads then decide (64 * t.reads < t.sum.natAbs)
  else if t.block.1 = 6 then persistent || (linkUp s && decide (laneCount (gf s R.lnkStat 3 4) < laneCount t.info))
  else persistent

/-- A record takes part in what is decided or reacts in this tick (R373). -/
def inPlay (i : Option Nat) (s : State) : State :=
  { s with fc := { s.fc with active := s.fc.active ++ i.toList } }

/-- The result is entered in one record (R368, R369); one that raises its class is decided in this tick. -/
def enterResult (p : Bool) (t : Test) (s : State) : State :=
  let up := p && decide (t.cls < 3)
  let cls := if up then t.cls + 1 else t.cls
  let here := decide (((rd s R.logSeq).toNat + 2 ^ 32 - t.idx) % 2 ^ 32 ≤ 256)
  let a := recA t.idx + 12
  let old := reactBits s t.cls
  let new := reactBits s cls
  let s := if here then
      sf a 16 2 cls s |> sf a 18 2 (if p then 3 else 2) |> sb a 23 p |> markDirty t.idx
        |> whenB (bit new 1 || bit old 1) (fun s => noteBytes (recBytes s t.idx) s)
    else s
  if up then
    inPlay (if here then some (t.idx % 256) else none) s
      |> decideReacts (new &&& ~~~old) (targetsOf s t.src t.kind t.addr t.info) (some (t.idx % 256))
  else s

/-- A lane loopback has ended without a failed lane, and the link has still to train (R368). -/
def loopPassed (s : State) (t : Test) (persistent : Bool) : Bool := t.block.1 == 6 && !persistent && !linkUp s

/-- A self-test ends (R368, R369). A passing march copies its bank back for 64 ticks more; a failing one leaves the spare in
service. -/
def endTest (t : Test) (persistent : Bool) (s : State) : State :=
  if loopPassed s t persistent then updTest t.idx (fun t => { t with reads := 1 }) s
  else
    let p := outcome s t persistent
    let all := t :: s.fc.tests.filter (fun u => u.shares == some t.idx)
    let rest := s.fc.tests.filter (fun u => u.idx != t.idx && u.shares != some t.idx)
    let copy : List Test := if t.block.1 = 1 ∧ ¬ p then [{ t with running := false, copyEnd := some (s.now + 64) }] else []
    let spares := if t.block.1 = 1 ∧ p ∧ ¬ s.fc.spares.contains t.block then s.fc.spares ++ [t.block] else s.fc.spares
    each (enterResult p) all { s with fc := { s.fc with tests := rest ++ copy, spares } }

/-- Codes of the DAC read-back sweep (R368). -/
def sweepCode (k : Nat) : Int := ([-393216, -131072, 0, 131072, 393216] : List Int).getD k 0

/-- At a tick edge a sweep drives its channel's DAC: the next code where its conversion begins in this tick, the clear code
before the first and after the last (R368). -/
def sweepEdge (t : Test) (s : State) : State :=
  if !t.running || !t.sweep then s
  else
    let n := t.block.2
    let m := mon s (n / 8)
    let mine (r : MonReq) : Bool := r.src == 4 && r.input == n % 8
    let begins := s.now % 80 == 0 && (monNext s (n / 8)).any mine
    let runs := s.now % 80 != 0 && m.conv.any (fun c => mine c.1)
    let s := if begins then updTest t.idx (fun t => { t with step := t.step + 1 }) s else s
    let k := if begins then t.step else t.step - 1
    if (begins || runs) && !s.clrLow then setDac n (sweepCode k) s else s

/-- The spare is released (R368). -/
def copyDue (s : State) : Bool := s.fc.tests.any (fun t => t.copyEnd.any (fun e => decide (e ≤ s.now)))

/-- The copies back that have ended leave. -/
def releaseSpares (s : State) : State :=
  { s with fc := { s.fc with tests := s.fc.tests.filter (fun t => !t.copyEnd.any (fun e => decide (e ≤ s.now))) } }

/-! ### Taking a message (R351 to R353, R370 to R372) -/

/-- Kinds that follow from a furl (R372). -/
def isConsequence (k : Nat) : Bool := [0x08, 0x09, 0x11, 0x18, 0x12, 0x25].contains k || isCtxKind k

/-- The message's source depends on the block a window covers (R372). -/
def dependsOn (w : Window) (m : Msg) : Bool :=
  match w.ch with
  | none => (decide (8 ≤ m.src) && decide (m.src < 0xC)) || (decide (0x10 ≤ m.src) && decide (m.src < 0x18)) || decide (0x20 ≤ m.src)
  | some n =>
    m.src == 0x20 + n || (decide (8 ≤ m.src) && decide (m.src < 0xC) && m.kind == 0x12 && m.addr == n) ||
      (!w.test && (m.src == 0x40 + n ||
        (decide (0x10 ≤ m.src) && decide (m.src < 0x18) && isCtxKind m.kind && m.addr / 4096 % 32 == n)))

/-- The window that makes the message a secondary record: the most recent one over its source decides (R372). -/
def shadowOf (s : State) (m : Msg) : Option Window :=
  match s.fc.windows.find? (fun w => decide (w.first ≤ m.tick) && decide (m.tick ≤ w.last) && dependsOn w m) with
  | none => none
  | some w =>
    let hit := if w.test then m.kind == 0x11 || m.kind == 0x12
      else isConsequence m.kind || (w.ch.isNone && m.kind == 0x13 && m.info == 0x18)
    if hit then some w else none

/-- The newest primary record of a real fault with a source and kind, among the 256 on the die (R353). -/
def newestRec (s : State) (src kind : Nat) : Option (Nat × Nat × Nat) :=
  let seq := (rd s R.logSeq).toNat
  ((List.range 256).map (fun a => (seq % 256 + 255 - a) % 256)).findSome? (fun i =>
    match Map.get (0, 0, 0, 0) s.fc.det i with
    | (t, a, k, ad) => if a = src ∧ k = kind ∧ kind ≠ 0 then some (i, t, ad) else none)

/-- The record a real message repeats (R353). -/
def repeatOf (s : State) (m : Msg) : Option Nat :=
  match newestRec s m.src m.kind with
  | some (i, t, ad) => if ad = m.addr ∧ m.tick < t + gf s R.rptWin 0 24 then some i else none
  | none => none

/-- A log index where the message has no record of its own: a value left open. -/
def idxOr (o : Option Nat) (s : State) : Nat × State :=
  match o with | some i => (i, s) | none => ((takeNat s).1 % 256, (takeNat s).2)

/-- SEQ of the latest record at a log index. -/
def seqAt (s : State) (i : Nat) : Nat := ((rd s R.logSeq).toNat + 2 ^ 32 - 1 - ((rd s R.logSeq).toNat + 255 - i) % 256) % 2 ^ 32

/-- A message becomes a primary record of a class, with that class's reactions (R357, R364 to R368, R370). `merged`: an injected twin
came with it (R371). -/
def primary (merged : Bool) (m : Msg) (cls : Nat) (s : State) : State :=
  let real := !m.inj
  let bits := if !real && gb s R.fiCtrl 1 then reactBits s cls &&& 3 else reactBits s cls
  let log := bit bits 0
  let seq := (rd s R.logSeq).toNat
  let block := if real && log then testBlock m else none
  let idx := if log then (seq % 256, s) else idxOr none s
  let ws := recWords m real (m.inj || merged) false cls (if block.isSome then 1 else 0) idx.1
  let at_ : Option Nat := if log then some (seq % 256) else none
  let s := if log then
      writeRec ws (if real then (m.tick, m.src, m.kind, m.addr) else (0, 0, 0, 0)) idx.2 |> inPlay at_
    else idx.2
  let s := whenB (bit bits 1) (noteBytes (ws.flatMap wBytes)) s
  let s := match block with
    | some block =>
      let test : Test := { idx := seq, cls, kind := m.kind, src := m.src, addr := m.addr, info := m.info, aux := m.aux, block,
                           start := s.now + 1 }
      { s with fc := { s.fc with tests := s.fc.tests ++ [test] } }
    | none => s
  decideReacts bits (targetsOf s m.src m.kind m.addr m.info) at_ s

/-- A message repeats a record (R353): REPEAT counts, and the reactions of its class are decided again. -/
def repeated (m : Msg) (i : Nat) (s : State) : State :=
  let c := if gb s (recA i + 12) 23 then gf s (recA i + 12) 16 2 else classOf s m.kind
  bump (recA i + 4) 8 7 s |> bump R.fcCnt 16 16 |> markDirty (seqAt s i) |> inPlay (some i)
    |> decideReacts (reactBits s c) (targetsOf s m.src m.kind m.addr m.info) (some i)

/-- A message becomes a secondary record (R372), a repeat (R353), or a primary record. -/
def handleMsg (merged : Bool) (m : Msg) (s : State) : State :=
  match shadowOf s m with
  | some w =>
    let i := idxOr w.idx s
    writeRec (recWords m (!m.inj) (m.inj || merged) true (classOf s m.kind) 0 i.1) (0, 0, 0, 0) i.2 |> bump R.fcCnt 0 16
  | none =>
    match (if m.inj || merged then none else repeatOf s m) with
    | some i => repeated m i s
    | none => primary merged m (classOf s m.kind) s

/-- An injected and a real message of one source, kind, tick and cycle (R371). -/
def twins (a b : Msg) : Bool := a.src == b.src && a.kind == b.kind && a.tick == b.tick && a.cyc == b.cyc && a.inj != b.inj

/-- A message can be taken (R351, R352), an injected one besides the 48 of a tick, unless its real twin comes with it (R371); after a
loss the collector goes on without ticks (14 R388). -/
def takable (s : State) : Option Msg :=
  match s.fc.bus with
  | [] => none
  | m :: t =>
    if !running s || (decide (m.tick < s.now) && (decide (s.fc.taken < 48) || (m.inj && !t.any (twins m)))) then some m else none

/-- The next message is taken, with its twin where it has one; real ones count against the tick's 48 (R352, R371). -/
def takeMsg (s : State) : State :=
  match takable s with
  | none => s
  | some m =>
    let bus := s.fc.bus.tail
    let s' := match bus.find? (twins m) with
      | some u =>
        handleMsg true (if m.inj then u else m)
          (countBy 0x28 0 2 { s with fc := { s.fc with bus := bus.erase u, taken := s.fc.taken + 1 } })
      | none => handleMsg false m (count 0x28 0 { s with fc := { s.fc with bus, taken := s.fc.taken + (if m.inj then 0 else 1) } })
    if m.forceFurl then furlDevice (some (((rd s R.logSeq).toNat) % 256)) s' else s'

/-- The messages that a number of queue entries holds; injected ones take none (R371). -/
def queueKeep : Nat → List Msg → List Msg
  | _, [] => []
  | k, m :: t => if m.inj then m :: queueKeep k t else if 0 < k then m :: queueKeep (k - 1) t else queueKeep 0 t

/-- Messages that wait beyond the queue's 256 entries at the end of a tick are lost (R352). -/
def queueEdge (old : Nat) (s : State) : State :=
  let wait := s.fc.bus.filter (fun m => decide (m.tick < old))
  let keep := queueKeep 256 wait
  if keep.length = wait.length then s
  else
    let lost := wait.length - keep.length
    let s := { s with fc := { s.fc with bus := keep ++ s.fc.bus.filter (fun m => decide (old ≤ m.tick)) } }
    let s := flag R.fcStat 1 s |> bumpBy R.fcStat 16 8 lost
    primary false { src := 1, kind := 0x3B, inj := false, addr := 0, info := min lost 65535, tick := old, time := ticktime s,
                    cyc := 0 } (classOf s 0x3B) s

/-! ### Faults in fault handling (R373) -/

/-- A message of the collector itself, detected now. -/
def ownMsg (kind addr info : Nat) (s : State) : Msg :=
  { src := 1, kind, inj := false, addr, info, tick := s.now, time := ticktime s, cyc := s.cycle }

/-- A fault in fault handling is shown: FC_ERR, its count, and its message in FC_LAST. -/
def fcError (m : Msg) (s : State) : State :=
  flag R.fcStat 2 s |> bump R.fcStat 8 8 |> putWords R.fcLastLo ((recWords m true false false 0 0 0).take 2)

/-- The oldest of the records decided or reacting in this tick. -/
def oldestActive (s : State) : Option Nat :=
  s.fc.active.foldl (fun a i => match a with
    | some j => if seqLag s (seqAt s j) < seqLag s (seqAt s i) then some i else some j
    | none => some i) none

/-- The fault merges into that record, whose reactions proceed; without one it is logged as FC_CMP. -/
def mergeFault (m : Msg) (s : State) : State :=
  match oldestActive s with
  | some i => sb (recA i + 12) 21 true s |> markDirty (seqAt s i)
  | none => sendRaw { m with kind := 0x38 } s

/-- The device is furled at the next tick, and the fault's record has class DEV. -/
def ownFurl (m : Msg) (s : State) : State :=
  primary false m 3 s |> react (s.now + 1) [] .dev (if bit (reactBits s 3) 0 then some ((rd s R.logSeq).toNat % 256) else none)

/-- A word of the register file fails its parity: on the VS3240 a good copy is used and the other rewritten, else the device furls. -/
def parityFault (off : Nat) (all : Bool) (s : State) : State :=
  if s.variant = .vs3240 ∧ ¬ all then (let m := ownMsg 0x38 off 0 s; fcError m s |> mergeFault m)
  else (let m := ownMsg 0x39 off 0 s; fcError m s |> ownFurl m)

/-- The reaction bits of R357 among the reactions due for a channel, for INFO of FC_REACT. -/
def dueBits (due : List React) (n : Nat) : Nat :=
  let has (a : Act) : Bool := due.any (fun r => r.act == a && (a == .dev || r.targets.contains n))
  4 * b2n (has .hold || has .hold84) + 8 * b2n (has .furl) + 16 * b2n (has .dev)

/-- A reaction aimed at one channel, for the next tick. -/
def retarget (s : State) (n : Nat) (r : React) : React :=
  { r with at_ := s.now + 1, targets := [n], act := if r.act = .dev then .furl else r.act }

/-- A target block has not confirmed the reactions due for it: on the VS3240 they are applied again in the next tick, and a second
failure furls the device; elsewhere the first does. -/
def missed (due : List React) (n : Nat) (s : State) : State :=
  let m := ownMsg 0x3A (0x20 + n) (dueBits due n) s
  let s' := fcError m s
  if s.variant = .vs3240 ∧ ¬ s.fc.retries.contains (s.now, n) then
    let l := (due.filter (fun r => r.act == .dev || r.targets.contains n)).map (retarget s n)
    let s' := mergeFault m s'
    { s' with fc := { s'.fc with reacts := s'.fc.reacts ++ l, retries := (s.now + 1, n) :: s'.fc.retries } }
  else ownFurl m s'

/-- The reactions of this tick apply (R351, R363); a target that does not confirm its reaction has not taken it (R373; log entry
98). -/
def applyReacts (silent : List Nat) (s : State) : State :=
  let due := s.fc.reacts.filter (fun r => decide (r.at_ ≤ s.now))
  let aimed (n : Nat) : Bool := due.any (fun r => r.act == .dev || r.targets.contains n)
  let quiet := (chans s).filter (fun n => silent.contains (0x20 + n) && aimed n)
  let s := { s with fc := { s.fc with reacts := s.fc.reacts.filter (fun r => decide (s.now < r.at_)) } }
  let s := each (fun r s => inPlay r.idx s) due s
  let s := match due.find? (fun r => r.act == .dev) with | some r => furlDeviceBut quiet r.idx s | none => s
  -- beside a device furl no weaker reaction applies (R363)
  let acts := if due.any (fun r => r.act == .dev) then due.filter (fun r => r.act == .furl) else due
  let hit := (chans s).filter (fun n => acts.any (fun r => r.targets.contains n) && !quiet.contains n)
  each (fun n => reactChan acts n) hit s |> each (missed due) quiet

/-- The collector at a tick edge; `now` is already the new tick. -/
def fcEdge (s : State) : State :=
  { s with fc := { s.fc with taken := s.fc.taken - 48, kinds := [], released := [], devReleased := false, devKept := false, active := []
                             retries := s.fc.retries.filter (fun r => decide (s.now ≤ r.1))
                             windows := s.fc.windows.filter (fun w => decide (s.now ≤ w.last + 64)) } }

/-! ### Releases and injection (R361, R362, R370) -/

/-- HOLD_REL for one channel (R361). -/
def relHold (n : Nat) (s : State) : State :=
  if !inHold s n then flag R.fcStat 6 s
  else if (rcb s (n / 8)).frames.any (fun fr => fr.ch == n && fr.rel) then s
  else each queueFrame (releaseFrames s n) s

/-- A write of HOLD_REL. -/
def holdRelWrite (w : Word) (s : State) : State := each relHold ((chans s).filter (fun n => bit w n)) s

/-- A furl of the channel has been decided in this tick (R363). -/
def furlComing (s : State) (n : Nat) : Bool :=
  s.fc.reacts.any (fun r => decide (s.now < r.at_) && (r.act == .dev || (r.act == .furl && r.targets.contains n)))

/-- A channel's furl is released (R362). -/
def relFurl (n : Nat) (s : State) : State :=
  if !furled s n || furlComing s n then s
  else sb R.chFurled n false { s with fc := { s.fc with released := n :: s.fc.released } }

/-- A write of CH_FURLED (R362). -/
def chFurledWrite (w : Word) (s : State) : State :=
  if gb s R.devStat 0 then s else each relFurl ((chans s).filter (fun n => bit w n)) s

/-- A write of 1 to DEV_FURL (R362); ignored after a failed SELFTEST (14 R385), and lost to a device furl decided in its tick (R363,
R374). -/
def devFurlClear (s : State) : State :=
  if !gb s R.devStat 0 || gb s R.stResult 1 then s
  else if s.fc.reacts.any (fun r => decide (s.now < r.at_) && r.act == .dev) then keptDevFurl s
  else each relFurl (chans s) (sf R.devStat 0 2 0 { s with fc := { s.fc with devReleased := true } })

/-- A source that can send (R354). -/
def senderOk (s : State) (src : Nat) : Bool :=
  decide (src ≤ 5) || (decide (8 ≤ src) && decide (src < 0xC) && hasGroup s (src - 8)) ||
    (decide (0x10 ≤ src) && decide (src < 0x18) && hasChan s (4 * (src - 0x10))) ||
    (decide (0x20 ≤ src) && decide (src < 0x40) && hasChan s (src - 0x20)) ||
    (decide (0x40 ≤ src) && decide (src < 0x64) && hasStream s (src - 0x40))

/-- GO of FI_CTRL (R370). -/
def injectGo (s : State) : State :=
  if !senderOk s (gf s R.fiMsgHi 24 8) || decide (49 < gf s R.fiCtrl 2 6) || s.fc.fi.isSome then flag R.fcStat 5 s
  else
    { s with fc := { s.fc with fi := some (s.now + 1, gf s R.fiCtrl 2 6, rd s R.fiMsgLo, rd s R.fiMsgHi) } } |> flag R.fiCtrl 8

/-- A write of FI_CTRL: DRY and CYC, then GO. -/
def fiCtrlWrite (w : Word) (s : State) : State := sf R.fiCtrl 1 7 (fld w 1 7) s |> whenB (bit w 0) injectGo

/-- The injected message is due. -/
def injectDue (s : State) : Bool := match s.fc.fi with | some (t, _) => decide (t ≤ s.now) | none => false

/-- The injected message is sent (R370). -/
def injectSend (s : State) : State :=
  match s.fc.fi with
  | none => s
  | some (_, cyc, lo, hi) =>
    sendRaw { src := fld hi 24 8, kind := fld hi 16 8, inj := true, addr := fld hi 0 8 * 2 ^ 16 + fld lo 16 16, info := fld lo 0 16,
              tick := s.now, time := ticktime s, cyc } { s with fc := { s.fc with fi := none } } |> sb R.fiCtrl 8 false

/-- The mirror's ring lies in the fitted DDR5 (R366). -/
def mirrorFits (s : State) : Bool :=
  decide (gf s R.mirBaseLo 12 20 * 2 ^ 12 + gf s R.mirBaseHi 0 4 * 2 ^ 32 + 2 ^ (gf s R.mirCfg 1 5) * 16 ≤ memSize s)

/-- A write of MIR_CFG (R366, R376): SIZE_LOG, then EN. When EN rises, the records on the die that the mirror lacks are taken up. -/
def mirCfgWrite (w : Word) (s : State) : State :=
  let size := fld w 1 5
  let en := gb s R.mirCfg 0
  let s :=
    if size = gf s R.mirCfg 1 5 then s
    else if en || decide (size < 8) || decide (20 < size) then flag R.fcStat 6 s
    else sf R.mirCfg 1 5 size s
  if bit w 0 && !en then
    if mirrorFits s then
      let s := sb R.mirCfg 0 true s |> mirrorSkip
      let lo := (rd s R.mirSeq).toNat
      each markDirty ((List.range (mirrorLag s)).map (fun k => (lo + k) % 2 ^ 32)) s
    else flag R.fcStat 6 s
  else if !bit w 0 && en then { s with fc := { s.fc with mirrorDirty := [] } } |> sb R.mirCfg 0 false
  else s

/-- A write of a mirror base register, idle while EN is 0. -/
def mirBaseWrite (a : Nat) (w : Word) (s : State) : State :=
  if !differs s a w then s else if gb s R.mirCfg 0 then flag R.fcStat 6 s else plainWrite a w s

/-- A write of a KIND_MAP word applies to messages taken from the next tick (R356). -/
def kindMapWrite (a : Nat) (w : Word) (s : State) : State :=
  plainWrite a w { s with fc := { s.fc with kinds :=
    if (Map.get none s.fc.kinds a).isSome then s.fc.kinds else Map.put none s.fc.kinds a (some (rd s a)) } }

/-- A write into the FAULT block. -/
def faultWrite (off : Nat) (w : Word) (s : State) : State :=
  let a := R.fcStat + off
  if a = R.devStat then whenB (bit w 0) devFurlClear s
  else if a = R.chFurled then chFurledWrite w s
  else if a = R.holdRel then holdRelWrite w s
  else if a = R.mirCfg then mirCfgWrite w s
  else if a = R.mirBaseLo ∨ a = R.mirBaseHi then mirBaseWrite a w s
  else if a = R.fiCtrl then fiCtrlWrite w s
  else if R.kindMap0 ≤ a ∧ a < R.kindMap0 + 64 then kindMapWrite a w s
  else plainWrite a w s

/-! ### Commands -/

/-- LANYARD_MESSAGE (R351), with the parity failure of a read of the tick (R373). -/
def execLanyardMessage (s : State) (par : Option (Nat × Bool) := none) : Answer :=
  live s (fun t =>
    let t := if (takable t).isSome then takeMsg t else t
    match par with | some (off, all) => parityFault off all t | none => t)

/-- FAULT_REACTION (R351, R359 to R363, R373). -/
def execFaultReaction (s : State) (silent : List Nat := []) : Answer :=
  clocked s (fun t => if reactDue t then applyReacts silent t else t)

/-- SELF_TEST_START (R368), by log index. -/
def execSelfTestStart (i : Nat) (s : State) : Answer :=
  clocked s (fun t => match startable t i with | some u => startTest u t | none => t)

/-- SELF_TEST_RESULT (R368, R369), by log index. -/
def execSelfTestResult (i : Nat) (persistent : Bool) (s : State) : Answer :=
  clocked s (fun t => match endable t i with | some u => endTest u persistent t | none => t)

/-- MIRROR_WRITE (R366). -/
def execMirrorWrite (s : State) : Answer := clocked s (fun t => match mirrorNext t with | some r => enq r t | none => t)

/-- HOLD_REL (R361). -/
def execHoldRel (w : Word) (s : State) : Answer := clocked s (holdRelWrite w)

/-- CH_FURLED_RELEASE (R362). -/
def execChFurledRelease (w : Word) (s : State) : Answer := clocked s (chFurledWrite w)

/-- DEV_FURL_RELEASE (R362). -/
def execDevFurlRelease (s : State) : Answer := clocked s devFurlClear

/-- FI_CTRL.GO (R370). -/
def execFiCtrlGo (w : Word) (s : State) : Answer := clocked s (fiCtrlWrite (setFld w 0 1 1))

/-- FAULT_INJECTION_SEND (R370). -/
def execFaultInjectionSend (s : State) : Answer := clocked s (fun t => if injectDue t then injectSend t else t)

/-- SPARE_RELEASE (R368). -/
def execSpareRelease (s : State) : Answer := clocked s (fun t => if copyDue t then releaseSpares t else t)

end Sys2Proof.Machine
end

