-- ==== Sys2Proof/Machine/Jtag.lean ====
section
/-! DEFINITION. The signal balls and the boundary-scan port (16 R409 to R413, R427). No command of the opcode table moves the port's
pins, so its operations stand beside the commands: what a tester does to the TAP, and what the TAP drives. The instruction codes and
the order of the chain are not in the spec: an instruction is named, and the chain runs in the order of R409's rows (log entry 114). -/

namespace Sys2Proof.Machine

/-! ### The balls (R409 to R413) -/

/-- The lines of an RCB, in row order. -/
inductive RcbLine where
  | clk | do_ | di | lat
  deriving DecidableEq, Repr

/-- The 1.2 V I/O besides the JTAG port: control, trigger, tick, SPI and trace (R409, R421). -/
inductive IoBall where
  | ocxoRdy | resetN | clrN | faultN | otpEn | tickIn | tickOut
  | trig (p : Nat)
  | mspiCsN | mspiSclk | mspiMosi | mspiMiso | traceClk | traceFrm
  | traceD (i : Nat)
  deriving DecidableEq, Repr

/-- The balls of a DDR5 subchannel by signal (R411). -/
inductive DdrBall where
  | dq (i : Nat)
  | cb (i : Nat)
  | dqs (j : Nat) (p : Bool)
  | ck (p : Bool)
  | cs (i : Nat)
  | ca (i : Nat)
  deriving DecidableEq, Repr

/-- The five pairs of a channel's block (R410). -/
inductive ChanPair where
  | fout | vpri | valt | ipri | ialt
  deriving DecidableEq, Repr

/-- The signal balls (R409). -/
inductive Ball where
  | chan (n : Nat) (pair : ChanPair) (p : Bool)
  | mon (k : Nat) (p : Bool)
  | edge (k : Nat) (p : Bool)
  | refDec (secondary : Bool)
  | refclk (p : Bool)
  | rcb (g : Nat) (line : RcbLine)
  | io (b : IoBall)
  | jtag (i : Nat)
  | lane (k : Nat) (tx p : Bool)
  | ddr (subB : Bool) (b : DdrBall)
  | dramResetN
  | dramAlertN
  | ddrZq
  deriving DecidableEq, Repr

/-- The chain covers the 1.2 V I/O, the RCB balls and the DDR5 balls, but neither the analogue balls nor the link lanes (R427). The
TAP's own balls, REFCLK and the resistor ball DDR_ZQ are left out (log entry 114). -/
def Ball.scanned : Ball → Bool
  | .rcb _ _ => true
  | .io _ => true
  | .ddr _ _ => true
  | .dramResetN => true
  | .dramAlertN => true
  | _ => false

/-- What the device can drive on a ball of the chain: both levels, low alone, or nothing on an input. -/
inductive Driver where
  | both | low | none
  deriving DecidableEq, Repr

/-- The output driver behind a ball: FAULT_N is an open drain (R421). -/
def Ball.driver : Ball → Driver
  | .rcb _ .di => .none
  | .io .faultN => .low
  | .io .ocxoRdy | .io .resetN | .io .clrN | .io .otpEn | .io .tickIn => .none
  | .io .mspiCsN | .io .mspiSclk | .io .mspiMosi => .none
  | .dramAlertN => .none
  | b => if b.scanned then .both else .none

/-- The 1.2 V I/O balls, in the order of the rows. -/
def ioBalls : List IoBall :=
  [.ocxoRdy, .resetN, .clrN, .faultN, .otpEn, .tickIn, .tickOut] ++ (List.range 8).map .trig
    ++ [.mspiCsN, .mspiSclk, .mspiMosi, .mspiMiso, .traceClk, .traceFrm] ++ (List.range 4).map .traceD

/-- The balls of a subchannel, in the order of the rows. -/
def ddrBalls : List DdrBall :=
  (List.range 32).map .dq ++ (List.range 8).map .cb ++ (List.range 5).flatMap (fun j => [.dqs j true, .dqs j false])
    ++ [.ck true, .ck false, .cs 0, .cs 1] ++ (List.range 14).map .ca

/-- The balls of the chain: the same cells on every variant, also of balls that R413 leaves unconnected on it (log entry 114), since
EXTEST drives in reset what PRELOAD has shifted in before it. -/
def chainBalls : List Ball :=
  [0, 1, 2, 3].flatMap (fun g => [RcbLine.clk, .do_, .di, .lat].map (Ball.rcb g)) ++ ioBalls.map .io
    ++ [false, true].flatMap (fun b => ddrBalls.map (Ball.ddr b)) ++ [.dramResetN, .dramAlertN]

/-! ### The port (R427) -/

/-- Change the port. -/
def updTap (f : Tap → Tap) (s : State) : State := { s with tap := f s.tap }

/-- A movement of the TAP; while TRST_N is low it is held in reset and nothing moves. -/
def tapMoves (f : Tap → Tap) (s : State) : State := if s.tap.held then s else updTap f s

/-- TRST_N moves: low or left open holds the TAP in reset, where BYPASS is the instruction. -/
def tapReset (low : Bool) : State → State :=
  updTap (fun t => if low then { t with held := true, instr := .bypass } else { t with held := false })

/-- An instruction is loaded. -/
def tapLoad (i : TapInstr) : State → State := tapMoves (fun t => { t with instr := i })

/-- The instruction as it acts: EXTEST only while the internal reset is asserted, at any other time as BYPASS. -/
def tapActs (s : State) : TapInstr :=
  if s.tap.instr = .extest ∧ ¬ s.inReset then .bypass else s.tap.instr

/-- Capture: SAMPLE and EXTEST take the levels of the balls of the chain, BYPASS takes 0. -/
def tapCapture (level : Ball → Bool) (s : State) : State :=
  match tapActs s with
  | .bypass => tapMoves (fun t => { t with bypass := false }) s
  | .samplePreload => tapMoves (fun t => { t with chain := chainBalls.map level }) s
  | .extest => tapMoves (fun t => { t with chain := chainBalls.map level }) s

/-- The bit a list of stages shifts out. -/
def tapOut (l : List Bool) : Bool := l.headD false

/-- The level of TDO. -/
def tapTdo (s : State) : Bool :=
  match tapActs s with
  | .bypass => s.tap.bypass
  | .samplePreload => tapOut s.tap.chain
  | .extest => tapOut s.tap.chain

/-- One shift: TDI enters the bypass register, or the far end of the chain. -/
def tapShift (tdi : Bool) (s : State) : State :=
  match tapActs s with
  | .bypass => tapMoves (fun t => { t with bypass := tdi }) s
  | .samplePreload => tapMoves (fun t => { t with chain := t.chain.tail ++ [tdi] }) s
  | .extest => tapMoves (fun t => { t with chain := t.chain.tail ++ [tdi] }) s

/-- Update: PRELOAD and EXTEST put the shifted levels into the update stages. -/
def tapUpdate (s : State) : State :=
  match tapActs s with
  | .bypass => s
  | .samplePreload => tapMoves (fun t => { t with latched := t.chain }) s
  | .extest => tapMoves (fun t => { t with latched := t.chain }) s

/-- The level boundary scan drives on a ball: none but under EXTEST, none on an input or a ball outside the chain, and none high on an
open drain. -/
def tapDrives (s : State) (b : Ball) : Option Bool :=
  match tapActs s with
  | .extest =>
    if s.tap.held then none
    else match b.driver, ((chainBalls.zip s.tap.latched).find? (fun x => x.1 == b)).map (·.2) with
      | .both, l => l
      | .low, some false => some false
      | _, _ => none
  | _ => none

end Sys2Proof.Machine
end

