-- ==== Sys2Proof/Machine/Boot.lean ====
section
/-! DEFINITION. Reset, boot, the loss of the clock and the OTP array (14). -/

namespace Sys2Proof.Machine

/-! ### The OTP array (R391 to R395) -/

/-- A word of the array. -/
def otpW (s : State) (i : Nat) : Word := rd s (R.otpWord + 4 * (i % 256))

/-- The CRC over consecutive words of the array. -/
def otpCrc (s : State) (i len : Nat) : Nat := crc16 (byteBits ((List.range len).flatMap (fun k => wBytes (otpW s (i + k)))))

/-- The header check (R391). -/
def headerOk (s : State) : Bool := fld (otpW s 0) 0 16 == 0x0A5E && otpCrc s 0 7 == fld (otpW s 7) 0 16

/-- First word of a generation. -/
def genBase (g : Nat) : Nat := 8 + 62 * g

/-- The CRC of a generation matches (R392). -/
def genCrcOk (s : State) (g : Nat) : Bool := otpCrc s (genBase g + 1) 61 == fld (otpW s (genBase g)) 16 16

/-- VALID of a generation. -/
def genValid (s : State) (g : Nat) : Bool := bit (otpW s (genBase g)) 0

/-- A generation meets the three conditions of R393. -/
def genOk (s : State) (g : Nat) : Bool := genValid s g && !bit (otpW s (genBase g)) 1 && genCrcOk s g

/-- A generation fails its CRC: it is skipped and raises OTP_CRC (R393). -/
def genBad (s : State) (g : Nat) : Bool := genValid s g && !genCrcOk s g

/-- The active generation (R393). -/
def activeGen (s : State) : Option Nat := ([3, 2, 1, 0] : List Nat).find? (genOk s)

/-- Word j of the active generation; blank where none is active. -/
def genWord (s : State) (j : Nat) : Word := match activeGen s with | some g => otpW s (genBase g + j) | none => 0

/-- The sum of 2^i over the numbers that satisfy a test. -/
def bitsWhere (f : Nat → Bool) (l : List Nat) : Nat := (l.map (fun i => if f i then 2 ^ i else 0)).sum

/-- The clear setting and span of a channel are loaded, and its DAC takes the clear code (R389, R392). -/
def loadClear (n : Nat) (s : State) : State :=
  let w := genWord s (5 + n)
  let span := if 5 ≤ fld w 21 3 then 0 else fld w 21 3
  wr (chA n R.dacClr) (BitVec.ofNat 32 (if bit w 20 then fld w 0 20 else 2 ^ 20)) s
    |> wr (chA n R.dacCfg) (BitVec.ofNat 32 span) |> refreshClear n |> dacToClear n

/-- The variant of the header; a failed header gives the VS3208 (R385, R391). -/
def headerVariant (s : State) : Variant :=
  if !headerOk s then .vs3208 else match fld (otpW s 1) 0 2 with | 1 => .vs3216 | 2 => .vs3240 | _ => .vs3208

/-- ADIE_REV and DDIE_REV, which the spec runs from 0x01 and leaves open (17 R440). -/
def dieRevs : Nat := 1 + Config.dieRev % 255 + 256 * (1 + Config.dieRev / 255 % 255)

/-- The identity registers of a variant (17 R440 to R442), and the register values that depend on it. -/
def loadIds (ok : Bool) (s : State) : State :=
  let ids : Nat × Nat × Nat := match s.variant with
    | .vs3240 => (0x56533240, 0x1FFFFFFF, 0xFF100020)
    | .vs3216 => (0x56533216, 0x0E70F0F3, 0x33080010)
    | .vs3208 => (0x56533208, 0x02600031, 0x11040008)
  wr R.devId (BitVec.ofNat 32 ids.1) s |> wr R.cap0 (BitVec.ofNat 32 ids.2.1) |> wr R.cap1 (BitVec.ofNat 32 ids.2.2)
    |> wr R.devRev (BitVec.ofNat 32 (dieRevs + (if ok then fld (otpW s 0) 16 8 else 0) * 2 ^ 16))
    |> wr R.devUidLo (if ok then otpW s 4 else 0) |> wr R.devUidHi (if ok then otpW s 5 else 0)
    |> sb R.devStat 2 (decide (s.variant = .vs3240))
    |> sf R.lnkCfg 0 4 (if s.variant = .vs3240 then 0xF else 3)
    |> sf R.memCfg 2 1 (if s.variant = .vs3208 then 0 else 1)

/-- The OTP read ends (R383): SELFTEST begins. -/
def otpRead (s : State) : State :=
  let ok := headerOk s
  let s := loadIds ok { s with variant := headerVariant s, trims := if ok then [otpW s 2, otpW s 3] else [0, 0],
                               link := { s.link with txInv := fld (genWord s 4) 0 4 } }
  let gs := [0, 1, 2, 3]
  each loadClear (chans s) s
    |> sf R.otpStat 0 12 ((activeGen s).getD 0 + 4 * b2n (activeGen s).isSome + 8 * bitsWhere (genOk s) gs
        + 128 * bitsWhere (genBad s) gs + 2048 * b2n (!ok))
    |> sf R.devState 0 3 1

/-- The device is in BOOT PHASE 0 and not under reset. -/
def otpReadDue (s : State) : Bool := gf s R.devState 0 5 == 0

/-! ### SELFTEST, lock and the end of the boot (R382 to R386) -/

/-- SELFTEST ends (R384, R385). A failed header is its first item. -/
def selftestEnd (item spares : Nat) (s : State) : State :=
  let code := if gb s R.otpStat 11 then 1 else if item ≤ 5 then item else 0
  wr R.stResult (BitVec.ofNat 32 (1 + 2 * b2n (decide (code ≠ 0)) + 4 * b2n (decide (spares ≠ 0)) + 256 * code
      + 65536 * min spares 255)) s
    |> sf R.devState 0 5 8 |> whenB (decide (code ≠ 0)) (flag R.devStat 1)

/-- SELFTEST runs. -/
def selftestRuns (s : State) : Bool := gf s R.devState 0 5 == 1

/-- The PLL may be declared locked (R386): SELFTEST has ended and REFCLK is present. -/
def lockDue (s : State) : Bool := gf s R.devState 0 5 == 8 && gb s R.clkStat 0

/-- The link passes DOWN and trains on the lanes LANE_EN now names (12 R317). -/
def startTraining (s : State) : State :=
  let s := sf R.lnkStat 0 3 1 s |> sf R.lnkStat 3 5 0
  { s with link := { s.link with at_ := s.now, en := gf s R.lnkCfg 0 4, lanes := 0, initSent := false } }

/-- The first tick after PLL lock (R386). -/
def lock (s : State) : State :=
  let s := flag R.clkStat 1 { s with now := 0, slot := 256, clrDue := s.clrLow } |> sf R.devState 3 2 2 |> wr64 R.ticktimeLo 0
    |> tbSet |> startTraining
  each (fun g s => sendMsg 4 0x04 g 0 s) (([0, 1, 2, 3] : List Nat).filter (fun g => gb s R.otpStat (7 + g))) s
    |> whenB (gb s R.stResult 1) (furlDevice none)

/-- PHASE 2 ends (R382): NOLINK sets where the link is not UP; READY, RUN or FURLED follow from the device's state. -/
def bootEnd (s : State) : State := if gf s R.devState 3 2 = 2 then sf R.devState 3 2 3 s |> sb R.devState 5 (!linkUp s) else s

/-- 100 ms have passed since lock without the link UP. -/
def bootLate (s : State) : Bool := gf s R.devState 3 2 == 2 && decide (2000000 ≤ s.now)

/-- DEV_STATE.STATE (R382). -/
def devStateNow (s : State) : Nat :=
  if gb s R.clkStat 2 || gb s R.clkStat 3 then 4
  else if gf s R.devState 3 2 ≠ 3 then gf s R.devState 0 3
  else if gb s R.devStat 0 then 4
  else if (chans s).any (fun n => modeNow s n != 0 || (match boundCtx s n with
      | some x => ctxState s x == 1 || ctxState s x == 2
      | none => false)) then 3
  else 2

/-! ### Loss of REFCLK or lock (R387, R388) -/

/-- Every force DAC goes to its clear latch and the RCB lines go low: every channel counts as disconnected. -/
def dropOutputs (s : State) : State :=
  each (fun n s => setDac n (chan s n).clrLatch s |> updChan n (fun c => { c with disconnected := true })) (chans s) s
    |> each (fun g => updRcb g (fun b => { b with frames := [] })) (groups s)

/-- After lock the REFCLK monitor and the lock detector each declare a loss, whatever the other has found, once until a reset (R387). -/
def lossDue (s : State) (bitNo : Nat) : Bool := running s || ((gb s R.clkStat 2 || gb s R.clkStat 3) && !gb s R.clkStat bitNo)

/-- A loss of REFCLK (`bitNo` 2, kind 0x03) or an unlock (3, 0x02): the ticks end, and a boot in PHASE 2 has left it (R382, R390). -/
def clockLoss (bitNo kind : Nat) (s : State) : State :=
  dropOutputs s |> sb R.clkStat 1 false |> flag R.clkStat bitNo |> sf R.devState 3 2 3
    |> sendRaw { src := 0, kind, inj := false, addr := 0, info := 0, tick := s.now, time := ticktime s, cyc := s.cycle, forceFurl := true }

/-! ### Reset (R380 to R382) -/

/-- The registers a reset leaves: the OTP array and RST_CAUSE (R381). -/
def keptRegs (s : State) : Map Word :=
  s.regs.filter (fun e => e.1 == R.rstCause || (decide (R.otpWord ≤ e.1) && decide (e.1 < R.otpWord + 0x400)))

/-- The start of a reset (R380): every present force DAC is on its clear latch and the RCB lines are low, until the reset itself, and
FAULT_N is high-impedance (16 R421). That no
command but a change of a pin's level acts between the two steps is the model's choice (log entry 116). -/
def firstStep (s : State) : State := { dropOutputs (sb R.devStat 1 false s) with inReset := true, resetting := true, ddr := s.ddr, pending := s.pending }

/-- One microsecond later, which is the next step on an empty queue (log entry 39), every block is reset (R380); what DDR5 holds is open (R381). The pins keep their levels, and the TAP, which
only TRST_N resets, its state (16 R427). -/
def resetBlocks (s : State) : State :=
  { State.reset with pending := s.pending, fresh := s.fresh + 1, inReset := true, rstPin := s.rstPin, supplyBad := s.supplyBad,
                     ocxo := s.ocxo, clrLow := s.clrLow, tap := s.tap, regs := keptRegs s, badBursts := s.badBursts,
                     ddr := Memory.writes (Config.lostBytes s.fresh) s.ddr }

/-- A cause of a reset (R380) is recorded; it begins one, or finds one under way at its second step. -/
def assertReset (cause : Nat) (s : State) : State :=
  let s := flag R.rstCause cause { s with rstPin := s.rstPin || cause == 1, supplyBad := s.supplyBad || cause == 0 }
  if s.inReset then resetBlocks s else firstStep s

/-- The internal reset ends (R380, R382). After a power-up from below the trip levels PIN reads 0 (R390); OCXO_RDY shows its level
(16 R422). -/
def endReset (s : State) : State :=
  if !s.inReset then s
  else
    let s := if s.resetting then resetBlocks s else s
    let t := sb R.tbStat 0 s.ocxo { s with inReset := false, rstPin := false, supplyBad := false }
    if s.supplyBad then sb R.rstCause 1 false t else t

/-! ### Programming (R394, R395) -/

/-- The level of OTP_EN is sampled: high since it was found so, or as the pin may stand, which no event tells. -/
def otpEnable (s : State) : Bool × State :=
  if gb s R.otpStat 12 then (true, s) else (Config.freeBool s.fresh, { s with fresh := s.fresh + 1 })

/-- EN_LEVEL follows OTP_EN (R396). -/
def showEnable (s : State) : State := sb R.otpStat 12 (otpEnable s).1 (otpEnable s).2

/-- The checks of a PROG besides OTP_EN, KEY and BUSY (R395). -/
def progAllowed (s : State) : Bool :=
  let i := gf s R.otpAddr 0 8
  let w := rd s R.otpWdata
  if i < 8 then !bit (otpW s 7) 31
  else
    let g := (i - 8) / 62
    let j := (i - 8) % 62
    let stored := genValid s g
    if stored then j == 0 && w == 2
    else if j = 0 ∧ bit w 0 then otpCrc s (genBase g + 1) 61 == fld w 16 16 && fld w 1 15 == 0
    else true

/-- OTP_CTRL.PROG with its key (R394, R395). -/
def otpProg (key : Nat) (s : State) : State :=
  let s := showEnable s
  if !gb s R.otpStat 12 || key != 0xA5 || s.otpBusy.isSome || !progAllowed s then flag R.otpStat 15 s
  else flag R.otpStat 13 { s with otpBusy := some (gf s R.otpAddr 0 8, rd s R.otpWdata) }

/-- Programming ends with the word as it then reads; only bits of OTP_WDATA can have changed, from 0 to 1. -/
def progEnd (word : Word) (s : State) : State :=
  match s.otpBusy with
  | none => s
  | some (i, w) => wr (R.otpWord + 4 * i) (otpW s i ||| (w &&& word)) (sb R.otpStat 13 false { s with otpBusy := none })

/-- The bits are read back at margin: those already 1 and those of OTP_WDATA should be 1 (R394). -/
def progDone (word : Word) (s : State) : State :=
  match s.otpBusy with
  | none => s
  | some (i, w) => progEnd word s |> bump R.otpStat 16 8 |> whenB (decide ((otpW s i ||| w) &&& ~~~word ≠ 0)) (flag R.otpStat 14)

/-- OTP_EN falls (R395). -/
def otpFall (word : Word) (s : State) : State :=
  sb R.otpStat 12 false (if s.otpBusy.isSome then progEnd word s |> flag R.otpStat 14 else s)

/-- A write into the OTP block. -/
def otpWrite (off : Nat) (w : Word) (s : State) : State :=
  if off = 4 then whenB (bit w 0) (otpProg (fld w 8 8)) s else plainWrite (R.otpStat + off) w s

/-! ### Commands -/

/-- RESET_N_ASSERT (R380). -/
def execResetNAssert (s : State) : Answer := .next (assertReset 1 s)

/-- SUPPLY_TRIP (R380). -/
def execSupplyTrip (s : State) : Answer := .next (assertReset 0 s)

/-- RESET_END (R382). -/
def execResetEnd (s : State) : Answer := .next (endReset s)

/-- OTP_READ_DONE (R383). -/
def execOtpReadDone (s : State) : Answer := live s (fun t => if otpReadDue t then otpRead t else t)

/-- SELFTEST_DONE (R384, R385). -/
def execSelftestDone (item spares : Nat) (s : State) : Answer :=
  live s (fun t => if selftestRuns t then selftestEnd item spares t else t)

/-- REF_PRESENT (R388, R390). -/
def execRefPresent (level : Bool) (s : State) : Answer := live s (sb R.clkStat 0 level)

/-- PLL_LOCKED (R386). -/
def execPllLocked (s : State) : Answer := live s (fun t => if lockDue t then lock t else t)

/-- REFCLK_LOSS (R388). -/
def execRefclkLoss (s : State) : Answer := live s (fun t => if lossDue t 2 then sb R.clkStat 0 false t |> clockLoss 2 0x03 else t)

/-- PLL_UNLOCK (R388). -/
def execPllUnlock (s : State) : Answer := live s (fun t => if lossDue t 3 then clockLoss 3 0x02 t else t)

/-- BOOT_TIMEOUT (R382). -/
def execBootTimeout (s : State) : Answer := clocked s (fun t => if bootLate t then bootEnd t else t)

/-- OTP_CTRL.PROG (R394). -/
def execOtpCtrlProg (w : Word) (s : State) : Answer := clocked s (otpProg (fld w 8 8))

/-- OTP_PROG_DONE (R394). -/
def execOtpProgDone (word : Word) (s : State) : Answer := live s (progDone word)

/-- OTP_EN_FALL (R395). -/
def execOtpEnFall (word : Word) (s : State) : Answer := live s (otpFall word)

end Sys2Proof.Machine
end

