-- ==== Sys2Proof/Machine/Obs.lean ====
section
/-! DEFINITION. The crow's nest: probes, trace records and their delivery, and performance counters (15). -/

namespace Sys2Proof.Machine

/-! ### Destinations (R401 to R403) -/

/-- Bytes of the records in a FIFO. -/
def destBytes (d : Dest) : Nat := (d.fifo.map (fun r => r.2.length)).sum

/-- The loss record (R401). -/
def lossRecord (d : Dest) : List Byte := leBytes 6 d.dropAt ++ [0, 0xD3] ++ leBytes 4 d.drops ++ leBytes 4 0

/-- A record enters a FIFO that already holds `used` bytes besides its records, or is dropped; true where it entered. -/
def enterDest (now time used : Nat) (it : List Byte) (d : Dest) : Bool × Dest :=
  let room := 8192 - used - destBytes d
  if d.drops = 0 ∧ it.length ≤ room then (true, { d with fifo := d.fifo ++ [(now, it)] })
  else if d.drops ≠ 0 ∧ 16 + it.length ≤ room then
    (true, { fifo := d.fifo ++ [(now, lossRecord d), (now, it)], drops := 0, dropAt := 0 })
  else (false, { d with drops := d.drops + 1, dropAt := if d.drops = 0 then time else d.dropAt })

/-- A record is dropped whatever the room. -/
def dropDest (time : Nat) (d : Dest) : Dest := { d with drops := d.drops + 1, dropAt := if d.drops = 0 then time else d.dropAt }

/-- Bytes of records on the TRACE port still to be sent. -/
def traceLeft (s : State) : Nat := s.obs.outFree - 10 * s.now

/-- The TRACE FIFO after a record (R401, R402): with TRACE_EN 0 every record is dropped. -/
def traceAfter (s : State) (it : List Byte) : Bool × Dest :=
  if gb s R.obsCfg 0 then enterDest s.now (ticktime48 s) (traceLeft s) it s.obs.trace
  else (false, dropDest (ticktime48 s) s.obs.trace)

/-- A record for the TRACE port (R401, R402). -/
def toTrace (it : List Byte) (s : State) : State :=
  let r := traceAfter s it
  let s := { s with obs := { s.obs with trace := r.2 } }
  if r.1 then s else flag R.obsStat 0 s |> bump R.obsLost 0 16

/-- Flits of the packets that wait to be sent on a class. -/
def waitFlits (s : State) (c : Nat) : Nat := ((lcls s c).txq.map Pkt.flits).sum

/-- Flits of the packets in a class's replay buffer, an open new one included. -/
def heldTx (s : State) (c : Nat) : Nat :=
  let k := lcls s c
  (k.replay.map (fun r => r.2.flits)).sum + (match k.tx with | some (_, p, _) => if k.reOpen then 0 else p.flits | none => 0)

/-- The records of a packet: whole ones, at most 4,096 bytes. -/
def packLen : Nat → List (Nat × List Byte) → Nat
  | _, [] => 0
  | room, r :: t => if r.2.length ≤ room then 1 + packLen (room - r.2.length) t else 0

/-- TC1 has the credits and the replay space for one more packet of the oldest records, besides those that wait (R403). -/
def packRoom (s : State) : Bool :=
  let d := s.obs.tc1
  let k := 1 + (((d.fifo.take (packLen 4096 d.fifo)).map (fun r => r.2.length)).sum + 31) / 32 + waitFlits s 1
  decide (k ≤ gf s (R.txcStat + 4) 0 16) && decide (32 * (heldTx s 1 + k) ≤ 65536)

/-- A packet of the oldest records leaves the FIFO for TC1 (R403). -/
def packObs (s : State) : State :=
  let d := s.obs.tc1
  let k := packLen 4096 d.fifo
  if k = 0 ∨ ¬ packRoom s then s
  else
    sendPacket { cls := 1, opc := 0x42, tag := 0, status := 0, p0 := 0, p1 := 0, data := ((d.fifo.take k).map (·.2)).flatten }
      { s with obs := { s.obs with tc1 := { d with fifo := d.fifo.drop k } } }

/-- The records fill a packet, or the next would not fit (R403). -/
def packFull (s : State) : Bool :=
  let d := s.obs.tc1
  decide (packLen 4096 d.fifo < d.fifo.length) || decide (4096 ≤ destBytes d)

/-- TC1_TMO ticks have passed since the packet's first record entered (R403). -/
def packLate (s : State) : Bool :=
  match s.obs.tc1.fifo with
  | [] => false
  | r :: _ => decide (r.1 + max 1 (gf s R.obsCfg 16 16) ≤ s.now) && packRoom s

/-- The TC1 FIFO after a record (R401). -/
def tc1After (s : State) (it : List Byte) : Bool × Dest := enterDest s.now (ticktime48 s) 0 it s.obs.tc1

/-- A record for TC1. -/
def toTc1 (it : List Byte) (s : State) : State :=
  let r := tc1After s it
  let s := { s with obs := { s.obs with tc1 := r.2 } }
  let s := if r.1 then s else flag R.obsStat 1 s |> bump R.obsLost 16 16
  whenB (packFull s) packObs s

/-- The TRACE port can begin its next record in this tick: it is free, and the record was formed in an earlier tick (R402). -/
def traceDue (s : State) : Bool :=
  gb s R.obsCfg 0 && decide (s.obs.outFree < 10 * (s.now + 1)) &&
    (match s.obs.trace.fifo with | r :: _ => decide (r.1 < s.now) | [] => false)

/-- The next record goes out, from the byte time in which the port is free, ten bytes to a tick (R402). -/
def traceNext (s : State) : State :=
  match s.obs.trace.fifo with
  | [] => s
  | r :: t =>
    let at_ := max s.obs.outFree (10 * s.now)
    { s with obs := { s.obs with trace := { s.obs.trace with fifo := t }, outFree := at_ + r.2.length,
                                 out := s.obs.out.filter (fun o => decide (10 * s.now < o.1 + o.2.length)) ++ [(at_, r.2)] } }

/-- TRACE_CLK, TRACE_FRM and TRACE_D in nibble time j, 0 to 19, of the tick (R402): the low nibble of each byte first, FRM high on the
nibbles of a record; D and FRM change on both edges of the clock, which is taken to be high in the even times (log entry 113); all
low while TRACE_EN is 0. -/
def tracePins (s : State) (j : Nat) : Bool × Bool × Nat :=
  if !gb s R.obsCfg 0 then (false, false, 0)
  else
    let b := 10 * s.now + j / 2
    match s.obs.out.find? (fun o => decide (o.1 ≤ b) && decide (b < o.1 + o.2.length)) with
    | some o => (j % 2 == 0, true, (o.2.getD (b - o.1) 0).toNat / 16 ^ (j % 2) % 16)
    | none => (j % 2 == 0, false, 0)

/-- TRACE_EN is cleared: the port's balls go low, and a record on it is cut (R402; log entry 113). -/
def traceOff (s : State) : State :=
  if gb s R.obsCfg 0 then s else { s with obs := { s.obs with out := [], outFree := min s.obs.outFree (10 * s.now) } }

/-! ### Probes (R398 to R400) -/

/-- PROBEp. -/
def probeW (s : State) (p : Nat) : Word := rd s (R.probe + 4 * p)

/-- The channel a selection names. -/
def selCh (w : Word) : Nat := fld w 5 5

/-- Set bits of flags, the first the lowest. -/
def flagBits : List Bool → Nat
  | [] => 0
  | b :: t => b2n b + 2 * flagBits t

/-- The signal record of a channel (R399). -/
def signalRecord (s : State) (n : Nat) : List Byte :=
  let l := (chan s n).loop
  let st := gf s (chA n R.chStat) 0 32
  let flags := flagBits [st / 16 % 2 == 1, openNow s n, l.missNow, inHold s n, gb s (chA n R.rngStat) 7, reefOn s n, injRuns s n,
    (chan s n).gen.hold.isSome, gb s (chA n R.loopStat) 9, gb s (chA n R.loopStat) 10, l.outSatNow && !l.missNow, furled s n]
  leBytes 6 (ticktime48 s) ++ [BitVec.ofNat 8 n, 0xD1] ++ l.tRec ++ leBytes 2 flags ++ leBytes 6 0

/-- The context of a PC record (R400): the bound one, where it has executed or changed state, or the one that was unbound. -/
def pcCtx (s : State) (n : Nat) : Option Nat :=
  let q := seq s n
  if (boundCtx s n).isSome && (decide (0 < q.executed) || q.stateChg) then boundCtx s n else q.left

/-- The PC record of a channel (R400). -/
def pcRecord (s : State) (n x : Nat) : List Byte :=
  let q := seq s n
  leBytes 6 (ticktime48 s) ++ [BitVec.ofNat 8 n, 0xD2]
    ++ leBytes 4 ((q.firstPc.getD (pcOf s x)) + min 8 q.executed * 2 ^ 20 + waitKind q.wait * 2 ^ 24 + ctxState s x * 2 ^ 28)
    ++ leBytes 2 x ++ [BitVec.ofNat 8 (flagBits [q.branch, q.exc, q.exhaust || exhausted s n]), 0]

/-- A selection forms a record of a kind in this tick (R398 to R400): of the loop once its core has computed, of the context once the
slots are over. -/
def selDue (s : State) (w : Word) (pc : Bool) : Bool :=
  let n := selCh w
  let kind := fld w 1 2
  bit w 0 && hasChan s n &&
    (if pc then kind != 0 && decide (256 ≤ s.slot) && (pcCtx s n).isSome
     else kind != 1 && (lcore s (n / 8)).done && ticktime s % 2 ^ (fld w 10 4) == 0)

/-- The record a selection forms. -/
def recordOf (s : State) (w : Word) (pc : Bool) : List Byte :=
  if pc then pcRecord s (selCh w) ((pcCtx s (selCh w)).getD 0) else signalRecord s (selCh w)

/-- Some destination of a selection would drop its record (R401). -/
def wouldDrop (s : State) (w : Word) (pc : Bool) : Bool :=
  let dest := fld w 3 2
  ((dest == 1 || dest == 3) && !(traceAfter s (recordOf s w pc)).1) || ((dest == 2 || dest == 3) && !(tc1After s (recordOf s w pc)).1)

/-- The selection a probe's record of this tick belongs to (R398, R401): in the tick in which a write lands, the old one where its record
would be dropped. -/
def probeSel (s : State) (p : Nat) (pc : Bool) : Word :=
  match s.obs.oldSel.find? (fun x => x.1 == p) with
  | some x => if selDue s x.2 pc && wouldDrop s x.2 pc then x.2 else probeW s p
  | none => probeW s p

/-- A probe forms a record of a kind in this tick (R398 to R400). -/
def recordDue (s : State) (p : Nat) (pc : Bool) : Bool :=
  decide (p < 4) && !s.obs.formed.contains (p, pc) && selDue s (probeSel s p pc) pc

/-- The record is formed and enters its destinations. -/
def formRecord (p : Nat) (pc : Bool) (s : State) : State :=
  let w := probeSel s p pc
  let it := recordOf s w pc
  let dest := fld w 3 2
  whenB (dest == 1 || dest == 3) (toTrace it) { s with obs := { s.obs with formed := (p, pc) :: s.obs.formed } }
    |> whenB (dest == 2 || dest == 3) (toTc1 it)

/-! ### Registers and counters (R398, R404 to R406) -/

/-- CFG_REJ of the OBS block. -/
def obsReject (s : State) : State := flag R.obsStat 2 s

/-- A write that lands at the next tick edge. -/
def obsLater (off : Nat) (w : Word) (s : State) : State := { s with obs := { s.obs with writes := s.obs.writes ++ [(off, w)] } }

/-- A write of a probe register (R398). -/
def probeSet (p : Nat) (w : Word) (s : State) : State :=
  if fld w 1 2 = 3 ∨ ¬ hasChan s (fld w 5 5) then obsReject s else obsLater (R.probe - R.obsCfg + 4 * p) w s

/-- An event code with its qualifier (R404, R405). -/
def eventOk (s : State) (ev q : Nat) : Bool :=
  if ev = 0 ∨ ev = 1 ∨ ev = 0x23 ∨ ev = 0x28 ∨ ev = 0x29 then q == 0
  else if 2 ≤ ev ∧ ev ≤ 0xC then hasChan s q
  else if ev = 0xD then hasGroup s q
  else if 0x10 ≤ ev ∧ ev ≤ 0x13 then decide (q < 12)
  else if 0x18 ≤ ev ∧ ev ≤ 0x1A then hasStream s q
  else if 0x20 ≤ ev ∧ ev ≤ 0x22 then decide (q < 4)
  else ev == 0x30 && hasLine s q

/-- A write of CNT_SELi (R404). -/
def cntSelSet (i : Nat) (w : Word) (s : State) : State :=
  if eventOk s (fld w 0 8) (fld w 8 6) then obsLater (R.cntSel - R.obsCfg + 4 * i) w s else obsReject s

/-- PC_CTRL.CLR. -/
def pcClr (s : State) : State := { s with obs := { s.obs with clr := true } }

/-- PC_CTRL.SNAP. -/
def pcSnap (s : State) : State := { s with obs := { s.obs with snap := true } }

/-- A write into the OBS block. -/
def obsWrite (off : Nat) (w : Word) (s : State) : State :=
  let a := R.obsCfg + off
  if R.probe ≤ a ∧ a < R.probe + 16 then probeSet ((a - R.probe) / 4) w s
  else if a = R.pcCtrl then obsLater off w s |> whenB (bit w 1) pcClr |> whenB (bit w 2) pcSnap
  else if R.cntSel ≤ a ∧ a < R.cntSel + 1024 then cntSelSet ((a - R.cntSel) / 4) w s
  else plainWrite a w s |> traceOff

/-- Address of a counter and of its snapshot. -/
def cntA (i : Nat) : Nat := R.cnt + 8 * i

/-- Address of a snapshot. -/
def snapA (i : Nat) : Nat := R.snap + 8 * i

/-- What the old tick adds to a counter with a selection (R405). -/
def eventCount (s : State) (sel : Word) : Nat :=
  let ev := fld sel 0 8
  let q := fld sel 8 6
  if ev = 1 then 1 else if ev = 0x30 then b2n (s.asserting.contains q) else Map.get 0 s.obs.events (64 * ev + q)

/-- The counters at a tick edge (R404 to R406): the old tick's events, the snapshot, the clear, then what lands. -/
def obsEdge (s : State) : State :=
  let ids := List.range 256
  let s := if gb s R.pcCtrl 0 then
      each (fun i s =>
        let k := eventCount s (rd s (R.cntSel + 4 * i))
        if k = 0 then s else wr64 (cntA i) ((rd64 s (cntA i) + k) % 2 ^ 64) s) ids s
    else s
  let s := if s.obs.snap then each (fun i s => wr64 (snapA i) (rd64 s (cntA i)) s) ids s |> flag R.obsStat 3 else s
  let s := if s.obs.clr then each (fun i => wr64 (cntA i) 0) ids s else s
  let olds := (List.range 4).filter (fun p => s.obs.writes.any (fun x => R.obsCfg + x.1 == R.probe + 4 * p))
  let s := { s with obs := { s.obs with oldSel := olds.map (fun p => (p, probeW s p)) } }
  let s := each (fun x s =>
    let a := R.obsCfg + x.1
    let s := plainWrite a x.2 s
    if R.cntSel ≤ a ∧ a < R.cntSel + 1024 then wr64 (cntA ((a - R.cntSel) / 4)) 0 s else s) s.obs.writes s
  { s with obs := { s.obs with writes := [], events := [], clr := false, snap := false, formed := [] } }
    |> (fun s => whenB (packFull s) packObs s)

/-! ### Commands -/

/-- PROBE_WRITE (R398). -/
def execProbeWrite (p : Nat) (w : Word) (s : State) : Answer := clocked s (whenB (decide (p < 4)) (probeSet p w))

/-- TRACE_RECORD (R399, R400): `kind` true for a PC record. -/
def execTraceRecord (p : Nat) (kind : Bool) (s : State) : Answer :=
  clocked s (fun t => if recordDue t p kind then formRecord p kind t else t)

/-- TRACE_SEND (R402). -/
def execTraceSend (s : State) : Answer := clocked s (fun t => if traceDue t then traceNext t else t)

/-- OBS_PACKET_TIMEOUT (R403). -/
def execObsPacketTimeout (s : State) : Answer := clocked s (fun t => if packLate t then packObs t else t)

/-- CNT_SEL_WRITE (R404). -/
def execCntSelWrite (i : Nat) (w : Word) (s : State) : Answer := clocked s (whenB (decide (i < 256)) (cntSelSet i w))

/-- PC_CTRL.CLR (R406). -/
def execPcCtrlClr (s : State) : Answer := clocked s pcClr

/-- PC_CTRL.SNAP (R406). -/
def execPcCtrlSnap (s : State) : Answer := clocked s pcSnap

end Sys2Proof.Machine
end

