-- ==== Sys2Proof/Machine/Sync.lean ====
section
/-! DEFINITION. The tick shared between devices, event lines, trigger pins and barriers as the host and the pins move them (01). -/

namespace Sys2Proof.Machine

/-! ### The tick between devices (R25 to R35) -/

/-- The tick unit is idle (R25). -/
def tickIdle (s : State) : Bool := (chans s).all (fun n => modeNow s n == 0)

/-- A rejected write of this chapter (R25, R27). -/
def tickReject (s : State) : State := reject R.tickStat 4 R.tickStat 24 8 s

/-- ROLE; 3 acts as STANDALONE (R26). -/
def role (s : State) : Nat := if gf s R.tickCtrl 0 2 = 3 then 0 else gf s R.tickCtrl 0 2

/-- IN_DLY; values above 49 act as 49. -/
def inDly (s : State) : Nat := min 49 (gf s R.tickCtrl 2 6)

/-- The next TICK_IN edge places the tick phase (R32). -/
def realign (s : State) : State := sb R.tickStat 0 false { s with flw := { realign := true } }

/-- MARK (R34, R35). -/
def tickMark (s : State) : State := if role s = 2 then s else { s with marker := s.marker ++ [s.now + 3] }

/-- RELOCK (R26, R32). -/
def relockCmd (s : State) : State := if !tickIdle s then tickReject s else if role s = 2 then realign s else s

/-- ARM_LOAD is accepted: the words of TICK_LOAD committed now are those the marker loads (17 R436, R437). -/
def armLoad (b : Bool) (s : State) : State :=
  if b && !gb s R.tickCtrl 9 then { s with tickLoad := BitVec.ofNat 64 (rd64 s R.tickLoadLo) } else s

/-- A write of TICK_CTRL (R26). That several rejected
fields of one word count once, and a rejected RELOCK of the same word once more, is the model's choice (R5, R25; log entry 120). -/
def tickCtrlWrite (w : Word) (s : State) : State :=
  let a := R.tickCtrl
  let was := role s
  let differs_ := fld w 0 8 != gf s a 0 8 || bit w 9 != gb s a 9
  let s := sb a 8 (bit w 8) s
  let s := if !differs_ then s else if tickIdle s then armLoad (bit w 9) s |> sf a 0 8 (fld w 0 8) |> sb a 9 (bit w 9) else tickReject s
  let s := if role s = 2 ∧ was ≠ 2 then realign s else if role s ≠ 2 ∧ was = 2 then sb R.tickStat 0 false { s with flw := {} } else s
  whenB (bit w 10) tickMark s |> whenB (bit w 11) relockCmd

/-- The load of TICKTIME at a marker is due (R34). -/
def loadDue (s : State) : Bool := s.marker.contains s.now

/-- Every armed device loads TICKTIME with the words ARM_LOAD took (R34, R35; 17 R436). -/
def loadTime (s : State) : State :=
  let s := { s with marker := s.marker.filter (· != s.now) }
  if gb s R.tickCtrl 9 then wr64 R.ticktimeLo s.tickLoad.toNat s |> sb R.tickCtrl 9 false |> flag R.tickStat 3 else s

/-- The marker tick of a MASTER, the tick after MARK was accepted: the load is two ticks away (R30, R34). -/
def markerTick (s : State) : Bool := role s == 1 && s.marker.contains (s.now + 2)

/-- TICK_OUT in a core cycle of the present tick: held low with OUT_EN 0; else high in cycles 0 to 24, a follower's from its own
tick; low throughout the marker tick of a MASTER, while a STANDALONE device keeps the waveform (R26, R29, R30). Without the core
clock there is no tick and the output is low. -/
def tickOut (s : State) (cyc : Nat) : Bool := running s && gb s R.tickCtrl 8 && decide (cyc < 25) && !markerTick s

/-- A TICK_IN edge lies within one core cycle of the expected one (R32). -/
def nearEdge (e cyc : Nat) : Bool := let d := (cyc + 50 - e) % 50; decide (d ≤ 1) || d == 49

/-- An edge within one cycle of its expected cycle, after `good` such edges before it (R32). -/
def goodEdge (good : Nat) (f : Follower) : Follower := { f with goodRun := min 16 (good + 1) }

/-- An edge further from its expected cycle (R32). -/
def badEdge (s : State) : State :=
  let s := { s with flw := { s.flw with seen := true, goodRun := 0 } }
  if gb s R.tickStat 0 then flag R.tickStat 2 s |> bump R.tickStat 8 8 else s

/-- A TICK_IN rising edge is detected in a core cycle (R31, R32). One expected in cycle 0 may come in cycle 49 of the tick
before, and one expected in cycle 49 in cycle 0 of the tick after: it then counts for the tick it is expected in. That the edge
which places the phase is not one of the 16 that lock is the model's choice (log entry 121). -/
def tickIn (cyc : Nat) (s : State) : State :=
  if role s ≠ 2 then s
  else
    let c := cyc % 50
    if s.flw.realign then { s with flw := { expect := some ((50 - inDly s) % 50), seen := true } }
    else match s.flw.expect with
      | none => s
      | some e =>
        if e = 0 ∧ c = 49 then { s with flw := { goodEdge s.flw.goodRun s.flw with early := true } }
        else if e = 49 ∧ c = 0 then
          match s.flw.late with
          | some g => { s with flw := { goodEdge g s.flw with missing := 0, late := none, markDue := false },
                               marker := s.marker.filter (· != s.now + 1) }
          | none => badEdge s
        else if nearEdge e c then
          { s with flw := { goodEdge s.flw.goodRun s.flw with seen := true },
                   marker := if e = 0 then s.marker.filter (· != s.now + 1) else s.marker }
        else badEdge s

/-- LOCKED is to set (R32). -/
def lockedDue (s : State) : Bool := role s == 2 && !gb s R.tickStat 0 && decide (16 ≤ s.flw.goodRun)

/-- A missing edge of the tick before is to be read as a marker (R33). -/
def markerDue (s : State) : Bool := role s == 2 && gb s R.tickStat 0 && s.flw.markDue

/-- An edge expected in cycle 0 (IN_DLY 0) is that of the master's tick before: that it is missing is found in the same tick, once its
cycles are over (R31, R34). -/
def markerLate (s : State) : Bool :=
  role s == 2 && gb s R.tickStat 0 && s.flw.expect == some 0 && !s.flw.seen && s.flw.missing == 0 && !s.marker.contains (s.now + 1)

/-- The marker: TICKTIME is loaded at the next tick edge (R33, R34). -/
def markerSeen (s : State) : State := { s with flw := { s.flw with markDue := false }, marker := s.marker ++ [s.now + 1] }

/-- Four consecutive edges are missing (R33). -/
def tickLossDue (s : State) : Bool := role s == 2 && gb s R.tickStat 0 && decide (4 ≤ s.flw.missing)

/-- The loss of TICK_IN (R33). -/
def tickLost (s : State) : State :=
  let s := flag R.tickStat 1 { s with flw := {} } |> sb R.tickStat 0 false |> bump R.tickStat 16 8
  sendMsg 0 0x01 0 (gf s R.tickStat 16 8) s

/-- The follower at a tick edge: a missing edge after lock is a marker, unless the next one is known to be missing too by the tick
edge of the load (R33, R34). An edge expected in cycle 49 or 0 may still come in cycle 0 or 1 of the tick of the load, so that there
the load stands: the model's choice (log entry 42). That an edge
more than one cycle from its expected one which falls across the tick edge is a missing edge of its own tick and a slip of the next is
the model's choice (R32; log entry 121). -/
def followerEdge (s : State) : State :=
  if role s ≠ 2 ∨ s.flw.expect.isNone then s
  else if s.flw.seen then { s with flw := { s.flw with missing := 0, seen := s.flw.early, early := false, late := none,
                                                           markDue := false } }
  else
    let m := s.flw.missing + 1
    let locked := gb s R.tickStat 0
    { s with flw := { s.flw with missing := m, goodRun := if s.flw.early then 1 else 0, markDue := locked && m == 1 && s.flw.expect != some 0, seen := s.flw.early, early := false,
                                 late := if s.flw.expect = some 49 then some s.flw.goodRun else none },
             marker := if locked && m == 2 && s.flw.expect != some 49 then s.marker.filter (· != s.now) else s.marker }

/-! ### Event lines and trigger pins (R36 to R43) -/

/-- A write of EV_SW (R39). -/
def evSwWrite (w : Word) (s : State) : State := each (fun i s => if bit w i then causeAt (48 + i) s.cycle s else s) (List.range 16) s

/-- DIR of a trigger pin. -/
def pinDir (s : State) (p : Nat) : Nat := gf s (R.trigCfg + 4 * p) 0 2

/-- The line can assert: its source is present, and a TINn's pin is an input (R36, R41). DIR is looked at as the line begins to
assert; that a TINn then asserts to the tick's end (R37) though a write moves its pin's DIR away from IN in that tick is the model's
choice (log entry 103). -/
def lineLive (s : State) (e : Nat) : Bool := hasLine s e && (!(decide (32 ≤ e) && decide (e < 40)) || pinDir s (e - 32) == 1)

/-- A pin's output pulse begins or is extended in this tick (R43). -/
def beginPin (p : Nat) (s : State) : State :=
  if pinDir s p = 2 then updTrig p (fun t => { t with until_ := some (s.now + gf s (R.trigCfg + 4 * p) 16 8) }) s else s

/-- The level of a trigger pin's ball as the device drives it: none in OFF and IN, where it is high impedance; in OUT active while a
pulse runs, high or with POL 1 low (R40, R43). -/
def trigOut (s : State) (p : Nat) : Option Bool :=
  if pinDir s p = 2 then some ((tpin s p).until_.any (fun u => decide (s.now ≤ u)) != gb s (R.trigCfg + 4 * p) 2) else none

/-- A line asserts in this tick and has not yet reached its consumers. -/
def lineDue (s : State) (e : Nat) : Bool := s.asserting.contains e && !s.evDone.contains e

/-- What an asserting line does on a channel: its waiting context, its apertures and its repetitive controller (08 R234,
05 R159, R164, 04 R131). -/
def lineChan (e n : Nat) (s : State) : State :=
  let trig (p : Path) (s : State) : State :=
    let w := rd s (chA n (apOff p R.apCfg))
    if bit w 0 && fld w 1 6 == e then apTrigger n p s else s
  let s := waitevSee e n s |> trig .v |> trig .i
  (if gf s (chA n R.lineCfg) 0 6 = e ∧ (chan s n).mv.lsLast ≠ some s.now then lineAssert n s else s) |> rcSync e n

/-- An event line asserts for the whole tick (R37). -/
def lineAsserts (e : Nat) (s : State) : State :=
  let s := each (lineChan e) (chans s) { s with evDone := s.evDone ++ [e] }
  each (fun p s => if gf s (R.trigCfg + 4 * p) 4 6 = e then beginPin p s else s) (List.range 8) s

/-- An edge of a trigger input is recognised (R41, R42). LEVEL follows the pin as its edges are given; whether it also shows a pulse
the device itself drives on an OUT pin is the model's choice: it does not (log entry 79). -/
def trigEdge (p : Nat) (level : Bool) (s : State) : State :=
  let s := sb R.trigStat (8 + p) level s
  if pinDir s p ≠ 1 ∨ level = gb s (R.trigCfg + 4 * p) 2 then s
  else
    let again := decide (0 < (tpin s p).edges)
    updTrig p (fun t => { t with edges := t.edges + 1 }) s |> whenB again (flag R.trigStat p) |> cause (32 + p)

/-- A pin's pulse has ended (R43). -/
def pinDone (s : State) (p : Nat) : Bool := (tpin s p).until_.any (fun u => decide (u < s.now))

/-- The pulse ends. -/
def pinEnd (p : Nat) (s : State) : State := updTrig p (fun t => { t with until_ := none }) s

/-- A write of TRIG_CFG: a pulse ends at once where DIR leaves OUT (R43). -/
def trigCfgWrite (p : Nat) (w : Word) (s : State) : State :=
  let s := plainWrite (R.trigCfg + 4 * p) w s
  if fld w 0 2 = 2 then s else updTrig p (fun t => { t with until_ := none, drive := false }) s

/-- A trigger pin at a tick edge. -/
def pinEdge (p : Nat) (s : State) : State :=
  let t := tpin s p
  let s := if t.edges = 0 ∧ ¬ t.drive then s else updTrig p (fun t => { t with edges := 0, drive := false }) s
  if t.drive then beginPin p s else s

/-! ### Registers of the DEVICE block (R25 to R44, 06 R186, 14 R390) -/

/-- A write of BAR_CFG, idle while ARRIVED reads zero (R25, R44). -/
def barCfgWrite (b : Nat) (w : Word) (s : State) : State :=
  let a := R.barCfg + 4 * b
  if fld w 0 6 = gf s a 0 6 then s else if gf s a 8 6 = 0 then sf a 0 6 (fld w 0 6) s else tickReject s

/-- A write into the DEVICE block. -/
def deviceWrite (off : Nat) (w : Word) (s : State) : State :=
  if off = R.tickCtrl then tickCtrlWrite w s
  else if R.trigCfg ≤ off ∧ off < R.trigCfg + 32 then trigCfgWrite ((off - R.trigCfg) / 4) w s
  else if off = R.evSw then evSwWrite w s
  else if off = R.clrStat then whenB (bit w 0) clrLatchWrite s
  else if R.barCfg ≤ off ∧ off < R.barCfg + 256 then barCfgWrite ((off - R.barCfg) / 4) w s
  else plainWrite off w s

/-! ### Commands -/

/-- TICK_CTRL.MARK (R34). -/
def execTickCtrlMark (s : State) : Answer := clocked s tickMark

/-- TICK_CTRL.RELOCK (R32). -/
def execTickCtrlRelock (s : State) : Answer := clocked s relockCmd

/-- TICKTIME_LOAD (R34). -/
def execTicktimeLoad (s : State) : Answer := clocked s (fun t => if loadDue t then loadTime t else t)

/-- TICK_IN_EDGE (R31). -/
def execTickInEdge (cyc : Nat) (s : State) : Answer := clocked s (tickIn cyc)

/-- LOCKED (R32). -/
def execLocked (s : State) : Answer := clocked s (fun t => if lockedDue t then flag R.tickStat 0 t else t)

/-- MARKER_DETECT (R33). -/
def execMarkerDetect (s : State) : Answer := clocked s (fun t => if markerDue t || markerLate t then markerSeen t else t)

/-- TICK_LOSS (R33). -/
def execTickLoss (s : State) : Answer := clocked s (fun t => if tickLossDue t then tickLost t else t)

/-- EV_SW (R39). -/
def execEvSw (w : Word) (s : State) : Answer := clocked s (evSwWrite w)

/-- EVENT_LINE_ASSERT (R37). -/
def execEventLineAssert (e : Nat) (s : State) : Answer := clocked s (fun t => if lineDue t e then lineAsserts e t else t)

/-- TRIGGER_INPUT_EDGE (R41). -/
def execTriggerInputEdge (pin : Nat) (level : Bool) (s : State) : Answer :=
  clocked s (fun t => if pin < 8 then trigEdge pin level t else t)

/-- TRIGGER_PULSE_END (R43). -/
def execTriggerPulseEnd (pin : Nat) (s : State) : Answer :=
  clocked s (fun t => if decide (pin < 8) && pinDone t pin then pinEnd pin t else t)

end Sys2Proof.Machine
end

