-- ==== Sys2Proof/Machine/LinkCore.lean ====
section
/-! DEFINITION. The Melic Link's training, its violations and their log, retrains and its registers (12 R314 to R318, R340 to
R343, R348, R349). -/

namespace Sys2Proof.Machine

/-- STATE of LNK_STAT. -/
def lnkState (s : State) : Nat := gf s R.lnkStat 0 3

/-- The link enters a state. -/
def setLnk (st : Nat) (s : State) : State :=
  let s := sf R.lnkStat 0 3 st s
  { s with link := { s.link with at_ := s.now } }

/-- The classes on which the device sends (R324). -/
def txClasses : List Nat := [0, 1, 3]

/-- AVAIL of a class. -/
def avail (s : State) (c : Nat) : Nat := gf s (R.txcStat + 4 * c) 0 16

/-- Set AVAIL. -/
def setAvail (c v : Nat) (s : State) : State := sf (R.txcStat + 4 * c) 0 16 v s

/-! ### Lanes (R315, R318) -/

/-- Lanes of a mask, lowest first. -/
def lanesOf (m : Nat) : List Nat := (List.range 4).filter (fun i => m.testBit i)

/-- The mask of the 4, 2 or 1 lowest-numbered lanes of a mask (R318). -/
def pickLanes (m : Nat) : Nat :=
  let l := lanesOf m
  ((l.take (if l.length = 4 then 4 else min 2 l.length)).map (2 ^ ·)).sum

/-- The link runs on these lanes, its blocks counted from here (R316; log entry 100); DEGRADED where LANE_EN names more (R318). -/
def useLanes (m : Nat) (s : State) : State :=
  sf R.lnkStat 3 4 m { s with link := { s.link with blk := 0 } }
    |> sb R.lnkStat 7 (decide ((lanesOf m).length < (lanesOf s.link.en).length))

/-! ### Going down (R317, R325, R330) -/

/-- What a class keeps when the link goes down: packets it holds, unexecuted requests, sequence numbers, and a NAK it still has to
send (R327). An open new packet has taken its number and waits in the replay buffer; a packet half received is lost. -/
def downCls (c : Cls) : Cls :=
  let held := match c.tx with
    | some (q, p, _) => if c.reOpen then c.replay else c.replay ++ [(q, p)]
    | none => c.replay
  let half := match c.tx with
    | some (q, _, i) => if !c.reOpen || c.half.any (fun h => h.1 == q && decide (h.2 < i)) then some (q, i) else c.half
    | none => c.half
  { c with replay := held, tx := none, reOpen := false, redo := false, resend := 0, open_ := none, resync := false, half }

/-- The channel of a notification (R336). -/
def noteChan (p : Pkt) : Option Nat := if p.opc = 0x40 then (p.data[6]?).map (fun b => b.toNat % 32) else none

/-- A packet is placed in its class's replay buffer for the first time: a notification leaves its channel's queue (R336). -/
def noteSent (p : Pkt) (s : State) : State :=
  match noteChan p with
  | some n => updSeq n (fun x => { x with notes := x.notes - 1 }) s
  | none => s

/-- What is half sent when the link goes down is placed in the replay buffer of its class. -/
def noteHalf (c : Nat) (s : State) : State :=
  match (lcls s c).tx with
  | some (_, p, _) => if (lcls s c).reOpen then s else noteSent p s
  | none => s

/-- The link goes DOWN and trains again. -/
def linkDown (s : State) : State :=
  each noteHalf [0, 1, 2, 3] s |> each (fun c => updCls c downCls) [0, 1, 2, 3]
    |> each (fun c s => wr (R.txcStat + 4 * c) 0 s) txClasses
    |> (fun s => startTraining { s with link := { s.link with ackDue := false, flowDue := false } })

/-- A training that failed counts as a retrain (R317 ALIGN and INIT rows). -/
def restart (s : State) : State := bump R.lnkStat 16 16 s |> linkDown

/-- A retrain of the link while UP (R317, R342). -/
def retrain (s : State) : State :=
  if linkUp s then sendMsg 2 0x30 0 (gf s R.lnkStat 3 4) s |> flag R.lnkStat 8 |> restart else s

/-! ### Violations (R340, R342, R343) -/

/-- VIOL_MAX. -/
def violMax (s : State) : Nat := gf s R.lnkViol 0 8

/-- The count of the window has reached VIOL_MAX. -/
def violFull (s : State) : Bool := decide (violMax s ≠ 0) && decide (violMax s ≤ gf s R.logStat 8 8)

/-- The log entry of a violation: its code, class, SEQ and third word. -/
def logViolation (code tc seq w2 : Nat) (s : State) : State :=
  let i := gf s R.logStat 0 6
  let a := R.llog + 16 * i
  let k := min 255 (gf s R.logStat 8 8 + 1)
  wr a (BitVec.ofNat 32 (ticktime s)) s |> wr (a + 4) (BitVec.ofNat 32 (code + 256 * tc + 1024 * seq))
    |> wr (a + 8) (BitVec.ofNat 32 w2) |> wr (a + 12) (BitVec.ofNat 32 k)
    |> sf R.logStat 0 6 (i + 1) |> whenB (i == 63) (flag R.logStat 6) |> sf R.logStat 8 8 k |> bump R.logStat 16 16
    |> flag R.lnkStat 9 |> sendMsg 2 0x31 (seq + tc * 4096) code

/-- A host protocol violation, after its own answer (R340): logged, sent, counted, and a retrain at VIOL_MAX (R342). -/
def violation (code tc seq w2 : Nat) (s : State) : State :=
  let s := logViolation code tc seq w2 s
  if violFull s then retrain s else s

/-- The window of VIOL_WIN ticks is over (R342); a count that caused a retrain stands until the link is UP again. -/
def windowOver (s : State) : Bool :=
  decide (s.link.winStart + max 1 (gf s R.lnkViol 8 24) ≤ s.now) && (linkUp s || !violFull s)

/-- A new window begins. -/
def newWindow (s : State) : State :=
  let s := sf R.logStat 8 8 0 s
  { s with link := { s.link with winStart := s.now } }

/-- LOG_CLR (R343). -/
def logClear (s : State) : State :=
  each (fun i s => wr (R.llog + 4 * i) 0 s) (List.range 256) s |> sf R.logStat 0 7 0

/-- CNT_CLR. -/
def cntClear (s : State) : State := wr R.lnkFec 0 s |> wr R.lnkErrcnt 0

/-! ### Training (R317) -/

/-- Signal and clock recovery on enabled lanes. -/
def signalSeen (lanes : Nat) (s : State) : State :=
  if lnkState s = 1 ∧ Nat.land lanes s.link.en ≠ 0 then setLnk 2 s else s

/-- Adaptation has converged on these lanes, or 10 ms have elapsed. -/
def adapted (lanes : Nat) (s : State) : State :=
  if lnkState s = 2 then
    setLnk 3 { s with link := { s.link with lanes := Nat.land lanes s.link.en } }
  else s

/-- 10 ms of TRAIN have elapsed. -/
def trainLate (s : State) : Bool := lnkState s == 2 && decide (s.link.at_ + 200000 ≤ s.now)

/-- Markers lock and lanes deskew on trained lanes: the receive buffers are freed, and INIT flits go out (R317, R330). -/
def markersLock (lanes : Nat) (s : State) : State :=
  let m := Nat.land lanes s.link.lanes
  if lnkState s = 3 ∧ m ≠ 0 then
    let s := setLnk 4 { s with link := { s.link with lanes := m, initSent := false } } |> useLanes (pickLanes m)
    let s := { s with hostJobs := s.hostJobs.map (fun j => { j with flits := 0 }) }
    let free (c : Cls) : Cls := { c with rcvd := 0, cred := 0, adv := 0, curFlits := 0, rx := c.rx.map (fun r => { r with flits := 0 }) }
    each (fun c => updCls c free) [0, 1, 2] s |> each (fun c => sf (R.txcStat + 4 * c) 16 2 1) txClasses
  else s

/-- No marker lock within 2 ms. -/
def alignLate (s : State) : Bool := lnkState s == 3 && decide (s.link.at_ + 40000 ≤ s.now)

/-- No valid INIT within 100 us. -/
def initLate (s : State) : Bool := lnkState s == 4 && decide (s.link.at_ + 2000 ≤ s.now)

/-! ### INIT (R317, R323, R325, R326, R330) -/

/-- Bits of a flit from a bit position. -/
def ffld (f : BitVec 256) (lo len : Nat) : Nat := f.toNat / 2 ^ lo % 2 ^ len

/-- The bytes of a flit. -/
def flitBytes (f : BitVec 256) : List Byte := leBytes 32 f.toNat

/-- A flit of up to 32 bytes. -/
def flitOf (bs : List Byte) : BitVec 256 := BitVec.ofNat 256 (leVal (bs.take 32))

/-- The CRC of a link control flit passes. -/
def lctlOk (f : BitVec 256) : Bool := crc32 ((flitBytes f).take 28) == ffld f 224 32

/-- A link control flit from its first 28 bytes. -/
def lctlFlit (bs : List Byte) : BitVec 256 := flitOf (bs ++ leBytes 4 (crc32 bs))

/-- The largest packet the device sends on a class, in flits (R326). -/
def minLimit (c : Nat) : Nat := if c = 0 then 3 else 129

/-- CREDIT_LIMIT of an INIT flit. -/
def initLimit (f : BitVec 256) (c : Nat) : Nat := ffld f (32 + 32 * c) 16

/-- NEXT_SEQ of an INIT flit. -/
def initNext (f : BitVec 256) (c : Nat) : Nat := ffld f (48 + 32 * c) 12

/-- The form of an INIT flit, with a lane in common. -/
def initForm (s : State) (f : BitVec 256) : Bool :=
  lctlOk f && ffld f 0 8 == 2 && ffld f 8 8 == 1 && ffld f 20 12 == 0 && ffld f 160 64 == 0
    && ([0, 1, 2, 3] : List Nat).all (fun c => ffld f (60 + 32 * c) 4 == 0)
    && decide (Nat.land (ffld f 16 4) s.link.lanes ≠ 0)

/-- Packets of the replay buffer before the one numbered `n`. -/
def ackedBy (c : Cls) (n : Nat) : Nat := match c.replay with | (q, _) :: _ => (n + 4096 - q) % 4096 | [] => 0

/-- A transmit class becomes active: it resumes from the number the partner expects (R325, R330). -/
def startCls (f : BitVec 256) (now c : Nat) (k : Cls) : Cls :=
  let n := initNext f c
  let a := ackedBy k n
  let held := if a ≤ k.replay.length then k.replay.drop a else k.replay
  { k with limit := initLimit f c, lastCred := 0, replay := held, half := k.half.filter (fun h => held.any (fun r => r.1 == h.1)), resend := held.length, since := now, tries := 0,
           next := if k.replay.isEmpty then n else k.next }

/-- The link goes UP. -/
def goUp (f : BitVec 256) (s : State) : State :=
  let s := setLnk 5 s |> useLanes (pickLanes (Nat.land (ffld f 16 4) s.link.lanes))
    |> each (fun c s => updCls c (startCls f s.now c) s |> wr (R.txcStat + 4 * c) (BitVec.ofNat 32 (initLimit f c + 2 * 65536))) txClasses
  let s := updCls 2 (fun k => { k with lastCred := 0 }) { s with link := { s.link with lastFlow := s.now } }
  (if violFull s then newWindow s else s) |> bootEnd

/-- A valid INIT in INIT (R317): the link goes UP, or DOWN on too small a CREDIT_LIMIT. -/
def initTaken (f : BitVec 256) (s : State) : State :=
  match txClasses.find? (fun c => decide (initLimit f c < minLimit c)) with
  | none => goUp f s
  | some c => violation 0x10 c 0 0x100 s |> restart

/-- An INIT flit (R317, R340): a violation while UP; without effect before INIT, or where it is not valid. -/
def initReceived (f : BitVec 256) (s : State) : State :=
  if !lctlOk f || ffld f 0 8 != 2 then s
  else if linkUp s then violation 0x0E 0 0 0x100 s
  else if lnkState s = 4 ∧ initForm s f then initTaken f s
  else s

/-- A write into the LINK block (R349). -/
def linkWrite (off : Nat) (w : Word) (s : State) : State :=
  let a := R.lnkCfg + off
  if off = 0 then plainWrite a (w &&& BitVec.ofNat 32 (2 ^ nLanes s - 1 + 16)) s
  else if off = 4 then whenB (bit w 0) retrain s |> whenB (bit w 1) logClear |> whenB (bit w 2) cntClear
  else plainWrite a w s

/-! ### Commands -/

/-- SIGNAL_DETECT (R317). -/
def execSignalDetect (lanes : Nat) (s : State) : Answer := clocked s (signalSeen lanes)

/-- ADAPTATION_END (R317). -/
def execAdaptationEnd (lanes : Nat) (s : State) : Answer := clocked s (adapted lanes)

/-- MARKER_LOCK (R317). -/
def execMarkerLock (lanes : Nat) (s : State) : Answer := clocked s (markersLock lanes)

/-- ALIGN_TIMEOUT (R317). -/
def execAlignTimeout (s : State) : Answer := clocked s (fun t => if alignLate t then restart t else t)

/-- INIT (R317). -/
def execInitFlit (flit : BitVec 256) (s : State) : Answer := clocked s (initReceived flit)

/-- INIT_TIMEOUT (R317). -/
def execInitTimeout (s : State) : Answer := clocked s (fun t => if initLate t then linkDown t else t)

/-- LNK_CTRL_RETRAIN (R317). -/
def execLnkCtrlRetrain (s : State) : Answer := clocked s retrain

/-- LNK_CTRL_LOG_CLR (R343). -/
def execLnkCtrlLogClr (s : State) : Answer := clocked s logClear

/-- LNK_CTRL_CNT_CLR (R349). -/
def execLnkCtrlCntClr (s : State) : Answer := clocked s cntClear

/-- VIOLATION_WINDOW_END (R342). -/
def execViolationWindowEnd (s : State) : Answer := clocked s (fun t => if windowOver t then newWindow t else t)

end Sys2Proof.Machine
end

