-- ==== Sys2Proof/Machine/Regs.lean ====
section
/-! DEFINITION. Register accesses: the access ports, absent units, the order of the checks, 64-bit registers and their captures,
and reads and writes of any register (17). -/

namespace Sys2Proof.Machine

/-! ### Ports and absent units (17 R433, R434, R438) -/

/-- Number of an access port. -/
def portNo : Port → Nat
  | .tc0 => 0
  | .tc1 => 1
  | .spi => 2

/-- The blocks TC1 and MGMT_SPI may write. -/
def mgmtBlock : Block → Bool
  | .fault | .otp | .mon | .obs => true
  | _ => false

/-- The blocks only MGMT_SPI reads besides. -/
def spiReads : Block → Bool
  | .device | .link => true
  | _ => false

/-- The status that refuses a block to a port: WRONG_TC, or DENIED on MGMT_SPI (R433, R434; 12 R347). -/
def portRefusal (p : Port) (write : Bool) (b : Block) : Option Nat :=
  match p with
  | .tc0 => if b = .ddr then some 0x0B else none
  | .tc1 => if mgmtBlock b then none else some 0x0B
  | .spi => if mgmtBlock b || (!write && spiReads b) then none else some 0x0E

/-- A word lies in an absent unit or in no block (R431, R438). -/
def absentAt (s : State) (a : Nat) : Bool :=
  match blockOf a with
  | (.chan n, o) => !hasChan s n || (!hasRc s && decide (0x200 ≤ o) && decide (o < 0x228))
  | (.stream k, _) => !hasStream s k
  | (.mon, o) => decide (o < 0x4000) && !hasGroup s (o / 0x1000)
  | (.edge, o) => decide (nEts s = 0) || (decide (nEts s = 4) && decide (0x1400 ≤ o) && decide (o < 0x1800))
  | (.ctx x, _) => decide (nCtxs s ≤ x)
  | (.cal, o) => !hasChan s (o / 0x20000)
  | (.seqb, o) =>
    (decide (0x1000 ≤ o) && decide (o < 0x1400) && !hasChan s ((o - 0x1000) / 0x20))
      || (decide (0x2000 ≤ o) && decide (o < 0x2090) && !hasRes s ((o - 0x2000) / 4))
      || (decide (0x3000 ≤ o) && decide (o < 0x3200) && !hasChan s ((o - 0x3000) / 0x10))
  | (.ddr, _) => true
  | (.none, _) => true
  | _ => false

/-- A word written to a present command register names an absent unit (R433). -/
def namesAbsent (s : State) (a : Nat) (w : Word) : Bool :=
  if a = R.resHcmd then (bit w 6 || bit w 7) && decide (fld w 0 6 < 36) && !hasRes s (fld w 0 6)
  else match blockOf a with
    | (.seqb, o) => decide (0x1000 ≤ o) && decide (o < 0x1400) && o % 0x20 == 0 && fld w 0 3 == 1 && decide (nCtxs s ≤ fld w 16 12)
    | _ => false

/-- A request is misaligned, of no allowed length, or crosses a multiple of 64 KiB (R433). -/
def badForm (addr words : Nat) : Bool :=
  addr % 4 != 0 || words == 0 || decide (16 < words) || addr / 0x10000 != (addr + 4 * words - 1) / 0x10000

/-- The addresses of a request's words. -/
def wordAddrs (addr words : Nat) : List Nat := (List.range words).map (fun i => addr + 4 * i)

/-- The first failing check of a read (R433). -/
def readStatus (s : State) (p : Port) (addr words : Nat) : Nat :=
  match portRefusal p false (blockOf addr).1 with
  | some st => st
  | none => if badForm addr words then 0x0C else if (wordAddrs addr words).any (absentAt s) then 1 else 0

/-- The first failing check of a write (R433). -/
def writeStatus (s : State) (p : Port) (addr : Nat) (ws : List Word) : Nat :=
  let l := wordAddrs addr ws.length
  match portRefusal p true (blockOf addr).1 with
  | some st => st
  | none =>
    if badForm addr ws.length then 0x0C
    else if l.any (absentAt s) || (l.zip ws).any (fun x => namesAbsent s x.1 x.2) then 1 else 0

/-! ### Writes -/

/-- A write into the program cache control block (08 R246). -/
def seqbWrite (o : Nat) (w : Word) (s : State) : State :=
  if o = 0 then whenB (bit w 0) flushCache s
  else if 0x1000 ≤ o ∧ o < 0x1400 ∧ o % 0x20 = 0 then seqCmdWrite ((o - 0x1000) / 0x20) w s
  else plainWrite (R.icCtrl + o) w s

/-- A word is written through a port (00 R4; 17 R433): a word where no register lies is ignored. -/
def writeWord (p : Port) (a : Nat) (w : Word) (s : State) : State :=
  if absentAt s a then s
  else match blockOf a with
    | (.device, o) => deviceWrite o w s
    | (.fault, o) => faultWrite o w s
    | (.link, o) => linkWrite o w s
    | (.mem, o) => memWrite o w s
    | (.otp, o) => otpWrite o w s
    | (.edge, o) => edgeWrite o w s
    | (.mon, o) => if o < 0x4000 then monWrite (o / 0x1000) (o % 0x1000) w s else s
    | (.obs, o) => obsWrite o w s
    | (.chan n, o) => chanWrite (portNo p) n o w s
    | (.stream k, o) => strWrite k o w s
    | (.ctx x, o) => ctxWrite x o w s
    | (.cal, o) => if o % 8 = 0 then calLow (portNo p) w s else calHigh (portNo p) (o / 8) w s
    | (.seqb, o) => seqbWrite o w s
    | (.ddr, _) => s
    | (.none, _) => s

/-- Words are written in ascending address order (12 R334). -/
def writeWords (p : Port) (a : Nat) : List Word → State → State
  | [], s => s
  | w :: t, s => writeWords p (a + 4) t (writeWord p a w s)

/-- The status a word's write is refused with, though its access passes: SEG_ACTIVE for a word of an active descriptor (07 R204), and
IDLE for a DROP of a stream with no packet in transmission (11 R307). -/
def wordRefusal (s : State) (a : Nat) (w : Word) : Nat :=
  match blockOf a with
  | (.chan n, o) =>
    if R.gd ≤ o ∧ gdHeld s n ((o - R.gd) / 16) ((o - R.gd) % 16) w then 5 else 0
  | (.stream k, o) => if o = R.strCtrl ∧ bit w 0 ∧ sendingNow s k = none then 8 else 0
  | _ => 0

/-- The status of a request's words, each judged as its turn comes: the first refusal. -/
def wordsStatus (p : Port) (a : Nat) : List Word → State → Nat
  | [], _ => 0
  | w :: t, s => if wordRefusal s a w ≠ 0 then wordRefusal s a w else wordsStatus p (a + 4) t (writeWord p a w s)

/-! ### Reads and captures (17 R435) -/

/-- The offset is the low word of a 64-bit register in its block. -/
def pairLow : Block × Nat → Bool
  | (.device, o) => o == 0x10 || o == 0x20 || o == 0x28 || o == 0x68
  | (.fault, o) => o == 0x44 || o == 0x50 || o == 0x60
  | (.mem, o) => o == 0x10 || o == 0x208
  | (.obs, o) => ((decide (0x1000 ≤ o) && decide (o < 0x1800)) || (decide (0x2000 ≤ o) && decide (o < 0x2800))) && o % 8 == 0
  | (.edge, o) => decide (0x1000 ≤ o) && decide (o < 0x1800) && [0x48, 0x60, 0x68, 0x70, 0x78].contains (o % 0x100)
  | (.chan _, o) => o == R.cmpTickLo || o == R.rcBkLo || o == R.calSrcLo || o == R.ddsFtwLo
  | (.stream _, o) => o == R.spillBaseLo
  | (.cal, o) => o % 8 == 0
  | _ => false

/-- The address is word 0 of a FAULT log record or a LINK log entry (13 R364; 12 R343). -/
def recLow : Block × Nat → Bool
  | (.fault, o) => decide (0x1000 ≤ o) && decide (o < 0x2000) && o % 16 == 0
  | (.link, o) => decide (0x100 ≤ o) && decide (o < 0x500) && o % 16 == 0
  | _ => false

/-- The words a read of an address captures. -/
def captured (a : Nat) : List Nat :=
  if pairLow (blockOf a) then [a + 4] else if recLow (blockOf a) then [a + 4, a + 8, a + 12] else []

/-- A read of the word returns what the port has captured. -/
def isHigh (a : Nat) : Bool :=
  captured (a - 4) == [a] || (captured (a - a % 16)).contains a

/-- TXC_STAT as read (12 R325): STARVED while the next packet waits for credit, or a new one for replay space. -/
def txcView (s : State) (c : Nat) (w : Word) : Word :=
  let k := lcls s c
  let room := 65536 - 32 * ((k.replay.map (fun r => r.2.flits)).sum)
  let starved := fld w 16 2 == 2 && k.tx.isNone &&
    (match k.replay.drop (k.replay.length - k.resend), k.txq with
      | (_, p) :: _, _ => decide (fld w 0 16 < p.cut.getD p.flits)
      | [], p :: _ => decide (fld w 0 16 < p.flits) || decide (room < 32 * p.flits)
      | [], [] => false)
  lay 20 12 k.next (if starved then lay 16 2 3 w else w)

/-- The word a register shows, by 17 R4 and R433: reads of words with no register, and of write-only fields, give zero. -/
def wordShown (s : State) (a : Nat) : Word :=
  if a = R.devState then lay 0 3 (devStateNow s) (rd s a)
  else if R.txcStat ≤ a ∧ a < R.txcStat + 16 ∧ a ≠ R.txcStat + 8 then txcView s ((a - R.txcStat) / 4) (rd s a)
  else shown s a

/-- Key of a capture. -/
def captKey (p : Port) (a : Nat) : Nat := 4 * a + portNo p

/-- The words a read captures are taken. -/
def capture (p : Port) (a : Nat) (s : State) : State :=
  each (fun h s => { s with capts := Map.put 0 s.capts (captKey p h) (wordShown s h) }) (captured a) s

/-- A word is read through a port: its value, and the state after (17 R435; 04 R125). OTP_STAT samples OTP_EN first (14 R396). -/
def readWord (p : Port) (a : Nat) (s : State) : Word × State :=
  let s := if a = R.otpStat then showEnable s else s
  let w := if isHigh a then Map.get 0 s.capts (captKey p a) else wordShown s a
  let s := capture p a s
  (w, match blockOf a with
    | (.chan n, o) => if o = R.rcTdata then tidxNext n s else s
    | _ => s)

/-- Words are read in ascending address order (12 R334). -/
def readWords (p : Port) : List Nat → State → List Word × State
  | [], s => ([], s)
  | a :: t, s =>
    let r := readWord p a s
    let rest := readWords p t r.2
    (r.1 :: rest.1, rest.2)

/-! ### Commands -/

/-- REGISTER_WRITE (00 R4): where the port may write there and the unit is present. -/
def execRegisterWrite (p : Port) (addr : Nat) (w : Word) (s : State) : Answer :=
  clocked s (fun t => if writeStatus t p addr [w] = 0 then writeWord p addr w t else t)

/-- LOW_WORD_READ (17 R435). -/
def execLowWordRead (p : Port) (addr : Nat) (s : State) : Answer :=
  clocked s (fun t => if readStatus t p addr 1 = 0 then capture p addr t else t)

end Sys2Proof.Machine
end

