-- ==== Sys2Proof/Machine/Link.lean ====
section
/-! DEFINITION. The Melic Link's flits: reception, sequence numbers, flow control, replay and transmission (12 R319 to R330, R335
to R337, R340, R341). -/

namespace Sys2Proof.Machine

/-! ### Acknowledgements and link errors (R327, R328, R341) -/

/-- A NAK for E - 1 is due. -/
def nak (c : Nat) (s : State) : State := updCls c (fun k => { k with nakDue := true, naked := true }) s

/-- The NAK of R327 for lost packets, sent once until E advances; true where it is due now. -/
def nakOnce (c : Nat) (s : State) : Bool × State := if (lcls s c).naked then (false, s) else (true, nak c s)

/-- LINK_ERR. -/
def linkErr (s : State) : State := flag R.lnkStat 10 s

/-- A packet error is counted (R341; log entry 72). -/
def packetErr (s : State) : State := bump R.lnkErrcnt 0 16 s |> linkErr

/-- An acknowledgement is due (R328). -/
def ackLater (s : State) : State := { s with link := { s.link with ackDue := true } }

/-- Flits of the receive buffer of a class (R324). -/
def rxSize (c : Nat) : Nat := if c = 2 then 1024 else 64

/-! ### Packets received (R320 to R322, R327, R331, R340) -/

/-- LEN of a HEAD flit. -/
def hLen (f : BitVec 256) : Nat := ffld f 48 13

/-- SEQ of a HEAD flit. -/
def hSeq (f : BitVec 256) : Nat := ffld f 16 12

/-- Header bytes 0 to 3. -/
def hWord (f : BitVec 256) : Nat := ffld f 0 32

/-- Flits of a packet in the receive buffer; those of an oversize or discarded one are freed as they come. -/
def heldFlits (o : RxOpen) : Nat := if o.discard then 0 else if 4096 < hLen o.head then 1 else 1 + o.body.length

/-- The open packet of a class is dropped; the rest of it up to LAST is discarded where `more`. -/
def dropOpen (c : Nat) (more : Bool) (s : State) : State :=
  match (lcls s c).open_ with
  | none => s
  | some o => freeFlits c (heldFlits o) s |> updCls c (fun k => { k with open_ := if more then some { o with body := [], discard := true } else none })

/-- The reserved bits of a header are 0, and its class is the tag's (R321). -/
def headerOk12 (c : Nat) (f : BitVec 256) : Bool :=
  ffld f 8 8 == c && ffld f 28 4 == 0 && ffld f 61 3 == 0 && ffld f 104 24 == 0 && ffld f 192 32 == 0

/-- Words of a payload. -/
def payloadWords : List Byte → List Word
  | a :: b :: c :: d :: t => BitVec.ofNat 32 (leVal [a, b, c, d]) :: payloadWords t
  | _ => []

/-- The port of a class that carries register accesses. -/
def tcPort (c : Nat) : Port := if c = 1 then .tc1 else .tc0

/-- The request of a packet (R331), or the violation code and the status of its completion (R333, R340). -/
def request (c : Nat) (f : BitVec 256) (data : List Byte) : Instr ⊕ (Nat × Nat) :=
  let len := hLen f
  let tag := ffld f 32 16
  let addr := ffld f 64 40
  let p0 := ffld f 128 32
  let p1 := ffld f 160 32
  let mask := BitVec.ofNat 32 p0
  let wrongTc : Instr ⊕ (Nat × Nat) := .inr (0x0B, 0x0B)
  let form (ok : Bool) (i : Instr) : Instr ⊕ (Nat × Nat) := if ok && headerOk12 c f then .inl i else .inr (0x0C, 0x0C)
  let reg (write : Bool) : Bool := decide (2 ≤ c) || (portRefusal (tcPort c) write (blockOf addr).1).isSome
  if 4096 < len then .inr (9, 0x0D)
  else match ffld f 0 8 with
    | 0x01 => if reg false then wrongTc else form (len == 0 && !badForm addr p0) (.regRd (tcPort c) tag addr p0)
    | 0x02 =>
      if reg true then wrongTc
      else form (len % 4 == 0 && !badForm addr (len / 4)) (.regWr (tcPort c) tag addr (payloadWords data))
    | 0x03 =>
      if c ≠ 0 then wrongTc
      else form (len == 0 && decide (p0 < 64) && decide (16 ≤ p1) && decide (p1 ≤ 4096) && p1 % 16 == 0) (.strRd tag p0 p1)
    | 0x04 => if c ≠ 0 then wrongTc else form (len == 0 && decide (p0 < 64)) (.strDrop tag p0)
    | 0x05 =>
      if c ≠ 0 then wrongTc
      else form (len == 0 && decide (p1 < 4))
        (match p1 with | 0 => .abortHalt tag mask | 1 => .abortHold tag mask | 2 => .abortOff tag mask | _ => .abortFurl tag mask)
    | 0x06 => if c ≠ 0 then wrongTc else form (len == 0) (.keepalive tag)
    | 0x20 => if c ≠ 2 then wrongTc else form (decide (0 < len) && decide (0x1000000000 ≤ addr)) (.bulkWr tag addr data)
    | 0x21 =>
      if c ≠ 2 then wrongTc
      else form (len == 0 && decide (0 < p0) && decide (p0 ≤ 4096) && decide (0x1000000000 ≤ addr)) (.bulkRd tag addr p0)
    | _ => .inr (0x0A, 0x0A)

/-- The class that carries the completion of a request that is not executed. -/
def answerClass (c : Nat) (opc : Nat) : Nat := if c = 2 ∨ opc = 3 then 3 else c

/-- A packet in order (R327): its number is taken; its request waits, or is answered at once. -/
def takePacket (c : Nat) (o : RxOpen) (data : List Byte) (s : State) : State :=
  let f := o.head
  let s := updCls c (fun k => { k with e := (k.e + 1) % 4096, av := true, naked := false }) s |> ackLater
  match request c f data with
  | .inl i => updCls c (fun k => { k with rx := k.rx ++ [{ cmd := i, flits := heldFlits o, seq := hSeq f }] }) s
  | .inr (code, st) =>
    freeFlits c (heldFlits o) s |> complete (answerClass c (ffld f 0 8)) (ffld f 0 8 % 128) (ffld f 32 16) st 0 0 []
      |> violation code c (hSeq f) (hWord f)

/-- The LAST flit of a packet has come: its CRC, then its number (R322, R327, R340). -/
def endPacket (c : Nat) (o : RxOpen) (s : State) : State :=
  let s := updCls c (fun k => { k with open_ := none }) s
  let data := (o.body.flatMap flitBytes).take (hLen o.head)
  if data.length < hLen o.head ∨ crc32 ((flitBytes o.head).take 28 ++ data) ≠ ffld o.head 224 32 then
    freeFlits c (heldFlits o) s |> packetErr |> nak c
  else
    let d := (hSeq o.head + 4096 - (lcls s c).e) % 4096
    if d = 0 then takePacket c o data s
    else
      let s := freeFlits c (heldFlits o) s
      if d < 1024 then (let r := nakOnce c s; if r.1 then packetErr r.2 else r.2)
      else if 3072 ≤ d then ackLater s
      else nak c s |> violation 7 c (hSeq o.head) (hWord o.head)

/-- LAST stands where LEN puts it (R320); an oversize packet runs to its LAST. -/
def lastRight (o : RxOpen) (last : Bool) : Bool :=
  decide (4096 < hLen o.head) || (last == decide (o.body.length = (hLen o.head + 31) / 32)
    && decide (o.body.length ≤ (hLen o.head + 31) / 32))

/-- A flit has joined the open packet of its class. -/
def grow (c : Nat) (o : RxOpen) (last trunc : Bool) (s : State) : State :=
  let s := updCls c (fun k => { k with open_ := some o }) s
  if !lastRight o last || trunc then dropOpen c (!last) s |> nak c |> violation 6 c (hSeq o.head) (hWord o.head)
  else if last then endPacket c o s
  else s

/-- A HEAD or BODY flit of TC0 to TC2 (R319, R320, R340). -/
def dataFlit (c : Nat) (isHead last trunc : Bool) (tag : Nat) (f : BitVec 256) (s : State) : State :=
  let k := lcls s c
  if rxSize c + k.adv ≤ k.rcvd then
    let fresh := !k.open_.any (fun o => o.discard)
    let s := dropOpen c false s |> updCls c (fun k => { k with open_ := if last then none else some { head := f, body := [], discard := true } })
    if fresh then nak c s |> violation 1 c 0 tag else s
  else
    let s := updCls c (fun k => { k with rcvd := k.rcvd + 1, resync := k.resync && !isHead }) s
    match k.open_ with
    | some o =>
      if isHead then
        dropOpen c false s |> freeFlits c 1
          |> updCls c (fun k => { k with open_ := if last then none else some { head := f, body := [], discard := true } })
          |> nak c |> violation 5 c (hSeq f) (hWord f)
      else if o.discard then freeFlits c 1 s |> whenB last (updCls c (fun k => { k with open_ := none }))
      else whenB (decide (4096 < hLen o.head)) (freeFlits c 1) s |> grow c { o with body := o.body ++ [f] } last trunc
    | none =>
      if isHead then grow c { head := f, body := [], discard := false } last trunc s
      else if k.resync then freeFlits c 1 s
      else freeFlits c 1 s |> nak c |> violation 4 c 0 tag

/-! ### Flow control received (R325, R328 to R330, R340) -/

/-- A class replays from its oldest packet, a packet still being sent included; after RPLY_MAX replays without progress the link retrains (R329). -/
def startReplay (c : Nat) (s : State) : State :=
  if max 1 (gf s R.lnkRply 16 4) ≤ (lcls s c).tries then retrain s
  else
    updCls c (fun k => { k with tries := k.tries + 1, resend := k.replay.length, redo := k.tx.isSome && !k.reOpen, since := s.now }) s
      |> bump R.lnkErrcnt 16 16

/-- CRED of a FLOW for a class (R325). -/
def creditBack (c cred : Nat) (s : State) : State :=
  let k := lcls s c
  let d := (cred + 65536 - k.lastCred) % 65536
  let s := updCls c (fun k => { k with lastCred := cred }) s
  let lim := if c = 2 then 0 else k.limit
  let av := if c = 2 then 0 else avail s c
  let s := if c = 2 then s else setAvail c (min lim (av + d)) s
  if lim < av + d then violation 2 c 0 0x100 s else s

/-- Number of the oldest packet not acknowledged, or of the next. -/
def oldestNo (k : Cls) : Nat :=
  match k.replay, k.tx with
  | (q, _) :: _, _ => q
  | [], some (q, _, _) => if k.reOpen then k.next else q
  | [], none => k.next

/-- ACK_SEQ, AV and NAK of a FLOW for a class (R328, R329). -/
def ackBack (c ack : Nat) (av isNak : Bool) (s : State) : State :=
  let k := lcls s c
  let a := if av then (ack + 4097 - oldestNo k) % 4096 else 0
  if k.replay.length < a then violation 0x0D c 0 0x100 s
  else
    let s := if a = 0 then s else
      updCls c (fun k => { k with replay := k.replay.drop a, resend := min k.resend (k.replay.length - a), since := s.now, tries := 0 }) s
    if !isNak then s
    else if (lcls s c).replay.isEmpty && ((lcls s c).tx.isNone || (lcls s c).reOpen) then violation 0x0D c 0 0x100 s
    else startReplay c s

/-- One class of a FLOW. -/
def flowClass (f : BitVec 256) (c : Nat) (s : State) : State :=
  let s := if linkUp s then creditBack c (ffld f (48 + 32 * c) 16) s else s
  if linkUp s then ackBack c (ffld f (32 + 32 * c) 12) (ffld f (45 + 32 * c) 1 == 1) (ffld f (44 + 32 * c) 1 == 1) s else s

/-- A FLOW flit (R325): without effect unless its CRC passes and the link is UP. -/
def flowReceived (f : BitVec 256) (s : State) : State :=
  if lctlOk f && ffld f 0 8 == 1 && linkUp s then each (flowClass f) [0, 1, 2, 3] s else s

/-- A link control flit (R323). -/
def lctlReceived (f : BitVec 256) (s : State) : State :=
  match ffld f 0 8 with
  | 1 => flowReceived f s
  | 2 => initReceived f s
  | _ => if lctlOk f then violation 0x0E 0 0 0x100 s else s

/-! ### Flit blocks (R316, R319, R340, R341) -/

/-- A tag of reserved value, or with a reserved bit set (R319). -/
def tagBad (t : Nat) : Bool :=
  t % 16 != 0 || (decide (t / 256 < 2) && t / 16 % 16 != 0) || (t / 16 % 2 == 1 && t / 32 % 2 == 0)

/-- A good flit block (R319). -/
def goodFlit (t : Nat) (f : BitVec 256) (s : State) : State :=
  let kind := t / 256
  let c := t / 64 % 4
  let isData := decide (2 ≤ kind)
  let s := if isData && linkUp s then count 0x21 c s else s
  if tagBad t then
    let s := if isData ∧ c < 3 ∧ linkUp s then updCls c (fun k => { k with rcvd := k.rcvd + 1 }) s |> freeFlits c 1 else s
    whenB (decide (c < 3)) (fun s => dropOpen c (!(isData && t / 32 % 2 == 1)) s |> nak c) s |> violation 3 c 0 t
  else if kind = 1 then lctlReceived f s
  else if !isData || !linkUp s then s
  else if c = 3 then violation 8 3 0 t s
  else dataFlit c (kind == 2) (t / 32 % 2 == 1) (t / 16 % 2 == 1) t f s

/-- A codeword has been decoded (R316, R341, R349). -/
def codeword (f : Fec) (s : State) : State :=
  match f with
  | .good => s
  | .corrected => bump R.lnkFec 0 16 s |> count 0x23 0
  | .uncorrectable => bump R.lnkFec 16 16 s |> linkErr

/-- A flit block: the codewords of its lane are counted; an uncorrectable one with a bit in the block costs it, and whatever it may
have belonged to is asked for again (R316, R341). -/
def flitIn (tag : BitVec 10) (f : BitVec 256) (fec : Fec) (began : List Fec) (s : State) : State :=
  if lnkState s < 4 then s
  else
    let s := each codeword began s
    if fec = .uncorrectable then
      each (fun c s => dropOpen c false s |> updCls c (fun k => { k with resync := true }) |> nak c) [0, 1, 2] s
    else goodFlit tag.toNat f s

/-! ### Requests taken into execution (R332) -/

/-- The next request to execute: TC0, then TC1, then TC2 while no other access of DDR5 is in progress. Its flits are freed; those of an
access of DDR5 as it has been executed (R325). -/
def nextRequest (s : State) : Option (Instr × State) :=
  if !linkUp s then none
  else
    ([0, 1, 2] : List Nat).findSome? (fun c =>
      match (lcls s c).rx with
      | r :: t => if c = 2 ∧ ¬ s.hostJobs.isEmpty then none
                  else
                    let s := updCls c (fun k => { k with rx := t, cur := r.seq, curFlits := if c = 2 then r.flits else 0 }) s
                    some (r.cmd, if c = 2 then s else freeFlits c r.flits s)
      | [] => none)

/-! ### Transmission (R320 to R323, R328, R335, R337) -/

/-- Flits a packet is sent in; a truncated one is shorter (R335). -/
def Pkt.sent (p : Pkt) : Nat := p.cut.getD p.flits

/-- The first 28 bytes of a HEAD flit (R321). -/
def pktHead (q : Nat) (p : Pkt) : List Byte :=
  leBytes 1 p.opc ++ leBytes 1 p.cls ++ leBytes 2 q ++ leBytes 2 p.tag ++ leBytes 2 p.data.length ++ leBytes 5 0
    ++ leBytes 1 p.status ++ leBytes 2 0 ++ leBytes 4 p.p0 ++ leBytes 4 p.p1 ++ leBytes 4 0

/-- Flit i of a packet numbered q, with its tag (R319 to R322). -/
def pktFlit (q : Nat) (p : Pkt) (i : Nat) : BitVec 10 × BitVec 256 :=
  let last := decide (i + 1 = p.sent)
  let tag := (if i = 0 then 512 else 768) + 64 * p.cls + 32 * b2n last + 16 * b2n (last && p.cut.isSome)
  (BitVec.ofNat 10 tag,
   if i = 0 then flitOf (pktHead q p ++ leBytes 4 (crc32 (pktHead q p ++ p.data))) else flitOf (p.data.drop (32 * (i - 1))))

/-- The part of a class in a FLOW flit (R323). -/
def flowPart (k : Cls) : Nat :=
  (k.e + 4095) % 4096 + 4096 * b2n k.nakDue + 8192 * b2n k.av + 65536 * (k.cred % 65536)

/-- The FLOW flit. -/
def flowFlit (s : State) : BitVec 256 :=
  lctlFlit (leBytes 4 1 ++ [0, 1, 2].flatMap (fun c => leBytes 4 (flowPart (lcls s c))) ++ leBytes 12 0)

/-- The INIT flit: the trained lanes, and for each class the buffer and the number expected (R323). -/
def initFlitOut (s : State) : BitVec 256 :=
  lctlFlit (leBytes 4 (2 + 256 + 65536 * s.link.lanes)
    ++ [0, 1, 2].flatMap (fun c => leBytes 4 (rxSize c + 65536 * (lcls s c).e)) ++ leBytes 12 0)

/-- The transmission time of a tick in the units of State.link.budget: 2800 bits to a lane, less FEC and tags (R316). -/
def tickBudget (s : State) : Nat := (lanesOf (gf s R.lnkStat 3 4)).length * (2800 * 514)

/-- A flit block in the same units. -/
def flitCost : Nat := 544 * 266

/-- The lanes in use, at least one. -/
def laneNum (s : State) : Nat := max 1 (lanesOf (gf s R.lnkStat 3 4)).length

/-- A block, counted over all lanes, is an alignment marker: every 4,096th of its lane (R316; log entry 100). -/
def isMarker (s : State) (b : Nat) : Bool := b / laneNum s % 4096 == 4095

/-- The lane of a block: round-robin in ascending order (R316). -/
def blockLane (s : State) (b : Nat) : Nat := (lanesOf (gf s R.lnkStat 3 4)).getD (b % laneNum s) 0

/-- The block the next flit goes into, after the markers that are due. -/
def flitSlot (s : State) : Nat :=
  if isMarker s s.link.blk then (s.link.blk / laneNum s + 1) * laneNum s else s.link.blk

/-- The transmit side has time for a flit. -/
def mayTransmit (s : State) : Bool := decide (flitCost * (flitSlot s + 1 - s.link.blk) ≤ s.link.budget)

/-- A flit goes out. -/
def putFlit (x : BitVec 10 × BitVec 256) (s : State) : State :=
  let b := flitSlot s
  { s with link := { s.link with out := some x, outLane := blockLane s b, blk := b + 1
                                 budget := s.link.budget - flitCost * (b + 1 - s.link.blk) } }

/-- The time nothing has used has gone into IDLE flits and markers (R319). -/
def idleFlits (s : State) : State :=
  { s with link := { s.link with blk := s.link.blk + s.link.budget / flitCost, budget := s.link.budget % flitCost } }

/-- A class can start its next packet (R325, R327, R329): first those to be sent again. -/
def canStart (s : State) (c : Nat) : Bool :=
  let k := lcls s c
  k.tx.isNone && (match k.replay.drop (k.replay.length - k.resend), k.txq with
    | (_, p) :: _, _ => decide (0 < k.resend) && decide (p.sent ≤ avail s c)
    | [], p :: _ => decide (p.flits ≤ avail s c) && decide (k.replay.length < 1024)
        && decide (32 * ((k.replay.map (fun r => r.2.flits)).sum + p.flits) ≤ 65536)
    | [], [] => false)

/-- The class starts it, at the cost of its credits. -/
def startPacket (c : Nat) (s : State) : State :=
  let k := lcls s c
  match k.replay.drop (k.replay.length - k.resend), k.txq with
  | (q, p) :: _, _ =>
    setAvail c (avail s c - p.sent) s |> count 0x22 c
      |> updCls c (fun k => { k with tx := some (q, p, 0), reOpen := true, resend := k.resend - 1 })
  | [], p :: t =>
    setAvail c (avail s c - p.flits) s
      |> updCls c (fun k => { k with tx := some (k.next, p, 0), reOpen := false, next := (k.next + 1) % 4096, txq := t })
  | [], [] => s

/-- The last flit of a packet is out: a new packet enters the replay buffer (R329, R336). -/
def packetOut (c q : Nat) (p : Pkt) (s : State) : State :=
  let again := (lcls s c).reOpen
  let s := updCls c (fun k =>
    { k with tx := none, reOpen := false, half := k.half.filter (fun h => h.1 != q), replay := if again then k.replay else k.replay ++ [(q, p)],
             resend := if !again && k.redo then k.resend + 1 else k.resend, redo := false,
             since := if k.replay.isEmpty then s.now else k.since }) s
  if again then s else noteSent p s

/-- Flit i of the open packet goes out for the first time: it is a new packet, or one of which the link went down before this flit. -/
def firstTime (k : Cls) (q i : Nat) : Bool := !k.reOpen || k.half.any (fun h => h.1 == q && decide (h.2 ≤ i))

/-- The next flit of the open packet of a class. -/
def sendData (c : Nat) (s : State) : State :=
  match (lcls s c).tx with
  | none => s
  | some (q, p, i) =>
    let s := putFlit (pktFlit q p i) s |> count 0x20 c
    let s := whenB (firstTime (lcls s c) q i) (drained p i) s
    if p.sent ≤ i + 1 then packetOut c q p s else updCls c (fun k => { k with tx := some (q, p, i + 1) }) s

/-- The FLOW flit goes out (R328). -/
def sendFlow (s : State) : State :=
  let s := putFlit (0x100, flowFlit s) s
  let s := each (fun c => updCls c (fun k => { k with adv := k.cred, nakDue := false })) [0, 1, 2] s
  { s with link := { s.link with flowDue := false, ackDue := false, lastFlow := s.now } }

/-- The class that may start its packet next on TC1 and TC3, which alternate (R337). -/
def newClass (s : State) : Option Nat :=
  let order : List Nat := if s.link.lastNew = 1 then [3, 1] else [1, 3]
  order.find? (canStart s)

/-- Some flit is ready. -/
def txReady (s : State) : Bool :=
  if lnkState s = 4 then !s.link.initSent
  else linkUp s && (s.link.flowDue || ([0, 1, 3] : List Nat).any (fun c => (lcls s c).tx.isSome || canStart s c))

/-- The flit slot goes to the first that is ready (R337). -/
def transmit (s : State) : State :=
  if !mayTransmit s then s
  else if lnkState s = 4 then
    if s.link.initSent then s else
      let s := putFlit (0x100, initFlitOut s) s
      { s with link := { s.link with initSent := true } }
  else if !linkUp s then s
  else if s.link.flowDue then sendFlow s
  else if (lcls s 0).tx.isSome then sendData 0 s
  else if canStart s 0 then startPacket 0 s |> sendData 0
  else if (lcls s 1).tx.isSome then sendData 1 s
  else if (lcls s 3).tx.isSome then sendData 3 s
  else match newClass s with
    | some c =>
      let s := startPacket c s |> sendData c
      { s with link := { s.link with lastNew := c } }
    | none => s

/-- A FLOW falls due (R328). -/
def flowFalls (s : State) : Bool :=
  linkUp s && !s.link.flowDue && (s.link.ackDue || ([0, 1, 2] : List Nat).any (fun c => (lcls s c).nakDue)
    || decide (s.link.lastFlow + 200 ≤ s.now))

/-- RPLY_TMO ticks have passed without progress (R329). -/
def replayLate (s : State) (c : Nat) : Bool :=
  let k := lcls s c
  linkUp s && !k.replay.isEmpty && decide (k.since + max 1 (gf s R.lnkRply 0 16) ≤ s.now)

/-- The lanes of a retrain run their loopback test, for 200 ticks before DETECT (13 R368; log entry 101). -/
def loopback (s : State) : Bool :=
  s.fc.tests.any (fun t => t.running && t.block.1 == 6 && decide (s.now < t.start + 200))

/-- A tick edge of the link: the completions of R338 are sent, a tick's transmission time is there, and after a loopback test the link
leaves DOWN (R317). -/
def linkEdge (s : State) : State :=
  let l := s.link.later
  let s := idleFlits s
  let s := each sendPacket l { s with link := { s.link with later := [], initSent := false, budget := s.link.budget + tickBudget s } }
  if lnkState s = 0 ∧ ¬ loopback s then setLnk 1 s else s

/-! ### Commands -/

/-- FLIT_BLOCK (R316). -/
def execFlitBlock (tag : BitVec 10) (flit : BitVec 256) (fec : Fec) (s : State) (began : List Fec := []) : Answer :=
  clocked s (flitIn tag flit fec began)

/-- FLOW (R325). -/
def execFlow (flit : BitVec 256) (s : State) : Answer := clocked s (flowReceived flit)

/-- FLOW_SEND (R328). -/
def execFlowSend (s : State) : Answer :=
  clocked s (fun t => if flowFalls t then { t with link := { t.link with flowDue := true } } else t)

/-- FLIT_TRANSMIT (R337). -/
def execFlitTransmit (s : State) : Answer := clocked s transmit

/-- REPLAY_TIMEOUT (R329). -/
def execReplayTimeout (c : Nat) (s : State) : Answer := clocked s (fun t => if replayLate t c then startReplay c t else t)

end Sys2Proof.Machine
end

