-- ==== Sys2Proof/Machine/Modes.lean ====
section
/-! DEFINITION. The commands of chapter 02: modes, pulses, limits, ranges, descriptors and the Range Control Bus. -/

namespace Sys2Proof.Machine

/-- MODE_WRITE (R51, R52, R56). -/
def execModeWrite (n : Nat) (w : Word) (s : State) : Answer := onChan n s (writeMode n (fld w 0 4))

/-- HELD_MODE_LANDS (R56). -/
def execHeldModeLands (n : Nat) (s : State) : Answer := whenDue n (fun t => heldModeDue t n) s (landHeldMode n)

/-- CONNECTING_END (R53). -/
def execConnectingEnd (n : Nat) (s : State) : Answer := whenDue n (fun t => connectingEndDue t n) s (endConnecting n)

/-- MODE_COMMIT_FROM_MEASURE (R55). -/
def execModeCommitFromMeasure (n : Nat) (s : State) : Answer := whenDue n (fun t => fromMeasDue t n) s (commitFromMeas n)

/-- CH_CTRL_PULSE_GO (R63, R64). -/
def execChCtrlPulseGo (n : Nat) (s : State) : Answer := onChan n s (pulseGo n)

/-- CH_CTRL_PULSE_STOP (R64). -/
def execChCtrlPulseStop (n : Nat) (s : State) : Answer := onChan n s (pulseStop n)

/-- CH_CTRL_CNT_CLR (R49). -/
def execChCtrlCntClr (n : Nat) (s : State) : Answer := onChan n s (clearChCnt n)

/-- PULSE_BEGIN (R63). -/
def execPulseBegin (n : Nat) (s : State) : Answer := whenDue n (fun t => pulseBeginDue t n) s (beginPulse n)

/-- PULSE_END (R63). -/
def execPulseEnd (n : Nat) (s : State) : Answer := whenDue n (fun t => pulseEndDue t n) s (endPulse n)

/-- The offset of a limit register. -/
def isLimit (off : Nat) : Bool := off == R.vlimHi || off == R.vlimLo || off == R.ilimHi || off == R.ilimLo

/-- LIMIT_WRITE (R57). -/
def execLimitWrite (n off : Nat) (w : Word) (s : State) : Answer := onChan n s (whenB (isLimit off) (accept n (.limit off w)))

/-- RANGE_WRITE (R71). -/
def execRangeWrite (n : Nat) (w : Word) (s : State) : Answer := onChan n s (rngSelWrite n w)

/-- HELD_RANGE_DECISION (R71). -/
def execHeldRangeDecision (n : Nat) (s : State) : Answer := whenDue n (fun t => heldRangeDue t n) s (takeHeldRange n)

/-- AUTORANGE_DECISION (R72). -/
def execAutorangeDecision (n : Nat) (s : State) : Answer := whenDue n (fun t => (chan t n).arDue.isSome) s (autoDecide n)

/-- TACK_DECISION (R74). -/
def execTackDecision (n : Nat) (s : State) : Answer := whenDue n (fun t => tackDue t n) s (decideTack n)

/-- CROSSFADE_STEP (R75). -/
def execCrossfadeStep (n : Nat) (s : State) : Answer := whenDue n (fun t => fadeDue t n) s (fade n)

/-- BANK_SWITCH (R74). -/
def execBankSwitch (n : Nat) (s : State) : Answer := whenDue n (fun t => bankDue t n) s (switchBank n)

/-- BREAK_BEFORE_MAKE_DECISION (R77). -/
def execBreakBeforeMakeDecision (n : Nat) (s : State) : Answer := whenDue n (fun t => bbmDue t n) s (decideBbm n)

/-- BREAK_BEFORE_MAKE_RESUME (R77). -/
def execBreakBeforeMakeResume (n : Nat) (s : State) : Answer := whenDue n (fun t => resumeDue t n) s (resumeBbm n)

/-- DESCRIPTOR_WRITE (R69), at an offset of the channel window. -/
def execDescriptorWrite (n off : Nat) (w : Word) (s : State) : Answer :=
  onChan n s (whenB (decide (R.desc ≤ off) && decide (off < R.desc + 0x100)) (descWrite n off w))

/-! ### The Range Control Bus (R79 to R88) -/

/-- FRAME_SHIFT (R85). -/
def execFrameShift (g : Nat) (s : State) : Answer :=
  whenGroup g (fun t => (nextShift t g).isSome) s (fun t => match nextShift t g with | some fr => startShift g fr t | none => t)

/-- LATCH_WORD (R80). -/
def execLatchWord (g : Nat) (s : State) : Answer :=
  whenGroup g (fun t => (nextLatch t g).isSome) s (fun t => match nextLatch t g with | some fr => sendLatch g fr t | none => t)

/-- FRAME_FIRE (R80). -/
def execFrameFire (g : Nat) (s : State) : Answer := whenGroup g (fun t => (firing t g).isSome) s (fireFrame g)

/-- STATUS_FRAME (R83). -/
def execStatusFrame (g : Nat) (late : Bool) (bits : BitVec 48) (s : State) : Answer :=
  whenGroup g (fun t => (awaiting t g).isSome) s (takeStatus g late bits.toNat)

/-- The time for an acknowledgement has passed, counted from the firing (R83). -/
def ackLate (s : State) (g k : Nat) : Bool := (awaiting s g).any (fun x => decide (x.2 + k ≤ s.now))

/-- A frame's acknowledgement has not come (R83, R84). -/
def ackMissing (g : Nat) (s : State) : State := match awaiting s g with | some (fr, f) => rcbError fr f 0xFFFF s | none => s

/-- ACK_TIMEOUT (R83). -/
def execAckTimeout (g : Nat) (s : State) : Answer := whenGroup g (fun t => ackLate t g 3) s (ackMissing g)

/-- RCB_NOACK (R84). -/
def execRcbNoack (g : Nat) (s : State) : Answer :=
  whenGroup g (fun t => (failedDue t g).isSome) s (fun t => match failedDue t g with | some fr => noAck fr t | none => t)

/-- RCB_CLOCK_RESTART (R88). -/
def execRcbClockRestart (s : State) : Answer := clocked s (fun t => whenB (rcbRestartDue t) rcbRestart t)

end Sys2Proof.Machine
end

