-- ==== Sys2Proof/Machine/Requests.lean ====
section
/-! DEFINITION. The host's requests: register accesses, stream reads, ABORT, KEEPALIVE and the heartbeat, bulk accesses, and
MGMT_SPI (12 R331 to R347). -/

namespace Sys2Proof.Machine

/-! ### Register accesses (R334; 17 R433) -/

/-- The class of a port. -/
def portClass (p : Port) : Nat := if p = .tc1 then 1 else 0

/-- A REG_RD (R334): its words and its completion. MGMT_SPI carries no packets. -/
def regRead (p : Port) (tag addr words : Nat) (s : State) : State :=
  if p = .spi then s
  else
    let st := readStatus s p addr words
    let r := if st = 0 then readWords p (wordAddrs addr words) s
      else (if st = 1 then List.replicate words 0 else [], s)
    complete (portClass p) 1 tag st 0 0 (r.1.flatMap wBytes) r.2

/-- A REG_WR (R333, R334): more than 4,096 bytes are OVERSIZE; else every word that passes is written, and the first refusal among them is its status (07 R204, 11 R307). -/
def regWrite (p : Port) (tag addr : Nat) (ws : List Word) (s : State) : State :=
  if p = .spi then s
  else
    let st := if 1024 < ws.length then 0x0D else writeStatus s p addr ws
    if st = 0 then complete (portClass p) 2 tag (wordsStatus p addr ws s) 0 0 [] (writeWords p addr ws s)
    else complete (portClass p) 2 tag st 0 0 [] s

/-! ### Streams (R331; 11 R305, R307) -/

/-- A STR_RD (11 R305): absent stream, illegal size, a ninth outstanding read (R340), or one more read in order. -/
def strRead (tag k maxb : Nat) (s : State) : State :=
  let seq := (rd s (stA k R.strPktseq)).toNat
  if !hasStream s k then complete 3 3 tag 1 k 0 [] s
  else if maxb < 16 ∨ 4096 < maxb ∨ maxb % 16 ≠ 0 then complete 3 3 tag 0x0C k seq [] s
  else if 8 ≤ (strm s k).reads.length then
    let q := (lcls s 0).cur
    complete 3 3 tag 9 k seq [] s |> violation 0x0F 0 q (3 + 65536 * q)
  else updStrm k (fun t => { t with reads := t.reads ++ [{ tag, maxb, oldest := none, due := none }] }) s |> readHead k

/-- A STR_DROP (11 R307). -/
def strDropReq (tag k : Nat) (s : State) : State :=
  if !hasStream s k then complete 0 4 tag 1 0 0 [] s
  else
    let r := strDropCmd k s
    complete 0 4 tag (if r.1 then 0 else 8) 0 0 [] r.2

/-! ### ABORT (R338) -/

/-- The present channels of a mask. -/
def maskChans (s : State) (mask : Word) : List Nat := (chans s).filter (fun n => bit mask n)

/-- The completion of an ABORT is sent in the next tick. -/
def abortDone (tag : Nat) (s : State) : State :=
  { s with link := { s.link with later := s.link.later ++
      [{ cls := 0, opc := 0x85, tag, status := 0, p0 := 0, p1 := 0, data := [] }] } }

/-- Channels react at the next tick; the force-side writes accepted for them in this one are overridden, be there an effect on the
channel or none (R338, R344; 01 R19). -/
def abortReact (act : Act) (l : List Nat) (s : State) : State :=
  react (s.now + 1) l .halt none s |> whenB (act != .halt) (react (s.now + 1) l act none)

/-- The contexts of channels are halted, and the channels react at the next tick. -/
def haltAnd (act : Act) (l : List Nat) (s : State) : State := abortReact act l (each haltNext l s)

/-! ### KEEPALIVE and the heartbeat (R344, R345) -/

/-- A KEEPALIVE executes: it restarts the count, arms the check where EN is set, and returns TICKTIME. -/
def keepAlive (tag : Nat) (s : State) : State :=
  let s := whenB (gb s R.hbCfg 0) (sb R.hbStat 0 true) { s with link := { s.link with hbLast := s.now } }
  complete 0 6 tag 0 (ticktime s % 2 ^ 32) (ticktime s / 2 ^ 32) [] s

/-- The count reaches KA_PER in this tick, and no KEEPALIVE has executed in it (R345). -/
def heartLate (s : State) : Bool :=
  gb s R.hbCfg 0 && gb s R.hbStat 0 && decide (s.link.hbLast + max 200 (gf s R.hbCfg 8 24) ≤ s.now)

/-- A heartbeat loss. -/
def heartLost (s : State) : State :=
  let s := flag R.hbStat 1 s |> bump R.hbStat 8 8 |> sb R.hbStat 0 false
  let s := sendMsg 2 0x32 0 (gf s R.hbStat 8 8) s
  match gf s R.hbCfg 1 2 with
  | 0 => haltAnd .hold84 (chans s) s
  | 2 => abortReact .halt (chans s) s |> react (s.now + 1) [] .dev none
  | _ => haltAnd .off (chans s) s

/-! ### MGMT_SPI (R346, R347) -/

/-- The answer of a transaction: data, status and the CRC-8 over the bits the device sends. -/
def spiAnswer (isRead : Bool) (data : Word) (st : Nat) (s : State) : State :=
  let check := if isRead then crc8 (msbBits 40 (data.toNat * 256 + st)) else crc8 (msbBits 8 st)
  { s with spiOut := some (if isRead then data else 0, st, check) }

/-- A transaction is served: locked, or after a loss a read of the DEVICE and FAULT blocks (R347; 14 R388). -/
def spiServed (s : State) (isRead : Bool) (addr : Nat) : Bool :=
  running s || ((gb s R.clkStat 2 || gb s R.clkStat 3) && isRead &&
    (match (blockOf addr).1 with | .device | .fault => true | _ => false))

/-- A transaction fails (R349; log entry 97). -/
def spiFail (s : State) : State := bump R.spiStat 8 8 s

/-- A failed check. -/
def spiBad (s : State) : State := flag R.spiStat 0 s |> spiFail

/-- A transaction that ends before its check has no answer and no effect (R346). -/
def spiCut (s : State) : State := spiFail { s with spiOut := none }

/-- A refused access of a register (R347). -/
def spiRefused (isRead : Bool) (st : Nat) (s : State) : State :=
  whenB (st == 0x0E) (flag R.spiStat 1) s |> spiFail |> spiAnswer isRead 0 st

/-- A READ transaction, or one of an unknown command, which has no data. -/
def spiRead (cmd : Byte) (addr : Nat) (crc : Byte) (cut : Bool) (s : State) : State :=
  let known := cmd == 3
  if !spiServed s known addr then (if cut then { s with spiOut := none } else spiAnswer known 0 3 s)
  else if cut then spiCut s
  else if crc8 (msbBits 48 (cmd.toNat * 2 ^ 40 + addr % 2 ^ 40)) ≠ crc.toNat then spiBad s |> spiAnswer known 0 0x0C
  else if !known then spiFail s |> spiAnswer false 0 0x0C
  else
    let st := readStatus s .spi addr 1
    if st = 0 then (let r := readWord .spi addr s; spiAnswer true r.1 0 r.2) else spiRefused true st s

/-- A WRITE transaction. -/
def spiWrite (addr : Nat) (w : Word) (crc : Byte) (cut : Bool) (s : State) : State :=
  if !spiServed s false addr then (if cut then { s with spiOut := none } else spiAnswer false 0 3 s)
  else if cut then spiCut s
  else if crc8 (msbBits 80 ((2 * 2 ^ 40 + addr % 2 ^ 40) * 2 ^ 32 + w.toNat)) ≠ crc.toNat then spiBad s |> spiAnswer false 0 0x0C
  else
    let st := writeStatus s .spi addr [w]
    if st = 0 then writeWord .spi addr w s |> spiAnswer false 0 0 else spiRefused false st s

/-! ### Commands -/

/-- REG_RD (R334). -/
def execRegRd (p : Port) (tag addr words : Nat) (s : State) : Answer := clocked s (regRead p tag addr words)

/-- REG_WR (R334). -/
def execRegWr (p : Port) (tag addr : Nat) (ws : List Word) (s : State) : Answer := clocked s (regWrite p tag addr ws)

/-- STR_RD (R331; 11 R305). -/
def execStrRd (tag k maxb : Nat) (s : State) : Answer := clocked s (strRead tag k maxb)

/-- STR_DROP (R331; 11 R307). -/
def execStrDrop (tag k : Nat) (s : State) : Answer := clocked s (strDropReq tag k)

/-- ABORT HALT (R338). -/
def execAbortHalt (tag : Nat) (mask : Word) (s : State) : Answer :=
  clocked s (fun t => haltAnd .halt (maskChans t mask) t |> abortDone tag)

/-- ABORT HOLD (R338). -/
def execAbortHold (tag : Nat) (mask : Word) (s : State) : Answer :=
  clocked s (fun t => haltAnd .hold84 (maskChans t mask) t |> abortDone tag)

/-- ABORT OFF (R338). -/
def execAbortOff (tag : Nat) (mask : Word) (s : State) : Answer :=
  clocked s (fun t => haltAnd .off (maskChans t mask) t |> abortDone tag)

/-- ABORT FURL (R338). -/
def execAbortFurl (tag : Nat) (mask : Word) (s : State) : Answer :=
  clocked s (fun t => abortReact .furl (maskChans t mask) t |> abortDone tag)

/-- KEEPALIVE (R344). -/
def execKeepalive (tag : Nat) (s : State) : Answer := clocked s (keepAlive tag)

/-- BULK_WR (11 R289). -/
def execBulkWr (tag addr : Nat) (data : List Byte) (s : State) : Answer := clocked s (fun t => bulkWrite tag addr data t |> pumpJobs)

/-- BULK_RD (R331). -/
def execBulkRd (tag addr len : Nat) (s : State) : Answer := clocked s (fun t => bulkRead tag addr len t |> pumpJobs)

/-- LINK_HB (R344). -/
def execLinkHb (s : State) : Answer := clocked s (fun t => if heartLate t then heartLost t else t)

/-- MGMT_SPI READ (R346). -/
def execMgmtSpiRead (addr : Nat) (crc : Byte) (s : State) (cmd : Byte := 3) (cut : Bool := false) : Answer :=
  live s (spiRead cmd addr crc cut)

/-- MGMT_SPI WRITE (R346). -/
def execMgmtSpiWrite (addr : Nat) (w : Word) (crc : Byte) (s : State) (cut : Bool := false) : Answer :=
  live s (spiWrite addr w crc cut)

end Sys2Proof.Machine
end

