-- ==== Sys2Proof/Machine/Dispatch.lean ====
section
/-! DEFINITION. What each command does: one arm per constructor of Instr. -/

namespace Sys2Proof.Machine

/-- The effect of a command on everything but the queue. -/
def exec (i : Instr) (s : State) : Host.Outcome State Fault Refusal :=
  match i with
  | .registerWrite p addr w => Sys2Proof.Machine.execRegisterWrite p addr w s
  | .lowWordRead p addr => Sys2Proof.Machine.execLowWordRead p addr s
  | .loopComputation g ins => Sys2Proof.Machine.execLoopComputation g ins s
  | .loopDeadline n => Sys2Proof.Machine.execLoopDeadline n s
  | .pllLocked => Sys2Proof.Machine.execPllLocked s
  | .refclkLoss => Sys2Proof.Machine.execRefclkLoss s
  | .pllUnlock => Sys2Proof.Machine.execPllUnlock s
  | .tickCtrlMark => Sys2Proof.Machine.execTickCtrlMark s
  | .tickCtrlRelock => Sys2Proof.Machine.execTickCtrlRelock s
  | .ticktimeLoad => Sys2Proof.Machine.execTicktimeLoad s
  | .tickInEdge cyc => Sys2Proof.Machine.execTickInEdge cyc s
  | .locked => Sys2Proof.Machine.execLocked s
  | .markerDetect => Sys2Proof.Machine.execMarkerDetect s
  | .tickLoss => Sys2Proof.Machine.execTickLoss s
  | .evSw w => Sys2Proof.Machine.execEvSw w s
  | .eventLineAssert e => Sys2Proof.Machine.execEventLineAssert e s
  | .triggerInputEdge pin level => Sys2Proof.Machine.execTriggerInputEdge pin level s
  | .triggerPulseEnd pin => Sys2Proof.Machine.execTriggerPulseEnd pin s
  | .clrNAssert => Sys2Proof.Machine.execClrNAssert s
  | .clrNRecognised => Sys2Proof.Machine.execClrNRecognised s
  | .clrNDeassert => Sys2Proof.Machine.execClrNDeassert s
  | .clrLatchClear => Sys2Proof.Machine.execClrLatchClear s
  | .rcbClockRestart => Sys2Proof.Machine.execRcbClockRestart s
  | .modeWrite n w => Sys2Proof.Machine.execModeWrite n w s
  | .heldModeLands n => Sys2Proof.Machine.execHeldModeLands n s
  | .connectingEnd n => Sys2Proof.Machine.execConnectingEnd n s
  | .modeCommitFromMeasure n => Sys2Proof.Machine.execModeCommitFromMeasure n s
  | .chCtrlPulseGo n => Sys2Proof.Machine.execChCtrlPulseGo n s
  | .chCtrlPulseStop n => Sys2Proof.Machine.execChCtrlPulseStop n s
  | .chCtrlCntClr n => Sys2Proof.Machine.execChCtrlCntClr n s
  | .pulseBegin n => Sys2Proof.Machine.execPulseBegin n s
  | .pulseEnd n => Sys2Proof.Machine.execPulseEnd n s
  | .limitWrite n off w => Sys2Proof.Machine.execLimitWrite n off w s
  | .rangeWrite n w => Sys2Proof.Machine.execRangeWrite n w s
  | .heldRangeDecision n => Sys2Proof.Machine.execHeldRangeDecision n s
  | .autorangeDecision n => Sys2Proof.Machine.execAutorangeDecision n s
  | .tackDecision n => Sys2Proof.Machine.execTackDecision n s
  | .crossfadeStep n => Sys2Proof.Machine.execCrossfadeStep n s
  | .bankSwitch n => Sys2Proof.Machine.execBankSwitch n s
  | .breakBeforeMakeDecision n => Sys2Proof.Machine.execBreakBeforeMakeDecision n s
  | .breakBeforeMakeResume n => Sys2Proof.Machine.execBreakBeforeMakeResume n s
  | .descriptorWrite n off w => Sys2Proof.Machine.execDescriptorWrite n off w s
  | .frameShift g => Sys2Proof.Machine.execFrameShift g s
  | .latchWord g => Sys2Proof.Machine.execLatchWord g s
  | .frameFire g => Sys2Proof.Machine.execFrameFire g s
  | .statusFrame g late bits => Sys2Proof.Machine.execStatusFrame g late bits s
  | .ackTimeout g => Sys2Proof.Machine.execAckTimeout g s
  | .rcbNoack g => Sys2Proof.Machine.execRcbNoack g s
  | .loopCfgWrite n w => Sys2Proof.Machine.execLoopCfgWrite n w s
  | .loopCtrlOpen n => Sys2Proof.Machine.execLoopCtrlOpen n s
  | .loopCtrlClose n => Sys2Proof.Machine.execLoopCtrlClose n s
  | .spWrite n w => Sys2Proof.Machine.execSpWrite n w s
  | .secCommit n w => Sys2Proof.Machine.execSecCommit n w s
  | .bankWrite n off w => Sys2Proof.Machine.execBankWrite n off w s
  | .rcCfgWrite n w => Sys2Proof.Machine.execRcCfgWrite n w s
  | .rcCtrlClear n => Sys2Proof.Machine.execRcCtrlClear n s
  | .rcCtrlBackup n => Sys2Proof.Machine.execRcCtrlBackup n s
  | .rcCtrlRestore n => Sys2Proof.Machine.execRcCtrlRestore n s
  | .rcTransferDone n => Sys2Proof.Machine.execRcTransferDone n s
  | .rcTdataAccess p n wr => Sys2Proof.Machine.execRcTdataAccess p n wr s
  | .rcEntryEnd n => Sys2Proof.Machine.execRcEntryEnd n s
  | .luffWindowEnd n => Sys2Proof.Machine.execLuffWindowEnd n s
  | .loopLuff n => Sys2Proof.Machine.execLoopLuff n s
  | .luffCtrlReefSet n => Sys2Proof.Machine.execLuffCtrlReefSet n s
  | .luffCtrlReefRel n => Sys2Proof.Machine.execLuffCtrlReefRel n s
  | .luffCtrlRestart n => Sys2Proof.Machine.execLuffCtrlRestart n s
  | .injCtrlGo n => Sys2Proof.Machine.execInjCtrlGo n s
  | .injCtrlStop n => Sys2Proof.Machine.execInjCtrlStop n s
  | .injectionEnd n => Sys2Proof.Machine.execInjectionEnd n s
  | .captureHeaderWrite n => Sys2Proof.Machine.execCaptureHeaderWrite n s
  | .captureTrailerWrite n => Sys2Proof.Machine.execCaptureTrailerWrite n s
  | .pairCfgWrite n w => Sys2Proof.Machine.execPairCfgWrite n w s
  | .interleaveBlockEnd n pa est => Sys2Proof.Machine.execInterleaveBlockEnd n pa est s
  | .apCtrlGo n pa => Sys2Proof.Machine.execApCtrlGo n pa s
  | .apCtrlStop n pa => Sys2Proof.Machine.execApCtrlStop n pa s
  | .apertureClose n pa => Sys2Proof.Machine.execApertureClose n pa s
  | .lineTmo n pa => Sys2Proof.Machine.execLineTmo n pa s
  | .rawCtrlGo n => Sys2Proof.Machine.execRawCtrlGo n s
  | .rawCtrlStop n => Sys2Proof.Machine.execRawCtrlStop n s
  | .rawCaptureEnd n => Sys2Proof.Machine.execRawCaptureEnd n s
  | .calLowWordWrite p e w => Sys2Proof.Machine.execCalLowWordWrite p e w s
  | .calHighWordWrite p e w => Sys2Proof.Machine.execCalHighWordWrite p e w s
  | .calLdGo n w => Sys2Proof.Machine.execCalLdGo n w s
  | .calLoadDone n => Sys2Proof.Machine.execCalLoadDone n s
  | .spanWrite n w => Sys2Proof.Machine.execSpanWrite n w s
  | .dacClrWrite n w => Sys2Proof.Machine.execDacClrWrite n w s
  | .conversionSlotBoundary g => Sys2Proof.Machine.execConversionSlotBoundary g s
  | .conversionResult g res => Sys2Proof.Machine.execConversionResult g res s
  | .injReq g k w => Sys2Proof.Machine.execInjReq g k w s
  | .maCtrlCal g => Sys2Proof.Machine.execMaCtrlCal g s
  | .calibrationComplete g => Sys2Proof.Machine.execCalibrationComplete g s
  | .monCal g => Sys2Proof.Machine.execMonCal g s
  | .genCtrlPrime n d => Sys2Proof.Machine.execGenCtrlPrime n d s
  | .genCtrlStart n d => Sys2Proof.Machine.execGenCtrlStart n d s
  | .genCtrlStop n => Sys2Proof.Machine.execGenCtrlStop n s
  | .genCtrlJump n d => Sys2Proof.Machine.execGenCtrlJump n d s
  | .genCtrlJumpNow n d => Sys2Proof.Machine.execGenCtrlJumpNow n d s
  | .genCtrlMark n back => Sys2Proof.Machine.execGenCtrlMark n back s
  | .genCtrlRewind n => Sys2Proof.Machine.execGenCtrlRewind n s
  | .genCtrlUnmark n => Sys2Proof.Machine.execGenCtrlUnmark n s
  | .genDescriptorWrite n off w => Sys2Proof.Machine.execGenDescriptorWrite n off w s
  | .commitPoint n => Sys2Proof.Machine.execCommitPoint n s
  | .playEnd n => Sys2Proof.Machine.execPlayEnd n s
  | .jumpNowBoundary n => Sys2Proof.Machine.execJumpNowBoundary n s
  | .replayEnd n => Sys2Proof.Machine.execReplayEnd n s
  | .refillRequest n => Sys2Proof.Machine.execRefillRequest n s
  | .refillBurst n => Sys2Proof.Machine.execRefillBurst n s
  | .genUnderrun n => Sys2Proof.Machine.execGenUnderrun n s
  | .underrunEnd n => Sys2Proof.Machine.execUnderrunEnd n s
  | .ddsFtwLoWrite p n w => Sys2Proof.Machine.execDdsFtwLoWrite p n w s
  | .ddsFtwHiWrite p n w => Sys2Proof.Machine.execDdsFtwHiWrite p n w s
  | .ddsTabWrite n k w => Sys2Proof.Machine.execDdsTabWrite n k w s
  | .ddsCtrlGo n => Sys2Proof.Machine.execDdsCtrlGo n s
  | .ddsCtrlHalt n => Sys2Proof.Machine.execDdsCtrlHalt n s
  | .ddsCtrlPhaseReset n => Sys2Proof.Machine.execDdsCtrlPhaseReset n s
  | .seqCmdBind n x => Sys2Proof.Machine.execSeqCmdBind n x s
  | .seqCmdHalt n => Sys2Proof.Machine.execSeqCmdHalt n s
  | .seqCmdResume n => Sys2Proof.Machine.execSeqCmdResume n s
  | .seqCmdUnbind n => Sys2Proof.Machine.execSeqCmdUnbind n s
  | .contextStoreWrite x off w => Sys2Proof.Machine.execContextStoreWrite x off w s
  | .pinLoadDone n => Sys2Proof.Machine.execPinLoadDone n s
  | .cacheFill line evict upset => Sys2Proof.Machine.execCacheFill line evict s upset
  | .icCtrlFlush => Sys2Proof.Machine.execIcCtrlFlush s
  | .waitExpiry n => Sys2Proof.Machine.execWaitExpiry n s
  | .waitevTimeout n => Sys2Proof.Machine.execWaitevTimeout n s
  | .resourceGrant r => Sys2Proof.Machine.execResourceGrant r s
  | .nop n f => Sys2Proof.Machine.execNop n f s
  | .halt n f => Sys2Proof.Machine.execHalt n f s
  | .jmp n f => Sys2Proof.Machine.execJmp n f s
  | .brCc n f => Sys2Proof.Machine.execBrCc n f s
  | .call n f => Sys2Proof.Machine.execCall n f s
  | .ret n f => Sys2Proof.Machine.execRet n f s
  | .loop n f => Sys2Proof.Machine.execLoop n f s
  | .mov n f => Sys2Proof.Machine.execMov n f s
  | .ldi n f => Sys2Proof.Machine.execLdi n f s
  | .add n f => Sys2Proof.Machine.execAdd n f s
  | .sub n f => Sys2Proof.Machine.execSub n f s
  | .mul n f => Sys2Proof.Machine.execMul n f s
  | .shl n f => Sys2Proof.Machine.execShl n f s
  | .shr n f => Sys2Proof.Machine.execShr n f s
  | .andOp n f => Sys2Proof.Machine.execAndOp n f s
  | .orOp n f => Sys2Proof.Machine.execOrOp n f s
  | .xorOp n f => Sys2Proof.Machine.execXorOp n f s
  | .cmp n f => Sys2Proof.Machine.execCmp n f s
  | .mode n f => Sys2Proof.Machine.execMode n f s
  | .range n f => Sys2Proof.Machine.execRange n f s
  | .force n f => Sys2Proof.Machine.execForce n f s
  | .limit n f => Sys2Proof.Machine.execLimit n f s
  | .ramp n f => Sys2Proof.Machine.execRamp n f s
  | .loopOpen n f => Sys2Proof.Machine.execLoopOpen n f s
  | .loopClose n f => Sys2Proof.Machine.execLoopClose n f s
  | .coefStage n f => Sys2Proof.Machine.execCoefStage n f s
  | .coefCommit n f => Sys2Proof.Machine.execCoefCommit n f s
  | .coefRc n f => Sys2Proof.Machine.execCoefRc n f s
  | .coefReef n f => Sys2Proof.Machine.execCoefReef n f s
  | .meas n f => Sys2Proof.Machine.execMeas n f s
  | .measStop n f => Sys2Proof.Machine.execMeasStop n f s
  | .mread n f => Sys2Proof.Machine.execMread n f s
  | .emit n f => Sys2Proof.Machine.execEmit n f s
  | .genPrime n f => Sys2Proof.Machine.execGenPrime n f s
  | .genStart n f => Sys2Proof.Machine.execGenStart n f s
  | .genStop n f => Sys2Proof.Machine.execGenStop n f s
  | .genUnmark n f => Sys2Proof.Machine.execGenUnmark n f s
  | .seg n f => Sys2Proof.Machine.execSeg n f s
  | .dds n f => Sys2Proof.Machine.execDds n f s
  | .mark n f => Sys2Proof.Machine.execMark n f s
  | .rewind n f => Sys2Proof.Machine.execRewind n f s
  | .jump n f => Sys2Proof.Machine.execJump n f s
  | .listLd n f => Sys2Proof.Machine.execListLd n f s
  | .listNext n f => Sys2Proof.Machine.execListNext n f s
  | .listEntryArrival n => Sys2Proof.Machine.execListEntryArrival n s
  | .wait n f => Sys2Proof.Machine.execWait n f s
  | .waitev n f => Sys2Proof.Machine.execWaitev n f s
  | .trig n f => Sys2Proof.Machine.execTrig n f s
  | .trigPin n f => Sys2Proof.Machine.execTrigPin n f s
  | .sync n f => Sys2Proof.Machine.execSync n f s
  | .acq n f => Sys2Proof.Machine.execAcq n f s
  | .rel n f => Sys2Proof.Machine.execRel n f s
  | .etarm n f => Sys2Proof.Machine.execEtarm n f s
  | .etread n f => Sys2Proof.Machine.execEtread n f s
  | .chain n f => Sys2Proof.Machine.execChain n f s
  | .yield n f => Sys2Proof.Machine.execYield n f s
  | .notify n f => Sys2Proof.Machine.execNotify n f s
  | .etCtrlArm u => Sys2Proof.Machine.execEtCtrlArm u s
  | .etCtrlStats u => Sys2Proof.Machine.execEtCtrlStats u s
  | .etCtrlStop u => Sys2Proof.Machine.execEtCtrlStop u s
  | .edge u src f cyc up => Sys2Proof.Machine.execEdge u src f cyc s up
  | .measurementComplete u => Sys2Proof.Machine.execMeasurementComplete u s
  | .measurementOverflow u => Sys2Proof.Machine.execMeasurementOverflow u s
  | .resultBlockWrite u => Sys2Proof.Machine.execResultBlockWrite u s
  | .tbGateEnd len => Sys2Proof.Machine.execTbGateEnd len s
  | .refLost => Sys2Proof.Machine.execRefLost s
  | .ocxoRdyChange level => Sys2Proof.Machine.execOcxoRdyChange level s
  | .tbCfgWrite w => Sys2Proof.Machine.execTbCfgWrite w s
  | .memCtrlInit => Sys2Proof.Machine.execMemCtrlInit s
  | .trainingDone ok => Sys2Proof.Machine.execTrainingDone ok s
  | .arbiterDraw => Sys2Proof.Machine.execArbiterDraw s
  | .agingGrant => Sys2Proof.Machine.execAgingGrant s
  | .burstIssue => Sys2Proof.Machine.execBurstIssue s
  | .burstCompletion r res => Sys2Proof.Machine.execBurstCompletion r res s
  | .scrubRead res => Sys2Proof.Machine.execScrubRead res s
  | .arbTktWrite p w => Sys2Proof.Machine.execArbTktWrite p w s
  | .arbSeedWrite w => Sys2Proof.Machine.execArbSeedWrite w s
  | .resHcmdAcq r => Sys2Proof.Machine.execResHcmdAcq r s
  | .resHcmdRel r => Sys2Proof.Machine.execResHcmdRel r s
  | .streamItemOffer k it => Sys2Proof.Machine.execStreamItemOffer k it s
  | .streamSpill k upset => Sys2Proof.Machine.execStreamSpill k s upset
  | .streamRefill k res => Sys2Proof.Machine.execStreamRefill k res s
  | .strCfgWrite k w => Sys2Proof.Machine.execStrCfgWrite k w s
  | .strCtrlDrop k => Sys2Proof.Machine.execStrCtrlDrop k s
  | .strCtrlPurge k => Sys2Proof.Machine.execStrCtrlPurge k s
  | .strCtrlCntClr k => Sys2Proof.Machine.execStrCtrlCntClr k s
  | .streamReadComplete k upset => Sys2Proof.Machine.execStreamReadComplete k s upset
  | .coalesceExpiry k => Sys2Proof.Machine.execCoalesceExpiry k s
  | .streamReadTimeout k => Sys2Proof.Machine.execStreamReadTimeout k s
  | .streamSlow k => Sys2Proof.Machine.execStreamSlow k s
  | .signalDetect lanes => Sys2Proof.Machine.execSignalDetect lanes s
  | .adaptationEnd lanes => Sys2Proof.Machine.execAdaptationEnd lanes s
  | .markerLock lanes => Sys2Proof.Machine.execMarkerLock lanes s
  | .alignTimeout => Sys2Proof.Machine.execAlignTimeout s
  | .initFlit flit => Sys2Proof.Machine.execInitFlit flit s
  | .initTimeout => Sys2Proof.Machine.execInitTimeout s
  | .lnkCtrlRetrain => Sys2Proof.Machine.execLnkCtrlRetrain s
  | .lnkCtrlLogClr => Sys2Proof.Machine.execLnkCtrlLogClr s
  | .lnkCtrlCntClr => Sys2Proof.Machine.execLnkCtrlCntClr s
  | .flitBlock tag flit fec began => Sys2Proof.Machine.execFlitBlock tag flit fec s began
  | .flow flit => Sys2Proof.Machine.execFlow flit s
  | .flowSend => Sys2Proof.Machine.execFlowSend s
  | .flitTransmit => Sys2Proof.Machine.execFlitTransmit s
  | .replayTimeout c => Sys2Proof.Machine.execReplayTimeout c s
  | .violationWindowEnd => Sys2Proof.Machine.execViolationWindowEnd s
  | .regRd p tag addr words => Sys2Proof.Machine.execRegRd p tag addr words s
  | .regWr p tag addr ws => Sys2Proof.Machine.execRegWr p tag addr ws s
  | .strRd tag k maxb => Sys2Proof.Machine.execStrRd tag k maxb s
  | .strDrop tag k => Sys2Proof.Machine.execStrDrop tag k s
  | .abortHalt tag mask => Sys2Proof.Machine.execAbortHalt tag mask s
  | .abortHold tag mask => Sys2Proof.Machine.execAbortHold tag mask s
  | .abortOff tag mask => Sys2Proof.Machine.execAbortOff tag mask s
  | .abortFurl tag mask => Sys2Proof.Machine.execAbortFurl tag mask s
  | .keepalive tag => Sys2Proof.Machine.execKeepalive tag s
  | .bulkWr tag addr data => Sys2Proof.Machine.execBulkWr tag addr data s
  | .bulkRd tag addr len => Sys2Proof.Machine.execBulkRd tag addr len s
  | .linkHb => Sys2Proof.Machine.execLinkHb s
  | .mgmtSpiRead addr crc cmd cut => Sys2Proof.Machine.execMgmtSpiRead addr crc s cmd cut
  | .mgmtSpiWrite addr w crc cut => Sys2Proof.Machine.execMgmtSpiWrite addr w crc s cut
  | .lanyardMessage par => Sys2Proof.Machine.execLanyardMessage s par
  | .faultReaction silent => Sys2Proof.Machine.execFaultReaction s silent
  | .selfTestStart k => Sys2Proof.Machine.execSelfTestStart k s
  | .selfTestResult k persistent => Sys2Proof.Machine.execSelfTestResult k persistent s
  | .mirrorWrite => Sys2Proof.Machine.execMirrorWrite s
  | .holdRel w => Sys2Proof.Machine.execHoldRel w s
  | .chFurledRelease w => Sys2Proof.Machine.execChFurledRelease w s
  | .devFurlRelease => Sys2Proof.Machine.execDevFurlRelease s
  | .fiCtrlGo w => Sys2Proof.Machine.execFiCtrlGo w s
  | .faultInjectionSend => Sys2Proof.Machine.execFaultInjectionSend s
  | .resetNAssert => Sys2Proof.Machine.execResetNAssert s
  | .supplyTrip => Sys2Proof.Machine.execSupplyTrip s
  | .resetEnd => Sys2Proof.Machine.execResetEnd s
  | .otpReadDone => Sys2Proof.Machine.execOtpReadDone s
  | .selftestDone item spares => Sys2Proof.Machine.execSelftestDone item spares s
  | .bootTimeout => Sys2Proof.Machine.execBootTimeout s
  | .otpCtrlProg w => Sys2Proof.Machine.execOtpCtrlProg w s
  | .otpProgDone word => Sys2Proof.Machine.execOtpProgDone word s
  | .otpEnFall word => Sys2Proof.Machine.execOtpEnFall word s
  | .probeWrite p w => Sys2Proof.Machine.execProbeWrite p w s
  | .traceRecord p kind => Sys2Proof.Machine.execTraceRecord p kind s
  | .traceSend => Sys2Proof.Machine.execTraceSend s
  | .obsPacketTimeout => Sys2Proof.Machine.execObsPacketTimeout s
  | .cntSelWrite k w => Sys2Proof.Machine.execCntSelWrite k w s
  | .pcCtrlClr => Sys2Proof.Machine.execPcCtrlClr s
  | .pcCtrlSnap => Sys2Proof.Machine.execPcCtrlSnap s
  | .illegal n f => Sys2Proof.Machine.execIllegal n f s
  | .spareRelease => Sys2Proof.Machine.execSpareRelease s
  | .refPresent level => Sys2Proof.Machine.execRefPresent level s

end Sys2Proof.Machine
end

