-- ==== Sys2Proof/Decode.lean ====
section
/-! DEFINITION. The decoder of the command table, whose rows give no bits, and the decoder and encoder of Tysel instruction
words, which a sequencer fetches from DDR5 (09 R247, R248, R253). -/

namespace Sys2Proof

/-- The command a table word spells: no row of the table gives bits, so no word spells one. -/
def decodeTableWord (_nbits _w : Nat) : Option Instr := none

/-- OPC of an instruction word (09 R247). -/
def tyselOpc (w : Word) : Nat := (BitVec.extractLsb' 25 7 w).toNat

/-- The other fields of an instruction word with its extension word, which only X = 1 gives (09 R247). -/
def tyselFields (w ext : Word) : TF :=
  let x := w.getLsbD 16
  { rd := BitVec.extractLsb' 21 4 w, ra := BitVec.extractLsb' 17 4 w, x, imm := BitVec.extractLsb' 0 16 w, ext := if x then ext else 0 }

/-- Whether an instruction has an extension word. -/
def tyselHasExt (w : Word) : Bool := w.getLsbD 16

/-- The slot cost of an opcode without extension word, and whether it accepts one (09 R253 "Slots"); an unlisted opcode costs
one. -/
def tyselCost (opc : Nat) : Nat × Bool :=
  match opc with
  | 0x02 | 0x03 | 0x04 | 0x06 | 0x11 | 0x12 | 0x13 | 0x15 | 0x16 | 0x17 | 0x18 | 0x19 | 0x1A => (1, true)
  | 0x22 | 0x23 | 0x24 | 0x27 | 0x38 | 0x39 | 0x3A | 0x3B | 0x3D | 0x48 | 0x49 => (1, true)
  | 0x14 | 0x62 => (2, true)
  | 0x32 | 0x40 => (2, false)
  | _ => (1, false)

/-- The instruction of an opcode with its fields, on channel n (09 R253); GEN, COEF, MEAS, JUMP and TRIG have a row for each
of their operations. -/
def tyselInstr (n opc : Nat) (f : TF) : Instr :=
  let fn := f.imm.toNat % 4096
  match opc with
  | 0x00 => .nop n f
  | 0x01 => .halt n f
  | 0x02 => .jmp n f
  | 0x03 => .brCc n f
  | 0x04 => .call n f
  | 0x05 => .ret n f
  | 0x06 => .loop n f
  | 0x10 => .mov n f
  | 0x11 => .ldi n f
  | 0x12 => .add n f
  | 0x13 => .sub n f
  | 0x14 => .mul n f
  | 0x15 => .shl n f
  | 0x16 => .shr n f
  | 0x17 => .andOp n f
  | 0x18 => .orOp n f
  | 0x19 => .xorOp n f
  | 0x1A => .cmp n f
  | 0x20 => .mode n f
  | 0x21 => .range n f
  | 0x22 => .force n f
  | 0x23 => .limit n f
  | 0x24 => .ramp n f
  | 0x25 => .loopOpen n f
  | 0x26 => .loopClose n f
  | 0x27 => match fn / 256 with | 0 => .coefStage n f | 1 => .coefCommit n f | 2 => .coefRc n f | _ => .coefReef n f
  | 0x30 => if f.imm.getLsbD 2 then .measStop n f else .meas n f
  | 0x31 => .mread n f
  | 0x32 => .emit n f
  | 0x38 => match fn with | 0 => .genPrime n f | 1 => .genStart n f | 2 => .genStop n f | _ => .genUnmark n f
  | 0x39 => .seg n f
  | 0x3A => .dds n f
  | 0x3B => .mark n f
  | 0x3C => .rewind n f
  | 0x3D => .jump n f
  | 0x40 => .listLd n f
  | 0x41 => .listNext n f
  | 0x48 => .wait n f
  | 0x49 => .waitev n f
  | 0x4A => if f.imm.getLsbD 15 then .trigPin n f else .trig n f
  | 0x4B => .sync n f
  | 0x50 => .acq n f
  | 0x51 => .rel n f
  | 0x58 => .etarm n f
  | 0x59 => .etread n f
  | 0x60 => .chain n f
  | 0x61 => .yield n f
  | 0x62 => .notify n f
  | _ => .illegal n f

/-- The instruction an instruction word and its extension word spell on channel n. -/
def decodeTysel (n : Nat) (w ext : Word) : Instr := tyselInstr n (tyselOpc w) (tyselFields w ext)

/-- Channel, opcode and fields of a Tysel instruction; none for the other commands, and for ILLEGAL, which no opcode of R253
spells. -/
def tyselParts : Instr → Option (Nat × Nat × TF)
  | .nop n f => some (n, 0x00, f)
  | .halt n f => some (n, 0x01, f)
  | .jmp n f => some (n, 0x02, f)
  | .brCc n f => some (n, 0x03, f)
  | .call n f => some (n, 0x04, f)
  | .ret n f => some (n, 0x05, f)
  | .loop n f => some (n, 0x06, f)
  | .mov n f => some (n, 0x10, f)
  | .ldi n f => some (n, 0x11, f)
  | .add n f => some (n, 0x12, f)
  | .sub n f => some (n, 0x13, f)
  | .mul n f => some (n, 0x14, f)
  | .shl n f => some (n, 0x15, f)
  | .shr n f => some (n, 0x16, f)
  | .andOp n f => some (n, 0x17, f)
  | .orOp n f => some (n, 0x18, f)
  | .xorOp n f => some (n, 0x19, f)
  | .cmp n f => some (n, 0x1A, f)
  | .mode n f => some (n, 0x20, f)
  | .range n f => some (n, 0x21, f)
  | .force n f => some (n, 0x22, f)
  | .limit n f => some (n, 0x23, f)
  | .ramp n f => some (n, 0x24, f)
  | .loopOpen n f => some (n, 0x25, f)
  | .loopClose n f => some (n, 0x26, f)
  | .coefStage n f => some (n, 0x27, f)
  | .coefCommit n f => some (n, 0x27, f)
  | .coefRc n f => some (n, 0x27, f)
  | .coefReef n f => some (n, 0x27, f)
  | .meas n f => some (n, 0x30, f)
  | .measStop n f => some (n, 0x30, f)
  | .mread n f => some (n, 0x31, f)
  | .emit n f => some (n, 0x32, f)
  | .genPrime n f => some (n, 0x38, f)
  | .genStart n f => some (n, 0x38, f)
  | .genStop n f => some (n, 0x38, f)
  | .genUnmark n f => some (n, 0x38, f)
  | .seg n f => some (n, 0x39, f)
  | .dds n f => some (n, 0x3A, f)
  | .mark n f => some (n, 0x3B, f)
  | .rewind n f => some (n, 0x3C, f)
  | .jump n f => some (n, 0x3D, f)
  | .listLd n f => some (n, 0x40, f)
  | .listNext n f => some (n, 0x41, f)
  | .wait n f => some (n, 0x48, f)
  | .waitev n f => some (n, 0x49, f)
  | .trig n f => some (n, 0x4A, f)
  | .trigPin n f => some (n, 0x4A, f)
  | .sync n f => some (n, 0x4B, f)
  | .acq n f => some (n, 0x50, f)
  | .rel n f => some (n, 0x51, f)
  | .etarm n f => some (n, 0x58, f)
  | .etread n f => some (n, 0x59, f)
  | .chain n f => some (n, 0x60, f)
  | .yield n f => some (n, 0x61, f)
  | .notify n f => some (n, 0x62, f)
  | _ => none

/-- The fields of a Tysel row are those of its own operation, where several rows share an opcode, and an extension word stands
only behind X = 1. -/
def tyselOwn (i : Instr) : Bool :=
  let fnIs (lo hi : Nat) (f : TF) : Bool := decide (lo ≤ f.imm.toNat % 4096) && decide (f.imm.toNat % 4096 < hi)
  (match tyselParts i with | some (_, _, f) => f.x || f.ext == 0 | none => false) &&
    match i with
    | .coefStage _ f => fnIs 0 0x100 f
    | .coefCommit _ f => fnIs 0x100 0x200 f
    | .coefRc _ f => fnIs 0x200 0x300 f
    | .coefReef _ f => fnIs 0x300 0x1000 f
    | .meas _ f => !f.imm.getLsbD 2
    | .measStop _ f => f.imm.getLsbD 2
    | .genPrime _ f => fnIs 0 1 f
    | .genStart _ f => fnIs 1 2 f
    | .genStop _ f => fnIs 2 3 f
    | .genUnmark _ f => fnIs 3 0x1000 f
    | .trig _ f => !f.imm.getLsbD 15
    | .trigPin _ f => f.imm.getLsbD 15
    | _ => true

/-- The instruction word of an opcode and fields (09 R247). -/
def encodeWord (opc : Nat) (f : TF) : Word :=
  (BitVec.ofNat 7 opc ++ f.rd ++ f.ra ++ BitVec.ofBool f.x ++ f.imm : BitVec 32)

/-- The words of a Tysel instruction: the instruction word and, with X = 1, the extension word (0 where there is none). -/
def encodeTysel (i : Instr) : Option (Word × Word) :=
  (tyselParts i).map (fun p => (encodeWord p.2.1 p.2.2, p.2.2.ext))

end Sys2Proof
end

