-- ==== Sys2Proof/Machine/Issue.lean ====
section
/-! DEFINITION. What happens in a tick without a command from outside: the events that fall due, the sequencers' slots, the loop
computation, and the events at the end of the tick. -/

namespace Sys2Proof.Machine

/-! ### The sequencers' slots (08 R229, R230) -/

/-- What a channel's next slot brings: an instruction, or a miss of a line. -/
inductive Turn where
  | run (i : Instr)
  | miss (line : Nat)
  deriving DecidableEq, Repr

/-- The DDR5 line of a program word. -/
def lineOf (s : State) (x pc : Nat) : Nat := (progBase s x + 4 * pc) / 64

/-- The next turn of a channel's context, with the slot it comes in: an instruction acts in its last slot; one that does not fit
gives the tick up in its first. -/
def turnOf (s : State) (n : Nat) : Option (Nat × Turn) :=
  match (if seqReady s n then boundCtx s n else none) with
  | none => none
  | some x =>
    let u := (seq s n).used
    let pc := pcOf s x
    if 8 ≤ u then none
    else match progWord s x pc with
      | none => some (u, .miss (lineOf s x pc))
      | some w =>
        let c := tyselCost (tyselOpc w)
        let wide := tyselHasExt w && c.2
        let cost := c.1 + b2n wide
        let next := (pc + 1) % 2 ^ 20
        if 8 < u + cost then some (u, .run (decodeTysel n w 0))
        else if wide then
          (match progWord s x next with
            | none => some (u + 1, .miss (lineOf s x next))
            | some e => some (u + cost - 1, .run (decodeTysel n w e)))
        else some (u + cost - 1, .run (decodeTysel n w 0))

/-- Place of slot j of channel n in the order of a tick: core cycle, then sequencer core (R230). -/
def placeOf (n j : Nat) : Nat := 32 * j + 8 * (n % 4) + n / 4

/-- The earlier of two turns. -/
def earlier (a : Option (Nat × Nat × Turn)) (b : Nat × Nat × Turn) : Option (Nat × Nat × Turn) :=
  match a with
  | none => some b
  | some x => if b.1 < x.1 then some b else some x

/-- The next turn of the tick: its place, its channel, and what it is. -/
def nextTurn (s : State) : Option (Nat × Nat × Turn) :=
  (chans s).foldl (fun a n => match turnOf s n with
    | some (j, t) => earlier a (max s.slot (placeOf n j), n, t)
    | none => a) none

/-- The core cycle of a place in the order of a tick. -/
def cycleAt (p : Nat) : Nat := 2 + 4 * (p / 32) + p % 32 / 8

/-- The core cycle in which the next slot acts; 49, the last, once all have. -/
def nextCycle (s : State) : Nat :=
  if 256 ≤ s.slot then 49 else match nextTurn s with | some (p, _) => cycleAt p | none => 49

/-- A miss (R229): the slot is lost, the context waits, and the line is requested. -/
def missLine (n line : Nat) (s : State) : State :=
  bump (sqA n R.seqCnt) 16 8 s |> count 0x08 n |> endTick n (.fetch line) |> postFetch

/-- The next slot of the tick. -/
def issueSlot (s : State) : State :=
  match nextTurn s with
  | none => { s with slot := 256, cycle := 36 }
  | some (p, n, t) =>
    let s := { s with slot := p + 1, cycle := cycleAt p }
    match t with
    | .run i => { s with pending := [i] }
    | .miss l => missLine n l s

/-! ### Events that fall due in a tick -/

/-- The commands whose condition holds. -/
def pick : List (Bool × Instr) → List Instr
  | [] => []
  | (b, i) :: t => if b then i :: pick t else pick t

/-- Both paths. -/
def bothPaths : List Path := [.v, .i]

/-- Modes, pulses, ranges and their changes (02). -/
def dueModes (s : State) (n : Nat) : List Instr :=
  pick [(heldModeDue s n, .heldModeLands n), (connectingEndDue s n, .connectingEnd n), (fromMeasDue s n, .modeCommitFromMeasure n),
    (pulseEndDue s n, .pulseEnd n), (pulseBeginDue s n, .pulseBegin n), (heldRangeDue s n, .heldRangeDecision n),
    ((chan s n).arDue.isSome, .autorangeDecision n), (fadeDue s n, .crossfadeStep n),
    (bankDue s n, .bankSwitch n), (bbmDue s n, .breakBeforeMakeDecision n), (resumeDue s n, .breakBeforeMakeResume n)]

/-- The loop, the repetitive controller, the luff detector, injections, apertures and raw captures (03 to 05). -/
def dueLoops (s : State) (n : Nat) : List Instr :=
  pick ([(deadlineDue s n, .loopDeadline n), (rcXferDue s n, .rcTransferDone n), ((chan s n).rc.endDue, .rcEntryEnd n),
    ((chan s n).luff.endDue, .luffWindowEnd n), ((chan s n).luff.assertDue, .loopLuff n), (injOver s n, .injectionEnd n),
    (headerDue s n, .captureHeaderWrite n), (trailerDue s n, .captureTrailerWrite n)]
    ++ bothPaths.flatMap (fun p => [(apCloseDue s n p, .apertureClose n p), (lineTmoDue s n p, .lineTmo n p)])
    ++ [(rawOver s n, .rawCaptureEnd n), (calLoaded s n, .calLoadDone n)])

/-- The generator, the list unit and the waits of the sequencer (07 to 09). -/
def dueGens (s : State) (n : Nat) : List Instr :=
  let g := (chan s n).gen
  pick [(g.commitDue, .commitPoint n), (g.endDue, .playEnd n), (boundaryDue s n, .jumpNowBoundary n), (replayDue s n, .replayEnd n),
    (genReqDue s n, .refillRequest n), ((genBurst s n).isSome, .refillBurst n), (g.underDue, .genUnderrun n),
    (gapEndDue s n, .underrunEnd n), (pinsLoaded s n, .pinLoadDone n), (waitDone s n, .waitExpiry n),
    (waitevLate s n, .waitevTimeout n), (listDue s n, .listEntryArrival n)]

/-- The ticks the device waits for an acknowledgement: the latest first bit of 02 R83 and its 48 bits. -/
def ackWait : Nat := 8

/-- The Range Control Bus and the monitor converters of a group (02, 06). An acknowledgement that no command brings is missing
ackWait ticks after the firing. -/
def dueGroup (s : State) (g : Nat) : List Instr :=
  pick [((firing s g).isSome, .frameFire g), (ackLate s g ackWait, .ackTimeout g), ((failedDue s g).isSome, .rcbNoack g), (slotDue s g, .conversionSlotBoundary g),
    (calTmoDue s g, .monCal g)]

/-- What a group puts on its Range Control Bus in the tick, once everything that queues a frame or makes one live has happened: the
latch word, the shift, and the decisions of tacks, whose standing frames come last (02 R80, R85). -/
def dueBus (s : State) (g : Nat) : List Instr :=
  pick [((nextLatch s g).isSome, .latchWord g), ((nextShift s g).isSome, .frameShift g)]
    ++ ((List.range 8).map (8 * g + ·)).filterMap (fun n => if hasChan s n && tackDue s n then some (.tackDecision n) else none)

/-- Event lines, trigger pins, the tick, resources and the instruction cache (01, 08). -/
def dueSync (s : State) : List Instr :=
  ((s.asserting.filter (lineDue s)).map .eventLineAssert)
    ++ ((List.range 8).filter (pinDone s)).map .triggerPulseEnd
    ++ pick [(clrRecDue s, .clrNRecognised), (rcbRestartDue s, .rcbClockRestart), (lockedDue s, .locked),
      (markerDue s, .markerDetect), (tickLossDue s, .tickLoss)]
    ++ ((List.range 36).filter (fun r => hasRes s r && grantDue s r)).map .resourceGrant
    ++ s.arb.inbox.filterMap (fun e => match e.1.who with
      | .fetch l => some (.cacheFill l (some (Config.freeNat s.fresh)) none)
      | _ => none)

/-- DDR5 and the streams (11). -/
def dueMem (s : State) : List Instr :=
  pick [(drawDue s, .arbiterDraw), (agingDue s, .agingGrant), (issueDue s, .burstIssue)]
    ++ s.arb.inbox.filterMap (fun e => match e.1.who with
      | .spill k => some (.streamSpill k none)
      | .refill k b => if b ≤ (strm s k).fpos / 64 then some (.streamRefill k .clean) else none
      | _ => none)
    ++ (streamNos s).flatMap (fun k =>
      pick [(readFull s k, .streamReadComplete k none), (coalesced s k, .coalesceExpiry k), ((strm s k).slowDue.isSome, .streamSlow k)])

/-- The link (12). -/
def dueLink (s : State) : List Instr :=
  pick ([(trainLate s, .adaptationEnd (Config.freeNat s.fresh)), (alignLate s, .alignTimeout), (initLate s, .initTimeout),
    (flowFalls s && s.link.lastFlow != s.now, .flowSend), (txReady s && mayTransmit s, .flitTransmit)]
    ++ txClasses.map (fun c => (replayLate s c, .replayTimeout c)) ++ [(windowOver s, .violationWindowEnd), (bootLate s, .bootTimeout)])

/-- A self-test has made its conversions or reads. -/
def testRead (t : Test) : Bool := t.running && decide (0 < testNeeds t) && decide (testNeeds t ≤ t.reads)

/-- The collector, the self-tests and the crow's nest (13, 15). -/
def dueFault (s : State) : List Instr :=
  pick ([((takable s).isSome, .lanyardMessage none), (injectDue s, .faultInjectionSend), (copyDue s, .spareRelease),
    ((mirrorNext s).isSome && portFree s 10, .mirrorWrite), (traceDue s, .traceSend), (packLate s, .obsPacketTimeout)]
    ++ s.fc.tests.map (fun t => ((startable s t.idx).isSome, .selfTestStart (t.idx % 256)))
    ++ s.fc.tests.map (fun t => (testRead t || (awaitsLink t && linkUp s), .selfTestResult (t.idx % 256) false)))

/-- The result blocks of the edge timer (10 R276). -/
def dueEdge (s : State) : List Instr := ((List.range (nEts s)).filter (etBlockDue s)).map .resultBlockWrite

/-- What comes to the edge timer's units before the next slot acts, in the order of the core cycles (10 R273), once every context that
the tick wakes has been woken. -/
def dueUnits (s : State) : List Instr :=
  if (List.range (nEts s)).any (fun u => (etu s u).armed) then etNext s (nextCycle s) else []

/-- The events due now, reactions before everything (13 R351). After a loss of the clock only the collector goes on (14 R388). -/
def dueEvents (s : State) : List Instr :=
  if !running s then pick [((takable s).isSome, .lanyardMessage none)]
  else if reactDue s then [.faultReaction []]
  else
    match dueEdge s ++ dueSync s ++ (groups s).flatMap (dueGroup s) ++ (chans s).flatMap (dueModes s) ++ (chans s).flatMap (dueLoops s)
      ++ (chans s).flatMap (dueGens s) ++ dueMem s ++ dueLink s ++ dueFault s with
    | [] => (match (groups s).flatMap (dueBus s) with | [] => dueUnits s | l => l)
    | l => l

/-- An estimate left open (05 R149). -/
def freeEstimate (k : Nat) : Estimate :=
  { dOfs := Config.freeEst k 0, dGain := Config.freeEst k 1, dSkew := Config.freeEst k 2, slope := Config.freeBool k,
    rOfs := Config.freeEst k 3, rGain := Config.freeEst k 4, rSkew := Config.freeEst k 5 }

/-- The first estimator block that is complete and that no command has ended (05 R149). -/
def blockEnds (s : State) : List Instr :=
  (((chans s).flatMap (fun n => pick (bothPaths.map (fun p => (blockDue s n p, .interleaveBlockEnd n p (freeEstimate s.fresh)))))).take 1)

/-- The events that the end of a tick brings, after everything that could forestall them: what is still to come to an edge timer
(10 R273), the end of an estimator block (05 R149), a marker of a follower whose edge is expected in cycle 0 (01 R34), an empty stream's timeout (11 R306), a heartbeat loss (12 R345), a self-test at its limit (13 R368), and the
records of the probes (15 R399). -/
def lateEvents (s : State) : List Instr :=
  pick [(markerLate s, .markerDetect)] ++ etNext s 50 ++ blockEnds s
    ++ ((streamNos s).filter (readLate s)).map .streamReadTimeout
    ++ pick [(heartLate s, .linkHb), (tbLost s, .refLost)]
    ++ s.fc.tests.flatMap (fun t => pick [((endable s t.idx).isSome, .selfTestResult (t.idx % 256) (Config.freeBool s.fresh))])
    ++ (List.range 4).flatMap (fun p => pick [(recordDue s p false, .traceRecord p false), (recordDue s p true, .traceRecord p true)])

/-! ### A loop computation nobody supplies samples for -/

/-- A sample left open, without memory errors. -/
def freeSample (k : Nat) : SampleIn :=
  { code := (Config.freeWord k).setWidth 24, endCode := Config.freeBool k, ecc1 := false, ecc2 := false }

/-- A converter's code left open (05 R168). -/
def freeConv (k : Nat) : ConvOut := { code := (Config.freeWord k).setWidth 24, endCode := Config.freeBool k }

/-- A pair's converter codes left open. -/
def freeRaw (k : Nat) : RawIn := { a0 := freeConv k, a1 := freeConv (k + 1), b0 := freeConv (k + 2), b1 := freeConv (k + 3) }

/-- What a channel receives where no command says it. -/
def freeIn (k : Nat) : LoopIn :=
  { va := freeSample k, vb := freeSample (k + 1), ia := freeSample (k + 2), ib := freeSample (k + 3), retries := 0, memErr := none,
    forceEcc1 := false, forceEcc2 := false, clearEcc1 := false, clearEcc2 := false, rawV := freeRaw (k + 4), rawI := freeRaw (k + 8) }

/-- The loop computation of the first group that has not computed in this tick. -/
def loopAuto (s : State) : Option State :=
  ((groups s).find? (loopPending s)).map (fun g =>
    { s with pending := [.loopComputation g ((List.range 8).map (fun j => freeIn (s.fresh + 12 * j)))],
             fresh := s.fresh + 96 })

end Sys2Proof.Machine
end

