-- ==== Sys2Proof/Machine/Tick.lean ====
section
/-! DEFINITION. The tick edge (01), and what the device does while no command waits. -/

namespace Sys2Proof.Machine

/-! ### The end of a tick -/

/-- Records that wait are offered again; the EMITs of the tick follow its records (05 R167, 09 R257). -/
def recordsEdge (n : Nat) (s : State) : State :=
  let c := chan s n
  let s := if c.recs.isEmpty then s else flushRecs n c.recs s
  if c.emits.isEmpty then s else each (fun it s => putRecord n it s) c.emits (updChan n (fun c => { c with emits := [] }) s)

/-- SLOT_EXHAUST. -/
def exhaustEdge (n : Nat) (s : State) : State :=
  if exhausted s n then bump (sqA n R.seqCnt) 0 16 s |> count 0x07 n |> updSeq n (fun q => { q with exhaust := true }) else s

/-- What the end of a tick brings. -/
def endOfTick (s : State) : State :=
  each apDrops (chans s) s |> each recordsEdge (chans s) |> each capEdge (chans s) |> each releaseDeferred [0, 1, 2, 3] |> each exhaustEdge (chans s) |> barEdge
    |> each monEdge (groups s) |> queueEdge s.now |> obsEdge

/-! ### The tick edge (01 R15, R22, R34, R37) -/

/-- The tick advances: TICKTIME, the markers, and the event lines. -/
def advanceTime (s : State) : State :=
  let s := wr64 R.ticktimeLo (ticktime s + 1) { s with now := s.now + 1, slot := 0, cycle := 0 }
  let s := followerEdge s
  let s := if loadDue s then loadTime s else s
  { s with asserting := s.caused.filter (lineLive s), caused := [], causedAt := [], evDone := [] }

/-- The images of running contexts as of this edge (08 R223). -/
def imagesOf (s : State) : Map Word :=
  (chans s).flatMap (fun n => match boundCtx s n with
    | some x => if ctxState s x = 2 then (List.range 39).map (fun i => (cxA x (4 * i), rd s (cxA x (4 * i)))) else []
    | none => [])

/-- A loop core begins a tick (03 R90, 04 R141). -/
def coreEdge (g : Nat) (s : State) : State := updLc g (fun c => { c with done := false, slots := 0, prbs := prbsStep c.prbs }) s

/-- The requests the units post for the tick. -/
def postAll (s : State) : State :=
  postFetch s |> each (fun n s => postList n s |> postRc n |> postCal n) (chans s) |> each postStream (streamNos s) |> postScrub
    |> pumpJobs |> askTests |> each releaseDeferred [0, 1, 2, 3]

/-- The tick edge: the old tick ends; reactions override the writes of the old tick, and the rest of them land; every unit steps
into the new tick. -/
def tickEdge (s : State) : State :=
  let s := advanceTime (endOfTick s)
  let s := each deliverEdge (chans s) s |> overrideWrites |> each coreEdge (groups s) |> each rcbEdge (groups s)
    |> each chanEdge (chans s)
  let s := each sweepEdge s.fc.tests s |> each seqEdge (chans s) |> each pinEdge (List.range 8)
    |> each etEdge (List.range (nEts s)) |> each strEdge (streamNos s) |> each calCheck (chans s)
    |> fcEdge |> linkEdge
  { s with edgeImg := imagesOf s } |> postAll

/-! ### While no command waits -/

/-- Commands wait that the device has made itself. -/
def enqueue (l : List Instr) (s : State) : State := { s with pending := l, fresh := s.fresh + 1 }

/-- What the device does while no command waits (log entry 2): the events that are due; the sample of each running generator; a
request of the host; the sequencers' slots; a loop computation; what the end of the tick brings; the tick edge. -/
def goOn (s : State) : State :=
  match dueEvents s with
  | e :: t => enqueue (e :: t) s
  | [] =>
    if !running s then s
    else if (chans s).any (playPending s) then each ensurePlayed (chans s) s
    else match nextRequest s with
      | some (i, t) => enqueue [i] t
      | none =>
        if s.slot < 256 then issueSlot s
        else match loopAuto s with
          | some t => t
          | none => match lateEvents s with
            | e :: t => enqueue (e :: t) s
            | [] => tickEdge s

/-- While no command waits the device goes on by itself; of this nothing resets it or writes DDR5. A reset comes to its second step
(14 R380) and idles there. -/
def idleStep (s : State) : State :=
  if s.inReset then (if s.resetting then resetBlocks s else s) else { goOn s with inReset := false, ddr := s.ddr }

end Sys2Proof.Machine
end

