-- ==== Sys2Proof/Safety.lean ====
section
/-! DEFINITION. What counts as a safe run, and the words the statements use for states in which commands act. -/

namespace Sys2Proof.Machine

/-- The device runs: no reset, and the core clock comes from the PLL (14 R380, R386). -/
abbrev Operating (s : State) : Prop := s.inReset = false ∧ running s = true

/-- Channel n is present on a running device. -/
abbrev ChanIn (n : Nat) (s : State) : Prop := Operating s ∧ hasChan s n = true

/-- Group g is present on a running device. -/
abbrev GroupIn (g : Nat) (s : State) : Prop := Operating s ∧ hasGroup s g = true

/-- The context x bound to channel n executes in this tick, and `cost` slots are left for it (08 R229, R230). -/
abbrev Executes (n x cost : Nat) (s : State) : Prop :=
  ChanIn n s ∧ seqReady s n = true ∧ boundCtx s n = some x ∧ (seq s n).used + cost ≤ 8

/-- The device has done all that falls in its tick, and no command waits: its next step is the tick edge. -/
abbrev TickOver (s : State) : Prop :=
  Operating s ∧ s.pending = [] ∧ dueEvents s = [] ∧ (chans s).any (playPending s) = false ∧ (nextRequest s).isNone = true ∧
    256 ≤ s.slot ∧ (loopAuto s).isNone = true ∧ lateEvents s = []

/-- Nothing comes to an edge timer unit before the present core cycle: no edge, no completion, no overflow (10 R269, R271, R275). -/
abbrev EtQuiet (s : State) : Prop := ∀ p ∈ etFirst s (List.range (nEts s)), 50 * s.now + s.cycle ≤ p.1

/-- Every register but those of the list keeps its word. -/
def RegsExcept (l : List Nat) (s t : State) : Prop := ∀ a, a ∉ l → rd t a = rd s a

/-- The registers of a list have new words, every other register keeps its word, and no byte of DDR5 changes. -/
def OnlyRegs (l : List Nat) (s t : State) : Prop := RegsExcept l s t ∧ ∀ o, Memory.read t.ddr o = Memory.read s.ddr o

/-- Only registers in a range of addresses and those of a list have new words, and no byte of DDR5 changes. -/
def OnlyRange (lo hi : Nat) (l : List Nat) (s t : State) : Prop :=
  (∀ a, (a < lo ∨ hi ≤ a) → a ∉ l → rd t a = rd s a) ∧ ∀ o, Memory.read t.ddr o = Memory.read s.ddr o

/-- Only registers of channel n's window and those of a list have new words, and no byte of DDR5 changes. -/
def OnlyChannel (n : Nat) (l : List Nat) (s t : State) : Prop := OnlyRange (chA n 0) (chA (n + 1) 0) l s t

/-- The channel has a rejection of 02 R50 more: its flag of CH_STAT, and REJ_CNT of CH_CNT counted up to 255. -/
def ChRejected (n i : Nat) (s t : State) : Prop :=
  gb t (chA n R.chStat) i = true ∧ gf t (chA n R.chCnt) 16 8 = min (gf s (chA n R.chCnt) 16 8 + 1) 255 ∧
  OnlyRegs [chA n R.chStat, chA n R.chCnt] s t

/-- The lanyard bus carries a message of this source and kind, detected in this tick (13 R350). -/
def Reports (src kind : Nat) (t : State) : Prop := ∃ m ∈ t.fc.bus, m.src = src ∧ m.kind = kind ∧ m.tick = t.now

/-- A requester that takes its returned burst at once; the others take it with a command of their own (11 R288). -/
def TakesAtOnce : Who → Bool
  | .spill _ | .refill _ _ | .gen _ _ _ | .list _ _ _ | .fetch _ | .capture _ => false
  | _ => true

/-- No burst waits for a requester that takes it at once, as after every step. -/
abbrev Routed (s : State) : Prop := ∀ e ∈ s.arb.inbox, TakesAtOnce e.1.who = false

/-- A packet joins those that wait to be sent on its class (12 R337). -/
def Queues (p : Pkt) (s t : State) : Prop := (lcls t p.cls).txq = (lcls s p.cls).txq ++ [p]

/-- A violation of the host is in the link's log and on the lanyard bus (12 R340, R343): the entry at NEXT, NEXT and the counts, and
LOG_VIOL of LNK_STAT. -/
def Logs (code tc sn w2 : Nat) (s t : State) : Prop :=
  let a := R.llog + 16 * gf s R.logStat 0 6
  rd t a = BitVec.ofNat 32 (ticktime s) ∧ rd t (a + 4) = BitVec.ofNat 32 (code + 256 * tc + 1024 * sn) ∧ rd t (a + 8) = BitVec.ofNat 32 w2 ∧
  fld (rd t (a + 12)) 0 8 = min 255 (gf s R.logStat 8 8 + 1) ∧ gf t R.logStat 0 6 = (gf s R.logStat 0 6 + 1) % 64 ∧
  gf t R.logStat 16 16 = min (gf s R.logStat 16 16 + 1) 65535 ∧ gb t R.lnkStat 9 = true ∧ Reports 2 0x31 t

/-- The violation does not reach VIOL_MAX, so that no retrain follows (12 R342). -/
abbrev Tolerated (s : State) : Prop := violMax s = 0 ∨ min 255 (gf s R.logStat 8 8 + 1) < violMax s

/-- The registers a logged violation writes (12 R343). -/
def logRegs (s : State) : List Nat :=
  let a := R.llog + 16 * gf s R.logStat 0 6
  [a, a + 4, a + 8, a + 12, R.logStat, R.lnkStat]

/-- The registers a link that goes down writes besides its log (12 R317, R325). -/
def downRegs : List Nat := [R.lnkStat, R.txcStat, R.txcStat + 4, R.txcStat + 12]

/-- Every byte of DDR5 keeps its value. -/
def SameMemory (s t : State) : Prop := ∀ o, Memory.read t.ddr o = Memory.read s.ddr o

/-- What a safe run keeps: DDR5 in its canonical form, so that equal memories are equal data. -/
def Safe (s : State) : Prop := Memory.wf s.ddr

/-- The register gd of an instruction, where it is not g0, which discards writes (09 R248). -/
def gdReg (x : Nat) (f : TF) : List Nat := if f.rd = 0 then [] else [cxA x (R.cxG0 + 4 * f.rd.toNat)]

/-- The instruction leaves its PC at the next instruction: 1 + X further, modulo 2^20 (09 R248). -/
def MovedOn (x : Nat) (f : TF) (s t : State) : Prop := pcOf t x = (pcOf s x + TF.words f) % 2 ^ 20

/-- gd takes a value; a write to g0 is discarded (09 R248). -/
def GdTakes (x : Nat) (f : TF) (r : Word) (t : State) : Prop := gReg t x f.rd.toNat = if f.rd = 0 then 0 else r

/-- What an ALU instruction leaves (09 R251): Z and N of its result, C and OVF as given, CMP as it was. -/
def AluFlags (x : Nat) (r : Word) (c ovf : Bool) (s t : State) : Prop :=
  flagZ t x = decide (r = 0) ∧ flagN t x = r.getLsbD 31 ∧ flagC t x = c ∧ flagOvf t x = ovf ∧ flagCmp t x = flagCmp s x

/-- An ALU instruction with a result: gd, the flags, the PC, and nothing else of the registers and DDR5. -/
def AluLeaves (x : Nat) (f : TF) (r : Word) (c ovf : Bool) (s t : State) : Prop :=
  GdTakes x f r t ∧ AluFlags x r c ovf s t ∧ MovedOn x f s t ∧
    OnlyRegs (gdReg x f ++ [cxA x R.cxFlags, cxA x R.cxPc]) s t

/-- An instruction that writes gd and no flag. -/
def MoveLeaves (x : Nat) (f : TF) (r : Word) (s t : State) : Prop :=
  GdTakes x f r t ∧ MovedOn x f s t ∧ OnlyRegs (gdReg x f ++ [cxA x R.cxPc]) s t

/-! ### The arithmetic of a closed loop, as the statements write it (03 R101 to R110) -/

/-- y32 of a section from its input and its first state (03 R102). -/
def sectionOut (c : Coef) (x s1 : Int) : Int := sat32 (sat 40 (c.b0 * x * 2 ^ (1 + c.sh) + s1))

/-- s2 that a section takes from its input and its output (03 R102, R107, R110). -/
def sectionS2 (c : Coef) (x y : Int) : Int := sat 40 ((c.b2 * x * 2 - rneDiv (c.a2 * y) (2 ^ 15)) * 2 ^ c.sh)

/-- s1 that a section takes before its anti-windup clamp (03 R102). -/
def sectionS1 (c : Coef) (x : Int) (st : Sec) : Int :=
  sat 40 ((c.b1 * x * 2 - rneDiv (c.a1 * sectionOut c x st.s1) (2 ^ 15)) * 2 ^ c.sh + st.s2)

/-- The states that a section leaves; the last one of a cascade clamps s1 where INTEG is 1 (03 R102, R104). -/
def sectionNext (c : Coef) (last : Bool) (x : Int) (st : Sec) : Sec :=
  { s1 := if last = true ∧ c.integ = true then min (max (sectionS1 c x st) c.lo) c.hi else sectionS1 c x st,
    s2 := sectionS2 c x (sectionOut c x st.s1) }

/-- A saturation changes its operand in a section (03 R103). -/
def sectionOver (c : Coef) (x : Int) (st : Sec) : Bool :=
  let a := c.b0 * x * 2 ^ (1 + c.sh) + st.s1
  let y := sectionOut c x st.s1
  let k1 := (c.b1 * x * 2 - rneDiv (c.a1 * y) (2 ^ 15)) * 2 ^ c.sh + st.s2
  let k2 := (c.b2 * x * 2 - rneDiv (c.a2 * y) (2 ^ 15)) * 2 ^ c.sh
  let r := rneDiv y (2 ^ 16)
  decide (sat 40 a ≠ a ∨ sat32 (sat 40 a) ≠ sat 40 a ∨ sat 16 r ≠ r ∨ sat 40 k1 ≠ k1 ∨ sat 40 k2 ≠ k2)

/-- The input of section k of a cascade whose first section has the input x0 (03 R101, R102). -/
def sectionIn (co : Nat → Coef) (st : Nat → Sec) (x0 : Int) : Nat → Int
  | 0 => x0
  | k + 1 => sat 16 (rneDiv (sectionOut (co k) (sectionIn co st x0 k) (st k).s1) (2 ^ 16))

/-- The states a tracking preset gives a section with input x (03 R107). -/
def trackedTo (c : Coef) (x t : Int) : Sec := { s1 := sat 40 t, s2 := sectionS2 c x t }

/-- s1 that an output preset of a section with input x to the output t requires (03 R110). -/
def presetRaw (c : Coef) (x t : Int) : Int := t - c.b0 * x * 2 ^ (1 + c.sh)

/-- What an INTEG section takes of it (03 R111). -/
def presetS1 (c : Coef) (x t : Int) : Int := if c.integ = true then min (max (presetRaw c x t) c.lo) c.hi else presetRaw c x t

/-- The states an output preset gives a section with input x, so that it puts out t (03 R110, R111). -/
def presetTo (c : Coef) (x t : Int) : Sec := { s1 := sat 40 (presetS1 c x t), s2 := sectionS2 c x t }

/-- IN_CMP shows what was picked, and an entry into compliance is recorded with its side, tick, count and line (02 R58, R59). -/
def PicksCompliance (n : Nat) (picked upper : Bool) (s t : State) : Prop :=
  gb t (chA n R.chStat) 4 = picked ∧ (chan t n).loop.selC = picked ∧
  (picked = true → (chan s n).loop.selC = false → gb t (chA n R.chStat) 6 = true ∧ gb t (chA n R.chStat) 5 = !upper ∧
    rd64 t (chA n R.cmpTickLo) = ticktime s % 2 ^ 64 ∧ gf t (chA n R.chCnt) 0 16 = min (gf s (chA n R.chCnt) 0 16 + 1) 65535 ∧
    n ∈ t.caused) ∧
  (picked = false ∨ (chan s n).loop.selC = true → gb t (chA n R.chStat) 6 = gb s (chA n R.chStat) 6 ∧
    gb t (chA n R.chStat) 5 = gb s (chA n R.chStat) 5 ∧ rd64 t (chA n R.cmpTickLo) = rd64 s (chA n R.cmpTickLo) ∧
    gf t (chA n R.chCnt) 0 16 = gf s (chA n R.chCnt) 0 16)

/-- The measurement of a path in Q1.31 that the tick before a state has formed (03 R101). -/
def measOf (t : State) (n : Nat) (p : Path) : Int := sat32 (match p with | .v => (chan t n).loop.lastV | .i => (chan t n).loop.lastI)

/-- The setpoint path of a tick of a closed mode without injection: target, ramp, pulse or load, and SP_EFF (03 R98, R99; 02 R54, R65,
R66). -/
def FormsSetpoint (n : Nat) (s t : State) : Prop :=
  let l := (chan s n).loop
  let m := modeNow s n
  let x := measOf t n (forcedPath m)
  let v := measOf t n .v
  let r0 := if l.adopt = true ∨ l.rampFromMeas = true then x else l.ramp
  let target := if gb s (chA n R.spCfg) 0 = true then (genTarget t n).1 else if l.adopt = true then x else (rd s (chA n R.sp)).toInt
  let rate : Int := gf s (chA n R.rampRate) 0 31
  let r := if rate = 0 then target else r0 + max (-rate) (min (target - r0) rate)
  let fs : Path → Word := fun p => fsOf s n (slotNow s n p)
  let ref : Path → Word := fun p => fsOf s n (limRefSlot s n p)
  let times : Int → Nat × Nat → Nat × Nat → Int := fun y a b => rneDiv (y * (a.1 * b.1 : Nat)) (a.2 * b.2)
  let ga := times (rd s (chA n R.loadG)).toInt (fsRatio (fs .v) (ref .v)) (fsRatio (ref .i) (fs .i))
  let pa := times (rd s (chA n R.loadP)).toInt (fsRatio (ref .v) (fs .v)) (fsRatio (ref .i) (fs .i))
  let vmin := rescale (rd s (chA n R.loadVmin)).toInt (ref .v) (fs .v)
  (l.adopt = true → rd t (chA n R.sp) = BitVec.ofInt 32 x) ∧ (l.adopt = false → rd t (chA n R.sp) = rd s (chA n R.sp)) ∧
  (m ≤ 5 → (chan t n).loop.ramp = r ∧ rd t (chA n R.spEff) = BitVec.ofInt 32 (sat32 (if m = 4 ∨ m = 5 then (pulseLevel s n).getD r else r))) ∧
  (m = 6 → (chan t n).loop.ramp = r0 ∧ rd t (chA n R.spEff) = BitVec.ofInt 32 (sat32 (rneDiv (-(ga * v)) (2 ^ 28)))) ∧
  (m = 7 → (chan t n).loop.ramp = r0 ∧ rd t (chA n R.spEff) =
    BitVec.ofInt 32 (sat32 (rneDiv (-(pa * 2 ^ 31 * (if v < 0 then -1 else 1))) (max (max v.natAbs vmin.toNat) 1))))

/-- What a completed tick of a closed loop without injection computes: errors, sections, presets, the selection, the sum and the
command (03 R101 to R111; 02 R58 to R60). Of two equal outputs the primary counts as picked (log entry 87), of two presets of a cascade
the one added last is made (log entry 133), and where the tick before has formed no selector output the tracking preset goes to what
rounds to the presets' target or to the held command (log entry 91): the model's choices. -/
def ComputesLoop (n : Nat) (s t : State) : Prop :=
  let l := (chan s n).loop
  let k := (chan t n).loop
  let fp := forcedPath (modeNow s n)
  let lp := pother fp
  let psec := gf s (chA n R.loopCfg) 0 3
  let csec := gf s (chA n R.loopCfg) 4 3
  let ofs := (rd s (chA n R.outOfs)).toInt
  let bank : Path → Nat := fun p => if gb s (chA n R.luffStat) 1 = true then 0x3000 else 0x1000 + 0x200 * slotNow s n p
  let sh : Path → Nat := fun p => gf s (chA n (bank p)) 0 4
  let sp := (rd t (chA n R.spEff)).toInt
  let ff := sat32 (rneDiv (sp * (rd s (chA n (bank fp + 4))).toInt) (2 ^ 28))
  let rc := rcTerm s n
  let upper := decide (limAct s n lp true + limAct s n lp false ≤ 2 * measOf t n lp)
  let w := limAct s n lp upper
  let err : Int → Int → Int := fun w m => sat32 (w - m)
  let inp : Path → Int → Int → Int := fun p w m => sat 16 (rneDiv (err w m * 2 ^ sh p) (2 ^ 16))
  let errOver : Path → Int → Int → Bool := fun p w m => let r := rneDiv (err w m * 2 ^ sh p) (2 ^ 16); err w m != w - m || sat 16 r != r
  let xp := inp fp sp (measOf t n fp)
  let xc := inp lp w (measOf t n lp)
  let cleared : Nat → Bool := fun i => l.zeroAll || l.presets.any (fun p => p.clearAll || (p.clear && (if i < psec then p.prim else p.comp)))
  let stored : Nat → Sec := fun i => if cleared i then {} else Map.get {} l.secs i
  let target : (Preset → Bool) → Option Int := fun f => ((l.presets.filter f).getLast?).map (·.target)
  let before := if l.selOk = true then l.uSel else ((target (fun _ => true)).getD l.cmd) * 2 ^ 12 - ofs
  let cp := coefAt s n (bank fp)
  let cc : Nat → Coef := fun i => coefAt s n (bank lp) (psec + i)
  let ip := sectionIn cp stored xp
  let ic := sectionIn cc (fun i => stored (psec + i)) xc
  let lastP := psec - 1
  let lastC := csec - 1
  let changed := l.selOk = true ∧ l.selC = true ∧ upper ≠ l.upper
  let outP : Option Int := if l.zeroAll = true then none else (target (·.prim)).map (fun c => c * 2 ^ 12 - ofs - ff - rc)
  let outC : Option Int := if l.zeroAll = true then none else
    match target (·.comp) with | some c => some (c * 2 ^ 12 - ofs) | none => if changed then some l.uSel else none
  let stP : Sec := match outP with
    | some u => presetTo (cp lastP) (ip lastP) u
    | none => if l.zeroAll = false ∧ l.selC = true then trackedTo (cp lastP) (ip lastP) (before - ff - rc) else stored lastP
  let stC : Sec := match outC with
    | some u => presetTo (cc lastC) (ic lastC) u
    | none => if l.zeroAll = false ∧ (l.selC = false ∨ l.presets ≠ []) then trackedTo (cc lastC) (ic lastC) before else stored (psec + lastC)
  let befP : Nat → Sec := fun i => if i = lastP then stP else stored i
  let befC : Nat → Sec := fun i => if i = lastC then stC else stored (psec + i)
  let up := sectionOut (cp lastP) (ip lastP) stP.s1 + ff + rc
  let uc := sectionOut (cc lastC) (ic lastC) stC.s1
  let picked := if upper = true then decide (uc < sat32 up) else decide (sat32 up < uc)
  let u := if upper = true then min (sat32 up) uc else max (sat32 up) uc
  k.e32 = err sp (measOf t n fp) ∧ k.uSel = u ∧ k.cmd = sat 20 (rneDiv (sat32 (u + ofs)) (2 ^ 12)) ∧ k.presets = [] ∧
  (∀ i, i < psec → Map.get {} k.secs i = sectionNext (cp i) (i = lastP) (ip i) (befP i)) ∧
  (∀ i, i < csec → Map.get {} k.secs (psec + i) = sectionNext (cc i) (i = lastC) (ic i) (befC i)) ∧
  PicksCompliance n picked upper s t ∧
  gb t (chA n R.loopStat) 9 = decide ((sectionNext (cp lastP) true (ip lastP) stP).s1 ≠ sectionS1 (cp lastP) (ip lastP) stP) ∧
  gb t (chA n R.loopStat) 10 = decide ((sectionNext (cc lastC) true (ic lastC) stC).s1 ≠ sectionS1 (cc lastC) (ic lastC) stC) ∧
  gb t (chA n R.loopStat) 8 = (gb s (chA n R.loopStat) 8 || decide (sat32 up ≠ up ∨ sat32 (u + ofs) ≠ u + ofs)) ∧
  gb t (chA n R.loopStat) 7 = (gb s (chA n R.loopStat) 7 || outP.any (fun u => presetS1 (cp lastP) (ip lastP) u != presetRaw (cp lastP) (ip lastP) u) ||
    outC.any (fun u => presetS1 (cc lastC) (ic lastC) u != presetRaw (cc lastC) (ic lastC) u)) ∧
  (∀ i, i < psec → gb t (chA n R.secOvf) i = (gb s (chA n R.secOvf) i || sectionOver (cp i) (ip i) (befP i) ||
    (i == 0 && errOver fp sp (measOf t n fp)) || (i == lastP && outP.any (fun u => sat 40 (presetS1 (cp i) (ip i) u) != presetS1 (cp i) (ip i) u)))) ∧
  (∀ i, i < csec → gb t (chA n R.secOvf) (psec + i) = (gb s (chA n R.secOvf) (psec + i) || sectionOver (cc i) (ic i) (befC i) ||
    (i == 0 && errOver lp w (measOf t n lp)) || (i == lastC && outC.any (fun u => sat 40 (presetS1 (cc i) (ic i) u) != presetS1 (cc i) (ic i) u))))

/-- The MAC cost of a mode under a LOOP_CFG word (03 R92). -/
def macCost (m : Nat) (cfg : Word) : Nat :=
  if 2 ≤ m ∧ m ≤ 7 then
    24 + 5 * (fld cfg 0 3 + fld cfg 4 3) + 6 * b2n (cfg.getLsbD 8) + (if m = 7 then 8 else 0) + 9 * b2n (cfg.getLsbD 9) + 12 * b2n (cfg.getLsbD 10)
  else if m = 8 then 24 + 12 * b2n (cfg.getLsbD 10) else 0

/-- The cost sum of channel n's core with n in a mode under a configuration, and every commit that the tick has accepted (03 R93). -/
def macSum (s : State) (n m : Nat) (cfg : Word) : Nat :=
  let mode : Nat → Nat := fun j => (lastOf (fun x => match x with | .mode y => some y | _ => none) (chan s j).shadow).getD (modeNow s j)
  let conf : Nat → Word := fun j => (lastOf (fun x => match x with | .loopCfg y => some y | _ => none) (chan s j).shadow).getD (rd s (chA j R.loopCfg))
  ((List.range 8).map (fun i => let j := 8 * (n / 8) + i; if j = n then macCost m cfg else macCost (mode j) (conf j))).sum

/-- R51 rejects a mode write: a code above 8; one other than OFF before READY (14 R389) or while the channel is furled, its furl was released
in this tick (13 R362), or the clear condition is latched or cleared in this tick (06 R185); a sum above 760 (03 R93). -/
def modeRejected (s : State) (n code : Nat) : Bool :=
  let conf := (lastOf (fun x => match x with | .loopCfg y => some y | _ => none) (chan s n).shadow).getD (rd s (chA n R.loopCfg))
  decide (8 < code ∨ (code ≠ 0 ∧ (gf s R.devState 3 2 ≠ 3 ∨ gb s R.chFurled n = true ∨ n ∈ s.fc.released ∨ gb s R.clrStat 0 = true ∨ s.now < s.clrFree)) ∨
    760 < macSum s n code conf)

/-- R56 holds a mode write: a range change is in progress, or an entry, one from MEASURE, a HOLD, or a read-back sweep (13 R368). -/
def modeHolds (s : State) (n : Nat) : Bool :=
  decide ((chan s n).chg ≠ none ∨ gb s (chA n R.chStat) 9 = true ∨ (chan s n).fromMeas ≠ none ∨ gb s (chA n R.chStat) 10 = true) ||
    s.fc.tests.any (fun q => q.running && q.sweep && q.block == (3, n))

/-- R64 rejects PULSE_GO: another mode than FVP and FIP, a train that runs, W or PER out of range as the accepted writes leave them, or a
PULSE_STOP of the tick. -/
def pulseRejected (s : State) (n : Nat) : Bool :=
  let c := chan s n
  let next : Nat → Word := fun o => c.shadow.foldl (fun v x => match x with
    | .reg p m y => if p = o then mergeMask m v y else v | .bank p m y => if p = o then mergeMask m v y else v | _ => v) (rd s (chA n o))
  decide ((modeNow s n ≠ 4 ∧ modeNow s n ≠ 5) ∨ c.train ≠ none ∨ fld (next R.pulseW) 0 24 < 20 ∨
    (next R.pulsePer ≠ 0 ∧ (next R.pulsePer).toNat < fld (next R.pulseW) 0 24 + 20) ∨ .pulseStop ∈ c.shadow)

/-- 04 R143 and R145 reject GO of an injection: INJ_EN 0, a mode without a loop, POINT 3 or in MANUAL another than the output, an injection that
runs, the DDS as source while the generator plays it as setpoint, a capture stream the channel does not hold, or a STOP of the tick. -/
def injRejected (s : State) (n : Nat) : Bool :=
  let c := chan s n
  let cfg := rd s (chA n R.injCfg)
  decide (gb s (chA n R.loopCfg) 10 = false ∨ ¬ (2 ≤ modeNow s n ∧ modeNow s n ≤ 8) ∨ fld cfg 0 2 = 3 ∨
    (modeNow s n = 8 ∧ fld cfg 0 2 ≠ 2) ∨ .injStop ∈ c.shadow) || c.inj.any (fun i => i.ended.isNone) ||
    (!cfg.getLsbD 2 && gb s (chA n R.spCfg) 0 && gb s (chA n R.genCfg) 0 && c.dds.run) ||
    !(resOf s (8 + fld cfg 4 2)).holders.any (fun h => match h with | .host => false | .ctx _ m => m == n)

/-- A force-side write joins the channel's shadow set: it lands at the next tick edge, in the order of acceptance (01 R15, R17). -/
def Accepted (n : Nat) (w : FW) (s t : State) : Prop := (chan t n).shadow = (chan s n).shadow ++ [w]

/-- A unit turns an instruction away: Z is 1, the unit's flag b of register a is set and its rejection counts move on, the channel keeps its
state with nothing joining the shadow set, and the PC moves on (09 R248, R252). -/
def Refuses (i : Instr) (n x : Nat) (f : TF) (a b : Nat) (counts : List Nat) (s : State) : Prop :=
  ∃ t, exec i s = .next t ∧ flagZ t x = true ∧ gb t a b = true ∧ (∀ c ∈ counts, gf t c 16 8 = min (gf s c 16 8 + 1) 255) ∧
    chan t n = chan s n ∧ MovedOn x f s t ∧ OnlyRegs (a :: counts ++ [cxA x R.cxPc, cxA x R.cxFlags]) s t

/-- What a tick edge without reactions makes of the writes accepted for a channel in the old tick: of several writes of one field the
last (01 R15, R17), in a channel of which no sequence, hold or held write stands in the way. The orders between writes of different
kinds are those of 02 R52 and R71 and 07 R211. -/
def Lands (n : Nat) (s t : State) : Prop :=
  let c := chan s n
  let k := chan t n
  let ws := c.shadow
  let m := modeNow s n
  let a := fun off => chA n off
  let free : Prop := modeBlocked s n = false ∧ c.heldMode = none ∧ c.heldV = none ∧ c.heldI = none ∧ c.freeFrom ≤ s.now
  let mode := lastOf (fun x => match x with | .mode c => some c | _ => none) ws
  let opens := lastOf (fun x => match x with | .open_ b => some b | _ => none) ws
  let toV := lastOf (fun x => match x with | .rangeV k => some k | _ => none) ws
  let toI := lastOf (fun x => match x with | .rangeI k => some k | _ => none) ws
  let limit : Path → Bool → Option Word := fun p hi => lastOf (fun x => match x with | .limit o w => if o = limOff p hi then some w else none | _ => none) ws
  let lim : Path → Bool → Word := fun p hi => (limit p hi).getD (rd s (a (limOff p hi)))
  let okPair : Path → Bool := fun p => decide ((lim p false).toInt < (lim p true).toInt)
  let active : Path → Bool → Int := fun p hi =>
    rescale (rd t (a (limOff p hi))).toInt (fsOf t n (limRefSlot t n p)) (fsOf t n (slotNow t n p))
  let writesMan := ws.any (fun x => match x with | .reg o _ _ => o == R.manCode | _ => false)
  let decided : Path → Nat → Prop := fun p k =>
    (chan t n).chg.map (fun g => (g.path, g.target, g.old, g.phase)) = some (p, k, slotNow s n p, .standby)
  -- the setpoint and its source, LOOP_CFG
  (∀ w ∈ lastOf (fun x => match x with | .sp w => some w | _ => none) ws, toV = none → toI = none → rd t (a R.sp) = w) ∧
  (∀ b ∈ lastOf (fun x => match x with | .src b => some b | _ => none) ws, gb t (a R.spCfg) 0 = b) ∧
  (∀ w ∈ lastOf (fun x => match x with | .loopCfg w => some w | _ => none) ws, rd t (a R.loopCfg) = w) ∧
  -- the limits (02 R57)
  (∀ p ∈ [Path.v, .i], (∀ hi ∈ [true, false], rd t (a (limOff p hi)) = if okPair p = true ∨ (limit p true = none ∧ limit p false = none) then lim p hi
      else rd s (a (limOff p hi))) ∧
    (okPair p = false → limit p true ≠ none ∨ limit p false ≠ none → gb t (a R.chStat) 16 = true)) ∧
  ((∃ p ∈ [Path.v, .i], ∃ hi ∈ [true, false], limit p hi ≠ none) →
    (∀ p ∈ [Path.v, .i], ∀ hi ∈ [true, false], limRaw t n p hi = active p hi) ∧
    gb t (a R.chStat) 11 = [Path.v, .i].any (fun p => [true, false].any (fun hi => sat32 (active p hi) != active p hi))) ∧
  -- the mode (02 R52; 03 R109, R119, R120)
  (free → ∀ x ∈ mode, x < 9 → gf t (a R.chMode) 0 4 = x ∧
    (x = 0 → m ≠ 0 → modeNow t n = 0 ∧ ∃ fr ∈ (rcb t (n / 8)).frames, fr.ch = n ∧ fr.opc = 5 ∧ fr.cls = 1) ∧
    (m = 0 → x ≠ 0 → modeNow t n = x ∧ connecting t n = true) ∧
    (m = 1 → 2 ≤ x → modeNow t n = 1 ∧ k.fromMeas = some (x, none)) ∧
    (2 ≤ m → x = 1 → modeNow t n = 1) ∧
    (2 ≤ m → m ≠ 8 → x = 8 → modeNow t n = 8 ∧ (writesMan = false → gf t (a R.manCode) 0 20 = pat 20 c.loop.cmd)) ∧
    (m = 8 → 2 ≤ x → x < 8 → modeNow t n = x ∧
      { prim := true, comp := false, target := sfld (rd t (a R.manCode)) 0 20, clear := true, clearAll := true } ∈ k.loop.presets) ∧
    (2 ≤ m → m < 8 → 2 ≤ x → x < 8 → x ≠ m → modeNow t n = x ∧
      { prim := true, comp := false, target := c.loop.cmd, clear := false, clearAll := false } ∈ k.loop.presets)) ∧
  -- the loop opens or closes (03 R119)
  (c.fromMeas = none → mode = none → ∀ b ∈ opens, gb t (a R.loopCtrl) 0 = b ∧ (isClosed m = true → gb s (a R.loopCtrl) 0 ≠ b →
    (b = true → k.loop.held = c.loop.cmd) ∧
    (b = false → { prim := true, comp := false, target := c.loop.cmd, clear := false, clearAll := false } ∈ k.loop.presets))) ∧
  -- the range (02 R71)
  (m = 0 → mode = none ∨ free → (∀ x ∈ toV, x < 8 → slotNow t n .v = x) ∧ (∀ x ∈ toI, 8 ≤ x → x < 16 → slotNow t n .i = x)) ∧
  (free → m ≠ 0 → mode = none → (∀ x ∈ toV, x ≠ slotNow s n .v → decided .v x ∧ (∀ y ∈ toI, y ≠ slotNow s n .i → k.heldI = some y)) ∧
    (∀ y ∈ toI, y ≠ slotNow s n .i → toV = none ∨ toV = some (slotNow s n .v) → decided .i y)) ∧
  (m ≠ 0 → inHold s n = true → mode = none → ∀ x ∈ toV, x ≠ slotNow s n .v → k.heldV = some x) ∧
  -- coefficients (03 R113 to R115)
  (∀ x ∈ lastOf (fun x => match x with | .bank off mask w => some (off, mask, w) | _ => none) ws, ws.getLast? = some (.bank x.1 x.2.1 x.2.2) →
    0x1000 ≤ x.1 → x.1 < 0x3200 → rd t (a x.1) &&& x.2.1 = x.2.2 &&& x.2.1) ∧
  (∀ x ∈ lastOf (fun x => match x with | .secCommit i j w0 w1 w2 => some (i, j, w0, w1, w2) | _ => none) ws,
    ws.getLast? = some (.secCommit x.1 x.2.1 x.2.2.1 x.2.2.2.1 x.2.2.2.2) → x.1 < 6 → x.2.1 < 16 → openNow s n = true → free → mode = none →
    opens = none → reefOn s n = false →
      let b := a (0x1000 + 0x200 * x.2.1 + 0x20 + 0x20 * x.1)
      rd t b = x.2.2.1 ∧ rd t (b + 4) = x.2.2.2.1 ∧ rd t (b + 8) &&& 0x3FFFF = x.2.2.2.2 &&& 0x3FFFF) ∧
  -- the DDS (07 R216 to R219)
  (∀ x ∈ lastOf (fun x => match x with | .ddsTable x => some x | _ => none) ws, x < 4 → gf t (a R.ddsCfg) 0 2 = x) ∧
  (∀ x ∈ lastOf (fun x => match x with | .ddsFtw lo hi => some (lo, hi) | _ => none) ws, rd t (a R.ddsFtwLo) = x.1 ∧ rd t (a R.ddsFtwHi) = x.2) ∧
  (∀ b ∈ lastOf (fun x => match x with | .ddsGo => some true | .ddsHalt => some false | _ => none) ws, k.dds.run = b ∧
    (b = true → c.dds.run = false → k.dds.acc = (rd t (a R.ddsPhase0)).toNat * 2 ^ 16)) ∧
  (.ddsPhase ∈ ws → k.dds.acc = (rd t (a R.ddsPhase0)).toNat * 2 ^ 16) ∧
  -- the player (07 R208, R209, R212)
  (c.gen.turn = false → c.gen.stopDue = false → ws.length = 1 →
    let only : (FW → Option Nat) → Option Nat := fun f => lastOf f ws
    (∀ d ∈ only (fun x => match x with | .genPrime d => some d | _ => none), gdValid s n d = true → c.gen.run = false →
      k.gen.run = false ∧ k.gen.cur = some d) ∧
    (∀ d ∈ only (fun x => match x with | .genStart d => some d | _ => none), c.gen.run = false →
      (c.gen.cur ≠ none → k.gen.run = true ∧ k.gen.cur = c.gen.cur) ∧
      (c.gen.cur = none → gdValid s n d = true → k.gen.run = true ∧ k.gen.cur = some d)) ∧
    (∀ d ∈ only (fun x => match x with | .genJump d => some d | _ => none), gdValid s n d = true → c.gen.run = true → k.gen.pend = some d) ∧
    (.genUnmark ∈ ws → k.gen.mark = none) ∧
    (.genStop ∈ ws → k.gen.run = false ∧ k.gen.cur = none ∧ k.gen.mark = none ∧ k.gen.pend = none)) ∧
  k.shadow = []

/-- The context of channel n waits, and its tick is over (08 R231, R246). -/
def Waits (n : Nat) (w : Wait) (kind : Nat) (t : State) : Prop :=
  (seq t n).wait = w ∧ gf t (sqA n R.seqStat) 16 4 = kind ∧ (seq t n).used = 8

/-- The context x of channel n has raised an exception in this tick (08 R242, R243; 13 R355): EXC, EXC_PC and EXC_TICK, the
flag, FAULTED at the next tick edge, every resource given up, the message on the lanyard bus, and the reaction SEQ_CFG asks
for; the PC stays at the instruction, and nothing else of the registers and DDR5 changes. -/
def Raises (n x code : Nat) (s t : State) : Prop :=
  gf t (cxA x R.cxState) 16 8 = code ∧ gf t (cxA x R.cxExcPc) 0 20 = pcOf s x ∧
  rd t (cxA x R.cxExcTick) = BitVec.ofNat 32 (ticktime s) ∧ gb t (sqA n R.seqStat) 23 = true ∧ pcOf t x = pcOf s x ∧
  (seq t n).pendSt = some 4 ∧ (seq t n).used = 8 ∧ (∀ r, r < 36 → holds t x r = false) ∧
  (∃ m ∈ t.fc.bus, m.src = 0x10 + n / 4 ∧ m.kind = 0x80 + code ∧ m.tick = s.now) ∧
  t.fc.reacts = s.fc.reacts ++ (match gf s (sqA n R.seqCfg) 0 2 with
    | 1 => [⟨s.now + 1, [n], .hold84, none⟩] | 2 => [⟨s.now + 1, [n], .off, none⟩] | 3 => [⟨s.now + 1, [n], .furl, none⟩] | _ => []) ∧
  OnlyRegs ([cxA x R.cxState, cxA x R.cxExcPc, cxA x R.cxExcTick, cxA x R.cxHeldLo, cxA x R.cxHeldHi, sqA n R.seqStat] ++
    (List.range 8).map (fun u => etA u R.etStat)) s t

end Sys2Proof.Machine
end

