-- ==== Sys2Proof/Certificates/Slice0/Obligations.lean ====
section
/-! DEFINITION. The statements for the provers, family by family. -/

open Sys2Proof Sys2Proof.Machine

/-- ADD, SUB, CMP and MUL (09 R251): result, flags, PC and frame, for every operand form (R248). -/
def Obligations.AluSumsAndProducts : Prop :=
  ∀ (s : State) (n x : Nat) (f : TF), (f.x = true → TF.rb f = 0) →
    let a := opA s x f
    let b := opB s x f
    let p : Int := a.toInt * b.toInt
    let q : Int := rneDiv p (2 ^ 31)
    (TF.fn f = 0 → Executes n x (TF.words f) s →
      ∃ t, exec (.add n f) s = .next t ∧
        AluLeaves x f (a + b) (decide (2 ^ 32 ≤ a.toNat + b.toNat)) (decide ((a + b).toInt ≠ a.toInt + b.toInt)) s t) ∧
    (TF.fn f = 0 → Executes n x (TF.words f) s →
      ∃ t, exec (.sub n f) s = .next t ∧
        AluLeaves x f (a - b) (decide (a.toNat < b.toNat)) (decide ((a - b).toInt ≠ a.toInt - b.toInt)) s t) ∧
    (TF.fn f = 0 → f.rd = 0 → Executes n x (TF.words f) s →
      ∃ t, exec (.cmp n f) s = .next t ∧
        AluFlags x (a - b) (decide (a.toNat < b.toNat)) (decide ((a - b).toInt ≠ a.toInt - b.toInt)) s t ∧ MovedOn x f s t ∧
        OnlyRegs [cxA x R.cxFlags, cxA x R.cxPc] s t) ∧
    (TF.fn f = 0 → Executes n x (1 + TF.words f) s →
      ∃ t, exec (.mul n f) s = .next t ∧
        AluLeaves x f (BitVec.ofInt 32 p) false (decide (p < -2 ^ 31 ∨ 2 ^ 31 ≤ p)) s t) ∧
    (TF.fn f = 1 → Executes n x (1 + TF.words f) s →
      ∃ t, exec (.mul n f) s = .next t ∧
        AluLeaves x f (BitVec.ofInt 32 (max (-2 ^ 31) (min q (2 ^ 31 - 1)))) false (decide (q < -2 ^ 31 ∨ 2 ^ 31 ≤ q)) s t)

/-- SHL, SHR, AND, OR and XOR (09 R251): result, flags, PC and frame. Beyond the word a logical shift shifts out zeros, an
arithmetic one the sign. -/
def Obligations.ShiftsAndBitwiseOperations : Prop :=
  ∀ (s : State) (n x : Nat) (f : TF), (f.x = true → TF.rb f = 0) → Executes n x (TF.words f) s →
    let a := opA s x f
    let b := opB s x f
    let k := fld b 0 6
    (TF.fn f = 0 → ∃ t, exec (.shl n f) s = .next t ∧
      AluLeaves x f (a <<< k) (decide (1 ≤ k ∧ k ≤ 32) && a.getLsbD (32 - k)) (flagOvf s x) s t) ∧
    (TF.fn f = 0 → ∃ t, exec (.shr n f) s = .next t ∧
      AluLeaves x f (a >>> k) (decide (1 ≤ k ∧ k ≤ 32) && a.getLsbD (k - 1)) (flagOvf s x) s t) ∧
    (TF.fn f = 1 → ∃ t, exec (.shr n f) s = .next t ∧
      AluLeaves x f (a.sshiftRight k) (decide (1 ≤ k) && a.getLsbD (min (k - 1) 31)) (flagOvf s x) s t) ∧
    (TF.fn f = 0 → ∃ t, exec (.andOp n f) s = .next t ∧ AluLeaves x f (a &&& b) (flagC s x) (flagOvf s x) s t) ∧
    (TF.fn f = 0 → ∃ t, exec (.orOp n f) s = .next t ∧ AluLeaves x f (a ||| b) (flagC s x) (flagOvf s x) s t) ∧
    (TF.fn f = 0 → ∃ t, exec (.xorOp n f) s = .next t ∧ AluLeaves x f (a ^^^ b) (flagC s x) (flagOvf s x) s t)

/-- NOP, LDI and MOV (09 R250, R251): the value written, the PC and the frame; no flag changes. -/
def Obligations.MovesAndImmediates : Prop :=
  ∀ (s : State) (n x : Nat) (f : TF),
    (noFields f = true → Executes n x 1 s →
      ∃ t, exec (.nop n f) s = .next t ∧ MovedOn x f s t ∧ OnlyRegs [cxA x R.cxPc] s t) ∧
    (f.ra = 0 → (f.x = true → f.imm = 0) → Executes n x (TF.words f) s →
      ∃ t, exec (.ldi n f) s = .next t ∧ MoveLeaves x f (if f.x then f.ext else f.imm.signExtend 32) s t) ∧
    (f.x = false → TF.rb f = 0 → Executes n x 1 s →
      (TF.fn f = 0 → ∃ t, exec (.mov n f) s = .next t ∧ MoveLeaves x f (gReg s x f.ra.toNat) s t) ∧
      (TF.fn f = 1 → f.rd.toNat < 4 →
        ∃ t, exec (.mov n f) s = .next t ∧ gf t (lcA x f.rd.toNat) 0 24 = fld (gReg s x f.ra.toNat) 0 24 ∧ MovedOn x f s t ∧
          OnlyRegs [lcA x f.rd.toNat, cxA x R.cxPc] s t) ∧
      (TF.fn f = 2 → f.ra.toNat < 4 →
        ∃ t, exec (.mov n f) s = .next t ∧ MoveLeaves x f (BitVec.ofNat 32 (gf s (lcA x f.ra.toNat) 0 24)) s t) ∧
      (TF.fn f = 3 → f.ra = 0 →
        ∃ t, exec (.mov n f) s = .next t ∧ MoveLeaves x f (rd s R.ticktimeLo) s t))

/-- The control instructions (09 R249, R250) where they complete; CALL at depth 8 and RET at depth 0 raise (ContextExceptions). -/
def Obligations.BranchesCallsAndLoops : Prop :=
  ∀ (s : State) (n x : Nat) (f : TF),
    let pc := pcOf s x
    let target := if f.x then fld f.ext 0 20 else ((pc + 1 + f.imm.toInt) % (2 ^ 20 : Int)).toNat
    let z := flagZ s x
    let lt := flagN s x != flagOvf s x
    let holds_ : Nat → Bool := fun cc => match cc with
      | 0 => true | 1 => z | 2 => !z | 3 => lt | 4 => !lt | 5 => !z && !lt | 6 => z || lt | 7 => flagC s x | 8 => !flagC s x
      | 9 => flagN s x | 10 => !flagN s x | 11 => flagOvf s x | 12 => !flagOvf s x | 13 => flagCmp s x | _ => !flagCmp s x
    f.ra = 0 → (f.x = true → f.imm = 0 ∧ fld f.ext 20 12 = 0) → Executes n x (TF.words f) s →
    (f.rd = 0 → ∃ t, exec (.jmp n f) s = .next t ∧ pcOf t x = target ∧ OnlyRegs [cxA x R.cxPc] s t) ∧
    (f.rd ≠ 15 → ∃ t, exec (.brCc n f) s = .next t ∧
      pcOf t x = (if holds_ f.rd.toNat then target else (pc + TF.words f) % 2 ^ 20) ∧ OnlyRegs [cxA x R.cxPc] s t) ∧
    (f.rd = 0 → stackDepth s x < 8 → ∃ t, exec (.call n f) s = .next t ∧ pcOf t x = target ∧
      stackDepth t x = stackDepth s x + 1 ∧
      gf t (cxA x (R.cxStk + 4 * stackDepth s x)) 0 20 = (pc + TF.words f) % 2 ^ 20 ∧
      OnlyRegs [cxA x (R.cxStk + 4 * stackDepth s x), cxA x R.cxDepth, cxA x R.cxPc] s t) ∧
    (f.rd = 0 → f.x = false → f.imm = 0 → 0 < stackDepth s x →
      ∃ t, exec (.ret n f) s = .next t ∧
      pcOf t x = gf s (cxA x (R.cxStk + 4 * (stackDepth s x - 1))) 0 20 ∧ stackDepth t x = stackDepth s x - 1 ∧
      OnlyRegs [cxA x R.cxDepth, cxA x R.cxPc] s t) ∧
    (f.rd.toNat < 4 → ∃ t, exec (.loop n f) s = .next t ∧
      let c := (gf s (lcA x f.rd.toNat) 0 24 + (2 ^ 24 - 1)) % 2 ^ 24
      gf t (lcA x f.rd.toNat) 0 24 = c ∧ pcOf t x = (if c = 0 then (pc + TF.words f) % 2 ^ 20 else target) ∧
      OnlyRegs [lcA x f.rd.toNat, cxA x R.cxPc] s t)

/-- The channel instructions (09 R253, R254): which write joins the shadow set where the unit accepts it, Z, the PC and the frame; a MODE
or PULSE_GO that is refused or held (09 R252), by `modeRejected`, `modeHolds` and `pulseRejected` (02 R51, R56, R64). -/
def Obligations.ChannelWritesOfInstructions : Prop :=
  ∀ (s : State) (n x : Nat) (f : TF),
    let v := opV s x f
    let m := TF.immBits f 0 4
    let writes : Instr → FW → List Nat → Prop := fun i w l =>
      ∃ t, exec i s = .next t ∧ Accepted n w s t ∧ (l ≠ [] → flagZ t x = false) ∧ MovedOn x f s t ∧
        OnlyRegs (cxA x R.cxPc :: l) s t
    (immOnly 16 f = true → Executes n x 1 s → modeRejected s n m = false →
      (m = 0 ∨ modeHolds s n = false) → writes (.mode n f) (.mode m) [cxA x R.cxFlags]) ∧
    (immOnly 16 f = true → Executes n x 1 s → modeRejected s n m = true → Refuses (.mode n f) n x f (chA n R.chStat) 7 [chA n R.chCnt] s) ∧
    (immOnly 16 f = true → Executes n x 1 s → modeRejected s n m = false → m ≠ 0 → modeHolds s n = true →
      ∃ t, exec (.mode n f) s = .next t ∧ (chan t n).heldMode = some m ∧ gb t (chA n R.chStat) 8 = true ∧ flagZ t x = false ∧
        (chan t n).shadow = (chan s n).shadow.filter (fun w => match w with | .mode _ => false | _ => true) ∧ MovedOn x f s t ∧
        OnlyRegs [chA n R.chStat, cxA x R.cxPc, cxA x R.cxFlags] s t) ∧
    (immOnly 16 f = true → Executes n x 1 s → writes (.range n f) (if m < 8 then .rangeV m else .rangeI m) []) ∧
    (noFields f = true → Executes n x 1 s → writes (.loopOpen n f) (.open_ true) [] ∧ writes (.loopClose n f) (.open_ false) []) ∧
    (f.rd = 0 → TF.rb f = 0 → (f.x = true → f.ra = 0) → Executes n x (TF.words f) s →
      (TF.fn f = 0 → writes (.force n f) (.sp v) [cxA x R.cxFlags]) ∧
      (∀ k ∈ [(1, R.pulseLvl), (2, R.pulseW), (3, R.pulsePer), (4, R.pulseCnt)], TF.fn f = k.1 →
        writes (.force n f) (.reg k.2 (rwMask (chA n k.2)) v) [cxA x R.cxFlags]) ∧
      (TF.fn f = 5 → pulseRejected s n = false → writes (.force n f) .pulseGo [cxA x R.cxFlags]) ∧
      (TF.fn f = 5 → pulseRejected s n = true → Refuses (.force n f) n x f (chA n R.chStat) 15 [chA n R.chCnt] s) ∧
      (TF.fn f = 6 → .pulseGo ∉ (chan s n).shadow → writes (.force n f) .pulseStop [cxA x R.cxFlags]) ∧
      (TF.fn f = 7 → writes (.force n f) (.reg R.manCode (rwMask (chA n R.manCode)) v) [cxA x R.cxFlags]) ∧
      (TF.fn f < 4 → writes (.limit n f) (.limit (R.vlimHi + 4 * TF.fn f) v) []) ∧
      (∀ k ∈ [(4, R.loadG), (5, R.loadP), (6, R.loadVmin)], TF.fn f = k.1 →
        writes (.limit n f) (.reg k.2 (rwMask (chA n k.2)) v) []) ∧
      (TF.fn f = 0 → writes (.ramp n f) (.reg R.rampRate (rwMask (chA n R.rampRate)) v) []) ∧
      (TF.fn f = 1 → ∃ t, exec (.ramp n f) s = .next t ∧ gb t (chA n R.spCfg) 1 = v.getLsbD 0 ∧ MovedOn x f s t ∧
        OnlyRegs [chA n R.spCfg, cxA x R.cxPc] s t) ∧
      (TF.fn f = 2 → writes (.ramp n f) (.src (v.getLsbD 0)) []))
/-- COEF (09 R255): staging takes effect when accepted; COMMIT, RC and REEF land on the next tick. -/
def Obligations.CoefficientInstructions : Prop :=
  ∀ (s : State) (n x : Nat) (f : TF),
    let k := TF.fn f % 256
    let v := opV s x f
    let stg := chA n (R.stg + 16 * f.rd.toNat)
    let writes : Instr → FW → Prop := fun i w =>
      ∃ t, exec i s = .next t ∧ Accepted n w s t ∧ flagZ t x = false ∧ MovedOn x f s t ∧ OnlyRegs [cxA x R.cxPc, cxA x R.cxFlags] s t
    TF.rb f = 0 →
    (TF.fn f < 6 → f.rd.toNat < 8 → (f.x = true → f.ra = 0) → Executes n x (TF.words f) s →
      ∃ t, exec (.coefStage n f) s = .next t ∧
        (k < 5 → gf t (stg + 4 * (k / 2)) (16 * (k % 2)) 16 = fld v 0 16) ∧ (k = 5 → gf t (stg + 8) 16 2 = fld v 0 2) ∧
        flagZ t x = false ∧ MovedOn x f s t ∧ OnlyRegs [stg + 4 * (k / 2), cxA x R.cxPc, cxA x R.cxFlags] s t) ∧
    (f.x = false → f.ra = 0 → Executes n x 1 s →
      (TF.fn f / 256 = 1 → k < 16 → f.rd.toNat < 8 →
        writes (.coefCommit n f) (.secCommit f.rd.toNat k (rd s stg) (rd s (stg + 4)) (rd s (stg + 8)))) ∧
      (hasRc s = true → f.rd = 0 →
        (TF.fn f = 0x200 → writes (.coefRc n f) (.reg R.rcCtrl 1 0)) ∧ (TF.fn f = 0x201 → writes (.coefRc n f) (.reg R.rcCtrl 1 1)) ∧
        (TF.fn f = 0x202 → writes (.coefRc n f) .rcClear)) ∧
      (f.rd = 0 →
        (TF.fn f = 0x300 → gb s (chA n 0x3000) 8 = true → reefAhead s n = false →
          (isClosed (modeNow s n) = true ∨ modeNow s n = 8) → writes (.coefReef n f) (.reef true)) ∧
        (TF.fn f = 0x300 → gb s (chA n 0x3000) 8 = false ∨ reefAhead s n = true ∨ (isClosed (modeNow s n) = false ∧ modeNow s n ≠ 8) →
          Refuses (.coefReef n f) n x f (chA n R.luffStat) 3 [] s) ∧
        (TF.fn f = 0x301 → reefAhead s n = true → writes (.coefReef n f) (.reef false)) ∧
        (TF.fn f = 0x301 → reefAhead s n = false → Refuses (.coefReef n f) n x f (chA n R.luffStat) 3 [] s)))

/-- The instructions that end a tick (09 R259, 08 R226, R233, R234, R240), where they raise nothing.  That
WAITEV asks nothing of ext[31:24] is the model's choice (log entry 24). -/
def Obligations.WaitsAndHalts : Prop :=
  ∀ (s : State) (n x : Nat) (f : TF),
    let waits : Instr → Wait → Nat → Prop := fun i w k =>
      ∃ t, exec i s = .next t ∧ Waits n w k t ∧ MovedOn x f s t ∧ OnlyRegs [cxA x R.cxPc, sqA n R.seqStat] s t
    let m := if f.x then fld f.ext 0 24 else fld (gReg s x f.ra.toNat) 0 24
    (f.rd = 0 → (if f.x then f.ra = 0 ∧ f.imm = 0 ∧ fld f.ext 24 8 = 0 else f.ra = 0 ∨ f.imm = 0) → Executes n x (TF.words f) s →
      waits (.wait n f) (.wait (s.now + max 1 (if f.x = false ∧ f.ra = 0 then f.imm.toNat else m))) 1) ∧
    (noFields f = true → Executes n x 1 s →
      waits (.yield n f) (.wait (s.now + 1)) 1 ∧
      (EtQuiet s → ∃ t, exec (.halt n f) s = .next t ∧ (seq t n).pendSt = some 3 ∧ (seq t n).own = true ∧ (seq t n).used = 8 ∧
        (∀ r, r < 36 → holds t x r = false) ∧ MovedOn x f s t ∧
        OnlyRegs ([cxA x R.cxPc, cxA x R.cxHeldLo, cxA x R.cxHeldHi, sqA n R.seqStat] ++ (List.range 8).map (fun u => etA u R.etStat)) s t)) ∧
    (f.rd = 0 → TF.rb f = 0 → (f.x = true → f.ra = 0) → hasLine s (TF.fn f) = true → Executes n x (TF.words f) s →
      waits (.waitev n f) (.event (TF.fn f) (if m = 0 then none else some (s.now + m)) s.now) 2) ∧
    (immOnly 64 f = true → barCount s (TF.immBits f 0 6) ≠ 0 → (∀ r, r < 36 → shareable r = false → holds s x r = false) →
      Executes n x 1 s → waits (.sync n f) (.sync (TF.immBits f 0 6)) 3 ∧
        ∃ t, exec (.sync n f) s = .next t ∧ t.barArr = s.barArr ++ [(TF.immBits f 0 6, n)])
/-- MEAS, MREAD and EMIT (09 R256, R257) and NOTIFY (09 R262, 12 R336). -/
def Obligations.MeasurementInstructions : Prop :=
  ∀ (s : State) (n x : Nat) (f : TF),
    let a : Path → Nat := fun p => chA n (R.apStat + 0x20 * pnum p)
    let m : State → Path → Meas := fun s p => (chan s n).path p
    let fn := TF.fn f
    let turnedAway : State → Prop := fun t => flagZ t x = true ∧ chan t n = chan s n ∧ MovedOn x f s t ∧
      OnlyRegs [cxA x R.cxPc, cxA x R.cxFlags] s t
    (immOnly 4 f = true → f.imm ≠ 0 → Executes n x 1 s →
      ∃ t, exec (.meas n f) s = .next t ∧ MovedOn x f s t ∧ OnlyRegs [a .v, a .i, cxA x R.cxPc] s t ∧
        ∀ p ∈ [Path.v, Path.i],
          (TF.immBits f (pnum p) 1 = 0 → m t p = m s p) ∧
          (TF.immBits f (pnum p) 1 = 1 → (m s p).stop = false → (chan s n).recs.length < 8 →
            ((m s p).ap = none → (m t p).ap.map (fun a => (a.start, a.i, a.armed)) = some (s.now + 1, 0, false)) ∧
            ((m s p).ap ≠ none → (m s p).cont = false → (m s p).queued = false → (m t p).queued = true ∧ (m t p).ap = (m s p).ap))) ∧
    (immOnly 8 f = true → 5 ≤ f.imm.toNat → Executes n x 1 s →
      ∃ t, exec (.measStop n f) s = .next t ∧ MovedOn x f s t ∧ OnlyRegs [a .v, a .i, cxA x R.cxPc] s t ∧
        ∀ p ∈ [Path.v, Path.i],
          (TF.immBits f (pnum p) 1 = 0 → m t p = m s p) ∧
          (TF.immBits f (pnum p) 1 = 1 → (m t p).stop = true ∧ (m t p).trigs = [] ∧ (m t p).queued = false ∧ (m t p).cont = false ∧
            ∀ q ∈ (m s p).ap, q.start ≤ s.now → q.armed = false → apEndsNow s n q = false →
              (m t p).ap = some { q with n := s.now + 2 - q.start, trunc := true, lines := if q.lines = 1 then 1 else 0 })) ∧
    (f.ra = 0 → TF.rb f = 0 → f.x = false → Executes n x 1 s →
      let gives : Word → Bool → Prop := fun w z =>
        ∃ t, exec (.mread n f) s = .next t ∧ GdTakes x f w t ∧ flagZ t x = z ∧ MovedOn x f s t ∧
          OnlyRegs (gdReg x f ++ [cxA x R.cxPc, cxA x R.cxFlags]) s t ∧ (fn < 2 → (m t (mreadPath fn)).fresh = false)
      (fn < 2 → gives (rd s (chA n (R.apLast + 0x20 * (fn % 2)))) (!(m s (mreadPath fn)).fresh)) ∧
      (fn = 2 ∨ fn = 3 → gives (rd s (chA n (R.apLstat + 0x20 * (fn % 2)))) (!(m s (mreadPath fn)).fresh)) ∧
      (fn = 4 → gives (toW (sat32 (chan s n).loop.lastV)) false) ∧ (fn = 5 → gives (toW (sat32 (chan s n).loop.lastI)) false) ∧
      ∀ k ∈ [(0x10, R.chStat), (0x11, R.rngStat), (0x12, R.loopStat), (0x13, R.genStat), (0x14, R.spEff)],
        fn = k.1 → gives (shown s (chA n k.2)) false) ∧
    (f.rd = 0 → f.x = false → fn = 0 → emitFull s n = false → Executes n x 2 s →
      ∃ t, exec (.emit n f) s = .next t ∧ flagZ t x = false ∧ MovedOn x f s t ∧ OnlyRegs [cxA x R.cxPc, cxA x R.cxFlags] s t ∧
        (chan t n).emits = (chan s n).emits ++ [leBytes 6 (ticktime s % 2 ^ 48) ++ [BitVec.ofNat 8 (n + 128), 0xC3] ++
          leBytes 4 (gReg s x f.ra.toNat).toNat ++ leBytes 4 (gReg s x (TF.rb f)).toNat]) ∧
    (f.rd = 0 → f.x = false → fn = 0 → emitFull s n = true → Executes n x 2 s → ∃ t, exec (.emit n f) s = .next t ∧ turnedAway t) ∧
    (f.rd = 0 → TF.rb f = 0 → (f.x = true → f.ra = 0) → 4 ≤ (seq s n).notes → Executes n x (1 + TF.words f) s →
      ∃ t, exec (.notify n f) s = .next t ∧ turnedAway t ∧ (seq t n).notes = (seq s n).notes ∧ (lcls t 1).txq = (lcls s 1).txq) ∧
    (f.rd = 0 → TF.rb f = 0 → (f.x = true → f.ra = 0) → (seq s n).notes < 4 → x < 4096 → Executes n x (1 + TF.words f) s →
      ∃ t, exec (.notify n f) s = .next t ∧ flagZ t x = false ∧ MovedOn x f s t ∧ OnlyRegs [cxA x R.cxPc, cxA x R.cxFlags] s t ∧
        (lcls t 1).txq = (lcls s 1).txq ++
          [{ cls := 1, opc := 0x40, tag := 0, status := 0, p0 := 0, p1 := 0,
             data := leBytes 6 (ticktime s % 2 ^ 48) ++ [BitVec.ofNat 8 n, 0xC4] ++ leBytes 2 x ++ leBytes 2 fn ++ leBytes 4 (opV s x f).toNat }])
/-- The generator and the DDS as a context drives them (09 R258), and what is refused (09 R252; 07 R202, R204, R209 to R213). -/
def Obligations.GeneratorInstructions : Prop :=
  ∀ (s : State) (n x : Nat) (f : TF),
    let v := opV s x f
    let d := fld v 0 10
    let fn := TF.fn f
    let writes : Instr → FW → Prop := fun i w =>
      ∃ t, exec i s = .next t ∧ Accepted n w s t ∧ flagZ t x = false ∧ MovedOn x f s t ∧ OnlyRegs [cxA x R.cxPc, cxA x R.cxFlags] s t
    let rejected : Instr → Prop := fun i => Refuses i n x f (chA n R.genStat) 13 [chA n R.genCnt] s
    let dds : FW → Prop := fun w =>
      ∃ t, exec (.dds n f) s = .next t ∧ Accepted n w s t ∧ MovedOn x f s t ∧ OnlyRegs [cxA x R.cxPc] s t
    (f.rd = 0 → TF.rb f = 0 → (f.x = true → f.ra = 0) → Executes n x (TF.words f) s →
      (fn = 0 → startRefused s n d = false → writes (.genPrime n f) (.genPrime d)) ∧
      (fn = 1 → startRefused s n d = false → writes (.genStart n f) (.genStart d)) ∧
      (fn = 2 → writes (.genStop n f) .genStop) ∧ (fn = 3 → writes (.genUnmark n f) .genUnmark) ∧
      (fn = 0 → markRefused s n = false → writes (.mark n f) (.genMark (fld v 0 14))) ∧
      (fn = 0 → jumpRefused s n d = false → writes (.jump n f) (.genJump d)) ∧
      (fn = 1 → jumpRefused s n d = false → writes (.jump n f) (.genJumpNow d)) ∧
      (fn = 0 → ∃ t, exec (.dds n f) s = .next t ∧ Map.get 0 t.latches (64 * 3 + n) = v ∧ MovedOn x f s t ∧ OnlyRegs [cxA x R.cxPc] s t) ∧
      (fn = 1 → dds (.ddsFtw (Map.get 0 s.latches (64 * 3 + n)) (v &&& 0xFFFF))) ∧
      (∀ k ∈ [(2, R.ddsPhase0), (3, R.ddsAmp), (4, R.ddsOfs)], fn = k.1 → dds (.reg k.2 (rwMask (chA n k.2)) v)) ∧
      (fn = 5 → dds (.ddsTable (fld v 0 2))) ∧ (fn = 6 → dds .ddsGo) ∧ (fn = 7 → dds .ddsHalt) ∧ (fn = 8 → dds .ddsPhase)) ∧
    (f.rd = 0 → TF.rb f = 0 → (f.x = true → f.ra = 0) → Executes n x (TF.words f) s →
      (fn = 0 → startRefused s n d = true → rejected (.genPrime n f)) ∧ (fn = 1 → startRefused s n d = true → rejected (.genStart n f)) ∧
      (fn = 0 → markRefused s n = true → rejected (.mark n f)) ∧ (fn < 2 → jumpRefused s n d = true → rejected (.jump n f))) ∧
    (noFields f = true → rewindRefused s n = true → Executes n x 1 s → rejected (.rewind n f)) ∧
    (noFields f = true → rewindRefused s n = false → Executes n x 1 s → writes (.rewind n f) .genRewind) ∧
    (f.rd = 0 → (f.x = true → f.ra = 0) → fn < 4 → Executes n x (TF.words f) s →
      let e := fld (gReg s x (TF.rb f)) 0 10
      (gdHeld s n e (4 * fn) v = true → Refuses (.seg n f) n x f (chA n R.genStat) 9 [chA n R.genCnt] s) ∧
      (gdHeld s n e (4 * fn) v = false → fn = 3 → v.getLsbD 31 = true → gdCheck s n e = false → rejected (.seg n f)) ∧
      (gdHeld s n e (4 * fn) v = false → (fn = 3 → v.getLsbD 31 = true → gdCheck s n e = true) →
      ∃ t, exec (.seg n f) s = .next t ∧ flagZ t x = false ∧ MovedOn x f s t ∧
        rd t (gdA n e (4 * fn)) = v &&& (if fn = 0 then 0xFFFFFFC0 else if fn = 1 then 0xF else if fn = 2 then 0x1FFFFFF else 0xB3FFFFFF) ∧
        OnlyRegs [gdA n e (4 * fn), cxA x R.cxPc, cxA x R.cxFlags] s t))
/-- The list unit (09 R263, R264). -/
def Obligations.ListInstructions : Prop :=
  ∀ (s : State) (n x j : Nat) (f : TF),
    let l : State → ListUnit := fun s => (chan s n).list
    let i := listIdx s n
    let len := listLen s n
    (f.rd = 0 → f.x = false → TF.fn f < 2 → Executes n x 2 s →
      let base := fld (gReg s x f.ra.toNat) 0 30
      let k := fld (gReg s x (TF.rb f)) 0 25
      1 ≤ k ∧ k ≤ 2 ^ 24 ∧ 64 * base + 4 * k ≤ memSize s →
      ∃ t, exec (.listLd n f) s = .next t ∧ flagZ t x = false ∧ MovedOn x f s t ∧ listIdx t n = 0 ∧ listLen t n = k ∧
        gf t (lsA n R.lstBase) 0 30 = base ∧ listWrap t n = decide (TF.fn f = 1) ∧ listEnd t n = false ∧
        (l t).buf = [] ∧ (l t).req = 0 ∧ (l t).started = true ∧
        OnlyRegs [lsA n R.lstBase, lsA n R.lstLen, lsA n R.lstIdx, lsA n R.lstStat, cxA x R.cxPc, cxA x R.cxFlags] s t) ∧
    (f.rd = 0 → f.x = false → TF.fn f < 2 → Executes n x 2 s →
      let base := fld (gReg s x f.ra.toNat) 0 30
      let k := fld (gReg s x (TF.rb f)) 0 25
      k = 0 ∨ 2 ^ 24 < k ∨ memSize s < 64 * base + 4 * k → Refuses (.listLd n f) n x f (lsA n R.lstStat) 10 [] s) ∧
    (f.ra = 0 → TF.rb f = 0 → f.x = false → TF.fn f < 2 → Executes n x 1 s →
      (listEnd s n = true → ∃ t, exec (.listNext n f) s = .next t ∧ flagZ t x = true ∧ flagC t x = true ∧ MovedOn x f s t ∧ l t = l s ∧
        OnlyRegs [cxA x R.cxPc, cxA x R.cxFlags] s t) ∧
      (listEnd s n = false → (l s).buf = [] → ∃ t, exec (.listNext n f) s = .next t ∧ Waits n .list 5 t ∧
        OnlyRegs [sqA n R.seqStat, sqA n R.seqCnt] s t) ∧
      (listEnd s n = false → ∀ w ∈ (l s).buf.head?.join, i < 2 ^ 25 - 1 → ∃ t, exec (.listNext n f) s = .next t ∧
        GdTakes x f w t ∧ flagC t x = false ∧ flagZ t x = decide (i + 1 = len) ∧ MovedOn x f s t ∧
        (l t).buf = (l s).buf.tail ∧ listIdx t n = (if i + 1 = len ∧ listWrap s n = true then 0 else i + 1) ∧
        (chan t n).shadow = (chan s n).shadow ++ (if TF.fn f = 1 then [.sp w] else []) ∧
        OnlyRegs (gdReg x f ++ [lsA n R.lstIdx, lsA n R.lstStat, cxA x R.cxPc, cxA x R.cxFlags]) s t)) ∧
    (ChanIn n s → ∀ e ∈ fromInbox s 5 (fun w => match w with | .list m _ _ => m == n | _ => false), ∀ bs ∈ e.2,
      j < len → e.1.who = .list n (l s).epoch j →
      ∃ t, exec (.listEntryArrival n) s = .next t ∧ (l t).req = j + min (16 - j % 16) (len - j) ∧
        (l t).buf = (l s).buf ++ (List.range (min (16 - j % 16) (len - j))).map
          (fun q => some (BitVec.ofNat 32 (leVal ((bs.drop (4 * (j % 16 + q))).take 4)))) ∧
        OnlyRegs [lsA n R.lstStat, sqA n R.seqStat] s t)

/-- Events, shared resources, edge timers and CHAIN (09 R260, R261; 08 R225, R237, R238), where nothing is raised. -/
def Obligations.EventAndResourceInstructions : Prop :=
  ∀ (s : State) (n x : Nat) (f : TF),
    let r := TF.immBits f 0 6
    let u := TF.immBits f 0 3
    let y := TF.immBits f 0 12
    let pcZ := [cxA x R.cxPc, cxA x R.cxFlags]
    let me : Holder := .ctx x n
    f.x = false → f.ra = 0 →
    (f.rd = 0 → f.imm.toNat < 16 → Executes n x 1 s →
      ∃ t, exec (.trig n f) s = .next t ∧ (∀ e ∈ t.caused, e = 48 + f.imm.toNat ∨ e ∈ s.caused) ∧ 48 + f.imm.toNat ∈ t.caused ∧
        (∀ e ∈ s.caused, e ∈ t.caused) ∧ flagZ t x = false ∧ MovedOn x f s t ∧ OnlyRegs pcZ s t) ∧
    (f.rd = 0 → TF.immBits f 3 13 = 4096 → Executes n x 1 s →
      ∃ t, exec (.trigPin n f) s = .next t ∧ flagZ t x = !(holds s x (12 + u)) ∧ MovedOn x f s t ∧ OnlyRegs pcZ s t ∧
        (tpin t u).drive = (holds s x (12 + u) || (tpin s u).drive)) ∧
    (f.rd = 0 → f.imm.toNat < 36 → hasRes s r = true → Executes n x 1 s →
      ((∀ q, q < 36 → holds s x q = true → q < r) →
        (freeNow s r = true → ∃ t, exec (.acq n f) s = .next t ∧ holds t x r = true ∧ (resOf t r).holders = (resOf s r).holders ++ [me] ∧
          MovedOn x f s t ∧ OnlyRegs [cxA x R.cxPc, cxA x R.cxHeldLo, cxA x R.cxHeldHi] s t) ∧
        (freeNow s r = false → ∃ t, exec (.acq n f) s = .next t ∧ Waits n (.acq r) 4 t ∧ (resOf t r).queue = (resOf s r).queue ++ [me] ∧
          (resOf t r).holders = (resOf s r).holders ∧ MovedOn x f s t ∧ OnlyRegs [cxA x R.cxPc, sqA n R.seqStat] s t)) ∧
      (holds s x r = true → EtQuiet s → ∃ t, exec (.rel n f) s = .next t ∧ holds t x r = false ∧ MovedOn x f s t ∧
        ((8 ≤ r ∧ r ≤ 11 ∧ capBusy s (r - 8) = true) → (resOf t r).deferred = true ∧ (resOf t r).holders = (resOf s r).holders) ∧
        (¬ (8 ≤ r ∧ r ≤ 11 ∧ capBusy s (r - 8) = true) → (resOf t r).holders = (resOf s r).holders.filter (· != me) ∧
          (resOf t r).freed = some s.now) ∧
        OnlyRegs [cxA x R.cxPc, cxA x R.cxHeldLo, cxA x R.cxHeldHi, etA (r % 8) R.etStat] s t)) ∧
    (f.rd = 0 → f.imm.toNat < 16 → hasEt s u = true → Executes n x 1 s →
      ∃ t, exec (.etarm n f) s = .next t ∧ flagZ t x = !(holds s x u) ∧ MovedOn x f s t ∧ OnlyRegs pcZ s t ∧
        etu t u = if holds s x u = true then { etu s u with armReq := some (decide (TF.immBits f 3 1 = 1)) } else etu s u) ∧
    (TF.rb f = 0 → TF.immBits f 3 1 = 0 → TF.immBits f 8 4 = 0 → hasEt s u = true → Executes n x 1 s →
      let good := holds s x u && gb s (etA u R.etStat) 2
      ∃ t, exec (.etread n f) s = .next t ∧ flagZ t x = !good ∧ MovedOn x f s t ∧
        (good = true → GdTakes x f (rd s (etA u R.etRes0 + 4 * TF.immBits f 4 4)) t) ∧
        OnlyRegs (pcZ ++ (if good = true then gdReg x f else [])) s t) ∧
    (f.rd = 0 → f.imm.toNat < 4096 → y < nCtxs s → ctxState s y = 0 → chainTarget s y = false → pinsBad s n y = false → Executes n x 1 s →
      ∃ t, exec (.chain n f) s = .next t ∧ (seq t n).chainTo = some y ∧ (seq t n).own = true ∧ (seq t n).used = 8 ∧ MovedOn x f s t ∧
        OnlyRegs [cxA x R.cxPc] s t)
/-- The exceptions of contexts (08 R242 to R244), by the instruction that raises them. -/
def Obligations.ContextExceptions : Prop :=
  ∀ (s : State) (n x : Nat) (f : TF), (seq s n).pendSt ≠ some 4 → EtQuiet s → Executes n x (TF.words f) s →
    let r := TF.immBits f 0 6
    let y := TF.immBits f 0 12
    let raises : Instr → Nat → Prop := fun i k => ∃ t, exec i s = .next t ∧ Raises n x k s t
    let plain := f.rd = 0 ∧ f.ra = 0 ∧ f.x = false
    let w := TF.words f
    let fn := TF.fn f
    let noRb := TF.rb f == 0
    let b := !f.x || noRb
    let v := (!f.x || f.ra == 0) && noRb
    let tgt := f.ra == 0 && (!f.x || (f.imm == 0 && fld f.ext 20 12 == 0))
    let only : Nat → Bool := fun k => f.rd == 0 && f.ra == 0 && !f.x && decide (f.imm.toNat < k)
    let vBelow : Nat → Bool := fun k => f.rd == 0 && v && decide (fn < k)
    let meas := only 8 && f.imm.toNat % 4 != 0
    let trig := only 65536 && (decide (f.imm.toNat < 16) || f.imm.toNat / 8 == 4096)
    let coef := decide (f.rd.toNat < 8) && noRb
    let wrong : List (Instr × Nat × Bool) :=
      [(.nop n f, 1, !only 1), (.halt n f, 1, !only 1), (.ret n f, 1, !only 1), (.yield n f, 1, !only 1), (.loopOpen n f, 1, !only 1),
       (.loopClose n f, 1, !only 1), (.rewind n f, 1, !only 1), (.jmp n f, w, !(f.rd == 0 && tgt)), (.call n f, w, !(f.rd == 0 && tgt)),
       (.brCc n f, w, !(f.rd != 15 && tgt)), (.loop n f, w, !(decide (f.rd.toNat < 4) && tgt)),
       (.mov n f, 1, f.x || !noRb || !(fn == 0 || (fn == 1 && decide (f.rd.toNat < 4)) || (fn == 2 && decide (f.ra.toNat < 4)) || (fn == 3 && f.ra == 0))),
       (.ldi n f, w, !(f.ra == 0 && (!f.x || f.imm == 0))), (.add n f, w, !(b && fn == 0)), (.sub n f, w, !(b && fn == 0)),
       (.shl n f, w, !(b && fn == 0)), (.andOp n f, w, !(b && fn == 0)), (.orOp n f, w, !(b && fn == 0)), (.xorOp n f, w, !(b && fn == 0)),
       (.shr n f, w, !(b && decide (fn < 2))), (.mul n f, 1 + w, !(b && decide (fn < 2))), (.cmp n f, w, !(f.rd == 0 && b && fn == 0)),
       (.mode n f, 1, !only 16), (.range n f, 1, !only 16), (.force n f, w, !vBelow 8), (.limit n f, w, !vBelow 7), (.ramp n f, w, !vBelow 3),
       (.genPrime n f, w, !vBelow 4), (.genStart n f, w, !vBelow 4), (.genStop n f, w, !vBelow 4), (.genUnmark n f, w, !vBelow 4),
       (.dds n f, w, !vBelow 9), (.mark n f, w, !vBelow 1), (.jump n f, w, !vBelow 2),
       (.coefStage n f, w, decide (fn < 256) && !(coef && decide (fn < 6) && (!f.x || f.ra == 0))),
       (.coefCommit n f, 1, fn / 256 == 1 && !(coef && decide (fn < 272) && !f.x && f.ra == 0)),
       (.coefRc n f, 1, fn / 256 == 2 && !(noRb && f.rd == 0 && decide (fn < 515) && !f.x && f.ra == 0)),
       (.coefReef n f, 1, fn / 256 == 3 && !(noRb && f.rd == 0 && decide (fn < 770) && !f.x && f.ra == 0)),
       (.meas n f, 1, !meas), (.measStop n f, 1, !meas), (.mread n f, 1, !(f.ra == 0 && noRb && !f.x && (decide (fn < 6) || fn / 16 == 1 && decide (fn < 21)))),
       (.emit n f, 2, !(f.rd == 0 && !f.x && fn == 0)), (.notify n f, 1 + w, !(f.rd == 0 && v)),
       (.seg n f, w, !(f.rd == 0 && (!f.x || f.ra == 0) && decide (fn < 4))), (.listLd n f, 2, !(f.rd == 0 && !f.x && decide (fn < 2))),
       (.listNext n f, 1, !(f.ra == 0 && noRb && !f.x && decide (fn < 2))),
       (.wait n f, w, !(f.rd == 0 && (if f.x then f.ra == 0 && f.imm == 0 && fld f.ext 24 8 == 0 else f.ra == 0 || f.imm == 0))),
       (.waitev n f, w, !vBelow 64), (.sync n f, 1, !only 64), (.acq n f, 1, !only 64), (.rel n f, 1, !only 64), (.trig n f, 1, !trig),
       (.trigPin n f, 1, !trig), (.etarm n f, 1, !only 16),
       (.etread n f, 1, !(f.ra == 0 && !f.x && noRb && TF.immBits f 3 1 == 0 && TF.immBits f 8 4 == 0)), (.chain n f, 1, !only 4096)]
    raises (.illegal n f) 1 ∧
    (∀ p ∈ wrong, p.2.2 = true → Executes n x p.2.1 s → raises p.1 1) ∧
    (plain → f.imm.toNat < 36 → hasRes s r = false → raises (.acq n f) 2 ∧ raises (.rel n f) 2) ∧
    (plain → f.imm.toNat < 16 → hasEt s (TF.immBits f 0 3) = false → raises (.etarm n f) 2) ∧
    (f.ra = 0 → f.x = false → TF.rb f = 0 → TF.immBits f 3 1 = 0 → TF.immBits f 8 4 = 0 → hasEt s (TF.immBits f 0 3) = false →
      raises (.etread n f) 2) ∧
    (plain → TF.rb f = 0 → fn / 256 = 2 → fn < 515 → hasRc s = false → raises (.coefRc n f) 2) ∧
    (plain → f.imm.toNat < 4096 → nCtxs s ≤ y → raises (.chain n f) 2) ∧
    (plain → hasLine s (TF.fn f) = false → TF.fn f < 64 → TF.rb f = 0 → raises (.waitev n f) 2) ∧
    (plain → f.imm.toNat < 36 → hasRes s r = true → (∃ q, q < 36 ∧ holds s x q = true ∧ r ≤ q) → raises (.acq n f) 3) ∧
    (plain → f.imm.toNat < 64 → (∃ q, q < 36 ∧ holds s x q = true ∧ shareable q = false) → raises (.sync n f) 4) ∧
    (plain → f.imm.toNat < 64 → (∀ q, q < 36 → holds s x q = true → shareable q = true) → barCount s r = 0 → raises (.sync n f) 5) ∧
    (plain → f.imm.toNat < 36 → hasRes s r = true → holds s x r = false → raises (.rel n f) 6) ∧
    (f.rd = 0 → f.ra = 0 → (f.x = true → f.imm = 0 ∧ fld f.ext 20 12 = 0) → 8 ≤ stackDepth s x → raises (.call n f) 7) ∧
    (noFields f = true → stackDepth s x = 0 → raises (.ret n f) 8) ∧
    (plain → f.imm.toNat < 4096 → y < nCtxs s → ctxState s y ≠ 0 ∨ chainTarget s y = true → raises (.chain n f) 9) ∧
    (plain → f.imm.toNat < 4096 → y < nCtxs s → ctxState s y = 0 → chainTarget s y = false → pinsBad s n y = true →
      ∃ t, exec (.chain n f) s = .next t ∧ Raises n x 9 s t ∧ gb t (sqA n R.seqStat) 22 = true) ∧
    (f.x = false → f.ra = 0 → TF.rb f = 0 → TF.fn f < 2 → listEnd s n = false → (chan s n).list.buf.head? = some none →
      raises (.listNext n f) 0x0C)

/-- EV_SW (01 R39): line SWi is line 48 + i. -/
def Obligations.SoftwareEvents : Prop :=
  ∀ (s : State) (w : Word) (e : Nat), Operating s →
    ∃ t, exec (.evSw w) s = .next t ∧ (e ∈ t.caused ↔ e ∈ s.caused ∨ (48 ≤ e ∧ e < 64 ∧ w.getLsbD (e - 48) = true)) ∧ OnlyRegs [] s t
/-- The two cases of 01 R35. -/
def Obligations.MarkersWithoutEffect : Prop :=
  ∀ (s : State), Operating s →
    (gf s R.tickCtrl 0 2 = 2 → exec .tickCtrlMark s = .next s) ∧
    (s.now ∈ s.marker → gb s R.tickCtrl 9 = false →
      ∃ t, exec .ticktimeLoad s = .next t ∧ ticktime t = ticktime s ∧ s.now ∉ t.marker ∧ OnlyRegs [] s t)
/-- The tick shared between devices (01 R30 to R34; that ARM_LOAD takes the words of TICK_LOAD as it is accepted: 17 R436). That RELOCK clears
LOCKED, when a missing edge is read as a marker, and how an edge that comes across the tick edge takes that reading back, are the model's
(log entry 42: none of them is said by R32); so is that an edge further off there is a missing edge and then a slip, and that the edge which
places the phase is not itself among the sixteen (log entry 121). -/
def Obligations.SharedTick : Prop :=
  ∀ (s : State) (cyc : Nat) (w : Word), Operating s →
    let follower := gf s R.tickCtrl 0 2 = 2
    let bit_ : Nat → Bool := fun i => gb s R.tickStat i
    (gf s R.tickCtrl 0 2 ≠ 2 → exec .tickCtrlMark s = .next { s with marker := s.marker ++ [s.now + 3] }) ∧
    (s.now ∈ s.marker → gb s R.tickCtrl 9 = true → ∃ t, exec .ticktimeLoad s = .next t ∧ ticktime t = s.tickLoad.toNat ∧
      gb t R.tickCtrl 9 = false ∧ gb t R.tickStat 3 = true ∧ (∀ k ∈ t.marker, k ≠ s.now) ∧
      OnlyRegs [R.ticktimeLo, R.ticktimeLo + 4, R.tickCtrl, R.tickStat] s t) ∧
    ((∀ n ∈ chans s, modeNow s n = 0) → w.getLsbD 9 = true → gb s R.tickCtrl 9 = false →
      ∃ t, exec (.registerWrite .tc0 R.tickCtrl w) s = .next t ∧ t.tickLoad = BitVec.ofNat 64 (rd64 s R.tickLoadLo) ∧ gb t R.tickCtrl 9 = true ∧
        ticktime t = ticktime s) ∧
    (follower → (∀ n ∈ chans s, modeNow s n = 0) → ∃ t, exec .tickCtrlRelock s = .next t ∧ gb t R.tickStat 0 = false ∧
      t.flw = { realign := true } ∧ OnlyRegs [R.tickStat] s t) ∧
    ((∃ n ∈ chans s, modeNow s n ≠ 0) → ∃ t, exec .tickCtrlRelock s = .next t ∧ gb t R.tickStat 4 = true ∧
      gf t R.tickStat 24 8 = min (gf s R.tickStat 24 8 + 1) 255 ∧ t.flw = s.flw ∧ OnlyRegs [R.tickStat] s t) ∧
    (follower → s.flw.realign = true → ∃ t, exec (.tickInEdge cyc) s = .next t ∧
      t.flw = { expect := some ((50 - min 49 (gf s R.tickCtrl 2 6)) % 50), seen := true } ∧ OnlyRegs [] s t) ∧
    (follower → s.flw.realign = false → ∀ e ∈ s.flw.expect, e < 50 → cyc < 50 →
      let near := (cyc = e ∨ cyc = (e + 1) % 50 ∨ (cyc + 1) % 50 = e)
      let ahead := e = 0 ∧ cyc = 49
      let behind := e = 49 ∧ cyc = 0
      ∃ t, exec (.tickInEdge cyc) s = .next t ∧ t.flw.expect = some e ∧
        (near → ¬ ahead → ¬ behind →
          let m := if e = 0 then s.marker.filter (· != s.now + 1) else s.marker
          t = { s with flw := { s.flw with seen := true, goodRun := min 16 (s.flw.goodRun + 1) }, marker := m }) ∧
        (ahead → t = { s with flw := { s.flw with early := true, goodRun := min 16 (s.flw.goodRun + 1) } }) ∧
        (behind → ∀ g ∈ s.flw.late, t.flw.seen = s.flw.seen ∧ t.flw.goodRun = min 16 (g + 1) ∧ t.flw.missing = 0 ∧
          t.flw.markDue = false ∧ t.flw.late = none ∧ (∀ k ∈ s.marker, k ≠ s.now + 1 → k ∈ t.marker) ∧ (∀ k ∈ t.marker, k ∈ s.marker ∧ k ≠ s.now + 1) ∧ OnlyRegs [] s t) ∧
        (¬ near ∨ (behind ∧ s.flw.late = none) → t.flw = { s.flw with seen := true, goodRun := 0 } ∧
          gb t R.tickStat 2 = (bit_ 2 || bit_ 0) ∧ gb t R.tickStat 0 = bit_ 0 ∧
          gf t R.tickStat 8 8 = (if bit_ 0 then min (gf s R.tickStat 8 8 + 1) 255 else gf s R.tickStat 8 8) ∧ OnlyRegs [R.tickStat] s t)) ∧
    (follower → bit_ 0 = false → 16 ≤ s.flw.goodRun → ∃ t, exec .locked s = .next t ∧ gb t R.tickStat 0 = true ∧ OnlyRegs [R.tickStat] s t) ∧
    (follower → bit_ 0 = true →
      s.flw.markDue = true ∨ (s.flw.expect = some 0 ∧ s.flw.seen = false ∧ s.flw.missing = 0 ∧ s.now + 1 ∉ s.marker) →
      exec .markerDetect s = .next { s with flw := { s.flw with markDue := false }, marker := s.marker ++ [s.now + 1] }) ∧
    (follower → bit_ 0 = true → 4 ≤ s.flw.missing → ∃ t, exec .tickLoss s = .next t ∧ gb t R.tickStat 0 = false ∧ gb t R.tickStat 1 = true ∧
      gf t R.tickStat 16 8 = min (gf s R.tickStat 16 8 + 1) 255 ∧ (∃ m ∈ t.fc.bus, m.src = 0 ∧ m.kind = 1 ∧ m.tick = s.now) ∧
      OnlyRegs [R.tickStat] s t)
/-- Event lines and trigger pins (01 R36 to R43, 08 R234). -/
def Obligations.EventLinesAndPins : Prop :=
  ∀ (s : State) (e p n x u : Nat) (m : Option Nat) (level : Bool), Operating s → p < 8 →
    (e ∈ s.asserting → e ∉ s.evDone → ∃ t, exec (.eventLineAssert e) s = .next t ∧ e ∈ t.evDone ∧
      (hasChan s n = true → boundCtx s n = some x → x < 4096 → (seq s n).wait = .event e m u → u < s.now →
        (∀ m ∈ chans s, m ≠ n → boundCtx s m ≠ some x) → (seq t n).wait = .none ∧ flagZ t x = false) ∧
      (gf s (R.trigCfg + 4 * p) 0 2 = 2 → gf s (R.trigCfg + 4 * p) 4 6 = e →
        (tpin t p).until_ = some (s.now + gf s (R.trigCfg + 4 * p) 16 8)) ∧
      (gf s (R.trigCfg + 4 * p) 0 2 ≠ 2 ∨ gf s (R.trigCfg + 4 * p) 4 6 ≠ e → tpin t p = tpin s p) ∧
      OnlyRegs ((chans s).flatMap (fun n => [sqA n R.seqStat, chA n R.apStat, chA n (R.apStat + 0x20), chA n R.linePer, chA n R.rcStat,
        cxA (gf s (sqA n R.seqStat) 0 12) R.cxFlags])) s t) ∧
    (gf s (R.trigCfg + 4 * p) 0 2 = 1 → level = !gb s (R.trigCfg + 4 * p) 2 →
      ∃ t, exec (.triggerInputEdge p level) s = .next t ∧ 32 + p ∈ t.caused ∧ gb t R.trigStat (8 + p) = level ∧
        (tpin t p).edges = (tpin s p).edges + 1 ∧ gb t R.trigStat p = (gb s R.trigStat p || decide (0 < (tpin s p).edges)) ∧
        OnlyRegs [R.trigStat] s t) ∧
    ((∃ u ∈ (tpin s p).until_, u < s.now) → ∃ t, exec (.triggerPulseEnd p) s = .next t ∧ (tpin t p).until_ = none ∧ OnlyRegs [] s t)
/-- Register accesses (00 R4, R5, 01 R14, R15, R25, 11 R313, 12 R347, 17 R433 to R435), on registers of the codes RW, W1C, RO and RWI (WO ones have their rows, as EV_SW); none
is W1S. That several rejected fields of TICK_CTRL count once for the word is the model's choice (log entry 120). -/
def Obligations.RegisterAccess : Prop :=
  ∀ (s : State) (p : Port) (a n x i : Nat) (w : Word), Operating s →
    (writeStatus s p a [w] ≠ 0 → exec (.registerWrite p a w) s = .next s) ∧
    (∀ b ∈ [R.tickLoadLo, R.tickLoadLo + 4], ∃ t, exec (.registerWrite .tc0 b w) s = .next t ∧ rd t b = w ∧ OnlyRegs [b] s t) ∧
    (∃ t, exec (.registerWrite .tc0 R.tickStat w) s = .next t ∧ rd t R.tickStat = rd s R.tickStat &&& ~~~(w &&& 0x1E) ∧
      OnlyRegs [R.tickStat] s t) ∧
    (hasChan s n = true → ∃ t, exec (.registerWrite .tc0 (chA n R.loadG) w) s = .next t ∧
      Accepted n (.reg R.loadG (rwMask (chA n R.loadG)) w) s t ∧ OnlyRegs [] s t) ∧
    (x < nCtxs s → 1 ≤ i → i < 16 → ctxState s x ≠ 1 → ctxState s x ≠ 2 →
      ∃ t, exec (.registerWrite .tc0 (cxA x (R.cxG0 + 4 * i)) w) s = .next t ∧ gReg t x i = w ∧ OnlyRegs [cxA x (R.cxG0 + 4 * i)] s t) ∧
    (∀ q ∈ [Port.tc0, .tc1, .spi], (∀ b ∈ [R.fiMsgLo, R.fiMsgHi], ∃ t, exec (.registerWrite q b w) s = .next t ∧ rd t b = w ∧ OnlyRegs [b] s t) ∧
      (q ≠ .tc0 → ∀ b ∈ [R.tickLoadLo, R.tickCtrl, R.tickStat], exec (.registerWrite q b w) s = .next s)) ∧
    (∀ b ∈ [R.ticktimeLo, R.ticktimeLo + 4, 0xFFFC], exec (.registerWrite .tc0 b w) s = .next s) ∧
    (w.getLsbD 10 = false → w.getLsbD 11 = false → (∃ m ∈ chans s, modeNow s m ≠ 0) →
      let c := R.tickCtrl
      let same := fld w 0 8 = gf s c 0 8 ∧ w.getLsbD 9 = gb s c 9
      ∃ t, exec (.registerWrite .tc0 c w) s = .next t ∧ gf t c 0 8 = gf s c 0 8 ∧ gb t c 9 = gb s c 9 ∧ gb t c 8 = w.getLsbD 8 ∧
        (same → OnlyRegs [c] s t) ∧ (¬ same → gb t R.tickStat 4 = true ∧ gf t R.tickStat 24 8 = min (gf s R.tickStat 24 8 + 1) 255 ∧
          OnlyRegs [c, R.tickStat] s t)) ∧
    (hasStream s i = true →
      let k := i
      let b := stA k R.spillBaseLo
      let idle := strEn s k = false ∧ strItems (strm s k) = [] ∧ (strm s k).reads = []
      (idle → ∃ t, exec (.registerWrite .tc0 b w) s = .next t ∧ gf t b 20 12 = fld w 20 12 ∧ OnlyRegs [b] s t) ∧
      (¬ idle → fld w 20 12 ≠ gf s b 20 12 → ∃ t, exec (.registerWrite .tc0 b w) s = .next t ∧ rd t b = rd s b ∧
        gb t (stA k R.strStat) 5 = true ∧ OnlyRegs [stA k R.strStat] s t)) ∧
    (captured a = [a + 4] → readStatus s p a 1 = 0 →
      ∃ t, exec (.lowWordRead p a) s = .next t ∧ (readWord p (a + 4) t).1 = wordShown s (a + 4) ∧ OnlyRegs [] s t)

/-- Mode writes and what becomes of them (02 R51 to R56; 03 R92, R93; 06 R185; 13 R362; 14 R389); a DAC read-back sweep holds them too
(13 R368). -/
def Obligations.ModeCommands : Prop :=
  ∀ (s : State) (n : Nat) (w : Word), ChanIn n s →
    let m := modeNow s n
    let k := fld w 0 4
    let c := chan s n
    let refused := modeRejected s n
    let busy := modeHolds s n
    (refused k = true → ∃ t, exec (.modeWrite n w) s = .next t ∧ ChRejected n 7 s t ∧ (chan t n).shadow = c.shadow) ∧
    (refused k = false → k ≠ 0 → busy = true →
      ∃ t, exec (.modeWrite n w) s = .next t ∧ (chan t n).heldMode = some k ∧ gb t (chA n R.chStat) 8 = true ∧
        (chan t n).shadow = c.shadow.filter (fun f => match f with | .mode _ => false | _ => true) ∧ OnlyRegs [chA n R.chStat] s t) ∧
    (refused k = false → k = 0 ∨ busy = false →
      ∃ t, exec (.modeWrite n w) s = .next t ∧ Accepted n (.mode k) s t ∧ OnlyRegs [] s t) ∧
    (heldModeDue s n = true → ∀ code ∈ c.heldMode, 1 ≤ code → refused code = false →
      ∃ t, exec (.heldModeLands n) s = .next t ∧ (chan t n).heldMode = none ∧ gb t (chA n R.chStat) 8 = false ∧ OnlyChannel n [] s t ∧
        (m = 0 → modeNow t n = code ∧ connecting t n = true ∧ (chan t n).entry.isSome = true) ∧
        (m = 1 → 2 ≤ code → modeNow t n = 1 ∧ (chan t n).fromMeas = some (code, none) ∧
          ∃ fr ∈ (rcb t (n / 8)).frames, fr.ch = n ∧ fr.opc = 6 ∧ fr.role = .forceEn ∧ fr.st = .queued s.now) ∧
        (isClosed m = true → isClosed code = true → modeNow t n = code)) ∧
    (connectingEndDue s n = true → ∃ t, exec (.connectingEnd n) s = .next t ∧ connecting t n = false ∧ (chan t n).entry = none ∧
      modeNow t n = m ∧ OnlyRegs [chA n R.chStat] s t ∧
      (isClosed m = true → (chan t n).loop.presets = c.loop.presets ++ [⟨true, false, clearCmd s n, true, true⟩]) ∧
      (isClosed m = false → (chan t n).loop = c.loop)) ∧
    (fromMeasDue s n = true → ∀ e ∈ c.fromMeas, e.1 ≤ 8 → ∃ t, exec (.modeCommitFromMeasure n) s = .next t ∧ modeNow t n = e.1 ∧
      (chan t n).fromMeas = none ∧ (isClosed e.1 = true → (chan t n).loop.zeroAll = true ∧ (chan t n).loop.presets = []) ∧ OnlyChannel n [] s t)
/-- Pulse trains, limits and counters (02 R49, R57, R63, R64). -/
def Obligations.PulsesLimitsAndCounters : Prop :=
  ∀ (s : State) (n off : Nat) (w : Word), ChanIn n s →
    let c := chan s n
    let per := (rd s (chA n R.pulsePer)).toNat
    let refused := pulseRejected s n
    (refused = false → ∃ t, exec (.chCtrlPulseGo n) s = .next t ∧ Accepted n .pulseGo s t ∧ OnlyRegs [] s t) ∧
    (refused = true → ∃ t, exec (.chCtrlPulseGo n) s = .next t ∧ ChRejected n 15 s t ∧ (chan t n).shadow = c.shadow) ∧
    (.pulseGo ∉ c.shadow → ∃ t, exec (.chCtrlPulseStop n) s = .next t ∧ Accepted n .pulseStop s t ∧ OnlyRegs [] s t) ∧
    (.pulseGo ∈ c.shadow → ∃ t, exec (.chCtrlPulseStop n) s = .next t ∧ ChRejected n 15 s t ∧
      (chan t n).shadow = c.shadow.filter (· != .pulseGo) ++ [.pulseStop]) ∧
    (∃ t, exec (.chCtrlCntClr n) s = .next t ∧ rd t (chA n R.chCnt) = 0 ∧ OnlyRegs [chA n R.chCnt] s t) ∧
    (∀ q ∈ c.train, q.next = s.now → q.last = none → q.stop = false → q.left ≠ some 0 →
      ∃ t, exec (.pulseBegin n) s = .next t ∧ OnlyRegs [] s t ∧ (chan t n).train = some
        { q with lvl := (rd s (chA n R.pulseLvl)).toInt, w := gf s (chA n R.pulseW) 0 24, per := per, next := q.next + per
                 last := some (s.now + gf s (chA n R.pulseW) 0 24 - 1), left := if per = 0 then some 0 else q.left.map (· - 1) }) ∧
    (∀ q ∈ c.train, ∀ l ∈ q.last, l < s.now →
      ∃ t, exec (.pulseEnd n) s = .next t ∧ OnlyRegs [] s t ∧
        (chan t n).train = if q.stop = true ∨ q.left = some 0 then none else some { q with last := none }) ∧
    (off ∈ [R.vlimHi, R.vlimLo, R.ilimHi, R.ilimLo] →
      ∃ t, exec (.limitWrite n off w) s = .next t ∧ Accepted n (.limit off w) s t ∧ OnlyRegs [] s t)
/-- Ranges (02 R69 to R77). That a RANGE write takes an autorange decision's turn (log entry 28), that a descriptor is judged with the
other words as they are stored (log entry 15), and which field is left out where the rules of 00 R5 and 02 R69 need one left out (log
entry 90; here only: no more than one where that is enough) are the model's choices. -/
def Obligations.RangeCommands : Prop :=
  ∀ (s : State) (n off : Nat) (w : Word), ChanIn n s →
    let c := chan s n
    let fresh : State → Path → Nat → Prop := fun t p k =>
      (chan t n).chg.map (fun g => (g.path, g.target, g.old, g.phase)) = some (p, k, slotNow s n p, .standby) ∧
        gb t (chA n R.rngStat) 7 = true ∧ gf t (chA n R.rngStat) 8 3 = 1 ∧ OnlyRegs [chA n R.rngStat] s t
    let phase : State → Nat → Prop := fun t k => gf t (chA n R.rngStat) 8 3 = k
    let frames : State → List Frame := fun t => (rcb t (n / 8)).frames
    let inPath : Change → Prop := fun g => (g.path = .v → g.target < 8) ∧ (g.path = .i → 8 ≤ g.target ∧ g.target < 16)
    (∃ t, exec (.rangeWrite n w) s = .next t ∧ (chan t n).shadow = c.shadow ++ [.rangeV (fld w 0 3), .rangeI (8 + fld w 4 3)] ∧
      (autoPath (modeNow s n) ≠ none → (chan t n).arDue = none) ∧ OnlyRegs [] s t) ∧
    (heldRangeDue s n = true → modeNow s n ≠ 0 → c.heldI = none → ∀ k ∈ c.heldV, slotNow s n .v ≠ k → k < 8 →
      ∃ t, exec (.heldRangeDecision n) s = .next t ∧ (chan t n).heldV = none ∧ fresh t .v k) ∧
    (modeBlocked s n = false → ∀ up ∈ c.arDue, ∀ p ∈ autoPath (modeNow s n),
      ∀ k ∈ nearestSlot s n up (eligibleSlots s n p up), (up = true ∨ gb s (chA n R.arCfg) 1 = false) →
      ∃ t, exec (.autorangeDecision n) s = .next t ∧ (chan t n).arDue = none ∧ fresh t p k) ∧
    (tackDue s n = true → ∀ g ∈ c.chg, ∀ fr ∈ standingAt s n g, fr.ch = n → ∃ t, exec (.tackDecision n) s = .next t ∧ phase t 2 ∧
      { fr with role := .make, live := true, st := .latched (s.now + 1) } ∈ frames t ∧
      ((chan t n).path g.path).splitFrom = some (s.now + 1) ∧ OnlyRegs [chA n R.rngStat] s t) ∧
    (fadeDue s n = true → ∃ t, exec (.crossfadeStep n) s = .next t ∧ phase t 3 ∧ (chan t n).chg.map (·.k) = some (fadeStep s n) ∧
      OnlyRegs [chA n R.rngStat] s t) ∧
    (bankDue s n = true → ∀ g ∈ c.chg, inPath g → ∃ t, exec (.bankSwitch n) s = .next t ∧ slotNow t n g.path = g.target ∧ phase t 4 ∧
      (chan t n).chg.map (·.phase) = some .bankSwitch ∧ OnlyChannel n [] s t) ∧
    (bbmDue s n = true → ∀ g ∈ c.chg, ∃ t, exec (.breakBeforeMakeDecision n) s = .next t ∧ OnlyRegs [] s t ∧
      ∃ fr ∈ frames t, fr.ch = n ∧ fr.path = g.path ∧ fr.opc = 1 ∧ fr.slot = g.target ∧ fr.role = .switch ∧ fr.st = .queued (s.now + 1)) ∧
    (resumeDue s n = true → ∀ g ∈ c.chg, inPath g → ∃ t, exec (.breakBeforeMakeResume n) s = .next t ∧ slotNow t n g.path = g.target ∧
      phase t 4 ∧ gf t (chA n R.rngStat) 16 16 = min (gf s (chA n R.rngStat) 16 16 + 1) 65535 ∧ OnlyChannel n [] s t) ∧
    (R.desc ≤ off → off < R.desc + 0x100 → off % 4 = 0 → differs s (chA n off) w = true →
      let k := (off - R.desc) / 16
      let xf := gf s (chA n R.tackCfg) 0 6
      let a := chA n off
      let stands : Word → Bool := fun x => descOk (wr a x s) n k xf && (List.range 16).all (fun j => j = k || pairOk (wr a x s) n j xf)
      let put : Word → Word := fun x => mergeMask (rwMask a) (rd s a) x
      let fields : List (Nat × Nat) := if off % 16 = 12 then [(0, 8), (8, 4), (12, 1)] else [(0, 32)]
      let without : Nat × Nat → Word := fun f => put (setFld w f.1 f.2 (gf s a f.1 f.2))
      (descInUse s n k = true → ∃ t, exec (.descriptorWrite n off w) s = .next t ∧ ChRejected n 13 s t) ∧
      (descInUse s n k = false → stands (put w) = true → ∃ t, exec (.descriptorWrite n off w) s = .next t ∧
        rd t a = put w ∧ gf t (chA n R.chCnt) 16 8 = gf s (chA n R.chCnt) 16 8 ∧ OnlyChannel n [] s t) ∧
      (descInUse s n k = false → stands (put w) = false → ∃ t, exec (.descriptorWrite n off w) s = .next t ∧
        gb t (chA n R.chStat) 13 = true ∧ gf t (chA n R.chCnt) 16 8 = min (gf s (chA n R.chCnt) 16 8 + 1) 255 ∧
        (rd t a = rd s a ∨ stands (rd t a) = true) ∧ (∀ f ∈ fields, gf t a f.1 f.2 = gf s a f.1 f.2 ∨ gf t a f.1 f.2 = fld w f.1 f.2) ∧
        ((∃ f ∈ fields, stands (without f) = true) → ∃ f ∈ fields, rd t a = without f) ∧ OnlyChannel n [] s t))
/-- The Range Control Bus (02 R79 to R88). A frame that a DISCONNECT has discarded (void) is not sent again and holds no channel. That a
retried DISCONNECT keeps class 1 and that several failed frames of a channel are all kept is the model's choice (log entry 105). -/
def Obligations.RangeControlBusCommands : Prop :=
  ∀ (s : State) (g : Nat) (late : Bool) (bits : BitVec 48), GroupIn g s →
    let b : State → Rcb := fun t => rcb t g
    let fails : Frame → Nat → Nat → State → Prop := fun fr f fe t =>
      gb t (chA fr.ch R.chStat) 14 = true ∧ gf t (chA fr.ch R.chCnt) 24 8 = min (gf s (chA fr.ch R.chCnt) 24 8 + 1) 255 ∧
      (fr.void = false → fr.attempt < 3 → { fr with attempt := fr.attempt + 1, cls := if fr.cls = 1 then 1 else 2, ord := s.now, feStatus := fe, live := true, st := .queued (f + 8) } ∈ (b t).frames) ∧
      (3 ≤ fr.attempt → { fr with feStatus := fe, st := .failed (f + 8) } ∈ (b t).frames) ∧
      OnlyRegs [chA fr.ch R.chStat, chA fr.ch R.chCnt, chA fr.ch R.rcbLast] s t
    (∀ fr ∈ nextShift s g, fr.ch / 8 = g →
      let key := 2 * fr.ch + pnum fr.path
      let q := Map.get 0 (b s).seqs key
      ∃ t, exec (.frameShift g) s = .next t ∧ (b t).busFree = s.now + 5 ∧ Map.get 0 (b t).seqs key = (q + 1) % 16 ∧
        (∃ u ∈ (b t).frames, u.ch = fr.ch ∧ u.path = fr.path ∧ u.opc = fr.opc ∧ u.slot = fr.slot ∧ u.seq = q ∧ u.st = .shifting (s.now + 4)) ∧
        OnlyRegs [] s t) ∧
    (∀ fr ∈ nextLatch s g, fr.ch / 8 = g → ∃ t, exec (.latchWord g) s = .next t ∧ (b t).latchFree = s.now + 5 ∧
      { fr with st := .latched (s.now + 1) } ∈ (b t).frames ∧ OnlyRegs [] s t) ∧
    (∀ fr ∈ firing s g, fr.ch / 8 = g → fr.rel = false → ∃ t, exec (.frameFire g) s = .next t ∧ (fr.role ≠ .make → { fr with st := .fired s.now } ∈ (b t).frames) ∧
      (fr.opc = 4 → (chan t fr.ch).disconnected = false) ∧ (fr.opc = 1 → ((chan t fr.ch).path fr.path).sensed.contains (s.now, fr.slot) = true) ∧
      OnlyRegs [chA fr.ch R.rngStat] s t) ∧
    (∀ e ∈ awaiting s g, e.1.ch / 8 = g →
      let fe := bits.toNat / 2 ^ 16 % 2 ^ 16
      (late = false → ackValid e.1 bits.toNat = true → e.1.rel = false → ∃ t, exec (.statusFrame g late bits) s = .next t ∧
        (b t).frames = removeFrame e.1 (b s).frames ∧
        rd t (chA e.1.ch R.rcbLast) = BitVec.ofNat 32 (fe + bits.toNat / 2 ^ 32 % 16 * 2 ^ 16) ∧ OnlyRegs [chA e.1.ch R.rcbLast] s t) ∧
      (late = true ∨ ackValid e.1 bits.toNat = false → ∃ t, exec (.statusFrame g late bits) s = .next t ∧ fails e.1 e.2 fe t) ∧
      (e.2 + 3 ≤ s.now → ∃ t, exec (.ackTimeout g) s = .next t ∧ fails e.1 e.2 0xFFFF t)) ∧
    (∀ fr ∈ failedDue s g, fr.ch / 8 = g → ∃ t, exec (.rcbNoack g) s = .next t ∧ (b t).frames = removeFrame fr (b s).frames ∧
      (fr.void = false → fr ∈ (chan t fr.ch).holdFrames ∧ (modeNow s fr.ch ≠ 0 → inHold t fr.ch = true)) ∧ Reports (0x20 + fr.ch) 0x08 t ∧
      OnlyRegs [chA fr.ch R.chStat] s t) ∧
    (∀ u ∈ s.rcbStop, u ≤ s.now → exec .rcbClockRestart s = .next { s with rcbStop := none })

/-- The force-side writes of chapters 03 to 06, where they are accepted and where they are rejected. That SPAN and DAC_CLR are held against
what the writes accepted before them in the tick leave is the model's reading (log entry 104); that a DAC_CLR with several rejected fields
counts once is its choice (log entry 120). -/
def Obligations.LoopAndForceWrites : Prop :=
  ∀ (s : State) (n off : Nat) (w : Word), ChanIn n s →
    let a := chA n off
    let cfg := (lastOf (fun x => match x with | .loopCfg y => some y | _ => none) (chan s n).shadow).getD (rd s (chA n R.loopCfg))
    let mode := (lastOf (fun x => match x with | .mode y => some y | _ => none) (chan s n).shadow).getD (modeNow s n)
    let takes : Instr → FW → Prop := fun i f => ∃ t, exec i s = .next t ∧ Accepted n f s t ∧ OnlyRegs [] s t
    let same := fld w 0 3 = fld cfg 0 3 ∧ fld w 4 3 = fld cfg 4 3
    let okC : Bool := decide (same ∨ (openNow s n = true ∧ 1 ≤ fld w 0 3 ∧ fld w 0 3 ≤ 6 ∧ 1 ≤ fld w 4 3 ∧ fld w 4 3 ≤ 4 ∧ fld w 0 3 + fld w 4 3 ≤ 8))
    let new : Word := setFld (setFld (setFld (mergeMask 0x700 0 w) 8 1 (if hasRc s = true ∧ w.getLsbD 8 = true then 1 else 0))
      0 3 (fld (if okC then w else cfg) 0 3)) 4 3 (fld (if okC then w else cfg) 4 3)
    let loopRej : Nat → State → Prop := fun i t => gb t (chA n R.loopStat) i = true ∧
      gf t (chA n R.loopCnt) 16 8 = min (gf s (chA n R.loopCnt) 16 8 + 1) 255
    let dacRej : Instr → Prop := fun i => ∃ t, exec i s = .next t ∧ gb t (chA n R.dacStat) 0 = true ∧
      gf t (chA n R.dacStat) 8 8 = min (gf s (chA n R.dacStat) 8 8 + 1) 255 ∧ (chan t n).shadow = (chan s n).shadow ∧ OnlyRegs [chA n R.dacStat] s t
    let keeps : Instr → Prop := fun i => ∃ t, exec i s = .next t ∧ (chan t n).shadow = (chan s n).shadow ∧ OnlyRegs [] s t
    let spanNow := (lastOf (fun x => match x with | .span c => some c | _ => none) (chan s n).shadow).getD (gf s (chA n R.dacCfg) 0 3)
    let clrNow := (lastOf (fun x => match x with | .dacClr w => some w | _ => none) (chan s n).shadow).getD (rd s (chA n R.dacClr))
    let clrMoves := (clrNow ^^^ w) &&& 0x1FFFFF ≠ 0
    let pair : Path → Nat × Bool := fun p =>
      let f := fld w (2 * pnum p) 2
      let was := gf s (chA n R.pairCfg) (2 * pnum p) 2
      if f = was then (was, true) else if f ≠ 3 ∧ pairIdle s n p = true then (f, true) else (was, false)
    let stg := chA n (R.stg + 16 * fld w 0 3)
    (macSum s n mode new ≤ 760 → ∃ t, exec (.loopCfgWrite n w) s = .next t ∧ Accepted n (.loopCfg new) s t ∧
      (okC = false → loopRej 5 t) ∧ OnlyRegs (if okC then [] else [chA n R.loopStat, chA n R.loopCnt]) s t) ∧
    (760 < macSum s n mode new → ∃ t, exec (.loopCfgWrite n w) s = .next t ∧ loopRej 5 t ∧
      (chan t n).shadow = (chan s n).shadow ∧ OnlyRegs [chA n R.loopStat, chA n R.loopCnt] s t) ∧
    takes (.loopCtrlOpen n) (.open_ true) ∧ takes (.loopCtrlClose n) (.open_ false) ∧ takes (.spWrite n w) (.sp w) ∧
    takes (.secCommit n w) (.secCommit (fld w 0 3) (fld w 4 4) (rd s stg) (rd s (stg + 4)) (rd s (stg + 8))) ∧
    (off % 0x200 = 4 → 0x1000 ≤ off → off < 0x3000 → takes (.bankWrite n off w) (.bank off (rwMask a) w)) ∧
    (0x1000 ≤ off → off < 0x3200 → 8 ≤ off % 0x200 → (rowAt a).isSome = true → differs s a w = true → clampBad s n off w = false →
      (setInUse s n off = false → ∃ t, exec (.bankWrite n off w) s = .next t ∧
        rd t a = rd (plainWrite a w s) a ∧ (chan t n).shadow = (chan s n).shadow ∧ OnlyRegs [a] s t) ∧
      (setInUse s n off = true → openNow s n = true → takes (.bankWrite n off w) (.bank off (rwMask a) w)) ∧
      (setInUse s n off = true → openNow s n = false → ∃ t, exec (.bankWrite n off w) s = .next t ∧ rd t a = rd s a ∧ loopRej 4 t ∧
        (0x3000 ≤ off → gb t (chA n R.luffStat) 3 = true) ∧ (chan t n).shadow = (chan s n).shadow ∧
        OnlyRegs (if 0x3000 ≤ off then [chA n R.luffStat, chA n R.loopStat, chA n R.loopCnt] else [chA n R.loopStat, chA n R.loopCnt]) s t)) ∧
    (fld w 0 3 = spanNow → keeps (.spanWrite n w)) ∧
    (fld w 0 3 ≠ spanNow → modeNow s n = 0 → fld w 0 3 < 5 → takes (.spanWrite n w) (.span (fld w 0 3))) ∧
    (fld w 0 3 ≠ spanNow → modeNow s n ≠ 0 ∨ 5 ≤ fld w 0 3 → dacRej (.spanWrite n w)) ∧
    (¬ clrMoves → keeps (.dacClrWrite n w)) ∧
    (clrMoves → modeNow s n = 0 → gb s R.clrStat 0 = false → furled s n = false → takes (.dacClrWrite n w) (.dacClr w)) ∧
    (clrMoves → modeNow s n ≠ 0 ∨ gb s R.clrStat 0 = true ∨ furled s n = true → dacRej (.dacClrWrite n w)) ∧
    (∃ t, exec (.pairCfgWrite n w) s = .next t ∧ (∀ p ∈ [Path.v, .i], gf t (chA n R.pairCfg) (2 * pnum p) 2 = (pair p).1 ∧
        ((pair p).1 ≠ gf s (chA n R.pairCfg) (2 * pnum p) 2 → ((chan t n).path p).mixTo = s.now + 3 ∧ (chan t n).arFrom = s.now + 4)) ∧
      gf t (chA n R.pairCfg) 4 2 = fld w 4 2 ∧ gb t (chA n R.pairStat) 6 = (gb s (chA n R.pairStat) 6 || !(pair .v).2 || !(pair .i).2) ∧
      OnlyRegs [chA n R.pairCfg, chA n R.pairStat] s t)
/-- The loop engine's tick (02 R58 to R62, R65, R66; 03 R90, R91, R98 to R111, R119 to R121). `FormsSetpoint` and `ComputesLoop` say what a
closed loop computes, `PicksCompliance` what its selection or the comparison of R60 shows. That the command of an open loop keeps still
whatever the repetitive term is, is the model's reading of 04 R126 (log entry 93); its choices are log entries 87 (equal outputs), 91 (u_sel
where the tick before formed none), 122 (the rounding of R65) and 133 (two presets of one cascade). -/
def Obligations.LoopComputations : Prop :=
  ∀ (s : State) (g n : Nat) (ins : List LoopIn),
    let cost := ((List.range 8).map (fun j => chCost s (8 * g + j))).sum + 2 * (ins.map (·.retries)).sum
    let cmd : State → Int := fun t => (chan t n).loop.cmd
    let computes := isClosed (modeNow s n) || modeNow s n == 8
    let banks := (chan s n).loop.presets.any (fun p => p.clear && !p.clearAll)
    let both := updLoop n (fun l => { l with presets := l.presets.map (fun p => if p.clear && !p.clearAll then { p with prim := true, comp := true } else p) }) s
    (GroupIn g s → (lcore s g).done = false → ins.length = 8 → 8 * g ≤ n → n < 8 * g + 8 → ∀ x ∈ ins[n - 8 * g]?,
      ∃ t, exec (.loopComputation g ins) s = .next t ∧ (lcore t g).done = true ∧ (lcore t g).slots = cost ∧
        (computes = false → cmd t = cmd s) ∧
        (computes = true → x.memErr.isSome = true → chCost s n ≠ 0 → cmd t = cmd s ∧ gb t (chA n R.loopStat) 1 = true ∧
          gf t (chA n R.loopCnt) 0 16 = min (gf s (chA n R.loopCnt) 0 16 + 1) 65535) ∧
        (computes = true → x.memErr = none → cost ≤ 800 → connecting s n = false → inHold s n = false → inGap s n = false →
          injRuns s n = false →
          let q := pother (forcedPath (modeNow s n))
          let upper := decide (limAct s n q true + limAct s n q false ≤ 2 * measOf t n q)
          (modeNow s n = 8 → cmd t = sfld (rd s (chA n R.manCode)) 0 20) ∧
          (isClosed (modeNow s n) = true → openNow s n = true → cmd t = (chan s n).loop.held) ∧
          (openNow s n = true → PicksCompliance n (if upper = true then decide (limAct s n q true ≤ measOf t n q) else
            decide (measOf t n q ≤ limAct s n q false)) upper s t) ∧
          (isClosed (modeNow s n) = true → FormsSetpoint n s t) ∧
          (openNow s n = false → 0 < gf s (chA n R.loopCfg) 0 3 → 0 < gf s (chA n R.loopCfg) 4 3 →
            (banks = false ∨ (chan s n).loop.selC = true ∨ gb t (chA n R.chStat) 4 = false → ComputesLoop n s t) ∧
            (banks = true → (chan s n).loop.selC = false → gb t (chA n R.chStat) 4 = true → PicksCompliance n true upper s t ∧
              ∃ u, exec (.loopComputation g ins) both = .next u ∧ cmd t = cmd u ∧ (chan t n).loop.secs = (chan u n).loop.secs))) ∧
        (chCost s n = 0 ∨ (x.memErr = none ∧ cost ≤ 800) → (chan t n).loop.tRec =
          leBytes 4 (if isClosed (modeNow t n) = true then (rd t (chA n R.spEff)).toNat else 0) ++ leBytes 4 (toW (chan t n).loop.mF).toNat ++
          leBytes 4 (if isClosed (modeNow t n) = true ∧ openNow t n = false then (toW (chan t n).loop.e32).toNat else 0) ++
          leBytes 4 (pat 20 (cmd t) + modeNow t n * 2 ^ 20 + slotNow t n (forcedPath (modeNow t n)) % 16 * 2 ^ 24)) ∧
        (chCost s n ≠ 0 → x.memErr.isSome = true → (chan t n).loop.tRec = (chan s n).loop.tRec) ∧
        OnlyRange (chA (8 * g) 0) (chA (8 * g + 8) 0) ((streamNos s).flatMap (fun k => [stA k R.strStat, stA k R.strDrop])) s t) ∧
    (ChanIn n s → (chan s n).loop.dlDue = true → ∃ t, exec (.loopDeadline n) s = .next t ∧ (chan t n).loop.dlDue = false ∧
      Reports (0x20 + n) 9 t ∧ OnlyRegs [] s t)
/-- The repetitive controller (04 R125 to R131); RC_CFG is decided field by field (00 R5). The previous value of an entry that has had no update
is the model's choice (log entry 124), as is the P that bounds a transfer (log entry 125); that an access to RC_TDATA, a read too, moves the
index is its reading of R125 beside 17 R435 (log entry 19). -/
def Obligations.RepetitiveController : Prop :=
  ∀ (s : State) (n i : Nat) (w : Word), ChanIn n s → hasRc s = true →
    let st := chA n R.rcStat
    let tab : State → Nat → Word := fun t i => Map.get 0 (chan t n).rc.tab i
    let learn := gb s (chA n R.rcCtrl) 0
    let idx := gf s (chA n R.rcTidx) 0 13
    let idle := gb s (chA n R.loopCfg) 8 = false ∨ openNow s n = true
    let a := chA n R.rcCfg
    let p := fld w 0 14
    let d := fld w 16 4
    let okP := p = gf s a 0 14 ∨ (idle ∧ 16 ≤ p ∧ p ≤ 8192 ∧ gf s (chA n R.rcLead) 0 13 < p)
    let okD := d = gf s a 16 4 ∨ (idle ∧ d ≤ 8)
    let newP := if okP then p else gf s a 0 14
    let newD := if okD then d else gf s a 16 4
    let refused : Instr → Prop := fun c => ∃ t, exec c s = .next t ∧ gb t st 15 = true ∧ (chan t n).rc = (chan s n).rc ∧ OnlyRegs [st] s t
    (differs s a w = true → ∃ t, exec (.rcCfgWrite n w) s = .next t ∧ gf t a 0 14 = newP ∧ gf t a 16 4 = newD ∧
      gb t st 15 = (gb s st 15 || !decide (okP ∧ okD)) ∧ OnlyRegs [a, st] s t ∧
      (newP ≠ gf s a 0 14 ∨ newD ≠ gf s a 16 4 → rcPtr t n = 0 ∧ (chan t n).rc.tick = 0) ∧
      (newP = gf s a 0 14 → newD = gf s a 16 4 → (chan t n).rc = (chan s n).rc)) ∧
    (∃ t, exec (.rcCtrlClear n) s = .next t ∧ Accepted n .rcClear s t ∧ OnlyRegs [] s t) ∧
    ((chan s n).rc.xfer = none → ∃ t, exec (.rcCtrlBackup n) s = .next t ∧ (chan t n).rc.xfer = some (false, 0, 0) ∧ (chan t n).rc.bkAt = rcBkOff s n ∧ gb t st 16 = true ∧
      gb t st 17 = (gb s st 17 || learn) ∧ OnlyRegs [st] s t) ∧
    ((chan s n).rc.xfer = none → learn = false → idle → ∃ t, exec (.rcCtrlRestore n) s = .next t ∧
      (chan t n).rc.xfer = some (true, 0, 0) ∧ (chan t n).rc.bkAt = rcBkOff s n ∧ gb t st 16 = true ∧ OnlyRegs [st] s t) ∧
    ((chan s n).rc.xfer ≠ none → refused (.rcCtrlBackup n)) ∧
    ((chan s n).rc.xfer ≠ none ∨ learn = true ∨ ¬ idle → refused (.rcCtrlRestore n)) ∧
    (∀ x ∈ (chan s n).rc.xfer, rcP s n ≤ x.2.2 → ∃ t, exec (.rcTransferDone n) s = .next t ∧ (chan t n).rc.xfer = none ∧
      gb t st 16 = false ∧ OnlyRegs [st] s t) ∧
    (learn = false → ∃ t, exec (.rcTdataAccess .tc0 n (some w)) s = .next t ∧ tab t idx = w ∧ (i ≠ idx → tab t i = tab s i) ∧
      gf t (chA n R.rcTidx) 0 13 = (idx + 1) % 8192 ∧ OnlyRegs [chA n R.rcTidx] s t) ∧
    (learn = true → ∃ t, exec (.rcTdataAccess .tc0 n (some w)) s = .next t ∧ (chan t n).rc = (chan s n).rc ∧ gb t st 15 = true ∧
      gf t (chA n R.rcTidx) 0 13 = (idx + 1) % 8192 ∧ OnlyRegs [st, chA n R.rcTidx] s t) ∧
    (∃ t, exec (.rcTdataAccess .tc0 n none) s = .next t ∧ tab t i = tab s i ∧ gf t (chA n R.rcTidx) 0 13 = (idx + 1) % 8192 ∧
      OnlyRegs [chA n R.rcTidx] s t) ∧
    ((chan s n).rc.endDue = true → ∃ t, exec (.rcEntryEnd n) s = .next t ∧ (chan t n).rc.endDue = false ∧
      ((chan s n).rc.valid = false → gf t st 24 8 = min (gf s st 24 8 + 1) 255 ∧ tab t i = tab s i) ∧
      ((chan s n).rc.valid = true → learn = false ∨ i ≠ (rcPtr s n + (rcP s n - gf s (chA n R.rcLead) 0 13 % rcP s n)) % rcP s n →
        tab t i = tab s i) ∧
      ((chan s n).rc.valid = true → learn = true →
        let q := rcP s n
        let k := (rcPtr s n + (q - gf s (chA n R.rcLead) 0 13 % q)) % q
        let before := ((Map.get none (chan s n).rc.prev ((k + (q - 1)) % q)).getD (tab s ((k + (q - 1)) % q))).toInt
        let em : Int := max (-2 ^ 31) (min (rneDiv (chan s n).rc.esum (2 ^ gf s a 16 4)) (2 ^ 31 - 1))
        let tap : Int := sfld (rd s (chA n R.rcQf)) 0 16 * (tab s k).toInt +
          sfld (rd s (chA n R.rcQf)) 16 16 * (before + (tab s ((k + 1) % q)).toInt)
        let x : Int := rneDiv tap (2 ^ 15) + rneDiv (sfld (rd s (chA n R.rcGain)) 0 16 * em) (2 ^ 15)
        tab t k = BitVec.ofInt 32 (max (-2 ^ 31) (min x (2 ^ 31 - 1))) ∧
          gb t st 14 = (gb s st 14 || decide (x < -2 ^ 31 ∨ 2 ^ 31 - 1 < x)) ∧ gf t st 24 8 = gf s st 24 8) ∧
      OnlyRegs [st] s t)
/-- The luff detector and the reef set (04 R135 to R139). -/
def Obligations.LuffAndReef : Prop :=
  ∀ (s : State) (n : Nat), ChanIn n s →
    let st := chA n R.luffStat
    let l := (chan s n).luff
    let cr := rd s (chA n R.luffCross)
    let hit := fld cr 0 16 ≤ l.crossings ∧ l.crossings ≤ fld cr 16 16 ∧ sfld (rd s (chA n R.luffAmp)) 0 16 < l.peak
    let k := max 1 (gf s (chA n R.luffCfg) 4 4)
    let run := if hit then gf s st 4 4 + 1 else 0
    let takes : Instr → FW → Prop := fun i f => ∃ t, exec i s = .next t ∧ Accepted n f s t ∧ OnlyRegs [] s t
    let refused : Instr → Prop := fun i => ∃ t, exec i s = .next t ∧ gb t st 3 = true ∧ (chan t n).shadow = (chan s n).shadow ∧ OnlyRegs [st] s t
    let mayReef := gb s (chA n 0x3000) 8 = true ∧ reefAhead s n = false ∧ (isClosed (modeNow s n) = true ∨ modeNow s n = 8)
    (l.endDue = true → 0 ≤ l.peak → l.peak < 65536 → l.crossings < 65536 → ∃ t, exec (.luffWindowEnd n) s = .next t ∧
      gf t (chA n R.luffLast) 0 16 = l.peak.toNat ∧ gf t (chA n R.luffLast) 16 16 = l.crossings ∧
      gf t st 4 4 = (if k ≤ run then 0 else run) ∧ (chan t n).luff.assertDue = decide (k ≤ run) ∧ (chan t n).luff.endDue = false ∧
      OnlyRegs [st, chA n R.luffLast] s t) ∧
    (l.assertDue = true → ∃ t, exec (.loopLuff n) s = .next t ∧ gb t st 0 = true ∧ gf t st 8 8 = min (gf s st 8 8 + 1) 255 ∧
      Reports (0x20 + n) 0x0C t ∧ t.fc.reacts = s.fc.reacts ++ (match luffReaction s n with
        | some a => [⟨s.now + 1, [n], a, none⟩] | none => []) ∧ OnlyRegs [st] s t) ∧
    (mayReef → takes (.luffCtrlReefSet n) (.reef true)) ∧ (¬ mayReef → refused (.luffCtrlReefSet n)) ∧
    (reefAhead s n = true → takes (.luffCtrlReefRel n) (.reef false)) ∧ (reefAhead s n = false → refused (.luffCtrlReefRel n)) ∧
    takes (.luffCtrlRestart n) .luffRestart
/-- Injections and their captures (04 R143 to R145). -/
def Obligations.Injections : Prop :=
  ∀ (s : State) (n : Nat), ChanIn n s →
    let st := chA n R.injStat
    let c := chan s n
    let enters : State → Nat → List Byte → Prop := fun t k it =>
      strEn s k = true → headRoom s k 16 = true → strItems (strm t k) = strItems (strm s k) ++ [it]
    let refused := injRejected s n
    (refused = false → .injGo ∉ c.shadow → ∃ t, exec (.injCtrlGo n) s = .next t ∧ Accepted n .injGo s t ∧ OnlyRegs [] s t) ∧
    (refused = true → ∃ t, exec (.injCtrlGo n) s = .next t ∧ gb t st 1 = true ∧ (chan t n).shadow = c.shadow ∧ OnlyRegs [st] s t) ∧
    (.injGo ∉ c.shadow → ∃ t, exec (.injCtrlStop n) s = .next t ∧ Accepted n .injStop s t ∧ OnlyRegs [] s t) ∧
    (.injGo ∈ c.shadow → ∃ t, exec (.injCtrlStop n) s = .next t ∧ gb t st 1 = true ∧
      (chan t n).shadow = c.shadow.filter (· != .injGo) ++ [.injStop] ∧ OnlyRegs [st] s t) ∧
    (∀ i ∈ c.inj, i.ended = none → i.last < s.now → ∃ t, exec (.injectionEnd n) s = .next t ∧
      (chan t n).inj = some { i with ended := some (if i.stop = true then 1 else 0) } ∧ gb t st 0 = false ∧ gb t st 2 = true ∧
      OnlyRegs [st] s t) ∧
    (∀ i ∈ (c.injOld ++ c.inj.toList).head?, n < 32 →
      (i.headerDone = false → i.first ≤ s.now → capTakes s i = true → ∃ t, exec (.captureHeaderWrite n) s = .next t ∧
        (injHead t n).map (·.headerDone) = some true ∧
        enters t (32 + i.stream) (leBytes 6 i.startTime ++ [BitVec.ofNat 8 (n + 32 * fld i.cfg 0 2 + (if i.cfg.getLsbD 2 = true then 128 else 0)), 0xC1]
          ++ leBytes 2 i.prbs0 ++ leBytes 2 i.amp.toNat ++ leBytes 4 i.n.toNat) ∧
        OnlyRegs [stA (32 + i.stream) R.strStat, stA (32 + i.stream) R.strDrop] s t) ∧
      (i.headerDone = true → ∀ e ∈ i.ended, capTakes s i = true → ∃ t, exec (.captureTrailerWrite n) s = .next t ∧
        (chan t n).injOld ++ (chan t n).inj.toList = (c.injOld ++ c.inj.toList).tail ∧
        enters t (32 + i.stream) (leBytes 4 i.written ++ leBytes 4 i.dropped ++ leBytes 2 (min i.cmpTicks 65535) ++ leBytes 2 (min i.missed 65535)
          ++ leBytes 2 (min i.rngTicks 65535) ++ [BitVec.ofNat 8 e, 0xCE]) ∧
        OnlyRegs [stA (32 + i.stream) R.strStat, stA (32 + i.stream) R.strDrop] s t))

/-- Apertures and their records (05 R159 to R167). apSum weighs a triangular aperture by the length with which it
closes: the model's choice (log entry 11). -/
def Obligations.Apertures : Prop :=
  ∀ (s : State) (n : Nat) (p : Path) (a : Ap), ChanIn n s →
    let st := chA n (apOff p R.apStat)
    let m := (chan s n).path p
    let after : State → Meas := fun t => (chan t n).path p
    let dropped := 8 ≤ (chan s n).recs.length ∨ (m.ap ≠ none ∧ (m.cont = true ∨ m.queued = true))
    (m.stop = true → exec (.apCtrlGo n p) s = .next s) ∧
    (m.stop = false → ¬ dropped → m.ap = none → ∃ t, exec (.apCtrlGo n p) s = .next t ∧
      (after t).ap = some (newAp (s.now + 1) (modeNow s n)) ∧ OnlyRegs [] s t) ∧
    (m.stop = false → ¬ dropped → m.ap ≠ none → ∃ t, exec (.apCtrlGo n p) s = .next t ∧ (after t).ap = m.ap ∧
      (after t).queued = true ∧ gb t st 1 = true ∧ OnlyRegs [st] s t) ∧
    (m.stop = false → dropped → ∃ t, exec (.apCtrlGo n p) s = .next t ∧ (after t).ap = m.ap ∧ (after t).queued = m.queued ∧
      gb t st 2 = true ∧ gf t st 16 16 = min (gf s st 16 16 + 1) 65535 ∧ (after t).ovr = min 15 (m.ovr + 1) ∧ OnlyRegs [st] s t) ∧
    (∃ t, exec (.apCtrlStop n p) s = .next t ∧ (after t).queued = false ∧ (after t).cont = false ∧ (after t).stop = true ∧
      gb t st 1 = false ∧ (m.ap = none → (after t).ap = none) ∧
      (∀ b ∈ m.before, b.1 < 65536 → gf t st 16 16 = b.1) ∧
      (m.ap = some a → a.armed = false → a.start ≤ s.now → apEndsNow s n a = false →
        (after t).ap = some { a with n := s.now + 2 - a.start, trunc := true, lines := if a.lines = 1 then 1 else 0 }) ∧ OnlyRegs [st] s t) ∧
    (m.ap = some a → apCloseDue s n p = true →
      let last := chA n (apOff p R.apLast)
      let lst := chA n (apOff p R.apLstat)
      ∃ t, exec (.apertureClose n p) s = .next t ∧
        rd t last = (if a.incl = 0 then 0 else BitVec.ofInt 32 (sat32 (rneDiv (apSum a).1 (apSum a).2))) ∧
        gf t lst 0 4 = slotNow s n p % 16 ∧ gb t lst 26 = (a.flags.testBit 10 || a.trunc) ∧ (after t).apnum = (m.apnum + 1) % 65536 ∧
        (after t).ap = some { a with closed := true } ∧ (after t).queued = m.queued ∧ (after t).ovr = 0 ∧
        ((chan s n).recs = [] → strEn s n = true → (strm s n).fmt = false → a.cfg.getLsbD 10 = false → headRoom s n 16 = true →
          strItems (strm t n) = strItems (strm s n) ++ [leBytes 6 (ticktime48 s) ++ leBytes 1 (n + 32 * pnum p)
            ++ leBytes 1 (slotNow s n p + 16 * min m.ovr 15) ++ leBytes 4 (rd t last).toNat ++ leBytes 2 (gf t lst 16 16)
            ++ leBytes 2 (m.apnum % 65536)]) ∧
        OnlyRegs [st, last, lst, stA n R.strStat, stA n R.strDrop] s t) ∧
    (m.ap = some a → lineTmoDue s n p = true → ∃ t, exec (.lineTmo n p) s = .next t ∧ gb t st 3 = true ∧
      (∃ b ∈ (after t).ap, b.flags.testBit 11 = true ∧ b.lines = 0 ∧ b.armed = false ∧
        b.start = (if a.armed = true then s.now else a.start) ∧
        b.n = (if a.armed = true then lineLen s n a else max (s.now + 1 - a.start) (lineLen s n a))) ∧ OnlyRegs [st] s t)
/-- Raw capture (05 R168, R169), the corrections of a pair (R149 to R151) and the calibration table (R155, R158). Which pairs a block counts is
the model's choice (log entry 129). -/
def Obligations.CapturesCorrectionsAndTables : Prop :=
  ∀ (s : State) (n e : Nat) (p : Path) (est : Estimate) (w : Word), ChanIn n s → e / 16384 = n →
    let raw := (chan s n).raw
    let cfg := rd s (chA n R.rawCfg)
    let rst := chA n R.rawStat
    let cst := chA n R.calStat
    let goBad := raw ≠ none ∨ (chan s n).rawStopAt = some s.now ∨ fld cfg 0 2 = 0 ∨ (cfg.getLsbD 2 = true ∧ streamHeld s n (fld cfg 3 2) = false)
    let corr : Nat → Nat := fun off => chA n (off + 0x10 * pnum p)
    let within : Int → Int → Int → Int := fun lo hi x => max lo (min hi x)
    let rejects : Instr → Prop := fun c => ∃ t, exec c s = .next t ∧ gb t cst 0 = true ∧
      gf t cst 16 8 = min (gf s cst 16 8 + 1) 255 ∧ (chan t n).calLd = (chan s n).calLd ∧ OnlyRegs [cst, chA n R.calLd] s t
    (¬ goBad → ∃ t, exec (.rawCtrlGo n) s = .next t ∧ (∃ r ∈ (chan t n).raw, r.first = s.now + 1 ∧
      r.last = s.now + (rd s (chA n R.rawN)).toNat ∧ r.dst = (if cfg.getLsbD 2 = true then 32 + fld cfg 3 2 else n)) ∧ OnlyRegs [] s t) ∧
    (goBad → ∃ t, exec (.rawCtrlGo n) s = .next t ∧ gb t rst 1 = true ∧ (chan t n).raw = raw ∧ OnlyRegs [rst] s t) ∧
    (raw = none → ∃ t, exec (.rawCtrlStop n) s = .next t ∧ (chan t n).raw = none ∧ (chan t n).rawStopAt = some s.now ∧ OnlyRegs [] s t) ∧
    (∀ r ∈ raw, (r.first = s.now + 1 → ∃ t, exec (.rawCtrlStop n) s = .next t ∧ gb t rst 1 = true ∧ (chan t n).raw = none ∧ OnlyRegs [rst] s t) ∧
      (r.first ≠ s.now + 1 → ∃ t, exec (.rawCtrlStop n) s = .next t ∧ (chan t n).raw = some { r with last := min r.last (s.now + 1) } ∧
        OnlyRegs [] s t) ∧
      (r.last < s.now → ∃ t, exec (.rawCaptureEnd n) s = .next t ∧ (chan t n).raw = none ∧ gb t rst 2 = true ∧
        OnlyRegs [rst, stA r.dst R.strStat, stA r.dst R.strDrop] s t)) ∧
    (((chan s n).path p).pairs < 4096 → exec (.interleaveBlockEnd n p est) s = .next s) ∧
    (4096 ≤ ((chan s n).path p).pairs → ∃ t, exec (.interleaveBlockEnd n p est) s = .next t ∧ ((chan t n).path p).pairs = 0 ∧
      sfld (rd t (corr R.corrOfs)) 0 30 = (if corrHeld s n p = true then sfld (rd s (corr R.corrOfs)) 0 30
        else within (-(2 ^ 29)) (2 ^ 29 - 1) (sfld (rd s (corr R.corrOfs)) 0 30 + within (-256) 256 est.dOfs)) ∧
      sgn (rd t (corr R.corrGain)) = (if corrHeld s n p = true then sgn (rd s (corr R.corrGain))
        else within (-(2 ^ 31)) (2 ^ 31 - 1) (sgn (rd s (corr R.corrGain)) + within (-4096) 4096 est.dGain)) ∧
      sfld (rd t (corr R.corrSkew)) 0 9 = (if corrHeld s n p = true ∨ est.slope = false then sfld (rd s (corr R.corrSkew)) 0 9
        else within (-256) 255 (sfld (rd s (corr R.corrSkew)) 0 9 + within (-1) 1 est.dSkew)) ∧
      (pairMode s n p ≠ 2 → 2048 < est.rOfs.natAbs → gb t (chA n R.pairStat) (pnum p) = false) ∧
      (pairMode s n p ≠ 2 → est.rOfs.natAbs ≤ 1024 → est.rGain.natAbs ≤ 1024 → est.rSkew.natAbs ≤ 2 →
        15 ≤ ((chan s n).path p).good → gb t (chA n R.pairStat) (pnum p) = true) ∧
      OnlyRegs [corr R.corrOfs, corr R.corrGain, corr R.corrSkew, chA n R.pairStat] s t) ∧
    (∃ t, exec (.calLowWordWrite .tc0 e w) s = .next t ∧ Map.get 0 t.latches (calLatch 0) = w ∧ OnlyRegs [] s t) ∧
    (calInUse s n (e / 1024 % 16) = false → ∃ t, exec (.calHighWordWrite .tc0 e w) s = .next t ∧
      rd t (calA e) = Map.get 0 s.latches (calLatch 0) ∧ rd t (calA e + 4) = w &&& 0xFFFF ∧ OnlyRegs [calA e, calA e + 4] s t) ∧
    (calInUse s n (e / 1024 % 16) = true → rejects (.calHighWordWrite .tc0 e w)) ∧
    (calInUse s n (fld w 0 4) = false → (chan s n).calLd = none → ∃ t, exec (.calLdGo n w) s = .next t ∧
      (chan t n).calLd = some { slot := fld w 0 4, path := fld w 4 1, src := calSrc s n } ∧ gb t cst 2 = true ∧ OnlyRegs [cst, chA n R.calLd] s t) ∧
    (calInUse s n (fld w 0 4) = true ∨ (chan s n).calLd ≠ none → rejects (.calLdGo n w)) ∧
    (calLoaded s n = true → ∃ t, exec (.calLoadDone n) s = .next t ∧ (chan t n).calLd = none ∧ gb t cst 2 = false ∧ OnlyRegs [cst] s t)
/-- CLR_N (06 R183 to R185; 02 R88). That the 8 ticks of the stopped RCB clocks are ticks now to now + 7 is the model's choice (log entry
88). -/
def Obligations.ClearPin : Prop :=
  ∀ (s : State) (n g : Nat), (s.inReset = true → (∃ t, exec .clrNAssert s = .next t ∧ t.clrLow = true ∧ OnlyRegs [] s t) ∧
      ∃ t, exec .clrNDeassert s = .next t ∧ t.clrLow = false ∧ OnlyRegs [] s t) ∧ (s.inReset = false →
    (∃ t, exec .clrNAssert s = .next t ∧ t.clrLow = true ∧ t.clrDue = true ∧
      (hasChan s n = true → gf t (chA n R.dacCode) 0 20 = pat 20 (chan s n).clrLatch) ∧
      OnlyRegs ((chans s).map (fun n => chA n R.dacCode)) s t) ∧
    (∃ t, exec .clrNDeassert s = .next t ∧ t.clrLow = false ∧ gb t R.clrStat 1 = false ∧ OnlyRegs [R.clrStat] s t) ∧
    (running s = true → s.clrDue = true → ∃ t, exec .clrNRecognised s = .next t ∧ gb t R.clrStat 0 = true ∧
      gb t R.clrStat 1 = s.clrLow ∧ gf t R.clrStat 8 8 = min (gf s R.clrStat 8 8 + 1) 255 ∧ t.clrDue = false ∧ t.clrRec = some s.now ∧
      t.fc.reacts = s.fc.reacts ++ [⟨s.now + 1, chans s, .clr, none⟩] ∧ t.rcbStop = some (s.now + 8) ∧
      (hasGroup s g = true → (rcb t g).frames = []) ∧
      (hasChan s n = true → (chan t n).chg = (chan s n).chg.map (fun c => { c with abandoned := true }) ∧ (chan t n).mv.queued = false ∧ (chan t n).mi.queued = false ∧
        (chan t n).mv.cont = false ∧ (chan t n).mi.cont = false) ∧
      OnlyRegs (R.clrStat :: (chans s).flatMap (fun n => [chA n R.apStat, chA n (R.apStat + 0x20)])) s t) ∧
    (running s = true → gb s R.clrStat 0 = true → gb s R.clrStat 1 = false → s.clrRec ≠ some s.now →
      ∃ t, exec .clrLatchClear s = .next t ∧ gb t R.clrStat 0 = false ∧ t.clrFree = s.now + 1 ∧ OnlyRegs [R.clrStat] s t) ∧
    (running s = true → gb s R.clrStat 1 = true ∨ s.clrRec = some s.now → exec .clrLatchClear s = .next s))
/-- The monitor converters (06 R188 to R197). That a second CAL before the first begins changes nothing is the model's choice (log entry
18). -/
def Obligations.MonitorConverters : Prop :=
  ∀ (s : State) (g k : Nat) (q : MonReq) (res sum : Int) (w : Word), GroupIn g s →
    let st := maA g R.maStat
    let m := mon s g
    let resReg : Nat → Nat := fun j => if j = 4 then maA g R.fpRes else maA g (R.injRes + 4 * j)
    let bad := hostHolds s (20 + 4 * g + k) = false ∨ reqPending s g k = true ∨ monInput s g (fld w 0 6) = false
    let calSame : Prop := m.calWait = true ∧ m.calAt = s.now
    let earlier : MonReq → Prop := fun x => x ∈ m.pend ∧ x.at_ < s.now
    (k < 4 → ¬ bad → ∃ t, exec (.injReq g k w) s = .next t ∧ gf t (resReg k) 24 2 = 0 ∧
      (mon t g).pend = m.pend ++ [{ input := fld w 0 6, chk := w.getLsbD 6, limset := fld w 8 3, src := k, entry := 0, at_ := s.now }] ∧
      (mon t g).calAfter = m.calAfter + (if calSame then 1 else 0) ∧ gb t st 1 = (gb s st 1 || decide calSame) ∧
      OnlyRegs [resReg k, st] s t) ∧
    (k < 4 → bad → ∃ t, exec (.injReq g k w) s = .next t ∧ gb t st 4 = true ∧ mon t g = m ∧ OnlyRegs [st] s t) ∧
    (gb s st 0 = true → ∃ t, exec (.maCtrlCal g) s = .next t ∧ gb t st 3 = true ∧ mon t g = m ∧ OnlyRegs [st] s t) ∧
    (gb s st 0 = false → m.calWait = false → ∃ t, exec (.maCtrlCal g) s = .next t ∧ (mon t g).calWait = true ∧
      (mon t g).calAfter = m.pend.length ∧ (mon t g).calAt = s.now ∧
      gb t st 1 = (gb s st 1 || decide (m.pend ≠ []) || reqRuns s g) ∧ OnlyRegs [st] s t) ∧
    (gb s st 0 = false → m.calWait = true → exec (.maCtrlCal g) s = .next s) ∧
    (s.now % 80 = 0 → m.next ≤ s.now → m.calSlots = none → m.calWait = false → m.writes = [] →
      let len := min 32 (gf s (maA g R.maCfg) 0 6)
      let ptr := gf s st 8 5 % len
      let entry := rd s (maA g (R.scan + 4 * ptr))
      ∃ t, exec (.conversionSlotBoundary g) s = .next t ∧ (mon t g).fin = m.conv.map (fun c => (c.1, s.now + 1, c.2.2)) ∧
        (q ∈ m.pend → q.at_ < s.now → q.src = 4 → ∃ c ∈ (mon t g).conv, c.1.src = 4 ∧ c.1 ∈ m.pend ∧ c.2 = (s.now, 0) ∧ gf t st 8 5 = gf s st 8 5) ∧
        (q ∈ m.pend → q.at_ < s.now → q.src < 4 → (∀ x ∈ m.pend, x.at_ < s.now → q.src ≤ x.src ∧ x.src ≠ 4) →
          ∃ c ∈ (mon t g).conv, c.1.src = q.src ∧ c.1 ∈ m.pend ∧ c.2 = (s.now, 0) ∧ gf t st 8 5 = gf s st 8 5) ∧
        ((∀ x ∈ m.pend, ¬ earlier x) → gb s (maA g R.maCfg) 6 = true → 0 < len →
          (mon t g).conv = some ({ input := fld entry 0 6, chk := entry.getLsbD 6, limset := fld entry 8 3, src := 5, entry := ptr, at_ := s.now }, s.now, 0) ∧
          gf t st 8 5 = (ptr + 1) % len) ∧ OnlyRegs [st] s t) ∧
    (m.fin = some (q, s.now, sum) → q.src ≤ 5 → q.entry < 32 → q.limset < 8 → -(2 ^ 23) ≤ res → res < 2 ^ 23 →
      let out := q.chk && (if q.input < 8 then decide (gf s (maA g R.rbWin) 0 16 < (res - rneDiv sum 80).natAbs)
        else decide (res < sfld (rd s (maA g (R.limLo + 4 * q.limset))) 0 24) || decide (sfld (rd s (maA g (R.limHi + 4 * q.limset))) 0 24 < res))
      let dst := if q.src = 5 then maA g (R.res + 4 * q.entry) else resReg q.src
      let ch := 8 * g + q.input
      ∃ t, exec (.conversionResult g res) s = .next t ∧ (mon t g).fin = none ∧
        rd t dst = BitVec.ofNat 32 (pat 24 res + 2 ^ 24 + (if out = true then (if q.src = 5 then 2 ^ 25 else 2 ^ 26) else 0)) ∧
        (q.input < 8 → rd t (chA ch R.dacRb) = BitVec.ofNat 32 (pat 24 res + 2 ^ 24)) ∧
        (out = true → gf t st 16 8 = min (gf s st 16 8 + 1) 255 ∧
          (q.input < 8 → gb t st 5 = true ∧ gb t (chA ch R.dacStat) 2 = true ∧ Reports (8 + g) 0x12 t) ∧
          (8 ≤ q.input → gb t st 6 = true ∧ Reports (8 + g) 0x13 t)) ∧
        OnlyRegs (dst :: (if out = true then [st] else []) ++ (if q.input < 8 then [chA ch R.dacRb, chA ch R.dacStat] else [])) s t) ∧
    ((∃ c ∈ m.calSlots, 31 ≤ c) → ∃ t, exec (.calibrationComplete g) s = .next t ∧ (mon t g).calSlots = none ∧ gb t st 0 = false ∧
      (mon t g).pend = m.pend ∧ OnlyRegs [st] s t) ∧
    ((∃ c ∈ m.calSlots, max 33 (gf s (maA g R.maCfg) 8 8) ≤ c) → ∃ t, exec (.monCal g) s = .next t ∧ (mon t g).calSlots = none ∧
      gb t st 0 = false ∧ gb t st 2 = true ∧ Reports (8 + g) 0x14 t ∧ (mon t g).pend = [] ∧
      (∀ x ∈ m.pend, x.src ≤ 4 → gf t (resReg x.src) 24 2 = 2) ∧ OnlyRegs (st :: m.pend.map (fun x => maA g (reqRes x.src))) s t)

/-- The segment player's commands (07 R201 to R204, R209 to R213). -/
def Obligations.GeneratorCommands : Prop :=
  ∀ (s : State) (n d k : Nat) (w : Word), ChanIn n s → d < 1024 →
    let st := chA n R.genStat
    let cnt := chA n R.genCnt
    let g := (chan s n).gen
    let runs := g.run = true ∨ ∃ e ∈ (chan s n).shadow, (match e with | .genStart _ => true | _ => false) = true
    let valid := gb s (chA n (R.gd + 16 * d + 12)) 31 = true
    let marked := g.mark ≠ none ∨ ∃ e ∈ (chan s n).shadow, (match e with | .genMark _ => true | _ => false) = true
    let takes : Instr → FW → Prop := fun c f => ∃ t, exec c s = .next t ∧ Accepted n f s t ∧ OnlyRegs [] s t
    let refused : Nat → Instr → Prop := fun i c => ∃ t, exec c s = .next t ∧ gb t st i = true ∧
      gf t cnt 16 8 = min (gf s cnt 16 8 + 1) 255 ∧ chan t n = chan s n ∧ OnlyRegs [st, cnt] s t
    let word := fun j => R.gd + 16 * d + 4 * j
    let active := gdHeld s n d (4 * k) w = true
    let len := gf s (chA n (word 2)) 0 25
    let start := gf s (chA n (word 0)) 6 26 * 64 + gf s (chA n (word 1)) 0 4 * 2 ^ 32
    let bad := len < 4 ∨ 2 ^ 24 < len ∨ memSize s < start + 64 * len
    let kept : Word := if k = 0 then 0xFFFFFFC0 else if k = 1 then 0xF else if k = 2 then 0x1FFFFFF else 0xB3FFFFFF
    (valid → ¬ runs → takes (.genCtrlPrime n d) (.genPrime d) ∧ takes (.genCtrlStart n d) (.genStart d)) ∧
    (¬ valid ∨ runs → refused 13 (.genCtrlPrime n d) ∧ refused 13 (.genCtrlStart n d)) ∧
    (valid → runs → takes (.genCtrlJump n d) (.genJump d) ∧ takes (.genCtrlJumpNow n d) (.genJumpNow d)) ∧
    (¬ valid ∨ ¬ runs → refused 13 (.genCtrlJump n d) ∧ refused 13 (.genCtrlJumpNow n d)) ∧
    let replays := ∃ p ∈ g.replay, g.run = false ∨ g.done = true ∨ p ≠ g.r
    (runs → ¬ replays → takes (.genCtrlMark n d) (.genMark d)) ∧
    (¬ runs ∨ replays → refused 13 (.genCtrlMark n d)) ∧
    (marked → takes (.genCtrlRewind n) .genRewind) ∧ (¬ marked → refused 13 (.genCtrlRewind n)) ∧
    takes (.genCtrlStop n) .genStop ∧ takes (.genCtrlUnmark n) .genUnmark ∧
    (k < 4 → ¬ active → ¬ (k = 3 ∧ w.getLsbD 31 = true ∧ bad) → ∃ t, exec (.genDescriptorWrite n (word k) w) s = .next t ∧
      rd t (chA n (word k)) = w &&& kept ∧ OnlyRegs [chA n (word k)] s t) ∧
    (k < 4 → active → refused 9 (.genDescriptorWrite n (word k) w)) ∧
    (playPending s n = false → g.commitDue = false → g.endDue = false → g.now_ = none → (d ∈ activeDescs s n ↔ active)) ∧
    (gdHeld s n d 12 w = false → w.getLsbD 31 = true → bad → refused 13 (.genDescriptorWrite n (word 3) w))
/-- The segment player's events (07 R205 to R214). -/
def Obligations.GeneratorEvents : Prop :=
  ∀ (s : State) (n i d : Nat) (x : Option Nat), ChanIn n s → x = boundCtx s n →
    let st := chA n R.genStat
    let g := (chan s n).gen
    let after : State → Player := fun t => (chan t n).gen
    let cur := g.cur.getD 0
    let w := rd s (chA n (R.gd + 16 * cur + 12))
    let chosen : Option Nat := if g.now_ ≠ none then none else if g.pend ≠ none then g.pend else if w.getLsbD 28 = true ∨ g.plays < fld w 0 16 then some cur
      else if w.getLsbD 29 = true then none else some (fld w 16 10)
    let valid : Nat → Bool := fun e => gb s (chA n (R.gd + 16 * e + 12)) 31
    (g.commitDue = true → ∃ t, exec (.commitPoint n) s = .next t ∧ (after t).commitDue = false ∧
      (chosen = none → (after t).nxt = g.nxt ∧ (after t).pend = g.pend ∧ OnlyRegs [] s t) ∧
      (∀ e ∈ chosen, valid e = true → (after t).nxt = some e ∧ (after t).pend = none ∧ OnlyRegs [] s t) ∧
      (∀ e ∈ chosen, valid e = false → (after t).nxt = g.nxt ∧ (after t).pend = none ∧ gb t st 10 = true ∧ OnlyRegs [st] s t)) ∧
    (g.endDue = true → ∃ t, exec (.playEnd n) s = .next t ∧ (after t).endDue = false ∧
      (after t).cur = g.cur ∧ (after t).idx = g.idx ∧ (after t).nxt = g.nxt ∧
      (g.now_ ≠ none → (after t).turn = false ∧ (after t).stopDue = g.stopDue ∧ OnlyRegs [] s t) ∧
      (g.now_ = none → ∀ e ∈ g.nxt, let b := after (genBegin n t); b.cur = some e ∧ b.nxt = none ∧ b.idx = 0 ∧
        b.plays = (if g.cur = some e then g.plays + 1 else 0) ∧ b.r = g.r ∧ b.stopDue = g.stopDue ∧ OnlyRegs [] s t) ∧
      (g.now_ = none → g.nxt = none → gb t st 12 = true ∧ (after t).stopDue = true ∧ OnlyRegs [st] s t)) ∧
    (g.run = true → g.done = false → g.replay = none → g.nowAt < s.now → g.now_ = some (d, g.r) → ∃ t, exec (.jumpNowBoundary n) s = .next t ∧
      (after t).cur = some d ∧ (after t).idx = 0 ∧ (after t).now_ = none ∧ OnlyRegs [] s t) ∧
    (g.run = true → g.done = false → g.replay = some g.r → ∃ t, exec (.replayEnd n) s = .next t ∧ (after t).replay = none ∧ OnlyRegs [] s t) ∧
    (∀ e ∈ nextGranule s n, portFree s 4 = true → (∀ j ∈ s.hostJobs, j.write = false) → ∃ t, exec (.refillRequest n) s = .next t ∧
      portQ t 4 = portQ s 4 ++ [{ port := 4, offset := e.2, who := .gen n g.epoch e.1, write := false }] ∧
      (after t).req = e.1 + 16 ∧ OnlyRegs [] s t) ∧
    (∀ e ∈ genBurst s n, e.1.who = .gen n g.epoch g.w → (∀ m ∈ g.mark, g.w + 16 ≤ m + 8192) → ∃ t, exec (.refillBurst n) s = .next t ∧ (after t).w = g.w + 16 ∧
      (e.2 = none → (after t).bad = g.w :: g.bad) ∧
      (∀ bs ∈ e.2, i < 16 → Map.get 0 (after t).ring ((g.w + i) % 8192) = BitVec.ofNat 32 (leVal ((bs.drop (4 * i)).take 4))) ∧ OnlyRegs [] s t) ∧
    (g.underDue = true →
      let lost := (g.bad.contains (g.r / 16 * 16) = true ∧ g.r < g.w) ∨ g.badAt = some s.now
      let first := ∀ h ∈ g.hold, h ≤ 1
      let stops := lost ∨ gb s (chA n R.genCfg) 8 = true
      ∃ t, exec (.genUnderrun n) s = .next t ∧ (first → gb t st 7 = true ∧
          gf t (chA n R.genCnt) 0 16 = min (gf s (chA n R.genCnt) 0 16 + 1) 65535 ∧ Reports (0x20 + n) 0x18 t) ∧
        (¬ first → gb t st 7 = gb s st 7 ∧ gf t (chA n R.genCnt) 0 16 = gf s (chA n R.genCnt) 0 16) ∧
        gb t st 14 = (gb s st 14 || decide lost) ∧
        (¬ stops → (after t).stopDue = g.stopDue ∧ OnlyRegs [st, chA n R.genCnt] s t) ∧
        (stops → (after t).stopDue = true ∧ (x = none → OnlyRegs [st, chA n R.genCnt] s t) ∧
          (∀ c ∈ x, c < 4096 → ctxState s c = 2 → (seq s n).pendSt ≠ some 4 → EtQuiet s → gf t (cxA c R.cxState) 16 8 = 0x0B ∧ (seq t n).pendSt = some 4 ∧
            OnlyRegs ([st, chA n R.genCnt, cxA c R.cxState, cxA c R.cxExcPc, cxA c R.cxExcTick, cxA c R.cxHeldLo, cxA c R.cxHeldHi,
              sqA n R.seqStat] ++ (List.range 8).map (fun u => etA u R.etStat)) s t))) ∧
    (g.stopDue = false → ∀ k ∈ g.gapDue, k < 2 ^ 32 → ∃ t, exec (.underrunEnd n) s = .next t ∧ (rd t (chA n R.genGap)).toNat = k ∧
      (after t).gapDue = none ∧ OnlyRegs [chA n R.genGap] s t)
/-- The DDS's commands (07 R217 to R221). -/
def Obligations.DdsCommands : Prop :=
  ∀ (s : State) (n i : Nat) (w : Word), ChanIn n s → i < 1024 →
    let entry := chA n (R.ddsTab + 4 * i)
    let takes : Instr → FW → Prop := fun c f => ∃ t, exec c s = .next t ∧ Accepted n f s t ∧ OnlyRegs [] s t
    let inUse := gf s (chA n R.ddsCfg) 0 2 = 3 ∧ (chan s n).dds.run = true
    (∃ t, exec (.ddsFtwLoWrite .tc0 n w) s = .next t ∧ Map.get 0 t.latches n = w ∧ OnlyRegs [] s t) ∧
    takes (.ddsFtwHiWrite .tc0 n w) (.ddsFtw (Map.get 0 s.latches n) (w &&& 0xFFFF)) ∧
    (¬ inUse → ∃ t, exec (.ddsTabWrite n i w) s = .next t ∧ rd t entry = w ∧ OnlyRegs [entry] s t) ∧
    (inUse → ∃ t, exec (.ddsTabWrite n i w) s = .next t ∧ gb t (chA n R.ddsStat) 2 = true ∧
      gf t (chA n R.genCnt) 16 8 = min (gf s (chA n R.genCnt) 16 8 + 1) 255 ∧ OnlyRegs [chA n R.ddsStat, chA n R.genCnt] s t) ∧
    takes (.ddsCtrlGo n) .ddsGo ∧ takes (.ddsCtrlHalt n) .ddsHalt ∧ takes (.ddsCtrlPhaseReset n) .ddsPhase

/-- SEQ_CMD (08 R224), the context store (R223) and IC_CTRL (R229). A command is judged on the context's state alone; that a BIND or
RESUME after an UNBIND of the same tick holds instead of it is the model's choice (log entry 80). -/
def Obligations.SequencerCommands : Prop :=
  ∀ (s : State) (n x k l : Nat) (w : Word) (y : Option Nat), ChanIn n s → y = boundCtx s n →
    let st := sqA n R.seqStat
    let q := seq s n
    let runs : Nat → Prop := fun c => ctxState s c = 1 ∨ ctxState s c = 2
    let stopped : Nat → Prop := fun c => ctxState s c = 3 ∨ ctxState s c = 4
    let bindable := ctxState s x = 0 ∧ chainTarget s x = false ∧ pinsBad s n x = false ∧ (∀ c ∈ y, stopped c)
    let refused : Instr → Prop := fun i => ∃ t, exec i s = .next t ∧ gb t st 20 = true ∧ seq t n = q ∧ OnlyRegs [st] s t
    let a := cxA x k
    let m := rwMask a
    (nCtxs s ≤ x → chainTarget s x = false → x < 4096 → exec (.seqCmdBind n x) s = .next s) ∧
    (x < nCtxs s → bindable → ∃ t, exec (.seqCmdBind n x) s = .next t ∧ boundCtx t n = some x ∧
      ctxState t x = (if pinMissing s n = [] then 2 else 1) ∧ gf t (cxA x R.cxState) 8 5 = n ∧ (seq t n).from_ = s.now + 1 ∧
      (seq t n).wait = .none ∧ (∀ c ∈ y, ctxState t c = 0) ∧ (chan t n).list.started = false ∧
      OnlyRegs ([st, cxA x R.cxState, lsA n R.lstBase, lsA n R.lstLen, lsA n R.lstIdx, lsA n R.lstStat] ++
        y.toList.map (fun c => cxA c R.cxState)) s t) ∧
    (x < nCtxs s → ¬ bindable → refused (.seqCmdBind n x)) ∧
    (∀ c ∈ y, (runs c → q.own = false → ∃ t, exec (.seqCmdHalt n) s = .next t ∧ (seq t n).pendSt = some 3 ∧ OnlyRegs [] s t) ∧
      (runs c → q.own = true → exec (.seqCmdHalt n) s = .next s) ∧ (¬ runs c → refused (.seqCmdHalt n)) ∧
      (stopped c → ∃ t, exec (.seqCmdResume n) s = .next t ∧ ctxState t c = 2 ∧ (seq t n).from_ = s.now + 1 ∧ (seq t n).pendSt = none ∧
        gf t (cxA c R.cxState) 16 8 = gf s (cxA c R.cxState) 16 8 ∧ OnlyRegs [st, cxA c R.cxState] s t) ∧
      (¬ stopped c → refused (.seqCmdResume n)) ∧
      (stopped c → ∃ t, exec (.seqCmdUnbind n) s = .next t ∧ (seq t n).pendSt = some 0 ∧ OnlyRegs [] s t) ∧
      (¬ stopped c → refused (.seqCmdUnbind n))) ∧
    (y = none → refused (.seqCmdHalt n) ∧ refused (.seqCmdResume n) ∧ refused (.seqCmdUnbind n)) ∧
    (x < nCtxs s → k < 0x100 → k % 4 = 0 → differs s a w = true →
      let bad := runs x ∨ (k = R.cxDepth ∧ 8 < fld w 0 4)
      let h := gf s (cxA x R.cxState) 8 5
      (¬ bad → ∃ t, exec (.contextStoreWrite x k w) s = .next t ∧ rd t a = (rd s a &&& ~~~m) ||| (w &&& m) ∧ OnlyRegs [a] s t) ∧
      (bad → ctxState s x = 0 → ∃ t, exec (.contextStoreWrite x k w) s = .next t ∧ gb t R.icStat 12 = true ∧ OnlyRegs [R.icStat] s t) ∧
      (bad → ctxState s x ≠ 0 → ∃ t, exec (.contextStoreWrite x k w) s = .next t ∧ gb t (sqA h R.seqStat) 21 = true ∧
        OnlyRegs [sqA h R.seqStat] s t)) ∧
    (∃ t, exec .icCtrlFlush s = .next t ∧ Map.get [] t.icache l = (if l ∈ pinned s then Map.get [] s.icache l else []) ∧ OnlyRegs [] s t)
/-- What ends a context's wait (08 R228, R229, R233, R234, R238). -/
def Obligations.SequencerEvents : Prop :=
  ∀ (s : State) (n x rs l e u v j : Nat) (ev : Option Nat) (rest : List Holder), ChanIn n s → boundCtx s n = some x →
    let st := sqA n R.seqStat
    let free : State → Prop := fun t => (seq t n).wait = .none ∧ gf t st 16 4 = 0
    (ctxState s x = 1 → pinMissing s n = [] → ∃ t, exec (.pinLoadDone n) s = .next t ∧ ctxState t x = 2 ∧ (seq t n).from_ = s.now + 1 ∧
      OnlyRegs [st, cxA x R.cxState] s t) ∧
    ((seq s n).wait = .wait u → u ≤ s.now → ∃ t, exec (.waitExpiry n) s = .next t ∧ free t ∧ (seq t n).from_ = s.now ∧ OnlyRegs [st] s t) ∧
    ((seq s n).wait = .event e (some u) v → u ≤ s.now → e ∉ s.asserting → ∃ t, exec (.waitevTimeout n) s = .next t ∧ free t ∧
      (seq t n).from_ = s.now ∧ flagZ t x = true ∧ OnlyRegs [st, cxA x R.cxFlags] s t) ∧
    (hasRes s rs = true → (resOf s rs).holders = [] → (resOf s rs).queue = .ctx x n :: rest → (∀ f ∈ (resOf s rs).freed, f < s.now) →
      ∃ t, exec (.resourceGrant rs) s = .next t ∧ (resOf t rs).holders = [.ctx x n] ∧ (resOf t rs).queue = rest ∧ holds t x rs = true ∧ free t ∧
        OnlyRegs [st, cxA x R.cxHeldLo, cxA x R.cxHeldHi] s t) ∧
    (hasRes s rs = true → (resOf s rs).holders = [] → (resOf s rs).queue = .host :: rest → (∀ f ∈ (resOf s rs).freed, f < s.now) →
      ∃ t, exec (.resourceGrant rs) s = .next t ∧ (resOf t rs).holders = [.host] ∧ (resOf t rs).queue = rest ∧ OnlyRegs [] s t) ∧
    (∀ i ∈ fromInbox s 6 (fun w => w == .fetch l), (∀ bs ∈ i.2, ∃ t, exec (.cacheFill l ev none) s = .next t ∧
        Map.get [] t.icache l = (List.range 16).map (fun k => BitVec.ofNat 32 (leVal ((bs.drop (4 * k)).take 4))) ∧
        ((seq s n).wait = .fetch l → free t ∧ (seq t n).from_ = s.now + 1) ∧
        (j ≠ l → s.icache.length < 4096 ∨ j ∈ pinned s → Map.get [] t.icache j = Map.get [] s.icache j) ∧
        (4096 ≤ s.icache.length → j ≠ l → ev = some j → j ∉ pinned s → j ∈ s.icache.map (·.1) → Map.get [] t.icache j = []) ∧
        OnlyRegs ((chans s).map (fun m => sqA m R.seqStat)) s t) ∧
      (i.2 = none → EtQuiet s → ∃ t, exec (.cacheFill l ev none) s = .next t ∧ t.icache = s.icache ∧
        ((seq s n).wait = .fetch l → ctxState s x = 2 → (seq s n).pendSt ≠ some 4 → (∀ m ∈ chans s, m ≠ n → boundCtx s m ≠ some x) →
          gf t (cxA x R.cxState) 16 8 = 0x0A ∧ (seq t n).pendSt = some 4) ∧
        OnlyRegs ((chans s).flatMap (fun m => sqA m R.seqStat :: (boundCtx s m).toList.flatMap (fun c => [cxA c R.cxState, cxA c R.cxExcPc,
          cxA c R.cxExcTick, cxA c R.cxHeldLo, cxA c R.cxHeldHi])) ++ (List.range 8).map (fun j => etA j R.etStat)) s t))

/-- The edge timer units (10 R267 to R280). Edges, completions and overflows of a tick come in the order of their core cycles (log entry
23), and a STOP acts in the core cycle the device has reached (log entry 96): the model's choices. -/
def Obligations.EdgeTimerUnits : Prop :=
  ∀ (s : State) (u src f cyc : Nat) (up : Bool) (a b : EtEdge), Operating s → u < nEts s →
    let e := etu s u
    let st := etA u R.etStat
    let held := .host ∈ (resOf s u).holders ∧ (resOf s u).deferred = false
    let refused : Instr → Prop := fun i => ∃ t, exec i s = .next t ∧ gb t st 4 = true ∧ etu t u = e ∧ OnlyRegs [st] s t
    let ignored : Instr → Prop := fun i => ∃ t, exec i s = .next t ∧ gf t st 16 16 = min (gf s st 16 16 + 1) 65535 ∧ etu t u = e ∧ OnlyRegs [st] s t
    let x : EtEdge := { c := 50 * s.now + cyc + 1, f := f, coarse := false, time := ticktime s, cyc := cyc }
    let raw : EtEdge → EtEdge → Int := fun p q => ((q.c : Int) - p.c) * 2000 + p.f - q.f
    let fine := e.armed = true ∧ src < 8 ∧ gb s (R.cmpCfg + 4 * src) 16 = true ∧ slopeOk s src up = true ∧ 1 ≤ f ∧ f ≤ 2000 ∧ cyc < 50 ∧
      tbTakes s src f up = false ∧ ∀ p ∈ etFirst s (List.range (nEts s)), 50 * s.now + cyc < p.1
    let quiet := etDue s u = false ∧ etOvfDue s u = false ∧ EtQuiet s
    let ended : State → Prop := fun t => (etu t u).armed = false ∧ gf t st 0 2 = 0 ∧ 40 + u ∈ t.caused
    (held → (∃ t, exec (.etCtrlArm u) s = .next t ∧ (etu t u).armReq = some false ∧ OnlyRegs [] s t) ∧
      (∃ t, exec (.etCtrlStats u) s = .next t ∧ (etu t u).armReq = some true ∧ OnlyRegs [] s t) ∧
      (e.armed = false → exec (.etCtrlStop u) s = .next s) ∧
      (e.armed = true → e.stats = false → quiet → ∃ t, exec (.etCtrlStop u) s = .next t ∧ (etu t u).armed = false ∧ (etu t u).result = e.result ∧
        gf t st 0 2 = 0 ∧ t.caused = s.caused ∧ (¬ (∃ q ∈ e.preStop, q.2 = true) → gf t st 16 16 = gf s st 16 16) ∧ OnlyRegs [st] s t) ∧
      (e.armed = true → e.stats = true → quiet → ∃ t, exec (.etCtrlStop u) s = .next t ∧ ended t ∧ (etu t u).result ≠ none ∧
        (40 + u ∉ s.caused → t.causedAt = s.causedAt ++ [(40 + u, s.cycle % 50)]) ∧ OnlyRegs [st] s t) ∧
      (e.stats = false → etDue s u = true → EtQuiet s → ∃ t, exec (.etCtrlStop u) s = .next t ∧ ended t ∧ (etu t u).result ≠ none ∧ OnlyRegs [st] s t)) ∧
    (¬ held → refused (.etCtrlArm u) ∧ refused (.etCtrlStats u) ∧ refused (.etCtrlStop u)) ∧
    (tbTakes s src f up = false → e.armed = false ∨ (src ≠ fld e.cfg 0 7 ∧ src ≠ fld e.cfg 8 7) ∨ (src < 8 ∧ slopeOk s src up = false) → exec (.edge u src f cyc up) s = .next s) ∧
    (fine → src = fld e.cfg 0 7 ∨ src = fld e.cfg 8 7 → e.stop ≠ none → ignored (.edge u src f cyc up)) ∧
    (fine → src = fld e.cfg 0 7 → src ≠ fld e.cfg 8 7 → e.stop = none → e.start ≠ none → ignored (.edge u src f cyc up)) ∧
    (fine → src = fld e.cfg 0 7 → e.stop = none → e.start = none → e.preStop = none → e.free ≤ 50 * s.now + cyc →
      ∃ t, exec (.edge u src f cyc up) s = .next t ∧ (etu t u).start = some x ∧ (etu t u).stop = none ∧ gb t st 1 = true ∧ OnlyRegs [st] s t) ∧
    (fine → src = fld e.cfg 8 7 → src ≠ fld e.cfg 0 7 → e.stop = none → e.start = some a → 0 ≤ raw a x → raw a x < 2 ^ 32 * 2000 →
      ∃ t, exec (.edge u src f cyc up) s = .next t ∧ (etu t u).stop = some x ∧ OnlyRegs [] s t) ∧
    (e.armed = true → e.start = some a → e.stop = some b → convEnd a < 50 * (s.now + 1) → convEnd b < 50 * (s.now + 1) →
      let v : Int := if (raw a b).natAbs < 6 then 0 else raw a b
      ∃ t, exec (.measurementComplete u) s = .next t ∧ (etu t u).start = none ∧ gb t st 1 = false ∧ OnlyRegs [st] s t ∧
        (e.stats = false → ended t ∧ ∃ ws ∈ (etu t u).result, ws.length = 16 ∧ ws[0]? = some (BitVec.ofInt 32 (sat32 v)) ∧
          (ws[1]?).map (fun w => (w.getLsbD 0, w.getLsbD 1, w.getLsbD 2, w.getLsbD 3, w.getLsbD 4)) =
            some (true, false, decide ((raw a b).natAbs < 6), decide (v < 0), a.coarse || b.coarse) ∧
          ws[2]? = some (BitVec.ofInt 32 v) ∧ ws[4]? = some (BitVec.ofNat 32 a.time)) ∧
        (e.stats = true → (etu t u).count = e.count + 1 ∧ (etu t u).sum = e.sum + v ∧
          (e.count + 1 + e.ovf < e.n → (etu t u).armed = true ∧ (etu t u).result = e.result ∧ t.caused = s.caused) ∧
          (e.n ≤ e.count + 1 + e.ovf → ended t))) ∧
    (e.armed = true → e.start = some a → e.stop = none → a.at_ + 2 ^ 32 < 50 * (s.now + 1) → ∃ t, exec (.measurementOverflow u) s = .next t ∧
      gb t st 5 = true ∧ (etu t u).start = none ∧ (etu t u).ovf = e.ovf + 1 ∧ OnlyRegs [st] s t ∧
      (e.stats = false → ended t ∧ ∃ ws ∈ (etu t u).result, ws[0]? = some 0 ∧ (ws[1]?).map (fun w => (w.getLsbD 0, w.getLsbD 1)) = some (false, true))) ∧
    (∀ ws ∈ e.block, ws.length = 16 → ∃ t, exec (.resultBlockWrite u) s = .next t ∧ (∀ i, i < 16 → some (rd t (etA u R.etRes0 + 4 * i)) = ws[i]?) ∧
      gb t st 2 = !(e.armed && e.landed == s.now) ∧ (etu t u).block = none ∧
      OnlyRegs (st :: (List.range 16).map (fun i => etA u R.etRes0 + 4 * i)) s t)
/-- The time-base check (10 R281, R282). -/
def Obligations.TimeBase : Prop :=
  ∀ (s : State) (u src f cyc : Nat) (up : Bool) (len : Int) (w : Word) (level : Bool) (prev : Option Int), s.inReset = false → nEts s ≠ 0 → s.tb.lastDev = prev →
    let st := R.tbStat
    let good := gf s st 8 4
    let warmed : State → Prop := fun t => gb t st 1 = true ∧
      gf t st 16 16 = (if gb s st 1 = true then gf s st 16 16 else min (gf s st 16 16 + 1) 65535)
    let settled : State → Prop := fun t => gb t st 1 = (gb s st 1 && !(gb t st 0 && decide (10 ≤ gf t st 8 4))) ∧ gf t st 16 16 = gf s st 16 16
    let ref := gf s R.tbCfg 1 3
    (∃ t, exec (.ocxoRdyChange level) s = .next t ∧ gb t st 0 = level ∧ gf t st 8 4 = good ∧
      (gb s st 0 = true → level = false → warmed t) ∧ (gb s st 0 = false ∨ level = true → settled t) ∧ OnlyRegs [st] s t) ∧
    (running s = true → ∃ t, exec (.tbCfgWrite w) s = .next t ∧ rd t R.tbCfg = w &&& 0x0FFFFFFF ∧ gf t st 8 4 = 0 ∧ warmed t ∧
      t.tb.lastDev = none ∧ OnlyRegs [R.tbCfg, st] s t) ∧
    (running s = true → gb s R.tbCfg 0 = true → s.tb.edgeAt + 40000000 ≤ s.now → ∃ t, exec .refLost s = .next t ∧ gb t st 3 = true ∧ gf t st 8 4 = 0 ∧
      (good ≠ 0 → warmed t) ∧ OnlyRegs [st] s t) ∧
    (running s = true → s.now < s.tb.edgeAt + 40000000 → exec .refLost s = .next s) ∧
    (running s = true → gb s R.tbCfg 0 = true → src = ref → fineOk s src f up = true → cyc < 50 → (etu s u).armed = false →
      let c := 50 * s.now + cyc + 1
      (∀ l ∈ s.tb.last, l.1 ≠ c) → ∃ t, exec (.edge u src f cyc up) s = .next t ∧ t.tb.edgeAt = s.now ∧ t.tb.last = some (c, f) ∧
        (s.tb.gate = none → t.tb.gate = some (c, f) ∧ t.tb.periods = 0 ∧ t.tb.lastDev = prev ∧ OnlyRegs [] s t) ∧
        (∀ g ∈ s.tb.gate,
          (s.tb.periods + 1 < gf s R.tbCfg 4 24 → t.tb.gate = some g ∧ t.tb.periods = s.tb.periods + 1 ∧ t.tb.lastDev = prev ∧ OnlyRegs [] s t) ∧
          (gf s R.tbCfg 4 24 ≤ s.tb.periods + 1 → t.tb.gate = some (c, f) ∧ t.tb.periods = 0 ∧
            t.tb.lastDev = some (((c : Int) - g.1) * 2000 + g.2 - f - 2 * 10 ^ 12) ∧ OnlyRegs [st, R.tbDrift] s t))) ∧
    (running s = true → gb s R.tbCfg 0 = true → gb s (R.cmpCfg + 4 * ref) 16 = true →
      let dev : Int := len - 2 * 10 ^ 12
      let far : Prop := 2 * 10 ^ 8 < dev.natAbs
      let steady : Prop := prev.any (fun p => decide ((dev - p).natAbs < 100000)) = true
      ∃ t, exec (.tbGateEnd len) s = .next t ∧ t.tb.lastDev = some dev ∧ gb t st 2 = (gb s st 2 || decide far) ∧
        gf t st 8 4 = (if steady ∧ ¬ far then min 10 (good + 1) else 0) ∧
        (∀ p ∈ prev, rd t R.tbDrift = BitVec.ofInt 32 (sat32 (rneDiv (dev - p) 2))) ∧
        (¬ (steady ∧ ¬ far) → good ≠ 0 → warmed t) ∧ (steady ∧ ¬ far → settled t) ∧ OnlyRegs [st, R.tbDrift] s t)

/-- The DDR5 controller (11 R286 to R295). That the data of a withdrawn request is thrown away while its errors are reported (log entry
76) and that a completion of a request not issued does nothing (log entry 9) are the model's choices. -/
def Obligations.MemoryController : Prop :=
  ∀ (s : State) (r : Req) (res : BurstResult) (p : Nat) (w : Word) (ok : Bool), Operating s →
    let st := R.memStat
    let rejects : Instr → Prop := fun i => ∃ t, exec i s = .next t ∧ gb t st 5 = true ∧ t.training = s.training ∧ OnlyRegs [st] s t
    let found : Flight → BurstResult := fun x => if res = .addr then .addr else if x.bad = true ∨ x.req.offset ∈ s.badBursts then .double else res
    let sofar : List (Req × Option (List Byte)) := s.arb.inbox
    let at_ : State → Prop := fun t => rd64 t R.memErrAddrLo = r.offset / 64 * 64
    (gb s st 0 = false → s.training = false → ∃ t, exec .memCtrlInit s = .next t ∧ t.training = true ∧ OnlyRegs [] s t) ∧
    (gb s st 0 = true ∨ s.training = true → rejects .memCtrlInit) ∧
    (s.training = true → ∃ t, exec (.trainingDone ok) s = .next t ∧ t.training = false ∧
      (ok = true → gb t st 0 = true) ∧ (ok = false → gb t st 1 = true ∧ gb t st 0 = gb s st 0 ∧ Reports 3 0x20 t) ∧ OnlyRegs [st] s t) ∧
    (p < 12 → ∃ t, exec (.arbTktWrite p w) s = .next t ∧ gf t (R.arbTkt0 + 4 * p) 0 8 = fld w 0 8 ∧
      gf t (R.arbTkt0 + 4 * p) 8 3 = fld w 8 3 ∧ t.arb.grant = s.arb.grant ∧ t.arb.queues = s.arb.queues ∧ OnlyRegs [R.arbTkt0 + 4 * p] s t) ∧
    (w ≠ 0 → ∃ t, exec (.arbSeedWrite w) s = .next t ∧ rd t R.arbSeed = w ∧ t.arb.seedNew = true ∧ OnlyRegs [R.arbSeed] s t) ∧
    (w = 0 → rejects (.arbSeedWrite w)) ∧
    (r ∉ s.arb.issued.map (·.req) → exec (.burstCompletion r res) s = .next s) ∧
    (∀ x ∈ s.arb.issued.find? (fun x => x.req == r), TakesAtOnce r.who = false → Routed s → r.offset < 2 ^ 36 →
      let gets : Option (List Byte) → State → Prop := fun d t => t.arb.inbox = (if x.dead = true then sofar else sofar ++ [(r, d)])
      ∃ t, exec (.burstCompletion r res) s = .next t ∧
      t.arb.issued = s.arb.issued.erase x ∧
      (found x = .clean → gets (some x.data) t ∧ OnlyRegs [] s t) ∧
      (found x = .single → gets (some x.data) t ∧ gb t st 2 = true ∧
        gf t R.memEcc 0 16 = min (gf s R.memEcc 0 16 + 1) 65535 ∧ Reports 3 0x21 t ∧ OnlyRegs [st, R.memEcc] s t) ∧
      (found x = .double → gets none t ∧ gb t st 3 = true ∧ gf t R.memEcc 16 8 = min (gf s R.memEcc 16 8 + 1) 255 ∧
        (x.rewritten = false → r.offset ∈ t.badBursts) ∧ at_ t ∧ Reports 3 0x22 t ∧ OnlyRegs [st, R.memEcc, R.memErrAddrLo, R.memErrAddrLo + 4] s t) ∧
      (found x = .addr → gets none t ∧ gb t st 4 = true ∧ gf t R.memEcc 24 8 = min (gf s R.memEcc 24 8 + 1) 255 ∧
        t.badBursts = s.badBursts ∧ at_ t ∧ Reports 3 0x22 t ∧ OnlyRegs [st, R.memEcc, R.memErrAddrLo, R.memErrAddrLo + 4] s t)) ∧
    (∀ q ∈ s.arb.issued.find? (fun q => q.req.who == .scrub), q.bad = false → q.req.offset ∉ s.badBursts → res = .clean ∨ res = .single →
      let last := memSize s ≤ (s.scrubAt + 1) * 64
      ∃ t, exec (.scrubRead res) s = .next t ∧ t.arb.issued = s.arb.issued.erase q ∧ t.scrubAt = (if last then 0 else s.scrubAt + 1) ∧
        gf t R.scrubStat 0 16 = (if last then min (gf s R.scrubStat 0 16 + 1) 65535 else gf s R.scrubStat 0 16) ∧
        (res = .single → gf t R.scrubStat 16 16 = min (gf s R.scrubStat 16 16 + 1) 65535 ∧ gb t st 2 = true ∧ Reports 3 0x21 t) ∧
        (res = .clean → gf t R.scrubStat 16 16 = gf s R.scrubStat 16 16 ∧ OnlyRegs [R.scrubStat] s t) ∧
        OnlyRegs [R.scrubStat, st, R.memEcc] s t)
/-- The lottery (11 R291 to R294) and its bursts. The LFSR's step is the reading of log entry 10; that a draw without a winner makes every
port of AGE 32 due is the model's choice (log entry 95). -/
def Obligations.ArbiterGrantsAndBursts : Prop :=
  ∀ (s : State) (p k o i : Nat) (r : Req) (j : HostJob), Operating s → memReady s = true → p < 12 →
    let age : Nat → Nat := fun q => R.arbStat + 4 * q
    let lf := if s.arb.seedNew = true then rd s R.arbSeed else s.arb.lfsr
    let el := (List.range 12).filter (fun q => decide (portQ s q ≠ []))
    let e : Nat → Nat := fun q => if q = 2 ∨ q = 10 then max (gf s (R.arbTkt0 + 4 * q) 0 8) 16 else gf s (R.arbTkt0 + 4 * q) 0 8
    let total := (el.map e).sum
    let below := ((el.filter (fun q => decide (q < p))).map e).sum
    let ages := (List.range 12).map age
    let glen := gf s (R.arbTkt0 + 4 * p) 8 3 + 1
    (s.arb.grant = none → s.arb.due = [] → el ≠ [] → ∃ t, exec .arbiterDraw s = .next t ∧ t.arb.lfsr = lfsrStep lf ∧ t.arb.seedNew = false ∧
      t.arb.queues = s.arb.queues ∧ OnlyRegs (el.map age) s t ∧
      (total = 0 → t.arb.grant = none) ∧
      (t.arb.grant = none → t.arb.due = (List.range 12).filter (fun q => decide (32 ≤ gf t (age q) 0 6))) ∧
      (let wins := p ∈ el ∧ below ≤ lf.toNat * total / 2 ^ 32 ∧ lf.toNat * total / 2 ^ 32 < below + e p
       (wins → t.arb.grant = some (p, glen) ∧ gf t (age p) 0 6 = 0) ∧
       (p ∈ el → ¬ wins → (∀ g ∈ t.arb.grant, g.1 ≠ p) ∧ gf t (age p) 0 6 = min 32 (gf s (age p) 0 6 + 1)))) ∧
    (s.arb.grant = none → s.arb.due.head? = some p → ∃ t, exec .agingGrant s = .next t ∧ t.arb.due = s.arb.due.tail ∧ t.arb.lfsr = s.arb.lfsr ∧
      (portQ s p = [] → t.arb.grant = none ∧ OnlyRegs [] s t) ∧
      (portQ s p ≠ [] → t.arb.grant = some (p, glen) ∧ gf t (age p) 0 6 = 0 ∧ OnlyRegs [age p] s t)) ∧
    (s.arb.grant = some (p, k) → portQ s p = [] → ∃ t, exec .burstIssue s = .next t ∧ t.arb.grant = none ∧
      (Routed s → OnlyRegs [] s t)) ∧
    (s.arb.grant = some (p, k) → portQ s p ≠ [] → ∃ t, exec .burstIssue s = .next t ∧
      t.arb.grant = (if k ≤ 1 ∨ (portQ s p).tail = [] then none else some (p, k - 1)) ∧
      ((portQ s p).head? = some r → r.write = false ∨ memSize s < r.offset + 64 → Routed s → TakesAtOnce r.who = false →
        portQ t p = (portQ s p).tail ∧ (memSize s < r.offset + 64 → t.arb.inbox = s.arb.inbox ++ [(r, none)] ∧ t.arb.issued = s.arb.issued) ∧
        (r.offset + 64 ≤ memSize s → t.arb.issued = s.arb.issued ++ [{ req := r, data := readData s r, bad := decide (r.offset ∈ s.badBursts) }] ∧ t.arb.inbox = s.arb.inbox) ∧ OnlyRegs ages s t) ∧
      ((portQ s p).head? = some r → r.who = .hostWr → r.write = true → r.offset + 64 ≤ memSize s →
        s.hostJobs.find? (fun i => i.write && i.waiting.contains r.offset) = some j → j.data.length = j.len → Routed s →
        Memory.read t.ddr o = (if r.offset ≤ o ∧ o < r.offset + 64 ∧ j.off ≤ o ∧ o < j.off + j.len
          then j.data.getD (o - j.off) 0 else Memory.read s.ddr o) ∧ RegsExcept ages s t) ∧
      (∀ x ∈ List.range 36, (portQ s p).head? = some r → r.who = .spill x → r.write = true → r.offset + 64 ≤ memSize s → 64 ≤ ringSize s x → Routed s →
        let z := strm s x
        let from_ := spillFrom s x
        let bytes := if r.offset = ringBase s x + from_ / 64 * 64 % ringSize s x
          then (z.head.flatten.drop (from_ - z.wpos)).take (64 - from_ % 64) else []
        let place : Nat → Nat := fun i => ringBase s x + (from_ + i) % ringSize s x
        (i < bytes.length → Memory.read t.ddr (place i) = bytes.getD i 0) ∧
        (o ∉ (List.range bytes.length).map place → Memory.read t.ddr o = Memory.read s.ddr o) ∧ t.arb.inbox = s.arb.inbox ++ [(r, some bytes)] ∧ RegsExcept ages s t))
/-- The host's resources (11 R299). -/
def Obligations.HostResources : Prop :=
  ∀ (s : State) (x : Nat), Operating s →
    let st := R.resHstat
    let q := resOf s x
    let waits := ∃ y, y < 36 ∧ Holder.host ∈ (resOf s y).queue
    let above := ∃ y, y < 36 ∧ x ≤ y ∧ hostHolds s y = true
    let free := (12 ≤ x ∧ x ≤ 19) ∨ (q.holders = [] ∧ q.queue = [])
    let rejects : Nat → Instr → Prop := fun i c => ∃ t, exec c s = .next t ∧ gb t st i = true ∧ resOf t x = q ∧ OnlyRegs [st] s t
    (36 ≤ x → x < 64 → rejects 8 (.resHcmdAcq x) ∧ rejects 8 (.resHcmdRel x)) ∧
    (x < 36 → hasRes s x = false → exec (.resHcmdAcq x) s = .next s ∧ exec (.resHcmdRel x) s = .next s) ∧
    (x < 36 → hasRes s x = true →
      (waits ∨ above → rejects 8 (.resHcmdAcq x)) ∧
      (¬ waits → ¬ above → free → ∃ t, exec (.resHcmdAcq x) s = .next t ∧ (resOf t x).holders = q.holders ++ [.host] ∧ OnlyRegs [] s t) ∧
      (¬ waits → ¬ above → ¬ free → ∃ t, exec (.resHcmdAcq x) s = .next t ∧ (resOf t x).queue = q.queue ++ [.host] ∧
        (resOf t x).holders = q.holders ∧ OnlyRegs [] s t) ∧
      (.host ∈ q.queue → (∀ y, y < x → Holder.host ∉ (resOf s y).queue) → ∃ t, exec (.resHcmdRel x) s = .next t ∧ Holder.host ∉ (resOf t x).queue ∧
        (resOf t x).holders = q.holders ∧ OnlyRegs [] s t) ∧
      (¬ waits → hostHolds s x = true → ∃ t, exec (.resHcmdRel x) s = .next t ∧ hostHolds t x = false ∧
        (8 ≤ x → x ≤ 11 → capBusy s (x - 8) = true → (resOf t x).deferred = true) ∧
        (x < 8 ∨ 12 ≤ x ∨ capBusy s (x - 8) = false → (resOf t x).freed = some s.now ∧ Holder.host ∉ (resOf t x).holders) ∧
        (x < 8 → EtQuiet s → (etu t x).armed = false ∧ gf t (etA x R.etStat) 0 2 = 0 ∧ OnlyRegs [etA x R.etStat] s t) ∧ (8 ≤ x → OnlyRegs [] s t)) ∧
      (¬ waits → hostHolds s x = false → rejects 9 (.resHcmdRel x)))

/-- The three stages of a stream (11 R301 to R303, 05 R167), and a raw block on any of them (05 R169): bytes 6 and 7 and its length tell it
from a record (05 R165, R168, 09 R257). -/
def Obligations.StreamStages : Prop :=
  ∀ (s : State) (k : Nat) (it : List Byte), Operating s → hasStream s k = true →
    let raw := isRawBlock it = true
    let m := (it.getD 6 0).toNat % 32
    let st := stA k R.strStat
    let cnt := stA k R.strDrop
    let z := strm s k
    let dropped : State → Prop := fun t => gb t st 3 = true ∧ (rd t cnt).toNat = min ((rd s cnt).toNat + 1) (2 ^ 32 - 1) ∧
      strItems (strm t k) = strItems z ∧ OnlyRegs [st, cnt] s t
    let recs : State → List (List Byte) := fun t => (chan t k).recs
    let held := k < 32 ∧ ¬ raw ∧ recs s ≠ []
    let room := headRoom s k it.length = true
    let ends := ringEnds z.rpos z.ring
    let burst := min ((z.fpos / 64 + 1) * 64) z.wpos
    let hit : Nat × Nat × List Byte → Bool := fun x => decide (x.1 < burst) && decide (z.fpos < x.2.1)
    let given : List Byte → List Byte := fun bs => z.fbuf ++ bs.drop (z.fpos % 64)
    (held → strEn s k = true → ∃ t, exec (.streamItemOffer k it) s = .next t ∧ recs t = recs s ++ [it] ∧ OnlyRegs [] s t) ∧
    (strEn s k = false → ∃ t, exec (.streamItemOffer k it) s = .next t ∧ recs t = recs s ∧ dropped t) ∧
    (¬ held → strEn s k = true → room → ∃ t, exec (.streamItemOffer k it) s = .next t ∧
      strItems (strm t k) = strItems z ++ [it] ∧ recs t = recs s ∧ OnlyRegs [] s t) ∧
    (¬ held → ¬ raw → strEn s k = true → ¬ room → strDropNew s k = true → ∃ t, exec (.streamItemOffer k it) s = .next t ∧ dropped t) ∧
    (¬ raw → strEn s k = true → ¬ room → 32 ≤ k → strDropNew s k = false → ∃ t, exec (.streamItemOffer k it) s = .next t ∧
      strItems (strm t k) = strItems z ∧ OnlyRegs [] s t) ∧
    (raw → hasChan s m = true → strEn s k = true → ¬ room → ∃ t, exec (.streamItemOffer k it) s = .next t ∧
      strItems (strm t k) = strItems z ∧ recs t = recs s ∧ gf t (chA m R.rawStat) 16 16 = min (gf s (chA m R.rawStat) 16 16 + 1) 65535 ∧
      (strDropNew s k = true → (rd t cnt).toNat = min ((rd s cnt).toNat + 1) (2 ^ 32 - 1)) ∧
      OnlyRegs (chA m R.rawStat :: if strDropNew s k = true then [st, cnt] else []) s t) ∧
    (¬ held → ¬ raw → strEn s k = true → ¬ room → k < 32 → strDropNew s k = false → ∃ t, exec (.streamItemOffer k it) s = .next t ∧
      recs t = recs s ++ [it] ∧ strItems (strm t k) = strItems z ∧ OnlyRegs [] s t) ∧
    (∀ e ∈ fromInbox s 2 (fun w => w == .spill k), ∀ bs ∈ e.2, let moved := (spillItems (z.scred + bs.length) z.head).2.1
      ∃ t, exec (.streamSpill k none) s = .next t ∧
      strItems (strm t k) = strItems z ∧ (strm t k).wpos = z.wpos + itemBytes moved ∧
      (z.ring ≠ [] ∨ moved ≠ [] → itemBytes moved ≤ z.scred + bs.length → (strm t k).ring = z.ring ++ moved ∧ (strm t k).head = z.head.drop moved.length) ∧
      OnlyRegs [] s t) ∧
    (∀ e ∈ fromInbox s 3 (refillTurn s k), let due := e.1.who = .refill k (z.fpos / 64)
      (¬ due ∨ (∃ bs ∈ e.2, given bs = z.ring.flatten.take (z.fpos / 64 * 64 + bs.length - z.rpos)) → ∃ t, exec (.streamRefill k .clean) s = .next t ∧ strItems (strm t k) = strItems z ∧ OnlyRegs [] s t) ∧
      (due → e.2 = none → (∀ x ∈ ends, z.fpos < x.2.1) → ∃ t, exec (.streamRefill k .clean) s = .next t ∧
        strItems (strm t k) = z.tail ++ (ends.filter (fun x => !hit x)).map (·.2.2) ++ z.head ∧ gb t st 6 = true ∧
        (rd t cnt).toNat = min ((rd s cnt).toNat + (ends.filter hit).length) (2 ^ 32 - 1) ∧ OnlyRegs [st, cnt] s t))
/-- Streams towards the host (11 R305 to R309, R313). That a packet waits until the refill bursts have brought its items to the tail (log
entry 25), and that DROP gives the credit of the unsent flits back (log entry 115), are the model's choices. -/
def Obligations.StreamReads : Prop :=
  ∀ (s : State) (k : Nat) (q : Rd) (w : Word), Operating s → hasStream s k = true →
    let st := stA k R.strStat
    let cfg := stA k R.strCfg
    let z := strm s k
    let idle := strEn s k = false ∧ strItems z = [] ∧ z.reads = []
    let ringFits : Nat → Prop := fun l => ringBase s k + 2 ^ l ≤ memSize s ∧ ringBase s k % 2 ^ l = 0
    let same : Nat → Nat → State → Prop := fun lo len t => gf t cfg lo len = gf s cfg lo len
    let seq := (rd s (stA k R.strPktseq)).toNat
    let answer : Nat → Nat → List Byte → List Nat → Pkt := fun tag status data items =>
      { cls := 3, opc := 0x83, tag := tag, status := status, p0 := k, p1 := seq, data := data, items := items }
    let small := ∃ h ∈ (strItems z).head?, q.maxb < h.length
    let got := takeItems q.maxb (strItems z)
    let here : Prop := got.length ≤ z.tail.length
    let served : Instr → Prop := fun i => ∃ t, exec i s = .next t ∧ (strm t k).reads.map (·.tag) = z.reads.tail.map (·.tag) ∧
      (small → Queues (answer q.tag 7 [] []) s t ∧ strItems (strm t k) = strItems z ∧ OnlyRegs [] s t) ∧
      (¬ small → got ≠ [] → Queues (answer q.tag 0 got.flatten (got.map List.length)) s t ∧ itemBytes got ≤ q.maxb ∧
        strItems z = got ++ strItems (strm t k) ∧ rd t (stA k R.strPktseq) = rd s (stA k R.strPktseq) + 1 ∧ OnlyRegs [stA k R.strPktseq] s t)
    (idle → 20 ≤ fld w 3 5 → fld w 3 5 ≤ 30 → (w.getLsbD 0 = true → ringFits (fld w 3 5)) → ∃ t, exec (.strCfgWrite k w) s = .next t ∧
      fld (rd t cfg) 0 8 = fld w 0 8 ∧ OnlyRegs [cfg] s t) ∧
    (idle → fld w 3 5 = gf s cfg 3 5 → w.getLsbD 0 = true → ¬ ringFits (fld w 3 5) → ∃ t, exec (.strCfgWrite k w) s = .next t ∧
      gb t cfg 0 = false ∧ gb t st 5 = true ∧ OnlyRegs [cfg, st] s t) ∧
    (idle → fld w 3 5 ≠ gf s cfg 3 5 → fld w 3 5 < 20 ∨ 30 < fld w 3 5 → ∃ t, exec (.strCfgWrite k w) s = .next t ∧ same 3 5 t ∧
      gf t cfg 1 2 = fld w 1 2 ∧ gb t st 5 = true ∧ OnlyRegs [cfg, st] s t) ∧
    (¬ idle → fld w 2 6 = gf s cfg 2 6 → w.getLsbD 0 = true → strEn s k = false → ∃ t, exec (.strCfgWrite k w) s = .next t ∧ same 2 6 t ∧
      (ringFits (gf s cfg 3 5) → gb t cfg 0 = true ∧ gb t st 5 = gb s st 5) ∧ (¬ ringFits (gf s cfg 3 5) → gb t cfg 0 = false ∧ gb t st 5 = true) ∧
      OnlyRegs [cfg, st] s t) ∧
    (¬ idle → w.getLsbD 0 = false ∨ strEn s k = true → ∃ t, exec (.strCfgWrite k w) s = .next t ∧ same 2 6 t ∧ gb t cfg 1 = w.getLsbD 1 ∧
      gb t cfg 0 = w.getLsbD 0 ∧ gb t st 5 = (gb s st 5 || decide (fld w 2 6 ≠ gf s cfg 2 6)) ∧ OnlyRegs [cfg, st] s t) ∧
    (sendingNow s k = none → exec (.strCtrlDrop k) s = .next s) ∧
    (∀ x ∈ sendingNow s k, ∃ t, exec (.strCtrlDrop k) s = .next t ∧
      (lcls t 3).tx = some (x.1, { x.2.1 with cut := some (x.2.2 + 1) }, x.2.2) ∧
      (rd t (stA k R.strCdrop)).toNat = min ((rd s (stA k R.strCdrop)).toNat + cutItems (32 * x.2.2) x.2.1.items) (2 ^ 32 - 1) ∧
      gf t (R.txcStat + 12) 0 16 = (gf s (R.txcStat + 12) 0 16 + (x.2.1.flits - (x.2.2 + 1))) % 65536 ∧
      OnlyRegs [stA k R.strCdrop, R.txcStat + 12] s t) ∧
    (∃ t, exec (.strCtrlPurge k) s = .next t ∧ strItems (strm t k) = [] ∧ (strm t k).reads = [] ∧
      (lcls t 3).txq = (lcls s 3).txq ++ z.reads.map (fun r => answer r.tag 6 [] []) ∧ OnlyRegs [R.arbStat + 8, R.arbStat + 12] s t) ∧
    (∃ t, exec (.strCtrlCntClr k) s = .next t ∧ rd t (stA k R.strDrop) = 0 ∧ rd t (stA k R.strCdrop) = 0 ∧
      OnlyRegs [stA k R.strDrop, stA k R.strCdrop] s t) ∧
    (z.reads.head? = some q → readFull s k = true → small ∨ got ≠ [] → served (.streamReadComplete k none)) ∧
    (z.reads.head? = some q → q.due ≠ none → here → gf s (stA k R.strTmo) 16 16 = 0 ∨ small ∨ got.length < (strItems z).length ∨
      itemBytes got = q.maxb → readFull s k = true) ∧
    (z.reads.head? = some q → ¬ here → exec (.streamReadComplete k none) s = .next s ∧ exec (.coalesceExpiry k) s = .next s) ∧
    (z.reads.head? = some q → small ∨ got ≠ [] → here → (∃ d ∈ q.due, d + gf s (stA k R.strTmo) 16 16 ≤ s.now) → served (.coalesceExpiry k)) ∧
    (z.reads.head? = some q → strItems z = [] → recordsWait s k = false → (∃ d ∈ q.oldest, d + gf s (stA k R.strTmo) 0 16 ≤ s.now) →
      ∃ t, exec (.streamReadTimeout k) s = .next t ∧ Queues (answer q.tag 6 [] []) s t ∧ rd t (stA k R.strPktseq) = rd s (stA k R.strPktseq) ∧
        (strm t k).reads.map (·.tag) = z.reads.tail.map (·.tag) ∧ OnlyRegs [] s t) ∧
    (z.slowDue ≠ none → ∃ t, exec (.streamSlow k) s = .next t ∧ gb t st 4 = true ∧ (strm t k).slowDue = none ∧ Reports (0x40 + k) 0x25 t ∧
      OnlyRegs [st] s t)

/-- Training and width of the link (12 R317, R318, R342, R343). That DOWN passes at once, so that a retrain enters DETECT (log entry 45),
that an INIT is judged by its form and by its lowest class that is too small (log entry 49), that LANES_UP reads as a mask of the lanes in
use (log entry 44), and that the blocks are counted from the lock (log entry 100), are the model's choices. -/
def Obligations.LinkTraining : Prop :=
  ∀ (s : State) (lanes i : Nat) (f : BitVec 256), Operating s →
    let st := gf s R.lnkStat 0 3
    let enters : Nat → State → Prop := fun x t => gf t R.lnkStat 0 3 = x ∧ t.link.at_ = s.now
    let cnt := min (gf s R.lnkStat 16 16 + 1) 65535
    let m := Nat.land lanes s.link.lanes
    let width := fun x => gf x R.lnkStat 3 4
    let low := [0, 1, 3].find? (fun c => decide (ffld f (32 + 32 * c) 16 < (if c = 0 then 3 else 129)))
    let used := pickLanes (Nat.land (ffld f 16 4) s.link.lanes)
    (st = 1 → Nat.land lanes s.link.en ≠ 0 → ∃ t, exec (.signalDetect lanes) s = .next t ∧ enters 2 t ∧ OnlyRegs [R.lnkStat] s t) ∧
    (st = 2 → ∃ t, exec (.adaptationEnd lanes) s = .next t ∧ enters 3 t ∧ t.link.lanes = Nat.land lanes s.link.en ∧ OnlyRegs [R.lnkStat] s t) ∧
    (st = 3 → m ≠ 0 → ∃ t, exec (.markerLock lanes) s = .next t ∧ enters 4 t ∧ width t = pickLanes m % 16 ∧ t.link.blk = 0 ∧
      gb t R.lnkStat 7 = decide ((lanesOf (pickLanes m)).length < (lanesOf s.link.en).length) ∧
      (∀ c ∈ [0, 1, 2], (lcls t c).rcvd = 0 ∧ (lcls t c).cred = 0) ∧ (∀ c ∈ [0, 1, 3], gf t (R.txcStat + 4 * c) 16 2 = 1) ∧ OnlyRegs downRegs s t) ∧
    (st = 3 → s.link.at_ + 40000 ≤ s.now → ∃ t, exec .alignTimeout s = .next t ∧ enters 1 t ∧ gf t R.lnkStat 16 16 = cnt ∧ OnlyRegs downRegs s t) ∧
    (st = 4 → s.link.at_ + 2000 ≤ s.now → ∃ t, exec .initTimeout s = .next t ∧ enters 1 t ∧ gf t R.lnkStat 16 16 = gf s R.lnkStat 16 16 ∧
      OnlyRegs downRegs s t) ∧
    (lctlOk f = false → exec (.initFlit f) s = .next s) ∧
    (st = 4 → initForm s f = true → low = none → ∃ t, exec (.initFlit f) s = .next t ∧ enters 5 t ∧ width t = used % 16 ∧
      (∀ c ∈ [0, 1, 3], gf t (R.txcStat + 4 * c) 0 16 = ffld f (32 + 32 * c) 16 ∧ gf t (R.txcStat + 4 * c) 16 2 = 2) ∧
      OnlyRegs (R.devState :: R.logStat :: downRegs) s t) ∧
    (∀ c ∈ low, st = 4 → initForm s f = true → ∃ t, exec (.initFlit f) s = .next t ∧ enters 1 t ∧ Logs 0x10 c 0 0x100 s t ∧
      gf t R.lnkStat 16 16 = cnt ∧ OnlyRegs (logRegs s ++ downRegs) s t) ∧
    (st = 5 → lctlOk f = true → ffld f 0 8 = 2 → ∃ t, exec (.initFlit f) s = .next t ∧ Logs 0x0E 0 0 0x100 s t ∧
      (Tolerated s → gf t R.lnkStat 0 3 = 5 ∧ OnlyRegs (logRegs s) s t) ∧
      (¬ Tolerated s → enters 1 t ∧ gf t R.lnkStat 16 16 = cnt ∧ Reports 2 0x30 t ∧ OnlyRegs (logRegs s ++ downRegs) s t)) ∧
    (st = 5 → ∃ t, exec .lnkCtrlRetrain s = .next t ∧ enters 1 t ∧ gb t R.lnkStat 8 = true ∧ gf t R.lnkStat 16 16 = cnt ∧ Reports 2 0x30 t ∧
      OnlyRegs downRegs s t) ∧
    (st ≠ 5 → exec .lnkCtrlRetrain s = .next s) ∧
    (∃ t, exec .lnkCtrlLogClr s = .next t ∧ (i < 256 → rd t (R.llog + 4 * i) = 0) ∧ gf t R.logStat 0 7 = 0 ∧
      gf t R.logStat 7 25 = gf s R.logStat 7 25 ∧ OnlyRegs (R.logStat :: (List.range 256).map (fun j => R.llog + 4 * j)) s t) ∧
    (∃ t, exec .lnkCtrlCntClr s = .next t ∧ rd t R.lnkFec = 0 ∧ rd t R.lnkErrcnt = 0 ∧ OnlyRegs [R.lnkFec, R.lnkErrcnt] s t) ∧
    (windowOver s = true → ∃ t, exec .violationWindowEnd s = .next t ∧ gf t R.logStat 8 8 = 0 ∧ t.link.winStart = s.now ∧ OnlyRegs [R.logStat] s t)
/-- Flits, sequence numbers, credits and replay (12 R319 to R329, R337, R340). The model's choices here: one violation for a packet (log
entry 51), a retrain at the trigger after RPLY_MAX replays, and what a NAK without AV names (log entry 54), codewords counted as they begin
(log entry 56), gaps in SEQ counted with their NAK (log entry 72), DOWN passing at once (log entry 45), the class and status of the completion
of a request that violates a rule, which is queued at once (log entries 53 and 57), and the count of blocks over the lanes (log entry 100). -/
def Obligations.LinkTraffic : Prop :=
  ∀ (s : State) (c x : Nat) (f g : BitVec 256) (tag : BitVec 10), Operating s →
    let up_ := gf s R.lnkStat 0 3 = 5
    let k := lcls s c
    let single := tag = BitVec.ofNat 10 (512 + 64 * c + 32) ∧ c < 3 ∧ up_ ∧ k.open_ = none ∧ k.rcvd < rxSize c + k.adv ∧ ffld f 48 13 = 0
    let whole := crc32 ((flitBytes f).take 28) = ffld f 224 32
    let d := (ffld f 16 12 + 4096 - k.e) % 4096
    let arrives : (State → Prop) → Prop := fun p => ∃ t, exec (.flitBlock tag f .good []) s = .next t ∧ p t
    let viol : Nat → Nat → Nat → Nat → State → Prop := fun code tc sn w2 t => Logs code tc sn w2 s t ∧ OnlyRegs (logRegs s) s t
    let txreg := [R.txcStat, R.txcStat + 4, R.txcStat + 12]
    let dc : Nat → Nat := fun q => (ffld g (48 + 32 * q) 16 + 65536 - (lcls s q).lastCred) % 65536
    let ac : Nat → Nat := fun q => if ffld g (45 + 32 * q) 1 = 1 then (ffld g (32 + 32 * q) 12 + 4097 - oldestNo (lcls s q)) % 4096 else 0
    let goes : BitVec 10 × BitVec 256 → State → Prop := fun y t => t.link.out = some y ∧ t.link.outLane = blockLane s (flitSlot s) ∧
      t.link.blk = flitSlot s + 1
    -- packets of a class that are to be sent again, and whether it may start one (12 R325, R327, R329)
    let again : Nat → List (Nat × Pkt) := fun q => (lcls s q).replay.drop ((lcls s q).replay.length - (lcls s q).resend)
    let can : Nat → Bool := fun q => (lcls s q).tx.isNone && match (again q).head?, (lcls s q).txq.head? with
      | some r, _ => decide (r.2.sent ≤ avail s q)
      | none, some p => decide (p.flits ≤ avail s q ∧ (lcls s q).replay.length < 1024 ∧
          32 * (((lcls s q).replay.map (fun r => r.2.flits)).sum + p.flits) ≤ 65536)
      | none, none => false
    -- flit i of packet p with number q of class c goes out; behind its last the packet stands in the replay buffer
    let puts : Nat → Nat → Pkt → Nat → Bool → State → Prop := fun c q p i old t => goes (pktFlit q p i) t ∧
      (i + 1 < p.sent → (lcls t c).tx = some (q, p, i + 1) ∧ (lcls t c).replay = (lcls s c).replay) ∧
      (p.sent ≤ i + 1 → (lcls t c).tx = none ∧ (lcls t c).replay = (lcls s c).replay ++ if old then [] else [(q, p)])
    let clean : Nat → Prop := fun nk => lctlOk g = true ∧ ffld g 0 8 = 1 ∧ up_ ∧ dc 2 = 0 ∧ (∀ q, q < 4 → ffld g (44 + 32 * q) 1 = (if q = nk then 1 else 0) ∧ ac q ≤ (lcls s q).replay.length) ∧
      ∀ q ∈ [0, 1, 3], avail s q + dc q ≤ (lcls s q).limit ∧ (lcls s q).limit < 65536
    (gf s R.lnkStat 0 3 < 4 → exec (.flitBlock tag f .good []) s = .next s) ∧
    (4 ≤ gf s R.lnkStat 0 3 → ∀ w ∈ [Fec.good, Fec.corrected, Fec.uncorrectable], ∃ t, exec (.flitBlock tag f .uncorrectable [w]) s = .next t ∧
      gf t R.lnkFec 0 16 = (if w = .corrected then min (gf s R.lnkFec 0 16 + 1) 65535 else gf s R.lnkFec 0 16) ∧
      gf t R.lnkFec 16 16 = (if w = .uncorrectable then min (gf s R.lnkFec 16 16 + 1) 65535 else gf s R.lnkFec 16 16) ∧
      gb t R.lnkStat 10 = (gb s R.lnkStat 10 || decide (w = .uncorrectable)) ∧ (∀ q, q < 3 → (lcls t q).nakDue = true ∧ (lcls t q).resync = true) ∧
      OnlyRegs [R.lnkFec, R.lnkStat] s t) ∧
    (up_ → Tolerated s → tag.toNat % 16 ≠ 0 → arrives (viol 3 (tag.toNat / 64 % 4) 0 tag.toNat)) ∧
    (up_ → Tolerated s → tag = 0x3C0 ∨ tag = 0x2E0 → arrives (viol 8 3 0 tag.toNat)) ∧
    (up_ → Tolerated s → c < 3 → tag = BitVec.ofNat 10 (768 + 64 * c + 32) → k.open_ = none → k.resync = false → k.rcvd < rxSize c + k.adv →
      arrives (fun t => viol 4 c 0 tag.toNat t ∧ (lcls t c).nakDue = true)) ∧
    (single → whole → d = 0 → (∀ i, request c f [] = .inl i → arrives (fun t => (lcls t c).e = (k.e + 1) % 4096 ∧ t.link.ackDue = true ∧
        (lcls t c).rx = k.rx ++ [{ cmd := i, flits := 1, seq := ffld f 16 12 }] ∧ OnlyRegs [] s t)) ∧
      (∀ y, Tolerated s → request c f [] = .inr y → arrives (fun t => (lcls t c).e = (k.e + 1) % 4096 ∧ (lcls t c).rx = k.rx ∧
        Queues { cls := answerClass c (ffld f 0 8), opc := ffld f 0 8 % 128 + 0x80, tag := ffld f 32 16, status := y.2, p0 := 0, p1 := 0, data := [] } s t ∧
        viol y.1 c (ffld f 16 12) (ffld f 0 32) t))) ∧
    (single → whole → 0 < d → d < 1024 → arrives (fun t => (lcls t c).e = k.e ∧ (lcls t c).rx = k.rx ∧ (lcls t c).nakDue = (k.nakDue || !k.naked) ∧
      OnlyRegs [R.lnkErrcnt, R.lnkStat] s t)) ∧
    (single → whole → 3072 ≤ d → arrives (fun t => (lcls t c).e = k.e ∧ (lcls t c).rx = k.rx ∧ t.link.ackDue = true ∧ OnlyRegs [] s t)) ∧
    (single → whole → 1024 ≤ d → d < 3072 → Tolerated s → arrives (fun t => (lcls t c).e = k.e ∧ (lcls t c).nakDue = true ∧
      viol 7 c (ffld f 16 12) (ffld f 0 32) t)) ∧
    (single → ¬ whole → arrives (fun t => (lcls t c).e = k.e ∧ (lcls t c).rx = k.rx ∧ (lcls t c).nakDue = true ∧ gb t R.lnkStat 10 = true ∧
      gf t R.lnkErrcnt 0 16 = min (gf s R.lnkErrcnt 0 16 + 1) 65535 ∧ OnlyRegs [R.lnkErrcnt, R.lnkStat] s t)) ∧
    (lctlOk g = false ∨ ¬ up_ → exec (.flow g) s = .next s) ∧
    (clean 4 → x < 4 → ∃ t, exec (.flow g) s = .next t ∧ (x ≠ 2 → avail t x = avail s x + dc x) ∧ (lcls t x).replay = (lcls s x).replay.drop (ac x) ∧
      OnlyRegs txreg s t) ∧
    (clean c → c ∈ [0, 1, 3] →
      let left := k.replay.drop (ac c)
      let open_ := k.tx.isSome && !k.reOpen
      let tries := if ac c = 0 then k.tries else 0
      (left ≠ [] ∨ open_ = true → tries < max 1 (gf s R.lnkRply 16 4) → ∃ t, exec (.flow g) s = .next t ∧ (lcls t c).replay = left ∧
        (lcls t c).resend = left.length ∧ (lcls t c).redo = open_ ∧ (lcls t c).tries = tries + 1 ∧
        gf t R.lnkErrcnt 16 16 = min (gf s R.lnkErrcnt 16 16 + 1) 65535 ∧ OnlyRegs (R.lnkErrcnt :: txreg) s t) ∧
      (left ≠ [] ∨ open_ = true → max 1 (gf s R.lnkRply 16 4) ≤ tries → ∃ t, exec (.flow g) s = .next t ∧ gf t R.lnkStat 0 3 = 1 ∧
        Reports 2 0x30 t ∧ OnlyRegs downRegs s t) ∧
      (left = [] → open_ = false → Tolerated s → ∃ t, exec (.flow g) s = .next t ∧ Logs 0x0D c 0 0x100 s t ∧
        OnlyRegs (logRegs s ++ txreg) s t)) ∧
    (replayLate s c = true → k.tries < max 1 (gf s R.lnkRply 16 4) → ∃ t, exec (.replayTimeout c) s = .next t ∧ (lcls t c).resend = k.replay.length ∧
      (lcls t c).tries = k.tries + 1 ∧ gf t R.lnkErrcnt 16 16 = min (gf s R.lnkErrcnt 16 16 + 1) 65535 ∧ OnlyRegs [R.lnkErrcnt] s t) ∧
    (replayLate s c = true → max 1 (gf s R.lnkRply 16 4) ≤ k.tries → ∃ t, exec (.replayTimeout c) s = .next t ∧ gf t R.lnkStat 0 3 = 1 ∧
      Reports 2 0x30 t ∧ OnlyRegs downRegs s t) ∧
    (flowFalls s = true → ∃ t, exec .flowSend s = .next t ∧ t.link.flowDue = true ∧ OnlyRegs [] s t) ∧
    (mayTransmit s = true →
      (gf s R.lnkStat 0 3 = 4 → s.link.initSent = false → ∃ t, exec .flitTransmit s = .next t ∧ goes (0x100, initFlitOut s) t ∧
        t.link.initSent = true ∧ OnlyRegs [] s t) ∧
      (up_ → s.link.flowDue = true → ∃ t, exec .flitTransmit s = .next t ∧ goes (0x100, flowFlit s) t ∧ t.link.flowDue = false ∧
        t.link.ackDue = false ∧ (∀ q, q < 3 → (lcls t q).nakDue = false) ∧ OnlyRegs [] s t) ∧
      (up_ → s.link.flowDue = false → ∀ q ∈ [0, 1, 3], (q ≠ 0 → (lcls s 0).tx = none ∧ can 0 = false) → (q = 3 → (lcls s 1).tx = none) →
        (∀ o ∈ (lcls s q).tx, ∃ t, exec .flitTransmit s = .next t ∧ puts q o.1 o.2.1 o.2.2 (lcls s q).reOpen t ∧
          t.link.lastNew = s.link.lastNew ∧ OnlyRegs [] s t) ∧
        (can q = true → (q ≠ 0 → (lcls s 1).tx = none ∧ (lcls s 3).tx = none ∧ (can (4 - q) = false ∨ s.link.lastNew = 4 - q)) →
          ∃ t, exec .flitTransmit s = .next t ∧ t.link.lastNew = (if q = 0 then s.link.lastNew else q) ∧ OnlyRegs [R.txcStat + 4 * q] s t ∧
          (∀ r ∈ (again q).head?, puts q r.1 r.2 0 true t ∧ avail t q = avail s q - r.2.sent ∧ (lcls t q).next = (lcls s q).next ∧
            (lcls t q).txq = (lcls s q).txq ∧ (lcls t q).resend = (lcls s q).resend - 1) ∧
          (again q = [] → ∀ p ∈ (lcls s q).txq.head?, puts q (lcls s q).next p 0 false t ∧ (lcls t q).next = ((lcls s q).next + 1) % 4096 ∧
            avail t q = avail s q - p.flits ∧ (lcls t q).txq = (lcls s q).txq.tail))))

/-- The requests of 12 R331 to R338, R344, and the bulk accesses of 11 R286, R289. That a REG_RD whose status is neither OK nor ABSENT
returns no data (log entry 59), which packet counts as MALFORMED by its parameters (log entry 53) and when a request is taken (log entry
57) are the model's choices. -/
def Obligations.HostRequests : Prop :=
  ∀ (s : State) (p : Port) (tag a k m n off : Nat) (w : Word) (data : List Byte), Operating s →
    let done : Nat → Nat → Nat → Nat → Nat → List Byte → Pkt := fun c opc st p0 p1 d =>
      { cls := c, opc := opc + 0x80, tag := tag, status := st, p0 := p0, p1 := p1, data := d }
    let c := if p = .tc1 then 1 else 0
    let refusal := writeStatus s p a [w]
    let seq := (rd s (stA k R.strPktseq)).toNat
    let okSize := 16 ≤ m ∧ m ≤ 4096 ∧ m % 16 = 0
    let on := (chans s).filter (fun j => w.getLsbD j)
    let later : Pkt := { cls := 0, opc := 0x85, tag := tag, status := 0, p0 := 0, p1 := 0, data := [] }
    let aborts : Instr → List React → Bool → Prop := fun i l halts => ∃ t, exec i s = .next t ∧ t.fc.reacts = s.fc.reacts ++ l ∧
      t.link.later = s.link.later ++ [later] ∧ OnlyRegs [] s t ∧
      (hasChan s n = true → (Machine.seq t n).pendSt = (if halts = true ∧ w.getLsbD n = true ∧ (Machine.seq s n).own = false ∧
        (∃ x ∈ boundCtx s n, ctxState s x = 1 ∨ ctxState s x = 2) then some 3 else (Machine.seq s n).pendSt))
    let refused : Nat → Option Nat := fun len => if off < 0x1000000000 ∨ len = 0 ∨ 4096 < len then some 0x0C
      else if memReady s = false then some 3 else if memSize s < off - 0x1000000000 + len then some 2 else none
    let refusedW : Option Nat := if 4096 < data.length then some 0x0D else refused data.length
    let queued : Nat → Nat → State → Prop := fun opc st t => done 3 opc st 0 0 [] ∈ (lcls t 3).txq
    let latest : Bool → Nat → List Byte → State → Prop := fun wr len d t => (t.hostJobs.getLast?).map (fun j => (j.write, j.tag, j.off, j.len, j.data)) =
      some (wr, tag, off - 0x1000000000, len, d)
    (p ≠ .spi → ∃ t, exec (.regRd p tag a m) s = .next t ∧ Queues (done c 1 (readStatus s p a m) 0 0
      ((if readStatus s p a m = 0 then (readWords p (wordAddrs a m) s).1 else if readStatus s p a m = 1 then List.replicate m 0 else []).flatMap wBytes)) s t ∧
      OnlyRegs (R.otpStat :: (chans s).map (fun j => chA j R.rcTidx)) s t) ∧
    (p ≠ .spi → refusal ≠ 0 → ∃ t, exec (.regWr p tag a [w]) s = .next t ∧ Queues (done c 2 refusal 0 0 []) s t ∧ OnlyRegs [] s t) ∧
    (p ≠ .spi → ∃ t, exec (.regWr p tag a (List.replicate 1025 w)) s = .next t ∧ Queues (done c 2 0x0D 0 0 []) s t ∧ OnlyRegs [] s t) ∧
    (p ≠ .spi → ∀ ws ∈ [[w], [w, w + 1]], writeStatus s p a ws = 0 → ∃ t, exec (.regWr p tag a ws) s = .next t ∧
      Queues (done c 2 (wordsStatus p a ws s) 0 0 []) (writeWords p a ws s) t ∧ RegsExcept [] (writeWords p a ws s) t ∧ SameMemory s t) ∧
    (hasStream s k = false → ∃ t, exec (.strRd tag k m) s = .next t ∧ Queues (done 3 3 1 k 0 []) s t ∧ OnlyRegs [] s t) ∧
    (hasStream s k = true → ¬ okSize → ∃ t, exec (.strRd tag k m) s = .next t ∧ Queues (done 3 3 0x0C k seq []) s t ∧ OnlyRegs [] s t) ∧
    (hasStream s k = true → okSize → (strm s k).reads.length < 8 → ∃ t, exec (.strRd tag k m) s = .next t ∧
      (strm t k).reads.map (fun q => (q.tag, q.maxb)) = (strm s k).reads.map (fun q => (q.tag, q.maxb)) ++ [(tag, m)] ∧ OnlyRegs [] s t) ∧
    (hasStream s k = true → okSize → 8 ≤ (strm s k).reads.length → Tolerated s → ∃ t, exec (.strRd tag k m) s = .next t ∧
      Queues (done 3 3 9 k seq []) s t ∧ Logs 0x0F 0 (lcls s 0).cur (3 + 65536 * (lcls s 0).cur) s t ∧ OnlyRegs (logRegs s) s t) ∧
    (∃ t, exec (.strDrop tag k) s = .next t ∧ Queues (done 0 4 (if hasStream s k = false then 1 else if sendingNow s k = none then 8 else 0) 0 0 []) s t ∧
      OnlyRegs (if hasStream s k = true ∧ sendingNow s k ≠ none then [stA k R.strCdrop, R.txcStat + 12] else []) s t) ∧
    aborts (.abortHalt tag w) [⟨s.now + 1, on, .halt, none⟩] true ∧ aborts (.abortHold tag w) [⟨s.now + 1, on, .halt, none⟩, ⟨s.now + 1, on, .hold84, none⟩] true ∧
    aborts (.abortOff tag w) [⟨s.now + 1, on, .halt, none⟩, ⟨s.now + 1, on, .off, none⟩] true ∧ aborts (.abortFurl tag w) [⟨s.now + 1, on, .halt, none⟩, ⟨s.now + 1, on, .furl, none⟩] false ∧
    (∃ t, exec (.keepalive tag) s = .next t ∧ Queues (done 0 6 0 (ticktime s % 2 ^ 32) (ticktime s / 2 ^ 32) []) s t ∧ t.link.hbLast = s.now ∧
      gb t R.hbStat 0 = (gb s R.hbStat 0 || gb s R.hbCfg 0) ∧ OnlyRegs [R.hbStat] s t) ∧
    (∀ st ∈ refused m, ∃ t, exec (.bulkRd tag off m) s = .next t ∧ queued 0x21 st t ∧ OnlyRegs [] s t) ∧
    (refused m = none → ∃ t, exec (.bulkRd tag off m) s = .next t ∧ latest false m [] t ∧ OnlyRegs [] s t) ∧
    (∀ st ∈ refusedW, ∃ t, exec (.bulkWr tag off data) s = .next t ∧ queued 0x20 st t ∧ OnlyRegs [] s t) ∧
    (refusedW = none → segHit s (off - 0x1000000000) data.length ≠ [] → ∃ t, exec (.bulkWr tag off data) s = .next t ∧ queued 0x20 5 t ∧
      (∀ j ∈ segHit s (off - 0x1000000000) data.length, gb t (chA j R.genStat) 9 = true) ∧
      OnlyRegs ((segHit s (off - 0x1000000000) data.length).map (fun j => chA j R.genStat)) s t) ∧
    (refusedW = none → segHit s (off - 0x1000000000) data.length = [] → ∃ t, exec (.bulkWr tag off data) s = .next t ∧
      latest true data.length data t ∧ OnlyRegs [] s t)
/-- The heartbeat (12 R344, R345) and MGMT_SPI (R346, R347). That ERR_CNT counts every transaction that is served and not performed, and
none that is answered NOT_READY, is the model's choice (log entry 97). -/
def Obligations.HeartbeatAndManagementPort : Prop :=
  ∀ (s : State) (a n : Nat) (w : Word) (cmd crc crd : Byte), s.inReset = false →
    let hb := R.hbStat
    let spi := R.spiStat
    let react := gf s R.hbCfg 1 2
    let answers : Instr → Bool → Word → Nat → (State → Prop) → Prop := fun i isRead d st p => ∃ t, exec i s = .next t ∧
      t.spiOut = some (d, st, if isRead then crc8 (msbBits 40 (d.toNat * 256 + st)) else crc8 (msbBits 8 st)) ∧ p t
    let served : Bool → Prop := fun isRead => spiServed s isRead a = true
    let okRead := crc8 (msbBits 48 (cmd.toNat * 2 ^ 40 + a % 2 ^ 40)) = crc.toNat
    let okWrite := crc8 (msbBits 80 ((2 * 2 ^ 40 + a % 2 ^ 40) * 2 ^ 32 + w.toNat)) = crd.toNat
    let none_ : State → Prop := fun t => OnlyRegs [] s t
    let failed : State → Prop := fun t => gf t spi 8 8 = min (gf s spi 8 8 + 1) 255 ∧ OnlyRegs [spi] s t
    let bad : State → Prop := fun t => gb t spi 0 = true ∧ failed t
    let denied : Nat → State → Prop := fun st t => gb t spi 1 = (gb s spi 1 || decide (st = 0x0E)) ∧ failed t
    let cut : Instr → (State → Prop) → Prop := fun i p => ∃ t, exec i s = .next t ∧ t.spiOut = none ∧ p t
    let known := cmd = 3
    let rs := readStatus s .spi a 1
    let ws := writeStatus s .spi a [w]
    (running s = true → gb s R.hbCfg 0 = true → gb s hb 0 = true → s.link.hbLast + max 200 (gf s R.hbCfg 8 24) ≤ s.now →
      ∃ t, exec .linkHb s = .next t ∧ gb t hb 1 = true ∧ gb t hb 0 = false ∧ gf t hb 8 8 = min (gf s hb 8 8 + 1) 255 ∧ Reports 2 0x32 t ∧
        t.fc.reacts = s.fc.reacts ++ [⟨s.now + 1, chans s, .halt, none⟩, if react = 2 then ⟨s.now + 1, [], .dev, none⟩ else if react = 0 then ⟨s.now + 1, chans s, .hold84, none⟩
          else ⟨s.now + 1, chans s, .off, none⟩] ∧
        (hasChan s n = true → react ≠ 2 → (seq s n).own = false → (∃ x ∈ boundCtx s n, ctxState s x = 1 ∨ ctxState s x = 2) → (seq t n).pendSt = some 3) ∧
        OnlyRegs [hb] s t) ∧
    (¬ served (cmd == 3) → answers (.mgmtSpiRead a crc cmd false) known 0 3 none_ ∧ cut (.mgmtSpiRead a crc cmd true) none_) ∧
    (¬ served false → answers (.mgmtSpiWrite a w crd false) false 0 3 none_ ∧ cut (.mgmtSpiWrite a w crd true) none_) ∧
    (served (cmd == 3) → cut (.mgmtSpiRead a crc cmd true) failed) ∧ (served false → cut (.mgmtSpiWrite a w crd true) failed) ∧
    (served (cmd == 3) → ¬ okRead → answers (.mgmtSpiRead a crc cmd false) known 0 0x0C bad) ∧
    (served false → ¬ okWrite → answers (.mgmtSpiWrite a w crd false) false 0 0x0C bad) ∧
    (served false → okRead → ¬ known → answers (.mgmtSpiRead a crc cmd false) false 0 0x0C failed) ∧
    (served true → okRead → known → rs = 0 → answers (.mgmtSpiRead a crc cmd false) true (readWord .spi a s).1 0 (fun t => OnlyRegs (if a = R.otpStat then [R.otpStat] else []) s t)) ∧
    (served true → okRead → known → rs ≠ 0 → answers (.mgmtSpiRead a crc cmd false) true 0 rs (denied rs)) ∧
    (served false → okWrite → ws = 0 → answers (.mgmtSpiWrite a w crd false) false 0 0 (fun t => RegsExcept [] (writeWord .spi a w s) t ∧ SameMemory s t)) ∧
    (served false → okWrite → ws ≠ 0 → answers (.mgmtSpiWrite a w crd false) false 0 ws (denied ws))

/-- Messages taken by the collector (13 R350 to R358, R364 to R372; 14 R388). `takable`, `shadowOf` and `repeatOf` name the
message that is next, the window over it and the record it repeats. The model's choices: records and reactions with LOG = 0 and in windows
(log entry 32), which messages merge and how a real and an injected one join (log entry 33), and parity and comparison failures as the
command names them (log entries 71 and 98); that DRY is read as the message is taken is its reading (log entry 35). -/
def Obligations.LanyardMessages : Prop :=
  ∀ (s : State) (n off i : Nat) (all : Bool), s.inReset = false → (∀ m ∈ takable s,
    let q := (rd s R.logSeq).toNat
    let a := recA q
    let twin := s.fc.bus.tail.find? (twins m)
    let real : Msg := match twin with | some u => if m.inj = true then u else m | none => m
    let inj := m.inj || twin.isSome
    let taken := 1 + b2n twin.isSome
    let idx := gf s R.logSeq 0 8
    let cls := classOf s real.kind
    let cfg := rd s (R.classCfg0 + 4 * cls)
    let dry := real.inj && gb s R.fiCtrl 1
    let log := cfg.getLsbD 0
    let tested := !real.inj && (testBlock real).isSome && log
    let targets := targetsOf s real.src real.kind real.addr real.info
    let decided : Word → Option Nat → List React := fun c i =>
      (if c.getLsbD 2 then [⟨s.now + 1, targets, .hold, i⟩] else []) ++ (if c.getLsbD 3 then [⟨s.now + 1, targets, .furl, i⟩] else []) ++
        (if c.getLsbD 4 then [⟨s.now + 1, [], .dev, i⟩] else [])
    let took : State → Prop := fun t => t.fc.taken = s.fc.taken + b2n (!m.inj || twin.isSome) ∧ t.fc.bus.length + taken = s.fc.bus.length
    let logRec : Nat → Bool → State → Prop := fun tst sec t =>
      rd t a = BitVec.ofNat 32 (real.info + real.addr % 2 ^ 16 * 2 ^ 16) ∧
      rd t (a + 4) = BitVec.ofNat 32 (real.addr / 2 ^ 16 + b2n inj * 2 ^ 15 + real.kind * 2 ^ 16 + real.src * 2 ^ 24) ∧
      rd t (a + 8) = BitVec.ofNat 32 real.time ∧ gf t (a + 12) 0 16 = real.time / 2 ^ 32 % 2 ^ 16 ∧ gf t (a + 12) 16 2 = cls ∧
      gf t (a + 12) 18 2 = tst ∧ gb t (a + 12) 20 = !real.inj ∧ gb t (a + 12) 22 = sec ∧
      rd t R.logSeq = rd s R.logSeq + 1 ∧ gb t R.fcStat 0 = true
    let recRegs := [a, a + 4, a + 8, a + 12, R.logSeq, R.fcStat, R.mirSeq]
    let waiting := ((lcls s 1).txq.filter (fun p => p.opc == 0x41)).length
    let packet : List Byte → Pkt := fun d => { cls := 1, opc := 0x41, tag := 0, status := 0, p0 := 0, p1 := 0, data := d }
    let noted : State → Prop := fun t => (lcls t 1).txq.length = (lcls s 1).txq.length + b2n (cfg.getLsbD 1 && decide (waiting < 16)) ∧
      (cfg.getLsbD 1 = true → waiting < 16 → log = true → Queues (packet ((List.range 4).flatMap (fun k => wBytes (rd t (a + 4 * k))))) s t) ∧
      (cfg.getLsbD 1 = true → 16 ≤ waiting → gb t R.fcStat 7 = true)
    (m.forceFurl = false → (∀ w ∈ shadowOf s real, ∃ t, exec (.lanyardMessage none) s = .next t ∧ took t ∧ logRec 0 true t ∧
      (∀ i ∈ w.idx, gf t (a + 12) 24 8 = i % 256) ∧ gf t R.fcCnt 0 16 = min (gf s R.fcCnt 0 16 + 1) 65535 ∧
      t.fc.reacts = s.fc.reacts ∧ t.fc.tests = s.fc.tests ∧ (lcls t 1).txq = (lcls s 1).txq ∧ OnlyRegs (R.fcCnt :: recRegs) s t)) ∧
    (m.forceFurl = false → shadowOf s real = none → inj = false → (∀ i ∈ repeatOf s real, ∃ t, exec (.lanyardMessage none) s = .next t ∧ took t ∧
      gf t (recA i + 4) 8 7 = min (gf s (recA i + 4) 8 7 + 1) 127 ∧ gf t R.fcCnt 16 16 = min (gf s R.fcCnt 16 16 + 1) 65535 ∧
      t.fc.reacts = s.fc.reacts ++ decided (rd s (R.classCfg0 + 4 * (if gb s (recA i + 12) 23 then gf s (recA i + 12) 16 2 else cls))) (some i) ∧
      t.fc.tests = s.fc.tests ∧ (lcls t 1).txq = (lcls s 1).txq ∧ OnlyRegs [recA i + 4, R.fcCnt] s t)) ∧
    (m.forceFurl = false → shadowOf s real = none → (inj = true ∨ repeatOf s real = none) → ∃ t, exec (.lanyardMessage none) s = .next t ∧ took t ∧
      (log = true → logRec (b2n tested) false t ∧ gf t (a + 12) 24 8 = idx) ∧
      t.fc.tests.map (fun u => (u.idx, u.start)) = s.fc.tests.map (fun u => (u.idx, u.start)) ++ (if tested = true then [(q, s.now + 1)] else []) ∧
      noted t ∧ t.fc.reacts = s.fc.reacts ++ (if dry = true then [] else decided cfg (if log then some idx else none)) ∧
      OnlyRegs (if log = true then recRegs else [R.fcStat]) s t) ∧
    (m.forceFurl = true → ∃ t, exec (.lanyardMessage none) s = .next t ∧ gf t R.devStat 0 2 = 3 ∧
      (gb s R.devStat 0 = false → hasChan s n = true → furled t n = true ∧ (furled s n = false → modeNow t n = 0)) ∧ SameMemory s t)) ∧
    let u := if (takable s).isSome then takeMsg s else s
    let kept := s.variant = .vs3240 ∧ all = false
    let own := [R.fcStat, R.fcLastLo, R.fcLastLo + 4]
    let new := recA (rd u R.logSeq).toNat
    let furls : State → Prop := fun t => ∃ r ∈ t.fc.reacts, r.act = .dev ∧ r.at_ = s.now + 1
    (off < 0x10000 → ∃ t, exec (.lanyardMessage (some (off, all))) s = .next t ∧ gb t R.fcStat 2 = true ∧
      gf t R.fcStat 8 8 = min (gf u R.fcStat 8 8 + 1) 255 ∧ rd t R.fcLastLo = BitVec.ofNat 32 (off * 2 ^ 16) ∧
      rd t (R.fcLastLo + 4) = (if kept then 0x01380000 else 0x01390000) ∧ SameMemory u t ∧
      (kept → u.fc.active = [i] → gb t (recA i + 12) 21 = true ∧ t.fc.reacts = u.fc.reacts ∧ t.fc.bus = u.fc.bus ∧ OnlyRegs ((recA i + 12) :: own) u t) ∧
      (kept → u.fc.active = [] → Reports 1 0x38 t ∧ t.fc.reacts = u.fc.reacts ∧ OnlyRegs own u t) ∧
      (¬ kept → furls t ∧ (gb s (R.classCfg0 + 12) 0 = true → gf t (new + 4) 16 8 = 0x39 ∧ gf t (new + 12) 16 2 = 3) ∧
        OnlyRegs (own ++ [new, new + 4, new + 8, new + 12, R.logSeq, R.mirSeq]) u t))
/-- Reactions (13 R357 to R363). That a target which does not confirm has not taken its reaction, with one retry for each channel and tick
(log entry 98), and the 8 ticks of the stopped RCB clocks (log entry 88) are the model's choices. -/
def Obligations.FaultReactions : Prop :=
  ∀ (s : State) (n k : Nat), ChanIn n s → reactDue s = true →
    let again := s.variant = .vs3240 ∧ (s.now, n) ∉ s.fc.retries
    let due := s.fc.reacts.filter (fun r => decide (r.at_ ≤ s.now))
    let dev := due.any (fun r => r.act == .dev)
    let named : Act → Bool := fun a => due.any (fun r => r.act == a && r.targets.contains n)
    let furl := named .furl || (dev && !gb s R.devStat 0)
    let weak := !dev && !named .furl && !named .off && !named .clr && !named .manual && !named .reef
    (due.any (fun r => r.act == .dev || r.targets.contains n) = true → ∃ t, exec (.faultReaction [0x20 + n]) s = .next t ∧
      furled t n = furled s n ∧ (k < 0x10000 → rd t (chA n k) = rd s (chA n k)) ∧ gb t R.fcStat 2 = true ∧
      gf t R.fcStat 8 8 = min (gf s R.fcStat 8 8 + 1) 255 ∧ gf t (R.fcLastLo + 4) 16 8 = 0x3A ∧ gf t (R.fcLastLo + 4) 0 8 = 0 ∧
      gf t R.fcLastLo 16 16 = 0x20 + n ∧
      (again → (s.now + 1, n) ∈ t.fc.retries ∧ ∀ r ∈ due, r.act = .dev ∨ n ∈ r.targets →
        ∃ x ∈ t.fc.reacts, x.at_ = s.now + 1 ∧ x.targets = [n] ∧ x.act = (if r.act = .dev then .furl else r.act)) ∧
      (¬ again → ∃ x ∈ t.fc.reacts, x.at_ = s.now + 1 ∧ x.act = .dev)) ∧
    ∃ t, exec (.faultReaction []) s = .next t ∧ t.fc.reacts = s.fc.reacts.filter (fun r => decide (s.now < r.at_)) ∧
      (dev = true → gf t R.devStat 0 1 = 1 ∧ (gb s R.devStat 0 = false → gf t R.devStat 0 2 = 3 ∧ t.rcbStop = some (s.now + 8) ∧
        gf t R.devStat 8 8 = min (gf s R.devStat 8 8 + 1) 255)) ∧
      (dev = false → rd t R.devStat = rd s R.devStat ∧ t.rcbStop = s.rcbStop) ∧
      furled t n = (furled s n || furl) ∧
      (furl = true → furled s n = false → modeNow t n = 0 ∧ gf t (chA n R.dacCode) 0 20 = pat 20 (chan s n).clrLatch ∧ inHold t n = false ∧ ((chan t n).path .v).ap = none ∧ ((chan t n).path .i).ap = none ∧ injRuns t n = false ∧
        (chan t n).raw = none ∧ (chan t n).gen.run = false ∧
        (∀ x ∈ boundCtx s n, ctxState t x = if ctxState s x = 1 ∨ ctxState s x = 2 then 3 else ctxState s x) ∧
        (dev = false → gb s R.devStat 0 = false → ∃ fr ∈ (rcb t (n / 8)).frames, fr.ch = n ∧ fr.role = .disconnect)) ∧
      (furl = false → dev = false → (named .off = true ∨ named .clr = true) → modeNow t n = 0) ∧
      (weak = true → inHold t n = (inHold s n || (named .hold84 && modeNow s n != 0) ||
        (named .hold && (isClosed (modeNow s n) || modeNow s n == 8)))) ∧
      (weak = true → named .hold = false → named .hold84 = false → k < 0x10000 → rd t (chA n k) = rd s (chA n k)) ∧
      OnlyRange 0x100000 0x4000000 (R.chFurled :: R.devStat :: (List.range 8).map (fun u => etA u R.etStat)) s t
/-- Self-tests (13 R368, R369) and the mirror (R366). The model's choices: when a result raises CLASS and decides reactions (log entry 34),
which records the mirror takes up (log entry 37), what a re-read finds (log entry 38), how a pair is compared (log entry 99) and when a lane
loopback runs and waits (log entry 101). -/
def Obligations.SelfTestsAndMirror : Prop :=
  ∀ (s : State) (i : Nat) (p : Bool), Operating s →
    let q := (rd s R.logSeq).toNat
    (∀ u ∈ startable s i,
      (∀ v ∈ s.fc.tests.find? (fun v => v.running && v.block == u.block), ∃ t, exec (.selfTestStart i) s = .next t ∧
        t.fc.tests = s.fc.tests.map (fun w => if w.idx = u.idx then { w with shares := some v.idx } else w) ∧ OnlyRegs [] s t) ∧
      (s.fc.tests.find? (fun v => v.running && v.block == u.block) = none → ∃ t, exec (.selfTestStart i) s = .next t ∧
        (∃ w ∈ t.fc.tests, w.idx = u.idx ∧ w.running = true ∧ w.start = s.now) ∧ t.fc.tests.length = s.fc.tests.length ∧
        (u.block.1 = 2 ∨ u.block.1 = 3 → t.fc.windows.length = s.fc.windows.length + 1) ∧
        (u.block.1 = 6 → gf s R.lnkStat 0 3 < 5 → gf t R.lnkStat 0 3 = 0) ∧
        OnlyRegs ((if u.block.1 = 6 ∧ gf s R.lnkStat 0 3 < 5 then [R.lnkStat] else []) ++ (List.range 4).map (fun g => maA g R.fpRes)) s t)) ∧
    (∀ u ∈ endable s i, u.block.1 = 6 → p = false → gf s R.lnkStat 0 3 ≠ 5 → ∃ t, exec (.selfTestResult i p) s = .next t ∧
      t.fc.tests = s.fc.tests.map (fun v => if v.idx = u.idx then { v with reads := 1 } else v) ∧ OnlyRegs [] s t) ∧
    (∀ u ∈ endable s i, (∀ v ∈ s.fc.tests, v.shares ≠ some u.idx) → (u.block.1 = 6 → p = true ∨ gf s R.lnkStat 0 3 = 5) →
      let judged := 0 < testNeeds u ∧ testNeeds u ≤ u.reads
      let bad : Prop := if judged then (if u.block.1 = 4 then 2 else 1) ≤ u.fails else if u.block.1 = 2 ∧ 0 < u.reads then 64 * u.reads < u.sum.natAbs
        else p = true ∨ (u.block.1 = 6 ∧ gf s R.lnkStat 0 3 = 5 ∧ laneCount (gf s R.lnkStat 3 4) < laneCount u.info)
      let cls := if bad ∧ u.cls < 3 then u.cls + 1 else u.cls
      let a := recA u.idx + 12
      let new := rd s (R.classCfg0 + 4 * cls) &&& ~~~ rd s (R.classCfg0 + 4 * u.cls)
      let tg := targetsOf s u.src u.kind u.addr u.info
      let waiting := ((lcls s 1).txq.filter (fun x => x.opc == 0x41)).length
      let notes := gb s (R.classCfg0 + 4 * u.cls) 1 || gb s (R.classCfg0 + 4 * cls) 1
      let ix := some (u.idx % 256)
      ∃ t, exec (.selfTestResult i p) s = .next t ∧
        (u.idx < q → q ≤ u.idx + 256 → gf t a 18 2 = (if bad then 3 else 2) ∧ gf t a 16 2 = cls % 4 ∧ gb t a 23 = decide bad ∧
          (notes = true → waiting < 16 → Queues ⟨1, 0x41, 0, 0, 0, 0,
            (List.range 4).flatMap (fun k => wBytes (rd t (recA u.idx + 4 * k))), none, []⟩ s t) ∧
          (notes = true → 16 ≤ waiting → gb t R.fcStat 7 = true) ∧
          (notes = false ∨ 16 ≤ waiting → (lcls t 1).txq = (lcls s 1).txq)) ∧
        t.fc.reacts = s.fc.reacts ++ (if bad ∧ u.cls < 3 then (if new.getLsbD 2 then [⟨s.now + 1, tg, .hold, ix⟩] else []) ++
          (if new.getLsbD 3 then [⟨s.now + 1, tg, .furl, ix⟩] else []) ++ (if new.getLsbD 4 then [⟨s.now + 1, [], .dev, ix⟩] else []) else []) ∧
        (u.block.1 = 1 → bad → u.block ∈ t.fc.spares) ∧ (u.block.1 ≠ 1 → t.fc.spares = s.fc.spares) ∧
        t.fc.tests = s.fc.tests.filter (fun v => v.idx != u.idx && v.shares != some u.idx) ++
          (if u.block.1 = 1 ∧ ¬ bad then [{ u with running := false, copyEnd := some (s.now + 64) }] else []) ∧
        OnlyRegs [a, R.fcStat] s t) ∧
    (∃ t, exec .spareRelease s = .next t ∧
      t.fc.tests = s.fc.tests.filter (fun u => !u.copyEnd.any (fun e => decide (e ≤ s.now))) ∧ OnlyRegs [] s t) ∧
    (∀ r ∈ mirrorNext s, r.port = 10 ∧ r.write = true ∧
      (∃ d ∈ s.fc.mirrorDirty, r.who = .log d ∧ (∀ e ∈ s.fc.mirrorDirty, seqLag s e ≤ seqLag s d) ∧
        r.offset = gf s R.mirBaseLo 12 20 * 2 ^ 12 + gf s R.mirBaseHi 0 4 * 2 ^ 32 + 16 * (d % 2 ^ (gf s R.mirCfg 1 5)) / 64 * 64) ∧
      ∃ t, exec .mirrorWrite s = .next t ∧ portQ t 10 = portQ s 10 ++ (if portFree s 10 = true then [r] else []) ∧ OnlyRegs [] s t)
/-- HOLD_REL, CH_FURLED, DEV_FURL (13 R361 to R363) and fault injection (R370). That absent channels of HOLD_REL are left out of REJ and that
a second HOLD_REL adds no frame (log entry 30), and that GO latches FI_MSG (log entry 35), are the model's choices. -/
def Obligations.HoldsFurlsAndInjection : Prop :=
  ∀ (s : State) (n : Nat) (w : Word), Operating s →
    let named : List Nat := (chans s).filter (fun j => w.getLsbD j)
    let coming : Nat → Bool := fun j => s.fc.reacts.any (fun r => decide (s.now < r.at_) && (r.act == .dev || (r.act == .furl && r.targets.contains j)))
    let devComing := s.fc.reacts.any (fun r => decide (s.now < r.at_) && r.act == .dev)
    let src := gf s R.fiMsgHi 24 8
    let present := src ≤ 5 ∨ (8 ≤ src ∧ src < 0xC ∧ hasGroup s (src - 8) = true) ∨ (0x10 ≤ src ∧ src < 0x18 ∧ hasChan s (4 * (src - 0x10)) = true) ∨
      (0x20 ≤ src ∧ src < 0x40 ∧ hasChan s (src - 0x20) = true) ∨ (0x40 ≤ src ∧ src < 0x64 ∧ hasStream s (src - 0x40) = true)
    let sent : Nat → Nat → Nat → Msg := fun hi lo cyc => ⟨hi / 2 ^ 24, hi / 2 ^ 16 % 256, true, hi % 256 * 2 ^ 16 + lo / 2 ^ 16, lo % 2 ^ 16, s.now,
      ticktime s, cyc, false, 0⟩
    (∃ t, exec (.holdRel w) s = .next t ∧ gb t R.fcStat 6 = (gb s R.fcStat 6 || named.any (fun j => !inHold s j)) ∧
      (n ∈ named → inHold s n = true → (chan s n).holdEnd = [] → ∃ fr ∈ (rcb t (n / 8)).frames, fr.ch = n ∧ fr.rel = true) ∧
      (∀ g, g < 4 → named.any (fun j => inHold s j && decide (j / 8 = g)) = false → rcb t g = rcb s g) ∧
      OnlyRegs [R.fcStat] s t) ∧
    (∃ t, exec (.chFurledRelease w) s = .next t ∧
      (hasChan s n = true → furled t n = (furled s n && (gb s R.devStat 0 || !w.getLsbD n || coming n))) ∧ OnlyRegs [R.chFurled] s t) ∧
    (gb s R.devStat 0 = true → gb s R.stResult 1 = false → devComing = false → ∃ t, exec .devFurlRelease s = .next t ∧
      gf t R.devStat 0 2 = 0 ∧ (hasChan s n = true → furled t n = (furled s n && coming n)) ∧ OnlyRegs [R.devStat, R.chFurled] s t) ∧
    (gb s R.devStat 0 = false ∨ gb s R.stResult 1 = true ∨ devComing = true → ∃ t, exec .devFurlRelease s = .next t ∧ OnlyRegs [] s t) ∧
    (∃ t, exec (.fiCtrlGo w) s = .next t ∧ gb t R.fiCtrl 1 = w.getLsbD 1 ∧ gf t R.fiCtrl 2 6 = w.toNat / 4 % 64 ∧
      (¬ present ∨ 49 < w.toNat / 4 % 64 ∨ s.fc.fi ≠ none → gb t R.fcStat 5 = true ∧ t.fc.fi = s.fc.fi) ∧
      (present → w.toNat / 4 % 64 ≤ 49 → s.fc.fi = none → gb t R.fcStat 5 = gb s R.fcStat 5 ∧ gb t R.fiCtrl 8 = true ∧
        t.fc.fi = some (s.now + 1, w.toNat / 4 % 64, rd s R.fiMsgLo, rd s R.fiMsgHi)) ∧ OnlyRegs [R.fiCtrl, R.fcStat] s t) ∧
    (∀ f ∈ s.fc.fi, f.1 ≤ s.now → ∃ t, exec .faultInjectionSend s = .next t ∧ t.fc.fi = none ∧ gb t R.fiCtrl 8 = false ∧
      t.fc.bus = insMsg (sent f.2.2.2.toNat f.2.2.1.toNat f.2.1) s.fc.bus ∧ OnlyRegs [R.fiCtrl] s t)

/-- The boot (14 R380 to R386, R388, R391 to R393). RST_CAUSE.PIN as RESET_END leaves it and the two steps of a reset are the model's
choices of log 39, the variant of a device under reset that of log 3. -/
def Obligations.ResetAndBoot : Prop :=
  ∀ (s : State) (n item sp : Nat) (level : Bool),
    let live : Prop := s.inReset = false
    let phase := gf s R.devState 3 2
    let st := gf s R.devState 0 3
    let word : Nat → Word := fun i => rd s (R.otpWord + 4 * i)
    let header := fld (word 0) 0 16 == 0x0A5E && otpCrc s 0 7 == fld (word 7) 0 16
    let valid : Nat → Bool := fun g => (word (8 + 62 * g)).getLsbD 0
    let crcOk : Nat → Bool := fun g => otpCrc s (9 + 62 * g) 61 == fld (word (8 + 62 * g)) 16 16
    let good : Nat → Bool := fun g => valid g && crcOk g && !(word (8 + 62 * g)).getLsbD 1
    let image : Nat → Word := fun j => if good 3 = true then word (194 + j) else if good 2 = true then word (132 + j)
      else if good 1 = true then word (70 + j) else if good 0 = true then word (8 + j) else 0
    let code := if gb s R.otpStat 11 = true then 1 else if item ≤ 5 then item else 0
    let outside : List Nat → Prop := fun l => n ∉ l ∧ (n < R.otpWord ∨ R.otpWord + 0x400 ≤ n)
    let blank : State → Prop := fun u => u.inReset = true ∧ u.resetting = false ∧ (outside [R.rstCause] → rd u n = rd State.reset n) ∧
      u.fc.bus = [] ∧ u.variant = .vs3240
    let keeps : State → State → Prop := fun t u => u.pending = t.pending ∧ u.clrLow = t.clrLow ∧ u.ocxo = t.ocxo ∧
      (n < 256 → rd u (R.otpWord + 4 * n) = rd t (R.otpWord + 4 * n))
    let resets : Instr → Nat → Prop := fun i cause => ∃ t, exec i s = .next t ∧ keeps s t ∧ t.inReset = true ∧
      (rd t R.rstCause).getLsbD cause = true ∧ (rd t R.rstCause).getLsbD (1 - cause) = (rd s R.rstCause).getLsbD (1 - cause) ∧
      (s.inReset = true → blank t) ∧
      (live → t.resetting = true ∧ OnlyRegs (R.rstCause :: (chans s).map (fun j => chA j R.dacCode)) s t ∧
        (hasChan s n = true → gf t (chA n R.dacCode) 0 20 = pat 20 (chan s n).clrLatch ∧ (chan t n).disconnected = true ∧ (rcb t (n / 8)).frames = []) ∧
        (t.pending = [] → ∃ u, step t = .next u ∧ blank u ∧ keeps t u ∧ rd u R.rstCause = rd t R.rstCause))
    resets .resetNAssert 1 ∧ resets .supplyTrip 0 ∧
    (s.inReset = true → ∃ t, exec .resetEnd s = .next t ∧ keeps s t ∧ t.inReset = false ∧ t.resetting = false ∧
      gb t R.rstCause 0 = gb s R.rstCause 0 ∧ gb t R.rstCause 1 = (gb s R.rstCause 1 && !s.supplyBad) ∧ gb t R.tbStat 0 = s.ocxo ∧
      (s.resetting = false → OnlyRegs [R.rstCause, R.tbStat] s t ∧ gf t R.tbStat 1 31 = gf s R.tbStat 1 31) ∧
      (s.resetting = true → outside [R.rstCause, R.tbStat] → rd t n = rd State.reset n)) ∧
    (live → exec .resetEnd s = .next s) ∧
    (live → ∃ t, exec (.refPresent level) s = .next t ∧ gb t R.clkStat 0 = level ∧ gf t R.clkStat 1 31 = gf s R.clkStat 1 31 ∧ OnlyRegs [R.clkStat] s t) ∧
    (live → phase = 0 → st = 0 → ∃ t, exec .otpReadDone s = .next t ∧ gf t R.devState 0 5 = 1 ∧
      t.variant = (if header = true ∧ fld (word 1) 0 2 = 1 then .vs3216 else if header = true ∧ fld (word 1) 0 2 = 2 then .vs3240 else .vs3208) ∧
      rd t R.devId = (match t.variant with | .vs3240 => 0x56533240 | .vs3216 => 0x56533216 | .vs3208 => 0x56533208) ∧
      rd t R.devUidLo = (if header then word 4 else 0) ∧ rd t R.devUidHi = (if header then word 5 else 0) ∧
      t.trims = (if header then [word 2, word 3] else [0, 0]) ∧ gb t R.otpStat 11 = !header ∧
      gb t R.otpStat 2 = (good 0 || good 1 || good 2 || good 3) ∧
      (∀ g, g < 4 → gb t R.otpStat (3 + g) = good g ∧ gb t R.otpStat (7 + g) = (valid g && !crcOk g) ∧
        (good g = true → (∀ j, j < 4 → good j = true → j ≤ g) → gf t R.otpStat 0 2 = g)) ∧
      t.link.txInv = fld (image 4) 0 4 ∧
      (hasChan t n = true → rd t (chA n R.dacClr) = BitVec.ofNat 32 (if (image (5 + n)).getLsbD 20 then fld (image (5 + n)) 0 20 else 2 ^ 20) ∧
        rd t (chA n R.dacCfg) = BitVec.ofNat 32 (if 5 ≤ fld (image (5 + n)) 21 3 then 0 else fld (image (5 + n)) 21 3)) ∧ SameMemory s t) ∧
    (live → phase = 0 → st = 1 → ∃ t, exec (.selftestDone item sp) s = .next t ∧ gf t R.devState 0 5 = 8 ∧ gb t R.stResult 0 = true ∧
      gb t R.stResult 1 = decide (code ≠ 0) ∧ gf t R.stResult 8 8 = code ∧ gb t R.stResult 2 = decide (sp ≠ 0) ∧
      gf t R.stResult 16 8 = min sp 255 ∧ gb t R.devStat 1 = (gb s R.devStat 1 || decide (code ≠ 0)) ∧
      OnlyRegs [R.stResult, R.devState, R.devStat] s t) ∧
    (live → phase = 1 → st = 0 → gb s R.clkStat 0 = true → ∃ t, exec .pllLocked s = .next t ∧ gf t R.devState 3 2 = 2 ∧ gb t R.clkStat 1 = true ∧
      ticktime t = 0 ∧ t.now = 0 ∧ gb t R.tbStat 1 = true ∧ gf t R.lnkStat 0 3 = 1 ∧ t.clrDue = s.clrLow ∧
      (∀ g, g < 4 → gb s R.otpStat (7 + g) = true → ∃ m ∈ t.fc.bus, m.src = 4 ∧ m.kind = 4 ∧ m.addr = g ∧ m.tick = 0) ∧
      gb t R.devStat 0 = (gb s R.devStat 0 || gb s R.stResult 1) ∧ SameMemory s t) ∧
    (live → running s = true → phase = 2 → 2000000 ≤ s.now → ∃ t, exec .bootTimeout s = .next t ∧ gf t R.devState 3 2 = 3 ∧
      gb t R.devState 5 = decide (gf s R.lnkStat 0 3 ≠ 5) ∧ OnlyRegs [R.devState] s t) ∧
    (live → running s = true → phase = 3 → gb s R.clkStat 2 = false → gb s R.clkStat 3 = false → ∃ t, exec (.regRd .tc0 0 R.devState 1) s = .next t ∧
      ∃ p ∈ (lcls t 0).txq.getLast?, p.status = 0 ∧ p.data.head?.map (fun b => b.toNat % 8) = some (if gb s R.devStat 0 = true then 4
        else if (chans s).any (fun j => modeNow s j != 0 || (boundCtx s j).any (fun x => ctxState s x == 1 || ctxState s x == 2)) = true then 3 else 2))
/-- Loss of the clock (14 R387, R388) and programming of the OTP array (R394, R395). The free value for OTP_EN's level, and bits that
are only ever set while the word read back decides, are the model's choices of log 41. -/
def Obligations.ClockLossAndProgramming : Prop :=
  ∀ (s : State) (n : Nat) (w word : Word), s.inReset = false →
    let i := gf s R.otpAddr 0 8
    let d := rd s R.otpWdata
    let stored : Nat → Word := fun j => rd s (R.otpWord + 4 * j)
    let base := 8 + 62 * ((i - 8) / 62)
    let valid := (stored base).getLsbD 0
    let refused : Prop := w.toNat / 256 % 256 ≠ 0xA5 ∨ s.otpBusy ≠ none ∨ (i < 8 ∧ (stored 7).getLsbD 31 = true) ∨
      (8 ≤ i ∧ valid = true ∧ ¬ (i = base ∧ d = 2)) ∨
      (i = base ∧ valid = false ∧ d.getLsbD 0 = true ∧ (otpCrc s (base + 1) 61 ≠ d.toNat / 2 ^ 16 ∨ d.toNat % 2 ^ 16 / 2 ≠ 0))
    let lost : Instr → Nat → Nat → Prop := fun c bitNo kind => ∃ t, exec c s = .next t ∧ gb t R.clkStat 1 = false ∧ gb t R.clkStat bitNo = true ∧
      gb t R.clkStat 0 = (gb s R.clkStat 0 && decide (bitNo = 3)) ∧ gf t R.devState 3 2 = 3 ∧
      (∃ m ∈ t.fc.bus, m.src = 0 ∧ m.kind = kind ∧ m.forceFurl = true ∧ m.tick = s.now ∧ m.time = ticktime s) ∧
      (hasChan s n = true → gf t (chA n R.dacCode) 0 20 = pat 20 (chan s n).clrLatch ∧ (chan t n).disconnected = true ∧ (rcb t (n / 8)).frames = []) ∧
      OnlyRegs (R.clkStat :: R.devState :: (chans s).map (fun j => chA j R.dacCode)) s t
    let ends : Instr → Bool → Prop := fun c fall => ∀ b ∈ s.otpBusy, b.1 < 256 → ∃ t, exec c s = .next t ∧ t.otpBusy = none ∧ gb t R.otpStat 13 = false ∧
      rd t (R.otpWord + 4 * b.1) = stored b.1 ||| (b.2 &&& word) ∧
      gb t R.otpStat 14 = (gb s R.otpStat 14 || fall || decide ((stored b.1 ||| b.2) &&& ~~~word ≠ 0)) ∧
      gf t R.otpStat 16 8 = (if fall then gf s R.otpStat 16 8 else min (gf s R.otpStat 16 8 + 1) 255) ∧
      gb t R.otpStat 12 = (gb s R.otpStat 12 && !fall) ∧ OnlyRegs [R.otpWord + 4 * b.1, R.otpStat] s t
    let due : Nat → Prop := fun bitNo => running s = true ∨ (gb s R.clkStat (5 - bitNo) = true ∧ gb s R.clkStat bitNo = false)
    (due 2 → lost .refclkLoss 2 0x03) ∧ (due 3 → lost .pllUnlock 3 0x02) ∧
    (¬ due 2 → exec .refclkLoss s = .next s) ∧ (¬ due 3 → exec .pllUnlock s = .next s) ∧
    (running s = true → refused → ∃ t, exec (.otpCtrlProg w) s = .next t ∧ gb t R.otpStat 15 = true ∧ t.otpBusy = s.otpBusy ∧ gb t R.otpStat 13 = gb s R.otpStat 13 ∧
      (gb s R.otpStat 12 = true → gb t R.otpStat 12 = true) ∧ gb t R.otpStat 14 = gb s R.otpStat 14 ∧ gf t R.otpStat 16 8 = gf s R.otpStat 16 8 ∧
      OnlyRegs [R.otpStat] s t) ∧
    (running s = true → ¬ refused → ∃ t, exec (.otpCtrlProg w) s = .next t ∧ (gb t R.otpStat 12 = true → t.otpBusy = some (i, d) ∧ gb t R.otpStat 13 = true ∧
      gb t R.otpStat 15 = gb s R.otpStat 15) ∧ (gb t R.otpStat 12 = false → gb t R.otpStat 15 = true ∧ t.otpBusy = s.otpBusy) ∧
      (gb s R.otpStat 12 = true → gb t R.otpStat 12 = true) ∧ OnlyRegs [R.otpStat] s t) ∧
    ends (.otpProgDone word) false ∧ ends (.otpEnFall word) true ∧
    (s.otpBusy = none → ∃ t, exec (.otpEnFall word) s = .next t ∧ gb t R.otpStat 12 = false ∧ gb t R.otpStat 14 = gb s R.otpStat 14 ∧
      OnlyRegs [R.otpStat] s t)

/-- Probes and the delivery of trace records (15 R398 to R403). When an OBS packet may form while others wait, and ten bytes of a
record in a tick of the TRACE port, are the model's choices (log entry 43). -/
def Obligations.TraceRecords : Prop :=
  ∀ (s : State) (p : Nat) (w : Word) (pc : Bool), Operating s →
    let n := w.toNat / 32 % 32
    let cfg := rd s (R.probe + 4 * p)
    let c := fld cfg 5 5
    let x := (pcCtx s c).getD 0
    let it := if pc then pcRecord s c x else signalRecord s c
    let num : Nat → Nat → Nat := fun i len => (((it.drop i).take len).foldr (fun (b : Byte) (acc : Nat) => b.toNat + 256 * acc) 0)
    let loop := (chan s c).loop
    let bytes : Dest → Nat := fun d => (d.fifo.map (fun r => r.2.length)).sum
    let lossOf : Dest → List Byte := fun d => leBytes 6 d.dropAt ++ [0, 0xD3] ++ leBytes 4 d.drops ++ leBytes 4 0
    let enters : Dest → Nat → Bool → Prop := fun d used on => on = true ∧ it.length + (if d.drops = 0 then 0 else 16) + used + bytes d ≤ 8192
    let entered : Dest → Dest := fun d => { fifo := d.fifo ++ (if d.drops = 0 then [] else [(s.now, lossOf d)]) ++ [(s.now, it)], drops := 0, dropAt := if d.drops = 0 then d.dropAt else 0 }
    let dropped : Dest → Dest := fun d => { d with drops := d.drops + 1, dropAt := if d.drops = 0 then ticktime48 s else d.dropAt }
    let goes : Nat → Bool := fun i => (fld cfg 3 2).testBit i
    (p < 4 → hasChan s n = true → w.toNat / 2 % 4 ≠ 3 → ∃ t, exec (.probeWrite p w) s = .next t ∧
      t.obs.writes = s.obs.writes ++ [(R.probe + 4 * p - R.obsCfg, w)] ∧ OnlyRegs [] s t) ∧
    (p < 4 → (hasChan s n = false ∨ w.toNat / 2 % 4 = 3) → ∃ t, exec (.probeWrite p w) s = .next t ∧ t.obs.writes = s.obs.writes ∧
      gb t R.obsStat 2 = true ∧ OnlyRegs [R.obsStat] s t) ∧
    (p < 4 → cfg.getLsbD 0 = true → hasChan s c = true → (p, pc) ∉ s.obs.formed →
      (∀ o ∈ s.obs.oldSel, o.1 ≠ p) → loop.tRec.length = 16 →
      (pc = true → fld cfg 1 2 ≠ 0 ∧ 256 ≤ s.slot ∧
        ((boundCtx s c ≠ none ∧ (0 < (seq s c).executed ∨ (seq s c).stateChg = true)) ∨ (seq s c).left ≠ none)) →
      (pc = false → fld cfg 1 2 ≠ 1 ∧ (lcore s (c / 8)).done = true ∧ ticktime s % 2 ^ (fld cfg 10 4) = 0) →
      it.length = (if pc then 16 else 32) ∧ num 0 6 = ticktime s % 2 ^ 48 ∧ num 6 1 = c ∧ num 7 1 = (if pc then 0xD2 else 0xD1) ∧
      (pc = false → (it.drop 8).take 16 = loop.tRec ∧
        num 24 2 % 2 = b2n (gb s (chA c R.chStat) 4) ∧ num 24 2 / 16 % 2 = b2n (gb s (chA c R.rngStat) 7) ∧
        num 24 2 / 128 % 2 = b2n (chan s c).gen.hold.isSome ∧ num 24 2 / 256 % 2 = b2n (gb s (chA c R.loopStat) 9) ∧
        num 24 2 / 512 % 2 = b2n (gb s (chA c R.loopStat) 10) ∧ num 24 2 / 1024 % 2 = b2n (loop.outSatNow && !loop.missNow) ∧
        num 24 2 / 2 % 2 = b2n (openNow s c) ∧ num 24 2 / 4 % 2 = b2n loop.missNow ∧ num 24 2 / 8 % 2 = b2n (inHold s c) ∧
        num 24 2 / 32 % 2 = b2n (reefOn s c) ∧ num 24 2 / 64 % 2 = b2n (injRuns s c) ∧ num 24 2 / 2048 = b2n (furled s c) ∧ num 26 6 = 0) ∧
      (pc = true → num 8 4 % 2 ^ 20 = ((seq s c).firstPc.getD (pcOf s x)) % 2 ^ 20 ∧ ((seq s c).firstPc.getD (pcOf s x) < 2 ^ 20 →
        num 8 4 / 2 ^ 20 % 16 = min 8 (seq s c).executed ∧ num 8 4 / 2 ^ 24 % 16 = waitKind (seq s c).wait ∧ num 8 4 / 2 ^ 28 = ctxState s x) ∧
        num 14 1 = b2n (seq s c).branch + 2 * b2n (seq s c).exc + 4 * b2n ((seq s c).exhaust || exhausted s c) ∧ num 12 2 = x % 2 ^ 16 ∧ num 15 1 = 0) ∧
      ∃ t, exec (.traceRecord p pc) s = .next t ∧ t.obs.formed = (p, pc) :: s.obs.formed ∧
        (goes 0 = false → t.obs.trace = s.obs.trace) ∧ (goes 1 = false → t.obs.tc1 = s.obs.tc1) ∧
        (goes 0 = true → enters s.obs.trace (s.obs.outFree - 10 * s.now) (gb s R.obsCfg 0) → t.obs.trace = entered s.obs.trace ∧ gb t R.obsStat 0 = gb s R.obsStat 0) ∧
        (goes 0 = true → ¬ enters s.obs.trace (s.obs.outFree - 10 * s.now) (gb s R.obsCfg 0) → t.obs.trace = dropped s.obs.trace ∧ gb t R.obsStat 0 = true ∧
          gf t R.obsLost 0 16 = min (gf s R.obsLost 0 16 + 1) 65535) ∧
        (goes 1 = true → enters s.obs.tc1 0 true → bytes s.obs.tc1 + 48 < 4096 → t.obs.tc1 = entered s.obs.tc1 ∧ gb t R.obsStat 1 = gb s R.obsStat 1) ∧
        (goes 1 = true → ¬ enters s.obs.tc1 0 true → packFull s = false → t.obs.tc1 = dropped s.obs.tc1 ∧ gb t R.obsStat 1 = true ∧
          gf t R.obsLost 16 16 = min (gf s R.obsLost 16 16 + 1) 65535) ∧ OnlyRegs [R.obsStat, R.obsLost] s t) ∧
    (p < 4 → (p, pc) ∉ s.obs.formed → ∀ o ∈ s.obs.oldSel.find? (fun o => o.1 == p), selDue s o.2 pc = true → wouldDrop s o.2 pc = true →
      fld o.2 3 2 = 1 → ∃ t, exec (.traceRecord p pc) s = .next t ∧ t.obs.trace = dropped s.obs.trace ∧ gb t R.obsStat 0 = true ∧
        gf t R.obsLost 0 16 = min (gf s R.obsLost 0 16 + 1) 65535 ∧ t.obs.tc1 = s.obs.tc1 ∧ OnlyRegs [R.obsStat, R.obsLost] s t) ∧
    (gb s R.obsCfg 0 = true → s.obs.outFree < 10 * (s.now + 1) → ∀ r ∈ s.obs.trace.fifo.head?, r.1 < s.now → ∃ t, exec .traceSend s = .next t ∧
      t.obs.trace.fifo = s.obs.trace.fifo.tail ∧ t.obs.out = s.obs.out.filter (fun o => decide (10 * s.now < o.1 + o.2.length)) ++ [(max s.obs.outFree (10 * s.now), r.2)] ∧ t.obs.outFree = max s.obs.outFree (10 * s.now) + r.2.length ∧ OnlyRegs [] s t) ∧
    (∀ r ∈ s.obs.tc1.fifo.head?, r.1 + max 1 (gf s R.obsCfg 16 16) ≤ s.now → packRoom s = true → bytes s.obs.tc1 ≤ 4096 → ∃ t, exec .obsPacketTimeout s = .next t ∧
      t.obs.tc1.fifo = [] ∧ Queues ⟨1, 0x42, 0, 0, 0, 0, (s.obs.tc1.fifo.map (·.2)).flatten, none, []⟩ s t ∧ OnlyRegs [] s t)
/-- Performance counters (15 R404 to R406), and the tick edge at which they and all accepted writes land (01 R15, R17, R22, R37; 15 R398):
`Lands` says it of a channel's force-side writes (02 R52, R57, R71; 03 R109, R113, R119, R120; 07 R209, R217).
That the step on an empty queue is what makes the tick edge is the model's choice (log entry 2). -/
def Obligations.PerformanceCounters : Prop :=
  ∀ (s : State) (n i : Nat) (v w : Word), Operating s → i < 256 →
    let ev := w.toNat % 256
    let q := w.toNat / 256 % 64
    let good : Prop := ((ev = 0 ∨ ev = 1 ∨ ev = 0x23 ∨ ev = 0x28 ∨ ev = 0x29) ∧ q = 0) ∨ (2 ≤ ev ∧ ev ≤ 0x0C ∧ hasChan s q = true) ∨
      (ev = 0x0D ∧ hasGroup s q = true) ∨ (0x10 ≤ ev ∧ ev ≤ 0x13 ∧ q < 12) ∨ (0x18 ≤ ev ∧ ev ≤ 0x1A ∧ hasStream s q = true) ∨
      (0x20 ≤ ev ∧ ev ≤ 0x22 ∧ q < 4) ∨ (ev = 0x30 ∧ hasLine s q = true)
    (good → ∃ t, exec (.cntSelWrite i w) s = .next t ∧ t.obs.writes = s.obs.writes ++ [(R.cntSel + 4 * i - R.obsCfg, w)] ∧ OnlyRegs [] s t) ∧
    (¬ good → ∃ t, exec (.cntSelWrite i w) s = .next t ∧ t.obs.writes = s.obs.writes ∧ gb t R.obsStat 2 = true ∧ OnlyRegs [R.obsStat] s t) ∧
    (∃ t, exec .pcCtrlClr s = .next t ∧ t.obs.clr = true ∧ t.obs.snap = s.obs.snap ∧ OnlyRegs [] s t) ∧
    (∃ t, exec .pcCtrlSnap s = .next t ∧ t.obs.snap = true ∧ t.obs.clr = s.obs.clr ∧ OnlyRegs [] s t) ∧
    (TickOver s →
      let run := gb s R.pcCtrl 0 = true
      let sel := fld (rd s (R.cntSel + 4 * i)) 0 8
      let adds : Nat → Prop := fun k => if run ∧ sel = 1 then k = 1 else (¬ run ∨ sel = 0) ∧ k = 0
      let last : Nat → State → Prop := fun a t => ∀ x ∈ s.obs.writes.getLast?, R.obsCfg + x.1 = a →
        rd t a = (rd s a &&& ~~~ rwMask a) ||| (x.2 &&& rwMask a)
      ∃ t, step s = .next t ∧ t.now = s.now + 1 ∧ t.slot = 0 ∧ t.cycle = 0 ∧
        (gb s R.tickCtrl 9 = false → ticktime t = (ticktime s + 1) % 2 ^ 64) ∧
        (∀ e ∈ s.caused, lineLive s e = true → e ∈ t.asserting) ∧
        (hasChan s n = true → (chan t n).shadow = []) ∧
        (hasChan s n = true → s.fc.reacts = [] → (chan s n).holdEnd = [] → Lands n s t) ∧
        (hasChan s n = true → s.fc.reacts = [] → ∀ x ∈ (chan s n).shadow.getLast?, x = .reg R.rampRate (rwMask (chA n R.rampRate)) v →
          rd t (chA n R.rampRate) = (rd s (chA n R.rampRate) &&& ~~~ rwMask (chA n R.rampRate)) ||| (v &&& rwMask (chA n R.rampRate))) ∧
        (i < 4 → last (R.probe + 4 * i) t) ∧ last (R.cntSel + 4 * i) t ∧ t.obs.writes = [] ∧ t.obs.clr = false ∧ t.obs.snap = false ∧
        (∀ k, k < 2 → adds k → (s.obs.snap = true → rd64 t (R.snap + 8 * i) = (rd64 s (R.cnt + 8 * i) + k) % 2 ^ 64) ∧
          (s.obs.clr = false → s.obs.writes = [] → rd64 t (R.cnt + 8 * i) = (rd64 s (R.cnt + 8 * i) + k) % 2 ^ 64)) ∧
        (s.obs.clr = true → rd64 t (R.cnt + 8 * i) = 0))

/-- A step (the host's queue; what an empty queue does is the model's choice, log entries 2 and 39). -/
def Obligations.StepRunsFrontCommand : Prop :=
  ∀ (s : State) (c : Instr) (rest : List Instr),
    step { s with pending := c :: rest } = exec c { s with pending := rest } ∧
    (s.pending = [] → s.inReset = true → s.resetting = false → step s = .next s) ∧
    (s.pending = [] → ∃ t, step s = .next t ∧ t.pending = [] ∧ t.inReset = s.inReset ∧ (s.inReset = false ∨ s.resetting = false → t.ddr = s.ddr) ∧
      (s.inReset = true → t.resetting = false))
/-- Reset values (06 R180; 13 R355 to R357; 14 R381, R390; 15 R407). -/
def Obligations.ResetState : Prop :=
  let s := State.reset
  s.pending = [] ∧ Safe s ∧ (∀ n, n < 32 → modeNow s n = 0 ∧ gf s (chA n R.dacCode) 0 20 = 0 ∧ furled s n = false) ∧
    rd s R.rstCause = 1 ∧ rd s R.devState = 0 ∧ rd s R.stResult = 0 ∧ rd s R.clkStat = 0 ∧ rd s R.devStat &&& 3 = 0 ∧
    rd s R.classCfg0 = 1 ∧ rd s (R.classCfg0 + 4) = 3 ∧ rd s (R.classCfg0 + 8) = 0xB ∧ rd s (R.classCfg0 + 12) = 0x13 ∧
    (∀ k ∈ ([0x0B, 0x25, 0x31] : List Nat), classOf s k = 0) ∧
    (∀ k ∈ ([0x01, 0x04, 0x08, 0x0C, 0x10, 0x11, 0x14, 0x18, 0x20, 0x21, 0x22, 0x23, 0x24, 0x30, 0x32, 0x38, 0x3B, 0x81, 0x8C] : List Nat), classOf s k = 1) ∧
    (∀ k ∈ ([0x09, 0x0A, 0x12, 0x13] : List Nat), classOf s k = 2) ∧ (∀ k ∈ ([0x02, 0x03, 0x39, 0x3A] : List Nat), classOf s k = 3) ∧
    rd s R.obsCfg = 0x07D00000 ∧ rd s R.pcCtrl = 1 ∧ rd s R.logSeq = 0 ∧ s.fc.bus = [] ∧ s.fc.reacts = [] ∧ s.fc.tests = []
/-- Commands that find their unit held (14 R380, R382, R388; 08 R223, R224). That commands do nothing also in the first microsecond of a
reset, and that a REF_PRESENT under reset leaves no trace though REFCLK may start before RESET_N rises (14 R378: its detector is held in reset
with its block, and the model reports the clock by a REF_PRESENT after RESET_END), are the model's choices (log entry 116); so is that a Tysel command outside a ready context does nothing (log entry 9). -/
def Obligations.NoEffectWhileHeld : Prop :=
  ∀ (s : State) (c : Instr),
    (s.inReset = true → c ≠ .resetNAssert → c ≠ .supplyTrip → c ≠ .resetEnd → c ≠ .clrNAssert → c ≠ .clrNDeassert →
      (∀ level, c ≠ .ocxoRdyChange level) → exec c s = .next s) ∧
    (s.inReset = true → exec .clrNAssert s = .next { s with clrLow := true } ∧ exec .clrNDeassert s = .next { s with clrLow := false } ∧
      ∀ level, exec (.ocxoRdyChange level) s = .next { s with ocxo := level }) ∧
    (∀ p ∈ tyselParts c, (s.inReset = true ∨ running s = false ∨ hasChan s p.1 = false ∨ seqReady s p.1 = false) → exec c s = .next s)
/-- What no command touches (14 R380 to R382; 11 R288, R304). -/
def Obligations.WhatCommandsMayTouch : Prop :=
  ∀ (s : State) (c : Instr), ∃ t, exec c s = .next t ∧ t.pending = s.pending ∧
    (c = .resetNAssert ∨ c = .supplyTrip → t.inReset = true) ∧ (c = .resetEnd → t.inReset = false) ∧
    (c ≠ .resetNAssert → c ≠ .supplyTrip → c ≠ .resetEnd → t.inReset = s.inReset) ∧
    (c ≠ .resetNAssert → c ≠ .supplyTrip → c ≠ .resetEnd → c ≠ .burstIssue → t.ddr = s.ddr)
/-- The invariant of DDR5 (11 R285, R286, R288): equal memories are equal data. -/
def Obligations.MemoryKeepsItsForm : Prop :=
  ∀ (s : State), ∃ t, step s = .next t ∧ (Safe s → Safe t)
/-- Decoding and encoding of Tysel words (09 R247, R248, R253). That rows which share an opcode are told apart by FN or IMM16 is the model's
choice (log entry 13). -/
def Obligations.InstructionWordsRoundTrip : Prop :=
  ∀ (c : Instr) (n : Nat) (w ext : Word),
    (tyselOwn c = true → ∃ p ∈ tyselParts c, ∃ e ∈ encodeTysel c, decodeTysel p.1 e.1 e.2 = c) ∧
    (tyselParts (decodeTysel n w ext) ≠ none → tyselOwn (decodeTysel n w ext) = true ∧
      encodeTysel (decodeTysel n w ext) = some (w, if w.getLsbD 16 then ext else 0))
end

