-- ==== Sys2Proof/Laws/Map.lean ====
section
/-! SUPPORT. Finite maps: what a lookup finds after a store, and that stores keep the canonical form; the same of DDR5. -/

namespace Sys2Proof.Machine

variable {α : Type}

/-! ### Lookup after a store -/

theorem Map.get_del_same (d : α) (k : Nat) (m : Map α) : Map.get d (Map.del k m) k = d := by
  induction m with
  | nil => rfl
  | cons p t ih =>
    obtain ⟨j, v⟩ := p
    by_cases h : j = k <;> simp [Map.del, h, Map.get, ih]

theorem Map.get_del_of_ne (d : α) {k i : Nat} (hne : k ≠ i) (m : Map α) : Map.get d (Map.del k m) i = Map.get d m i := by
  induction m with
  | nil => rfl
  | cons p t ih =>
    obtain ⟨j, v⟩ := p
    by_cases h : j = k
    · subst h; simp [Map.del, Map.get, hne, ih]
    · simp [Map.del, h, Map.get, ih]

theorem Map.get_ins_of_ne (d v : α) {k i : Nat} (hne : k ≠ i) (m : Map α) : Map.get d (Map.ins k v m) i = Map.get d m i := by
  induction m with
  | nil => simp [Map.ins, Map.get, hne]
  | cons p t ih =>
    obtain ⟨j, w⟩ := p
    by_cases h : k < j <;> simp [Map.ins, h, Map.get, hne, ih]

theorem Map.get_ins_del_same (d v : α) (k : Nat) (m : Map α) : Map.get d (Map.ins k v (Map.del k m)) k = v := by
  induction m with
  | nil => simp [Map.del, Map.ins, Map.get]
  | cons p t ih =>
    obtain ⟨j, w⟩ := p
    by_cases h : j = k
    · simp [Map.del, h, ih]
    · by_cases hl : k < j <;> simp [Map.del, h, Map.ins, hl, Map.get, ih]

variable [DecidableEq α]

@[simp] theorem Map.get_put_same (d : α) (m : Map α) (k : Nat) (v : α) : Map.get d (Map.put d m k v) k = v := by
  unfold Map.put
  split
  · next h => rw [Map.get_del_same, h]
  · exact Map.get_ins_del_same d v k m

/-- A store leaves every other key alone; the defaults of the two keys need not agree. -/
theorem Map.get_put_of_ne (d d' : α) (m : Map α) {k i : Nat} (v : α) (hne : k ≠ i) :
    Map.get d' (Map.put d m k v) i = Map.get d' m i := by
  unfold Map.put
  split
  · exact Map.get_del_of_ne d' hne m
  · rw [Map.get_ins_of_ne d' v hne, Map.get_del_of_ne d' hne]

theorem Map.get_put (d : α) (m : Map α) (k i : Nat) (v : α) :
    Map.get d (Map.put d m k v) i = if k = i then v else Map.get d m i := by
  by_cases h : k = i
  · subst h; simp
  · simp [h, Map.get_put_of_ne]

/-! ### The canonical form -/

omit [DecidableEq α] in
theorem Map.mem_del {k : Nat} {m : Map α} {p : Nat × α} (h : p ∈ Map.del k m) : p ∈ m ∧ p.1 ≠ k := by
  induction m with
  | nil => cases h
  | cons q t ih =>
    obtain ⟨j, w⟩ := q
    by_cases hj : j = k
    · rw [Map.del, if_pos hj] at h
      exact ⟨List.mem_cons_of_mem _ (ih h).1, (ih h).2⟩
    · rw [Map.del, if_neg hj, List.mem_cons] at h
      rcases h with rfl | h
      · exact ⟨List.mem_cons_self, hj⟩
      · exact ⟨List.mem_cons_of_mem _ (ih h).1, (ih h).2⟩

omit [DecidableEq α] in
theorem Map.mem_ins {k : Nat} {v : α} {m : Map α} {p : Nat × α} (h : p ∈ Map.ins k v m) : p = (k, v) ∨ p ∈ m := by
  induction m with
  | nil => left; simpa [Map.ins] using h
  | cons q t ih =>
    obtain ⟨j, w⟩ := q
    by_cases hj : k < j
    · simpa [Map.ins, hj] using h
    · rw [Map.ins, if_neg hj, List.mem_cons] at h
      rcases h with rfl | h
      · right; exact List.mem_cons_self
      · exact (ih h).imp_right (List.mem_cons_of_mem _)

omit [DecidableEq α] in
theorem Map.canon_del {d : Nat → α} {m : Map α} (k : Nat) (h : Map.Canon d m) : Map.Canon d (Map.del k m) := by
  refine ⟨?_, fun p hp => h.2 p (Map.mem_del hp).1⟩
  have hs := h.1
  clear h
  induction m with
  | nil => exact List.Pairwise.nil
  | cons q t ih =>
    obtain ⟨j, w⟩ := q
    rw [List.pairwise_cons] at hs
    by_cases hj : j = k
    · rw [Map.del, if_pos hj]; exact ih hs.2
    · rw [Map.del, if_neg hj, List.pairwise_cons]
      exact ⟨fun p hp => hs.1 p (Map.mem_del hp).1, ih hs.2⟩

omit [DecidableEq α] in
theorem Map.canon_ins {d : Nat → α} {m : Map α} {k : Nat} {v : α} (h : Map.Canon d m) (hk : ∀ p ∈ m, p.1 ≠ k) (hv : v ≠ d k) :
    Map.Canon d (Map.ins k v m) := by
  refine ⟨?_, fun p hp => ?_⟩
  · have hs := h.1
    clear h
    induction m with
    | nil => simp [Map.ins]
    | cons q t ih =>
      obtain ⟨j, w⟩ := q
      rw [List.pairwise_cons] at hs
      by_cases hj : k < j
      · rw [Map.ins, if_pos hj, List.pairwise_cons, List.pairwise_cons]
        refine ⟨fun p hp => ?_, hs.1, hs.2⟩
        rcases List.mem_cons.1 hp with rfl | hp
        · exact hj
        · exact Nat.lt_trans hj (hs.1 p hp)
      · have hne : j ≠ k := hk (j, w) List.mem_cons_self
        rw [Map.ins, if_neg hj, List.pairwise_cons]
        refine ⟨fun p hp => ?_, ih (fun p hp => hk p (List.mem_cons_of_mem _ hp)) hs.2⟩
        rcases Map.mem_ins hp with rfl | hp
        · show j < k
          omega
        · exact hs.1 p hp
  · rcases Map.mem_ins hp with rfl | hp
    · exact hv
    · exact h.2 p hp

/-- A store keeps the canonical form. -/
theorem Map.canon_put {d : Nat → α} {m : Map α} (k : Nat) (v : α) (h : Map.Canon d m) :
    Map.Canon d (Map.put (d k) m k v) := by
  unfold Map.put
  split
  · exact Map.canon_del k h
  · next hv => exact Map.canon_ins (Map.canon_del k h) (fun p hp => (Map.mem_del hp).2) hv

/-! ### DDR5 -/

theorem Memory.read_write_same (m : Memory) (o : Nat) (b : Byte) : Memory.read (Memory.write o b m) o = b :=
  Map.get_put_same 0 m o b

theorem Memory.read_write_of_ne (m : Memory) {o i : Nat} (b : Byte) (h : o ≠ i) :
    Memory.read (Memory.write o b m) i = Memory.read m i :=
  Map.get_put_of_ne 0 0 m b h

theorem Memory.write_wf {m : Memory} (o : Nat) (b : Byte) (h : Memory.wf m) : Memory.wf (Memory.write o b m) :=
  Map.canon_put o b h

/-- Every write of DDR5 keeps its canonical form. -/
theorem Memory.writes_wf (l : List (Nat × Byte)) {m : Memory} (h : Memory.wf m) : Memory.wf (Memory.writes l m) := by
  induction l generalizing m with
  | nil => exact h
  | cons p t ih => exact ih (Memory.write_wf p.1 p.2 h)

/-- A byte that no write names keeps its value. -/
theorem Memory.read_writes_of_not_mem (l : List (Nat × Byte)) (m : Memory) (o : Nat) (h : ∀ p ∈ l, p.1 ≠ o) :
    Memory.read (Memory.writes l m) o = Memory.read m o := by
  induction l generalizing m with
  | nil => rfl
  | cons p t ih =>
    rw [Memory.writes, ih _ (fun q hq => h q (List.mem_cons_of_mem _ hq))]
    exact Memory.read_write_of_ne m p.2 (h p List.mem_cons_self)

theorem Memory.wf_nil : Memory.wf [] := ⟨List.Pairwise.nil, fun p hp => by cases hp⟩

end Sys2Proof.Machine
end

