-- ==== Sys2Proof/Laws/State.lean ====
section
/-! SUPPORT. What the named updates of a state leave alone, field by field. -/

namespace Sys2Proof.Machine

variable (s : State)

@[simp] theorem wr_pending (a : Nat) (w : Word) : (wr a w s).pending = s.pending := (rfl)
@[simp] theorem wr_fresh (a : Nat) (w : Word) : (wr a w s).fresh = s.fresh := (rfl)
@[simp] theorem wr_variant (a : Nat) (w : Word) : (wr a w s).variant = s.variant := (rfl)
@[simp] theorem wr_inReset (a : Nat) (w : Word) : (wr a w s).inReset = s.inReset := (rfl)
@[simp] theorem wr_resetting (a : Nat) (w : Word) : (wr a w s).resetting = s.resetting := (rfl)
@[simp] theorem wr_rstPin (a : Nat) (w : Word) : (wr a w s).rstPin = s.rstPin := (rfl)
@[simp] theorem wr_ocxo (a : Nat) (w : Word) : (wr a w s).ocxo = s.ocxo := (rfl)
@[simp] theorem wr_supplyBad (a : Nat) (w : Word) : (wr a w s).supplyBad = s.supplyBad := (rfl)
@[simp] theorem wr_now (a : Nat) (w : Word) : (wr a w s).now = s.now := (rfl)
@[simp] theorem wr_cycle (a : Nat) (w : Word) : (wr a w s).cycle = s.cycle := (rfl)
@[simp] theorem wr_slot (a : Nat) (w : Word) : (wr a w s).slot = s.slot := (rfl)
@[simp] theorem wr_ddr (a : Nat) (w : Word) : (wr a w s).ddr = s.ddr := (rfl)
@[simp] theorem wr_badBursts (a : Nat) (w : Word) : (wr a w s).badBursts = s.badBursts := (rfl)
@[simp] theorem wr_otpBusy (a : Nat) (w : Word) : (wr a w s).otpBusy = s.otpBusy := (rfl)
@[simp] theorem wr_trims (a : Nat) (w : Word) : (wr a w s).trims = s.trims := (rfl)
@[simp] theorem wr_caused (a : Nat) (w : Word) : (wr a w s).caused = s.caused := (rfl)
@[simp] theorem wr_causedAt (a : Nat) (w : Word) : (wr a w s).causedAt = s.causedAt := (rfl)
@[simp] theorem wr_asserting (a : Nat) (w : Word) : (wr a w s).asserting = s.asserting := (rfl)
@[simp] theorem wr_evDone (a : Nat) (w : Word) : (wr a w s).evDone = s.evDone := (rfl)
@[simp] theorem wr_trig (a : Nat) (w : Word) : (wr a w s).trig = s.trig := (rfl)
@[simp] theorem wr_marker (a : Nat) (w : Word) : (wr a w s).marker = s.marker := (rfl)
@[simp] theorem wr_tickLoad (a : Nat) (w : Word) : (wr a w s).tickLoad = s.tickLoad := (rfl)
@[simp] theorem wr_flw (a : Nat) (w : Word) : (wr a w s).flw = s.flw := (rfl)
@[simp] theorem wr_barArr (a : Nat) (w : Word) : (wr a w s).barArr = s.barArr := (rfl)
@[simp] theorem wr_barGone (a : Nat) (w : Word) : (wr a w s).barGone = s.barGone := (rfl)
@[simp] theorem wr_clrLow (a : Nat) (w : Word) : (wr a w s).clrLow = s.clrLow := (rfl)
@[simp] theorem wr_clrDue (a : Nat) (w : Word) : (wr a w s).clrDue = s.clrDue := (rfl)
@[simp] theorem wr_clrRec (a : Nat) (w : Word) : (wr a w s).clrRec = s.clrRec := (rfl)
@[simp] theorem wr_clrFree (a : Nat) (w : Word) : (wr a w s).clrFree = s.clrFree := (rfl)
@[simp] theorem wr_rcbStop (a : Nat) (w : Word) : (wr a w s).rcbStop = s.rcbStop := (rfl)
@[simp] theorem wr_chans (a : Nat) (w : Word) : (wr a w s).chans = s.chans := (rfl)
@[simp] theorem wr_rcbs (a : Nat) (w : Word) : (wr a w s).rcbs = s.rcbs := (rfl)
@[simp] theorem wr_lcs (a : Nat) (w : Word) : (wr a w s).lcs = s.lcs := (rfl)
@[simp] theorem wr_mons (a : Nat) (w : Word) : (wr a w s).mons = s.mons := (rfl)
@[simp] theorem wr_seqs (a : Nat) (w : Word) : (wr a w s).seqs = s.seqs := (rfl)
@[simp] theorem wr_edgeImg (a : Nat) (w : Word) : (wr a w s).edgeImg = s.edgeImg := (rfl)
@[simp] theorem wr_icache (a : Nat) (w : Word) : (wr a w s).icache = s.icache := (rfl)
@[simp] theorem wr_refetch (a : Nat) (w : Word) : (wr a w s).refetch = s.refetch := (rfl)
@[simp] theorem wr_res (a : Nat) (w : Word) : (wr a w s).res = s.res := (rfl)
@[simp] theorem wr_streams (a : Nat) (w : Word) : (wr a w s).streams = s.streams := (rfl)
@[simp] theorem wr_arb (a : Nat) (w : Word) : (wr a w s).arb = s.arb := (rfl)
@[simp] theorem wr_hostJobs (a : Nat) (w : Word) : (wr a w s).hostJobs = s.hostJobs := (rfl)
@[simp] theorem wr_training (a : Nat) (w : Word) : (wr a w s).training = s.training := (rfl)
@[simp] theorem wr_scrubAt (a : Nat) (w : Word) : (wr a w s).scrubAt = s.scrubAt := (rfl)
@[simp] theorem wr_link (a : Nat) (w : Word) : (wr a w s).link = s.link := (rfl)
@[simp] theorem wr_fc (a : Nat) (w : Word) : (wr a w s).fc = s.fc := (rfl)
@[simp] theorem wr_ets (a : Nat) (w : Word) : (wr a w s).ets = s.ets := (rfl)
@[simp] theorem wr_tb (a : Nat) (w : Word) : (wr a w s).tb = s.tb := (rfl)
@[simp] theorem wr_obs (a : Nat) (w : Word) : (wr a w s).obs = s.obs := (rfl)
@[simp] theorem wr_capts (a : Nat) (w : Word) : (wr a w s).capts = s.capts := (rfl)
@[simp] theorem wr_latches (a : Nat) (w : Word) : (wr a w s).latches = s.latches := (rfl)
@[simp] theorem wr_spiOut (a : Nat) (w : Word) : (wr a w s).spiOut = s.spiOut := (rfl)
@[simp] theorem wr_tap (a : Nat) (w : Word) : (wr a w s).tap = s.tap := (rfl)

@[simp] theorem sf_pending (a lo len v : Nat) : (sf a lo len v s).pending = s.pending := (rfl)
@[simp] theorem sf_fresh (a lo len v : Nat) : (sf a lo len v s).fresh = s.fresh := (rfl)
@[simp] theorem sf_variant (a lo len v : Nat) : (sf a lo len v s).variant = s.variant := (rfl)
@[simp] theorem sf_inReset (a lo len v : Nat) : (sf a lo len v s).inReset = s.inReset := (rfl)
@[simp] theorem sf_resetting (a lo len v : Nat) : (sf a lo len v s).resetting = s.resetting := (rfl)
@[simp] theorem sf_rstPin (a lo len v : Nat) : (sf a lo len v s).rstPin = s.rstPin := (rfl)
@[simp] theorem sf_ocxo (a lo len v : Nat) : (sf a lo len v s).ocxo = s.ocxo := (rfl)
@[simp] theorem sf_supplyBad (a lo len v : Nat) : (sf a lo len v s).supplyBad = s.supplyBad := (rfl)
@[simp] theorem sf_now (a lo len v : Nat) : (sf a lo len v s).now = s.now := (rfl)
@[simp] theorem sf_cycle (a lo len v : Nat) : (sf a lo len v s).cycle = s.cycle := (rfl)
@[simp] theorem sf_slot (a lo len v : Nat) : (sf a lo len v s).slot = s.slot := (rfl)
@[simp] theorem sf_ddr (a lo len v : Nat) : (sf a lo len v s).ddr = s.ddr := (rfl)
@[simp] theorem sf_badBursts (a lo len v : Nat) : (sf a lo len v s).badBursts = s.badBursts := (rfl)
@[simp] theorem sf_otpBusy (a lo len v : Nat) : (sf a lo len v s).otpBusy = s.otpBusy := (rfl)
@[simp] theorem sf_trims (a lo len v : Nat) : (sf a lo len v s).trims = s.trims := (rfl)
@[simp] theorem sf_caused (a lo len v : Nat) : (sf a lo len v s).caused = s.caused := (rfl)
@[simp] theorem sf_causedAt (a lo len v : Nat) : (sf a lo len v s).causedAt = s.causedAt := (rfl)
@[simp] theorem sf_asserting (a lo len v : Nat) : (sf a lo len v s).asserting = s.asserting := (rfl)
@[simp] theorem sf_evDone (a lo len v : Nat) : (sf a lo len v s).evDone = s.evDone := (rfl)
@[simp] theorem sf_trig (a lo len v : Nat) : (sf a lo len v s).trig = s.trig := (rfl)
@[simp] theorem sf_marker (a lo len v : Nat) : (sf a lo len v s).marker = s.marker := (rfl)
@[simp] theorem sf_tickLoad (a lo len v : Nat) : (sf a lo len v s).tickLoad = s.tickLoad := (rfl)
@[simp] theorem sf_flw (a lo len v : Nat) : (sf a lo len v s).flw = s.flw := (rfl)
@[simp] theorem sf_barArr (a lo len v : Nat) : (sf a lo len v s).barArr = s.barArr := (rfl)
@[simp] theorem sf_barGone (a lo len v : Nat) : (sf a lo len v s).barGone = s.barGone := (rfl)
@[simp] theorem sf_clrLow (a lo len v : Nat) : (sf a lo len v s).clrLow = s.clrLow := (rfl)
@[simp] theorem sf_clrDue (a lo len v : Nat) : (sf a lo len v s).clrDue = s.clrDue := (rfl)
@[simp] theorem sf_clrRec (a lo len v : Nat) : (sf a lo len v s).clrRec = s.clrRec := (rfl)
@[simp] theorem sf_clrFree (a lo len v : Nat) : (sf a lo len v s).clrFree = s.clrFree := (rfl)
@[simp] theorem sf_rcbStop (a lo len v : Nat) : (sf a lo len v s).rcbStop = s.rcbStop := (rfl)
@[simp] theorem sf_chans (a lo len v : Nat) : (sf a lo len v s).chans = s.chans := (rfl)
@[simp] theorem sf_rcbs (a lo len v : Nat) : (sf a lo len v s).rcbs = s.rcbs := (rfl)
@[simp] theorem sf_lcs (a lo len v : Nat) : (sf a lo len v s).lcs = s.lcs := (rfl)
@[simp] theorem sf_mons (a lo len v : Nat) : (sf a lo len v s).mons = s.mons := (rfl)
@[simp] theorem sf_seqs (a lo len v : Nat) : (sf a lo len v s).seqs = s.seqs := (rfl)
@[simp] theorem sf_edgeImg (a lo len v : Nat) : (sf a lo len v s).edgeImg = s.edgeImg := (rfl)
@[simp] theorem sf_icache (a lo len v : Nat) : (sf a lo len v s).icache = s.icache := (rfl)
@[simp] theorem sf_refetch (a lo len v : Nat) : (sf a lo len v s).refetch = s.refetch := (rfl)
@[simp] theorem sf_res (a lo len v : Nat) : (sf a lo len v s).res = s.res := (rfl)
@[simp] theorem sf_streams (a lo len v : Nat) : (sf a lo len v s).streams = s.streams := (rfl)
@[simp] theorem sf_arb (a lo len v : Nat) : (sf a lo len v s).arb = s.arb := (rfl)
@[simp] theorem sf_hostJobs (a lo len v : Nat) : (sf a lo len v s).hostJobs = s.hostJobs := (rfl)
@[simp] theorem sf_training (a lo len v : Nat) : (sf a lo len v s).training = s.training := (rfl)
@[simp] theorem sf_scrubAt (a lo len v : Nat) : (sf a lo len v s).scrubAt = s.scrubAt := (rfl)
@[simp] theorem sf_link (a lo len v : Nat) : (sf a lo len v s).link = s.link := (rfl)
@[simp] theorem sf_fc (a lo len v : Nat) : (sf a lo len v s).fc = s.fc := (rfl)
@[simp] theorem sf_ets (a lo len v : Nat) : (sf a lo len v s).ets = s.ets := (rfl)
@[simp] theorem sf_tb (a lo len v : Nat) : (sf a lo len v s).tb = s.tb := (rfl)
@[simp] theorem sf_obs (a lo len v : Nat) : (sf a lo len v s).obs = s.obs := (rfl)
@[simp] theorem sf_capts (a lo len v : Nat) : (sf a lo len v s).capts = s.capts := (rfl)
@[simp] theorem sf_latches (a lo len v : Nat) : (sf a lo len v s).latches = s.latches := (rfl)
@[simp] theorem sf_spiOut (a lo len v : Nat) : (sf a lo len v s).spiOut = s.spiOut := (rfl)
@[simp] theorem sf_tap (a lo len v : Nat) : (sf a lo len v s).tap = s.tap := (rfl)

@[simp] theorem sb_pending (a i : Nat) (b : Bool) : (sb a i b s).pending = s.pending := (rfl)
@[simp] theorem sb_fresh (a i : Nat) (b : Bool) : (sb a i b s).fresh = s.fresh := (rfl)
@[simp] theorem sb_variant (a i : Nat) (b : Bool) : (sb a i b s).variant = s.variant := (rfl)
@[simp] theorem sb_inReset (a i : Nat) (b : Bool) : (sb a i b s).inReset = s.inReset := (rfl)
@[simp] theorem sb_resetting (a i : Nat) (b : Bool) : (sb a i b s).resetting = s.resetting := (rfl)
@[simp] theorem sb_rstPin (a i : Nat) (b : Bool) : (sb a i b s).rstPin = s.rstPin := (rfl)
@[simp] theorem sb_ocxo (a i : Nat) (b : Bool) : (sb a i b s).ocxo = s.ocxo := (rfl)
@[simp] theorem sb_supplyBad (a i : Nat) (b : Bool) : (sb a i b s).supplyBad = s.supplyBad := (rfl)
@[simp] theorem sb_now (a i : Nat) (b : Bool) : (sb a i b s).now = s.now := (rfl)
@[simp] theorem sb_cycle (a i : Nat) (b : Bool) : (sb a i b s).cycle = s.cycle := (rfl)
@[simp] theorem sb_slot (a i : Nat) (b : Bool) : (sb a i b s).slot = s.slot := (rfl)
@[simp] theorem sb_ddr (a i : Nat) (b : Bool) : (sb a i b s).ddr = s.ddr := (rfl)
@[simp] theorem sb_badBursts (a i : Nat) (b : Bool) : (sb a i b s).badBursts = s.badBursts := (rfl)
@[simp] theorem sb_otpBusy (a i : Nat) (b : Bool) : (sb a i b s).otpBusy = s.otpBusy := (rfl)
@[simp] theorem sb_trims (a i : Nat) (b : Bool) : (sb a i b s).trims = s.trims := (rfl)
@[simp] theorem sb_caused (a i : Nat) (b : Bool) : (sb a i b s).caused = s.caused := (rfl)
@[simp] theorem sb_causedAt (a i : Nat) (b : Bool) : (sb a i b s).causedAt = s.causedAt := (rfl)
@[simp] theorem sb_asserting (a i : Nat) (b : Bool) : (sb a i b s).asserting = s.asserting := (rfl)
@[simp] theorem sb_evDone (a i : Nat) (b : Bool) : (sb a i b s).evDone = s.evDone := (rfl)
@[simp] theorem sb_trig (a i : Nat) (b : Bool) : (sb a i b s).trig = s.trig := (rfl)
@[simp] theorem sb_marker (a i : Nat) (b : Bool) : (sb a i b s).marker = s.marker := (rfl)
@[simp] theorem sb_tickLoad (a i : Nat) (b : Bool) : (sb a i b s).tickLoad = s.tickLoad := (rfl)
@[simp] theorem sb_flw (a i : Nat) (b : Bool) : (sb a i b s).flw = s.flw := (rfl)
@[simp] theorem sb_barArr (a i : Nat) (b : Bool) : (sb a i b s).barArr = s.barArr := (rfl)
@[simp] theorem sb_barGone (a i : Nat) (b : Bool) : (sb a i b s).barGone = s.barGone := (rfl)
@[simp] theorem sb_clrLow (a i : Nat) (b : Bool) : (sb a i b s).clrLow = s.clrLow := (rfl)
@[simp] theorem sb_clrDue (a i : Nat) (b : Bool) : (sb a i b s).clrDue = s.clrDue := (rfl)
@[simp] theorem sb_clrRec (a i : Nat) (b : Bool) : (sb a i b s).clrRec = s.clrRec := (rfl)
@[simp] theorem sb_clrFree (a i : Nat) (b : Bool) : (sb a i b s).clrFree = s.clrFree := (rfl)
@[simp] theorem sb_rcbStop (a i : Nat) (b : Bool) : (sb a i b s).rcbStop = s.rcbStop := (rfl)
@[simp] theorem sb_chans (a i : Nat) (b : Bool) : (sb a i b s).chans = s.chans := (rfl)
@[simp] theorem sb_rcbs (a i : Nat) (b : Bool) : (sb a i b s).rcbs = s.rcbs := (rfl)
@[simp] theorem sb_lcs (a i : Nat) (b : Bool) : (sb a i b s).lcs = s.lcs := (rfl)
@[simp] theorem sb_mons (a i : Nat) (b : Bool) : (sb a i b s).mons = s.mons := (rfl)
@[simp] theorem sb_seqs (a i : Nat) (b : Bool) : (sb a i b s).seqs = s.seqs := (rfl)
@[simp] theorem sb_edgeImg (a i : Nat) (b : Bool) : (sb a i b s).edgeImg = s.edgeImg := (rfl)
@[simp] theorem sb_icache (a i : Nat) (b : Bool) : (sb a i b s).icache = s.icache := (rfl)
@[simp] theorem sb_refetch (a i : Nat) (b : Bool) : (sb a i b s).refetch = s.refetch := (rfl)
@[simp] theorem sb_res (a i : Nat) (b : Bool) : (sb a i b s).res = s.res := (rfl)
@[simp] theorem sb_streams (a i : Nat) (b : Bool) : (sb a i b s).streams = s.streams := (rfl)
@[simp] theorem sb_arb (a i : Nat) (b : Bool) : (sb a i b s).arb = s.arb := (rfl)
@[simp] theorem sb_hostJobs (a i : Nat) (b : Bool) : (sb a i b s).hostJobs = s.hostJobs := (rfl)
@[simp] theorem sb_training (a i : Nat) (b : Bool) : (sb a i b s).training = s.training := (rfl)
@[simp] theorem sb_scrubAt (a i : Nat) (b : Bool) : (sb a i b s).scrubAt = s.scrubAt := (rfl)
@[simp] theorem sb_link (a i : Nat) (b : Bool) : (sb a i b s).link = s.link := (rfl)
@[simp] theorem sb_fc (a i : Nat) (b : Bool) : (sb a i b s).fc = s.fc := (rfl)
@[simp] theorem sb_ets (a i : Nat) (b : Bool) : (sb a i b s).ets = s.ets := (rfl)
@[simp] theorem sb_tb (a i : Nat) (b : Bool) : (sb a i b s).tb = s.tb := (rfl)
@[simp] theorem sb_obs (a i : Nat) (b : Bool) : (sb a i b s).obs = s.obs := (rfl)
@[simp] theorem sb_capts (a i : Nat) (b : Bool) : (sb a i b s).capts = s.capts := (rfl)
@[simp] theorem sb_latches (a i : Nat) (b : Bool) : (sb a i b s).latches = s.latches := (rfl)
@[simp] theorem sb_spiOut (a i : Nat) (b : Bool) : (sb a i b s).spiOut = s.spiOut := (rfl)
@[simp] theorem sb_tap (a i : Nat) (b : Bool) : (sb a i b s).tap = s.tap := (rfl)

@[simp] theorem flag_pending (a i : Nat) : (flag a i s).pending = s.pending := (rfl)
@[simp] theorem flag_fresh (a i : Nat) : (flag a i s).fresh = s.fresh := (rfl)
@[simp] theorem flag_variant (a i : Nat) : (flag a i s).variant = s.variant := (rfl)
@[simp] theorem flag_inReset (a i : Nat) : (flag a i s).inReset = s.inReset := (rfl)
@[simp] theorem flag_resetting (a i : Nat) : (flag a i s).resetting = s.resetting := (rfl)
@[simp] theorem flag_rstPin (a i : Nat) : (flag a i s).rstPin = s.rstPin := (rfl)
@[simp] theorem flag_ocxo (a i : Nat) : (flag a i s).ocxo = s.ocxo := (rfl)
@[simp] theorem flag_supplyBad (a i : Nat) : (flag a i s).supplyBad = s.supplyBad := (rfl)
@[simp] theorem flag_now (a i : Nat) : (flag a i s).now = s.now := (rfl)
@[simp] theorem flag_cycle (a i : Nat) : (flag a i s).cycle = s.cycle := (rfl)
@[simp] theorem flag_slot (a i : Nat) : (flag a i s).slot = s.slot := (rfl)
@[simp] theorem flag_ddr (a i : Nat) : (flag a i s).ddr = s.ddr := (rfl)
@[simp] theorem flag_badBursts (a i : Nat) : (flag a i s).badBursts = s.badBursts := (rfl)
@[simp] theorem flag_otpBusy (a i : Nat) : (flag a i s).otpBusy = s.otpBusy := (rfl)
@[simp] theorem flag_trims (a i : Nat) : (flag a i s).trims = s.trims := (rfl)
@[simp] theorem flag_caused (a i : Nat) : (flag a i s).caused = s.caused := (rfl)
@[simp] theorem flag_causedAt (a i : Nat) : (flag a i s).causedAt = s.causedAt := (rfl)
@[simp] theorem flag_asserting (a i : Nat) : (flag a i s).asserting = s.asserting := (rfl)
@[simp] theorem flag_evDone (a i : Nat) : (flag a i s).evDone = s.evDone := (rfl)
@[simp] theorem flag_trig (a i : Nat) : (flag a i s).trig = s.trig := (rfl)
@[simp] theorem flag_marker (a i : Nat) : (flag a i s).marker = s.marker := (rfl)
@[simp] theorem flag_tickLoad (a i : Nat) : (flag a i s).tickLoad = s.tickLoad := (rfl)
@[simp] theorem flag_flw (a i : Nat) : (flag a i s).flw = s.flw := (rfl)
@[simp] theorem flag_barArr (a i : Nat) : (flag a i s).barArr = s.barArr := (rfl)
@[simp] theorem flag_barGone (a i : Nat) : (flag a i s).barGone = s.barGone := (rfl)
@[simp] theorem flag_clrLow (a i : Nat) : (flag a i s).clrLow = s.clrLow := (rfl)
@[simp] theorem flag_clrDue (a i : Nat) : (flag a i s).clrDue = s.clrDue := (rfl)
@[simp] theorem flag_clrRec (a i : Nat) : (flag a i s).clrRec = s.clrRec := (rfl)
@[simp] theorem flag_clrFree (a i : Nat) : (flag a i s).clrFree = s.clrFree := (rfl)
@[simp] theorem flag_rcbStop (a i : Nat) : (flag a i s).rcbStop = s.rcbStop := (rfl)
@[simp] theorem flag_chans (a i : Nat) : (flag a i s).chans = s.chans := (rfl)
@[simp] theorem flag_rcbs (a i : Nat) : (flag a i s).rcbs = s.rcbs := (rfl)
@[simp] theorem flag_lcs (a i : Nat) : (flag a i s).lcs = s.lcs := (rfl)
@[simp] theorem flag_mons (a i : Nat) : (flag a i s).mons = s.mons := (rfl)
@[simp] theorem flag_seqs (a i : Nat) : (flag a i s).seqs = s.seqs := (rfl)
@[simp] theorem flag_edgeImg (a i : Nat) : (flag a i s).edgeImg = s.edgeImg := (rfl)
@[simp] theorem flag_icache (a i : Nat) : (flag a i s).icache = s.icache := (rfl)
@[simp] theorem flag_refetch (a i : Nat) : (flag a i s).refetch = s.refetch := (rfl)
@[simp] theorem flag_res (a i : Nat) : (flag a i s).res = s.res := (rfl)
@[simp] theorem flag_streams (a i : Nat) : (flag a i s).streams = s.streams := (rfl)
@[simp] theorem flag_arb (a i : Nat) : (flag a i s).arb = s.arb := (rfl)
@[simp] theorem flag_hostJobs (a i : Nat) : (flag a i s).hostJobs = s.hostJobs := (rfl)
@[simp] theorem flag_training (a i : Nat) : (flag a i s).training = s.training := (rfl)
@[simp] theorem flag_scrubAt (a i : Nat) : (flag a i s).scrubAt = s.scrubAt := (rfl)
@[simp] theorem flag_link (a i : Nat) : (flag a i s).link = s.link := (rfl)
@[simp] theorem flag_fc (a i : Nat) : (flag a i s).fc = s.fc := (rfl)
@[simp] theorem flag_ets (a i : Nat) : (flag a i s).ets = s.ets := (rfl)
@[simp] theorem flag_tb (a i : Nat) : (flag a i s).tb = s.tb := (rfl)
@[simp] theorem flag_obs (a i : Nat) : (flag a i s).obs = s.obs := (rfl)
@[simp] theorem flag_capts (a i : Nat) : (flag a i s).capts = s.capts := (rfl)
@[simp] theorem flag_latches (a i : Nat) : (flag a i s).latches = s.latches := (rfl)
@[simp] theorem flag_spiOut (a i : Nat) : (flag a i s).spiOut = s.spiOut := (rfl)
@[simp] theorem flag_tap (a i : Nat) : (flag a i s).tap = s.tap := (rfl)

@[simp] theorem bumpBy_pending (a lo len k : Nat) : (bumpBy a lo len k s).pending = s.pending := (rfl)
@[simp] theorem bumpBy_fresh (a lo len k : Nat) : (bumpBy a lo len k s).fresh = s.fresh := (rfl)
@[simp] theorem bumpBy_variant (a lo len k : Nat) : (bumpBy a lo len k s).variant = s.variant := (rfl)
@[simp] theorem bumpBy_inReset (a lo len k : Nat) : (bumpBy a lo len k s).inReset = s.inReset := (rfl)
@[simp] theorem bumpBy_resetting (a lo len k : Nat) : (bumpBy a lo len k s).resetting = s.resetting := (rfl)
@[simp] theorem bumpBy_rstPin (a lo len k : Nat) : (bumpBy a lo len k s).rstPin = s.rstPin := (rfl)
@[simp] theorem bumpBy_ocxo (a lo len k : Nat) : (bumpBy a lo len k s).ocxo = s.ocxo := (rfl)
@[simp] theorem bumpBy_supplyBad (a lo len k : Nat) : (bumpBy a lo len k s).supplyBad = s.supplyBad := (rfl)
@[simp] theorem bumpBy_now (a lo len k : Nat) : (bumpBy a lo len k s).now = s.now := (rfl)
@[simp] theorem bumpBy_cycle (a lo len k : Nat) : (bumpBy a lo len k s).cycle = s.cycle := (rfl)
@[simp] theorem bumpBy_slot (a lo len k : Nat) : (bumpBy a lo len k s).slot = s.slot := (rfl)
@[simp] theorem bumpBy_ddr (a lo len k : Nat) : (bumpBy a lo len k s).ddr = s.ddr := (rfl)
@[simp] theorem bumpBy_badBursts (a lo len k : Nat) : (bumpBy a lo len k s).badBursts = s.badBursts := (rfl)
@[simp] theorem bumpBy_otpBusy (a lo len k : Nat) : (bumpBy a lo len k s).otpBusy = s.otpBusy := (rfl)
@[simp] theorem bumpBy_trims (a lo len k : Nat) : (bumpBy a lo len k s).trims = s.trims := (rfl)
@[simp] theorem bumpBy_caused (a lo len k : Nat) : (bumpBy a lo len k s).caused = s.caused := (rfl)
@[simp] theorem bumpBy_causedAt (a lo len k : Nat) : (bumpBy a lo len k s).causedAt = s.causedAt := (rfl)
@[simp] theorem bumpBy_asserting (a lo len k : Nat) : (bumpBy a lo len k s).asserting = s.asserting := (rfl)
@[simp] theorem bumpBy_evDone (a lo len k : Nat) : (bumpBy a lo len k s).evDone = s.evDone := (rfl)
@[simp] theorem bumpBy_trig (a lo len k : Nat) : (bumpBy a lo len k s).trig = s.trig := (rfl)
@[simp] theorem bumpBy_marker (a lo len k : Nat) : (bumpBy a lo len k s).marker = s.marker := (rfl)
@[simp] theorem bumpBy_tickLoad (a lo len k : Nat) : (bumpBy a lo len k s).tickLoad = s.tickLoad := (rfl)
@[simp] theorem bumpBy_flw (a lo len k : Nat) : (bumpBy a lo len k s).flw = s.flw := (rfl)
@[simp] theorem bumpBy_barArr (a lo len k : Nat) : (bumpBy a lo len k s).barArr = s.barArr := (rfl)
@[simp] theorem bumpBy_barGone (a lo len k : Nat) : (bumpBy a lo len k s).barGone = s.barGone := (rfl)
@[simp] theorem bumpBy_clrLow (a lo len k : Nat) : (bumpBy a lo len k s).clrLow = s.clrLow := (rfl)
@[simp] theorem bumpBy_clrDue (a lo len k : Nat) : (bumpBy a lo len k s).clrDue = s.clrDue := (rfl)
@[simp] theorem bumpBy_clrRec (a lo len k : Nat) : (bumpBy a lo len k s).clrRec = s.clrRec := (rfl)
@[simp] theorem bumpBy_clrFree (a lo len k : Nat) : (bumpBy a lo len k s).clrFree = s.clrFree := (rfl)
@[simp] theorem bumpBy_rcbStop (a lo len k : Nat) : (bumpBy a lo len k s).rcbStop = s.rcbStop := (rfl)
@[simp] theorem bumpBy_chans (a lo len k : Nat) : (bumpBy a lo len k s).chans = s.chans := (rfl)
@[simp] theorem bumpBy_rcbs (a lo len k : Nat) : (bumpBy a lo len k s).rcbs = s.rcbs := (rfl)
@[simp] theorem bumpBy_lcs (a lo len k : Nat) : (bumpBy a lo len k s).lcs = s.lcs := (rfl)
@[simp] theorem bumpBy_mons (a lo len k : Nat) : (bumpBy a lo len k s).mons = s.mons := (rfl)
@[simp] theorem bumpBy_seqs (a lo len k : Nat) : (bumpBy a lo len k s).seqs = s.seqs := (rfl)
@[simp] theorem bumpBy_edgeImg (a lo len k : Nat) : (bumpBy a lo len k s).edgeImg = s.edgeImg := (rfl)
@[simp] theorem bumpBy_icache (a lo len k : Nat) : (bumpBy a lo len k s).icache = s.icache := (rfl)
@[simp] theorem bumpBy_refetch (a lo len k : Nat) : (bumpBy a lo len k s).refetch = s.refetch := (rfl)
@[simp] theorem bumpBy_res (a lo len k : Nat) : (bumpBy a lo len k s).res = s.res := (rfl)
@[simp] theorem bumpBy_streams (a lo len k : Nat) : (bumpBy a lo len k s).streams = s.streams := (rfl)
@[simp] theorem bumpBy_arb (a lo len k : Nat) : (bumpBy a lo len k s).arb = s.arb := (rfl)
@[simp] theorem bumpBy_hostJobs (a lo len k : Nat) : (bumpBy a lo len k s).hostJobs = s.hostJobs := (rfl)
@[simp] theorem bumpBy_training (a lo len k : Nat) : (bumpBy a lo len k s).training = s.training := (rfl)
@[simp] theorem bumpBy_scrubAt (a lo len k : Nat) : (bumpBy a lo len k s).scrubAt = s.scrubAt := (rfl)
@[simp] theorem bumpBy_link (a lo len k : Nat) : (bumpBy a lo len k s).link = s.link := (rfl)
@[simp] theorem bumpBy_fc (a lo len k : Nat) : (bumpBy a lo len k s).fc = s.fc := (rfl)
@[simp] theorem bumpBy_ets (a lo len k : Nat) : (bumpBy a lo len k s).ets = s.ets := (rfl)
@[simp] theorem bumpBy_tb (a lo len k : Nat) : (bumpBy a lo len k s).tb = s.tb := (rfl)
@[simp] theorem bumpBy_obs (a lo len k : Nat) : (bumpBy a lo len k s).obs = s.obs := (rfl)
@[simp] theorem bumpBy_capts (a lo len k : Nat) : (bumpBy a lo len k s).capts = s.capts := (rfl)
@[simp] theorem bumpBy_latches (a lo len k : Nat) : (bumpBy a lo len k s).latches = s.latches := (rfl)
@[simp] theorem bumpBy_spiOut (a lo len k : Nat) : (bumpBy a lo len k s).spiOut = s.spiOut := (rfl)
@[simp] theorem bumpBy_tap (a lo len k : Nat) : (bumpBy a lo len k s).tap = s.tap := (rfl)

@[simp] theorem bump_pending (a lo len : Nat) : (bump a lo len s).pending = s.pending := (rfl)
@[simp] theorem bump_fresh (a lo len : Nat) : (bump a lo len s).fresh = s.fresh := (rfl)
@[simp] theorem bump_variant (a lo len : Nat) : (bump a lo len s).variant = s.variant := (rfl)
@[simp] theorem bump_inReset (a lo len : Nat) : (bump a lo len s).inReset = s.inReset := (rfl)
@[simp] theorem bump_resetting (a lo len : Nat) : (bump a lo len s).resetting = s.resetting := (rfl)
@[simp] theorem bump_rstPin (a lo len : Nat) : (bump a lo len s).rstPin = s.rstPin := (rfl)
@[simp] theorem bump_ocxo (a lo len : Nat) : (bump a lo len s).ocxo = s.ocxo := (rfl)
@[simp] theorem bump_supplyBad (a lo len : Nat) : (bump a lo len s).supplyBad = s.supplyBad := (rfl)
@[simp] theorem bump_now (a lo len : Nat) : (bump a lo len s).now = s.now := (rfl)
@[simp] theorem bump_cycle (a lo len : Nat) : (bump a lo len s).cycle = s.cycle := (rfl)
@[simp] theorem bump_slot (a lo len : Nat) : (bump a lo len s).slot = s.slot := (rfl)
@[simp] theorem bump_ddr (a lo len : Nat) : (bump a lo len s).ddr = s.ddr := (rfl)
@[simp] theorem bump_badBursts (a lo len : Nat) : (bump a lo len s).badBursts = s.badBursts := (rfl)
@[simp] theorem bump_otpBusy (a lo len : Nat) : (bump a lo len s).otpBusy = s.otpBusy := (rfl)
@[simp] theorem bump_trims (a lo len : Nat) : (bump a lo len s).trims = s.trims := (rfl)
@[simp] theorem bump_caused (a lo len : Nat) : (bump a lo len s).caused = s.caused := (rfl)
@[simp] theorem bump_causedAt (a lo len : Nat) : (bump a lo len s).causedAt = s.causedAt := (rfl)
@[simp] theorem bump_asserting (a lo len : Nat) : (bump a lo len s).asserting = s.asserting := (rfl)
@[simp] theorem bump_evDone (a lo len : Nat) : (bump a lo len s).evDone = s.evDone := (rfl)
@[simp] theorem bump_trig (a lo len : Nat) : (bump a lo len s).trig = s.trig := (rfl)
@[simp] theorem bump_marker (a lo len : Nat) : (bump a lo len s).marker = s.marker := (rfl)
@[simp] theorem bump_tickLoad (a lo len : Nat) : (bump a lo len s).tickLoad = s.tickLoad := (rfl)
@[simp] theorem bump_flw (a lo len : Nat) : (bump a lo len s).flw = s.flw := (rfl)
@[simp] theorem bump_barArr (a lo len : Nat) : (bump a lo len s).barArr = s.barArr := (rfl)
@[simp] theorem bump_barGone (a lo len : Nat) : (bump a lo len s).barGone = s.barGone := (rfl)
@[simp] theorem bump_clrLow (a lo len : Nat) : (bump a lo len s).clrLow = s.clrLow := (rfl)
@[simp] theorem bump_clrDue (a lo len : Nat) : (bump a lo len s).clrDue = s.clrDue := (rfl)
@[simp] theorem bump_clrRec (a lo len : Nat) : (bump a lo len s).clrRec = s.clrRec := (rfl)
@[simp] theorem bump_clrFree (a lo len : Nat) : (bump a lo len s).clrFree = s.clrFree := (rfl)
@[simp] theorem bump_rcbStop (a lo len : Nat) : (bump a lo len s).rcbStop = s.rcbStop := (rfl)
@[simp] theorem bump_chans (a lo len : Nat) : (bump a lo len s).chans = s.chans := (rfl)
@[simp] theorem bump_rcbs (a lo len : Nat) : (bump a lo len s).rcbs = s.rcbs := (rfl)
@[simp] theorem bump_lcs (a lo len : Nat) : (bump a lo len s).lcs = s.lcs := (rfl)
@[simp] theorem bump_mons (a lo len : Nat) : (bump a lo len s).mons = s.mons := (rfl)
@[simp] theorem bump_seqs (a lo len : Nat) : (bump a lo len s).seqs = s.seqs := (rfl)
@[simp] theorem bump_edgeImg (a lo len : Nat) : (bump a lo len s).edgeImg = s.edgeImg := (rfl)
@[simp] theorem bump_icache (a lo len : Nat) : (bump a lo len s).icache = s.icache := (rfl)
@[simp] theorem bump_refetch (a lo len : Nat) : (bump a lo len s).refetch = s.refetch := (rfl)
@[simp] theorem bump_res (a lo len : Nat) : (bump a lo len s).res = s.res := (rfl)
@[simp] theorem bump_streams (a lo len : Nat) : (bump a lo len s).streams = s.streams := (rfl)
@[simp] theorem bump_arb (a lo len : Nat) : (bump a lo len s).arb = s.arb := (rfl)
@[simp] theorem bump_hostJobs (a lo len : Nat) : (bump a lo len s).hostJobs = s.hostJobs := (rfl)
@[simp] theorem bump_training (a lo len : Nat) : (bump a lo len s).training = s.training := (rfl)
@[simp] theorem bump_scrubAt (a lo len : Nat) : (bump a lo len s).scrubAt = s.scrubAt := (rfl)
@[simp] theorem bump_link (a lo len : Nat) : (bump a lo len s).link = s.link := (rfl)
@[simp] theorem bump_fc (a lo len : Nat) : (bump a lo len s).fc = s.fc := (rfl)
@[simp] theorem bump_ets (a lo len : Nat) : (bump a lo len s).ets = s.ets := (rfl)
@[simp] theorem bump_tb (a lo len : Nat) : (bump a lo len s).tb = s.tb := (rfl)
@[simp] theorem bump_obs (a lo len : Nat) : (bump a lo len s).obs = s.obs := (rfl)
@[simp] theorem bump_capts (a lo len : Nat) : (bump a lo len s).capts = s.capts := (rfl)
@[simp] theorem bump_latches (a lo len : Nat) : (bump a lo len s).latches = s.latches := (rfl)
@[simp] theorem bump_spiOut (a lo len : Nat) : (bump a lo len s).spiOut = s.spiOut := (rfl)
@[simp] theorem bump_tap (a lo len : Nat) : (bump a lo len s).tap = s.tap := (rfl)

@[simp] theorem reject_pending (a i ca lo len : Nat) : (reject a i ca lo len s).pending = s.pending := (rfl)
@[simp] theorem reject_fresh (a i ca lo len : Nat) : (reject a i ca lo len s).fresh = s.fresh := (rfl)
@[simp] theorem reject_variant (a i ca lo len : Nat) : (reject a i ca lo len s).variant = s.variant := (rfl)
@[simp] theorem reject_inReset (a i ca lo len : Nat) : (reject a i ca lo len s).inReset = s.inReset := (rfl)
@[simp] theorem reject_resetting (a i ca lo len : Nat) : (reject a i ca lo len s).resetting = s.resetting := (rfl)
@[simp] theorem reject_rstPin (a i ca lo len : Nat) : (reject a i ca lo len s).rstPin = s.rstPin := (rfl)
@[simp] theorem reject_ocxo (a i ca lo len : Nat) : (reject a i ca lo len s).ocxo = s.ocxo := (rfl)
@[simp] theorem reject_supplyBad (a i ca lo len : Nat) : (reject a i ca lo len s).supplyBad = s.supplyBad := (rfl)
@[simp] theorem reject_now (a i ca lo len : Nat) : (reject a i ca lo len s).now = s.now := (rfl)
@[simp] theorem reject_cycle (a i ca lo len : Nat) : (reject a i ca lo len s).cycle = s.cycle := (rfl)
@[simp] theorem reject_slot (a i ca lo len : Nat) : (reject a i ca lo len s).slot = s.slot := (rfl)
@[simp] theorem reject_ddr (a i ca lo len : Nat) : (reject a i ca lo len s).ddr = s.ddr := (rfl)
@[simp] theorem reject_badBursts (a i ca lo len : Nat) : (reject a i ca lo len s).badBursts = s.badBursts := (rfl)
@[simp] theorem reject_otpBusy (a i ca lo len : Nat) : (reject a i ca lo len s).otpBusy = s.otpBusy := (rfl)
@[simp] theorem reject_trims (a i ca lo len : Nat) : (reject a i ca lo len s).trims = s.trims := (rfl)
@[simp] theorem reject_caused (a i ca lo len : Nat) : (reject a i ca lo len s).caused = s.caused := (rfl)
@[simp] theorem reject_causedAt (a i ca lo len : Nat) : (reject a i ca lo len s).causedAt = s.causedAt := (rfl)
@[simp] theorem reject_asserting (a i ca lo len : Nat) : (reject a i ca lo len s).asserting = s.asserting := (rfl)
@[simp] theorem reject_evDone (a i ca lo len : Nat) : (reject a i ca lo len s).evDone = s.evDone := (rfl)
@[simp] theorem reject_trig (a i ca lo len : Nat) : (reject a i ca lo len s).trig = s.trig := (rfl)
@[simp] theorem reject_marker (a i ca lo len : Nat) : (reject a i ca lo len s).marker = s.marker := (rfl)
@[simp] theorem reject_tickLoad (a i ca lo len : Nat) : (reject a i ca lo len s).tickLoad = s.tickLoad := (rfl)
@[simp] theorem reject_flw (a i ca lo len : Nat) : (reject a i ca lo len s).flw = s.flw := (rfl)
@[simp] theorem reject_barArr (a i ca lo len : Nat) : (reject a i ca lo len s).barArr = s.barArr := (rfl)
@[simp] theorem reject_barGone (a i ca lo len : Nat) : (reject a i ca lo len s).barGone = s.barGone := (rfl)
@[simp] theorem reject_clrLow (a i ca lo len : Nat) : (reject a i ca lo len s).clrLow = s.clrLow := (rfl)
@[simp] theorem reject_clrDue (a i ca lo len : Nat) : (reject a i ca lo len s).clrDue = s.clrDue := (rfl)
@[simp] theorem reject_clrRec (a i ca lo len : Nat) : (reject a i ca lo len s).clrRec = s.clrRec := (rfl)
@[simp] theorem reject_clrFree (a i ca lo len : Nat) : (reject a i ca lo len s).clrFree = s.clrFree := (rfl)
@[simp] theorem reject_rcbStop (a i ca lo len : Nat) : (reject a i ca lo len s).rcbStop = s.rcbStop := (rfl)
@[simp] theorem reject_chans (a i ca lo len : Nat) : (reject a i ca lo len s).chans = s.chans := (rfl)
@[simp] theorem reject_rcbs (a i ca lo len : Nat) : (reject a i ca lo len s).rcbs = s.rcbs := (rfl)
@[simp] theorem reject_lcs (a i ca lo len : Nat) : (reject a i ca lo len s).lcs = s.lcs := (rfl)
@[simp] theorem reject_mons (a i ca lo len : Nat) : (reject a i ca lo len s).mons = s.mons := (rfl)
@[simp] theorem reject_seqs (a i ca lo len : Nat) : (reject a i ca lo len s).seqs = s.seqs := (rfl)
@[simp] theorem reject_edgeImg (a i ca lo len : Nat) : (reject a i ca lo len s).edgeImg = s.edgeImg := (rfl)
@[simp] theorem reject_icache (a i ca lo len : Nat) : (reject a i ca lo len s).icache = s.icache := (rfl)
@[simp] theorem reject_refetch (a i ca lo len : Nat) : (reject a i ca lo len s).refetch = s.refetch := (rfl)
@[simp] theorem reject_res (a i ca lo len : Nat) : (reject a i ca lo len s).res = s.res := (rfl)
@[simp] theorem reject_streams (a i ca lo len : Nat) : (reject a i ca lo len s).streams = s.streams := (rfl)
@[simp] theorem reject_arb (a i ca lo len : Nat) : (reject a i ca lo len s).arb = s.arb := (rfl)
@[simp] theorem reject_hostJobs (a i ca lo len : Nat) : (reject a i ca lo len s).hostJobs = s.hostJobs := (rfl)
@[simp] theorem reject_training (a i ca lo len : Nat) : (reject a i ca lo len s).training = s.training := (rfl)
@[simp] theorem reject_scrubAt (a i ca lo len : Nat) : (reject a i ca lo len s).scrubAt = s.scrubAt := (rfl)
@[simp] theorem reject_link (a i ca lo len : Nat) : (reject a i ca lo len s).link = s.link := (rfl)
@[simp] theorem reject_fc (a i ca lo len : Nat) : (reject a i ca lo len s).fc = s.fc := (rfl)
@[simp] theorem reject_ets (a i ca lo len : Nat) : (reject a i ca lo len s).ets = s.ets := (rfl)
@[simp] theorem reject_tb (a i ca lo len : Nat) : (reject a i ca lo len s).tb = s.tb := (rfl)
@[simp] theorem reject_obs (a i ca lo len : Nat) : (reject a i ca lo len s).obs = s.obs := (rfl)
@[simp] theorem reject_capts (a i ca lo len : Nat) : (reject a i ca lo len s).capts = s.capts := (rfl)
@[simp] theorem reject_latches (a i ca lo len : Nat) : (reject a i ca lo len s).latches = s.latches := (rfl)
@[simp] theorem reject_spiOut (a i ca lo len : Nat) : (reject a i ca lo len s).spiOut = s.spiOut := (rfl)
@[simp] theorem reject_tap (a i ca lo len : Nat) : (reject a i ca lo len s).tap = s.tap := (rfl)

@[simp] theorem wr64_pending (a v : Nat) : (wr64 a v s).pending = s.pending := (rfl)
@[simp] theorem wr64_fresh (a v : Nat) : (wr64 a v s).fresh = s.fresh := (rfl)
@[simp] theorem wr64_variant (a v : Nat) : (wr64 a v s).variant = s.variant := (rfl)
@[simp] theorem wr64_inReset (a v : Nat) : (wr64 a v s).inReset = s.inReset := (rfl)
@[simp] theorem wr64_resetting (a v : Nat) : (wr64 a v s).resetting = s.resetting := (rfl)
@[simp] theorem wr64_rstPin (a v : Nat) : (wr64 a v s).rstPin = s.rstPin := (rfl)
@[simp] theorem wr64_ocxo (a v : Nat) : (wr64 a v s).ocxo = s.ocxo := (rfl)
@[simp] theorem wr64_supplyBad (a v : Nat) : (wr64 a v s).supplyBad = s.supplyBad := (rfl)
@[simp] theorem wr64_now (a v : Nat) : (wr64 a v s).now = s.now := (rfl)
@[simp] theorem wr64_cycle (a v : Nat) : (wr64 a v s).cycle = s.cycle := (rfl)
@[simp] theorem wr64_slot (a v : Nat) : (wr64 a v s).slot = s.slot := (rfl)
@[simp] theorem wr64_ddr (a v : Nat) : (wr64 a v s).ddr = s.ddr := (rfl)
@[simp] theorem wr64_badBursts (a v : Nat) : (wr64 a v s).badBursts = s.badBursts := (rfl)
@[simp] theorem wr64_otpBusy (a v : Nat) : (wr64 a v s).otpBusy = s.otpBusy := (rfl)
@[simp] theorem wr64_trims (a v : Nat) : (wr64 a v s).trims = s.trims := (rfl)
@[simp] theorem wr64_caused (a v : Nat) : (wr64 a v s).caused = s.caused := (rfl)
@[simp] theorem wr64_causedAt (a v : Nat) : (wr64 a v s).causedAt = s.causedAt := (rfl)
@[simp] theorem wr64_asserting (a v : Nat) : (wr64 a v s).asserting = s.asserting := (rfl)
@[simp] theorem wr64_evDone (a v : Nat) : (wr64 a v s).evDone = s.evDone := (rfl)
@[simp] theorem wr64_trig (a v : Nat) : (wr64 a v s).trig = s.trig := (rfl)
@[simp] theorem wr64_marker (a v : Nat) : (wr64 a v s).marker = s.marker := (rfl)
@[simp] theorem wr64_tickLoad (a v : Nat) : (wr64 a v s).tickLoad = s.tickLoad := (rfl)
@[simp] theorem wr64_flw (a v : Nat) : (wr64 a v s).flw = s.flw := (rfl)
@[simp] theorem wr64_barArr (a v : Nat) : (wr64 a v s).barArr = s.barArr := (rfl)
@[simp] theorem wr64_barGone (a v : Nat) : (wr64 a v s).barGone = s.barGone := (rfl)
@[simp] theorem wr64_clrLow (a v : Nat) : (wr64 a v s).clrLow = s.clrLow := (rfl)
@[simp] theorem wr64_clrDue (a v : Nat) : (wr64 a v s).clrDue = s.clrDue := (rfl)
@[simp] theorem wr64_clrRec (a v : Nat) : (wr64 a v s).clrRec = s.clrRec := (rfl)
@[simp] theorem wr64_clrFree (a v : Nat) : (wr64 a v s).clrFree = s.clrFree := (rfl)
@[simp] theorem wr64_rcbStop (a v : Nat) : (wr64 a v s).rcbStop = s.rcbStop := (rfl)
@[simp] theorem wr64_chans (a v : Nat) : (wr64 a v s).chans = s.chans := (rfl)
@[simp] theorem wr64_rcbs (a v : Nat) : (wr64 a v s).rcbs = s.rcbs := (rfl)
@[simp] theorem wr64_lcs (a v : Nat) : (wr64 a v s).lcs = s.lcs := (rfl)
@[simp] theorem wr64_mons (a v : Nat) : (wr64 a v s).mons = s.mons := (rfl)
@[simp] theorem wr64_seqs (a v : Nat) : (wr64 a v s).seqs = s.seqs := (rfl)
@[simp] theorem wr64_edgeImg (a v : Nat) : (wr64 a v s).edgeImg = s.edgeImg := (rfl)
@[simp] theorem wr64_icache (a v : Nat) : (wr64 a v s).icache = s.icache := (rfl)
@[simp] theorem wr64_refetch (a v : Nat) : (wr64 a v s).refetch = s.refetch := (rfl)
@[simp] theorem wr64_res (a v : Nat) : (wr64 a v s).res = s.res := (rfl)
@[simp] theorem wr64_streams (a v : Nat) : (wr64 a v s).streams = s.streams := (rfl)
@[simp] theorem wr64_arb (a v : Nat) : (wr64 a v s).arb = s.arb := (rfl)
@[simp] theorem wr64_hostJobs (a v : Nat) : (wr64 a v s).hostJobs = s.hostJobs := (rfl)
@[simp] theorem wr64_training (a v : Nat) : (wr64 a v s).training = s.training := (rfl)
@[simp] theorem wr64_scrubAt (a v : Nat) : (wr64 a v s).scrubAt = s.scrubAt := (rfl)
@[simp] theorem wr64_link (a v : Nat) : (wr64 a v s).link = s.link := (rfl)
@[simp] theorem wr64_fc (a v : Nat) : (wr64 a v s).fc = s.fc := (rfl)
@[simp] theorem wr64_ets (a v : Nat) : (wr64 a v s).ets = s.ets := (rfl)
@[simp] theorem wr64_tb (a v : Nat) : (wr64 a v s).tb = s.tb := (rfl)
@[simp] theorem wr64_obs (a v : Nat) : (wr64 a v s).obs = s.obs := (rfl)
@[simp] theorem wr64_capts (a v : Nat) : (wr64 a v s).capts = s.capts := (rfl)
@[simp] theorem wr64_latches (a v : Nat) : (wr64 a v s).latches = s.latches := (rfl)
@[simp] theorem wr64_spiOut (a v : Nat) : (wr64 a v s).spiOut = s.spiOut := (rfl)
@[simp] theorem wr64_tap (a v : Nat) : (wr64 a v s).tap = s.tap := (rfl)

@[simp] theorem updChan_pending (n : Nat) (f : Chan → Chan) : (updChan n f s).pending = s.pending := (rfl)
@[simp] theorem updChan_fresh (n : Nat) (f : Chan → Chan) : (updChan n f s).fresh = s.fresh := (rfl)
@[simp] theorem updChan_variant (n : Nat) (f : Chan → Chan) : (updChan n f s).variant = s.variant := (rfl)
@[simp] theorem updChan_inReset (n : Nat) (f : Chan → Chan) : (updChan n f s).inReset = s.inReset := (rfl)
@[simp] theorem updChan_resetting (n : Nat) (f : Chan → Chan) : (updChan n f s).resetting = s.resetting := (rfl)
@[simp] theorem updChan_rstPin (n : Nat) (f : Chan → Chan) : (updChan n f s).rstPin = s.rstPin := (rfl)
@[simp] theorem updChan_ocxo (n : Nat) (f : Chan → Chan) : (updChan n f s).ocxo = s.ocxo := (rfl)
@[simp] theorem updChan_supplyBad (n : Nat) (f : Chan → Chan) : (updChan n f s).supplyBad = s.supplyBad := (rfl)
@[simp] theorem updChan_now (n : Nat) (f : Chan → Chan) : (updChan n f s).now = s.now := (rfl)
@[simp] theorem updChan_cycle (n : Nat) (f : Chan → Chan) : (updChan n f s).cycle = s.cycle := (rfl)
@[simp] theorem updChan_slot (n : Nat) (f : Chan → Chan) : (updChan n f s).slot = s.slot := (rfl)
@[simp] theorem updChan_regs (n : Nat) (f : Chan → Chan) : (updChan n f s).regs = s.regs := (rfl)
@[simp] theorem updChan_ddr (n : Nat) (f : Chan → Chan) : (updChan n f s).ddr = s.ddr := (rfl)
@[simp] theorem updChan_badBursts (n : Nat) (f : Chan → Chan) : (updChan n f s).badBursts = s.badBursts := (rfl)
@[simp] theorem updChan_otpBusy (n : Nat) (f : Chan → Chan) : (updChan n f s).otpBusy = s.otpBusy := (rfl)
@[simp] theorem updChan_trims (n : Nat) (f : Chan → Chan) : (updChan n f s).trims = s.trims := (rfl)
@[simp] theorem updChan_caused (n : Nat) (f : Chan → Chan) : (updChan n f s).caused = s.caused := (rfl)
@[simp] theorem updChan_causedAt (n : Nat) (f : Chan → Chan) : (updChan n f s).causedAt = s.causedAt := (rfl)
@[simp] theorem updChan_asserting (n : Nat) (f : Chan → Chan) : (updChan n f s).asserting = s.asserting := (rfl)
@[simp] theorem updChan_evDone (n : Nat) (f : Chan → Chan) : (updChan n f s).evDone = s.evDone := (rfl)
@[simp] theorem updChan_trig (n : Nat) (f : Chan → Chan) : (updChan n f s).trig = s.trig := (rfl)
@[simp] theorem updChan_marker (n : Nat) (f : Chan → Chan) : (updChan n f s).marker = s.marker := (rfl)
@[simp] theorem updChan_tickLoad (n : Nat) (f : Chan → Chan) : (updChan n f s).tickLoad = s.tickLoad := (rfl)
@[simp] theorem updChan_flw (n : Nat) (f : Chan → Chan) : (updChan n f s).flw = s.flw := (rfl)
@[simp] theorem updChan_barArr (n : Nat) (f : Chan → Chan) : (updChan n f s).barArr = s.barArr := (rfl)
@[simp] theorem updChan_barGone (n : Nat) (f : Chan → Chan) : (updChan n f s).barGone = s.barGone := (rfl)
@[simp] theorem updChan_clrLow (n : Nat) (f : Chan → Chan) : (updChan n f s).clrLow = s.clrLow := (rfl)
@[simp] theorem updChan_clrDue (n : Nat) (f : Chan → Chan) : (updChan n f s).clrDue = s.clrDue := (rfl)
@[simp] theorem updChan_clrRec (n : Nat) (f : Chan → Chan) : (updChan n f s).clrRec = s.clrRec := (rfl)
@[simp] theorem updChan_clrFree (n : Nat) (f : Chan → Chan) : (updChan n f s).clrFree = s.clrFree := (rfl)
@[simp] theorem updChan_rcbStop (n : Nat) (f : Chan → Chan) : (updChan n f s).rcbStop = s.rcbStop := (rfl)
@[simp] theorem updChan_rcbs (n : Nat) (f : Chan → Chan) : (updChan n f s).rcbs = s.rcbs := (rfl)
@[simp] theorem updChan_lcs (n : Nat) (f : Chan → Chan) : (updChan n f s).lcs = s.lcs := (rfl)
@[simp] theorem updChan_mons (n : Nat) (f : Chan → Chan) : (updChan n f s).mons = s.mons := (rfl)
@[simp] theorem updChan_seqs (n : Nat) (f : Chan → Chan) : (updChan n f s).seqs = s.seqs := (rfl)
@[simp] theorem updChan_edgeImg (n : Nat) (f : Chan → Chan) : (updChan n f s).edgeImg = s.edgeImg := (rfl)
@[simp] theorem updChan_icache (n : Nat) (f : Chan → Chan) : (updChan n f s).icache = s.icache := (rfl)
@[simp] theorem updChan_refetch (n : Nat) (f : Chan → Chan) : (updChan n f s).refetch = s.refetch := (rfl)
@[simp] theorem updChan_res (n : Nat) (f : Chan → Chan) : (updChan n f s).res = s.res := (rfl)
@[simp] theorem updChan_streams (n : Nat) (f : Chan → Chan) : (updChan n f s).streams = s.streams := (rfl)
@[simp] theorem updChan_arb (n : Nat) (f : Chan → Chan) : (updChan n f s).arb = s.arb := (rfl)
@[simp] theorem updChan_hostJobs (n : Nat) (f : Chan → Chan) : (updChan n f s).hostJobs = s.hostJobs := (rfl)
@[simp] theorem updChan_training (n : Nat) (f : Chan → Chan) : (updChan n f s).training = s.training := (rfl)
@[simp] theorem updChan_scrubAt (n : Nat) (f : Chan → Chan) : (updChan n f s).scrubAt = s.scrubAt := (rfl)
@[simp] theorem updChan_link (n : Nat) (f : Chan → Chan) : (updChan n f s).link = s.link := (rfl)
@[simp] theorem updChan_fc (n : Nat) (f : Chan → Chan) : (updChan n f s).fc = s.fc := (rfl)
@[simp] theorem updChan_ets (n : Nat) (f : Chan → Chan) : (updChan n f s).ets = s.ets := (rfl)
@[simp] theorem updChan_tb (n : Nat) (f : Chan → Chan) : (updChan n f s).tb = s.tb := (rfl)
@[simp] theorem updChan_obs (n : Nat) (f : Chan → Chan) : (updChan n f s).obs = s.obs := (rfl)
@[simp] theorem updChan_capts (n : Nat) (f : Chan → Chan) : (updChan n f s).capts = s.capts := (rfl)
@[simp] theorem updChan_latches (n : Nat) (f : Chan → Chan) : (updChan n f s).latches = s.latches := (rfl)
@[simp] theorem updChan_spiOut (n : Nat) (f : Chan → Chan) : (updChan n f s).spiOut = s.spiOut := (rfl)
@[simp] theorem updChan_tap (n : Nat) (f : Chan → Chan) : (updChan n f s).tap = s.tap := (rfl)

@[simp] theorem updRcb_pending (g : Nat) (f : Rcb → Rcb) : (updRcb g f s).pending = s.pending := (rfl)
@[simp] theorem updRcb_fresh (g : Nat) (f : Rcb → Rcb) : (updRcb g f s).fresh = s.fresh := (rfl)
@[simp] theorem updRcb_variant (g : Nat) (f : Rcb → Rcb) : (updRcb g f s).variant = s.variant := (rfl)
@[simp] theorem updRcb_inReset (g : Nat) (f : Rcb → Rcb) : (updRcb g f s).inReset = s.inReset := (rfl)
@[simp] theorem updRcb_resetting (g : Nat) (f : Rcb → Rcb) : (updRcb g f s).resetting = s.resetting := (rfl)
@[simp] theorem updRcb_rstPin (g : Nat) (f : Rcb → Rcb) : (updRcb g f s).rstPin = s.rstPin := (rfl)
@[simp] theorem updRcb_ocxo (g : Nat) (f : Rcb → Rcb) : (updRcb g f s).ocxo = s.ocxo := (rfl)
@[simp] theorem updRcb_supplyBad (g : Nat) (f : Rcb → Rcb) : (updRcb g f s).supplyBad = s.supplyBad := (rfl)
@[simp] theorem updRcb_now (g : Nat) (f : Rcb → Rcb) : (updRcb g f s).now = s.now := (rfl)
@[simp] theorem updRcb_cycle (g : Nat) (f : Rcb → Rcb) : (updRcb g f s).cycle = s.cycle := (rfl)
@[simp] theorem updRcb_slot (g : Nat) (f : Rcb → Rcb) : (updRcb g f s).slot = s.slot := (rfl)
@[simp] theorem updRcb_regs (g : Nat) (f : Rcb → Rcb) : (updRcb g f s).regs = s.regs := (rfl)
@[simp] theorem updRcb_ddr (g : Nat) (f : Rcb → Rcb) : (updRcb g f s).ddr = s.ddr := (rfl)
@[simp] theorem updRcb_badBursts (g : Nat) (f : Rcb → Rcb) : (updRcb g f s).badBursts = s.badBursts := (rfl)
@[simp] theorem updRcb_otpBusy (g : Nat) (f : Rcb → Rcb) : (updRcb g f s).otpBusy = s.otpBusy := (rfl)
@[simp] theorem updRcb_trims (g : Nat) (f : Rcb → Rcb) : (updRcb g f s).trims = s.trims := (rfl)
@[simp] theorem updRcb_caused (g : Nat) (f : Rcb → Rcb) : (updRcb g f s).caused = s.caused := (rfl)
@[simp] theorem updRcb_causedAt (g : Nat) (f : Rcb → Rcb) : (updRcb g f s).causedAt = s.causedAt := (rfl)
@[simp] theorem updRcb_asserting (g : Nat) (f : Rcb → Rcb) : (updRcb g f s).asserting = s.asserting := (rfl)
@[simp] theorem updRcb_evDone (g : Nat) (f : Rcb → Rcb) : (updRcb g f s).evDone = s.evDone := (rfl)
@[simp] theorem updRcb_trig (g : Nat) (f : Rcb → Rcb) : (updRcb g f s).trig = s.trig := (rfl)
@[simp] theorem updRcb_marker (g : Nat) (f : Rcb → Rcb) : (updRcb g f s).marker = s.marker := (rfl)
@[simp] theorem updRcb_tickLoad (g : Nat) (f : Rcb → Rcb) : (updRcb g f s).tickLoad = s.tickLoad := (rfl)
@[simp] theorem updRcb_flw (g : Nat) (f : Rcb → Rcb) : (updRcb g f s).flw = s.flw := (rfl)
@[simp] theorem updRcb_barArr (g : Nat) (f : Rcb → Rcb) : (updRcb g f s).barArr = s.barArr := (rfl)
@[simp] theorem updRcb_barGone (g : Nat) (f : Rcb → Rcb) : (updRcb g f s).barGone = s.barGone := (rfl)
@[simp] theorem updRcb_clrLow (g : Nat) (f : Rcb → Rcb) : (updRcb g f s).clrLow = s.clrLow := (rfl)
@[simp] theorem updRcb_clrDue (g : Nat) (f : Rcb → Rcb) : (updRcb g f s).clrDue = s.clrDue := (rfl)
@[simp] theorem updRcb_clrRec (g : Nat) (f : Rcb → Rcb) : (updRcb g f s).clrRec = s.clrRec := (rfl)
@[simp] theorem updRcb_clrFree (g : Nat) (f : Rcb → Rcb) : (updRcb g f s).clrFree = s.clrFree := (rfl)
@[simp] theorem updRcb_rcbStop (g : Nat) (f : Rcb → Rcb) : (updRcb g f s).rcbStop = s.rcbStop := (rfl)
@[simp] theorem updRcb_chans (g : Nat) (f : Rcb → Rcb) : (updRcb g f s).chans = s.chans := (rfl)
@[simp] theorem updRcb_lcs (g : Nat) (f : Rcb → Rcb) : (updRcb g f s).lcs = s.lcs := (rfl)
@[simp] theorem updRcb_mons (g : Nat) (f : Rcb → Rcb) : (updRcb g f s).mons = s.mons := (rfl)
@[simp] theorem updRcb_seqs (g : Nat) (f : Rcb → Rcb) : (updRcb g f s).seqs = s.seqs := (rfl)
@[simp] theorem updRcb_edgeImg (g : Nat) (f : Rcb → Rcb) : (updRcb g f s).edgeImg = s.edgeImg := (rfl)
@[simp] theorem updRcb_icache (g : Nat) (f : Rcb → Rcb) : (updRcb g f s).icache = s.icache := (rfl)
@[simp] theorem updRcb_refetch (g : Nat) (f : Rcb → Rcb) : (updRcb g f s).refetch = s.refetch := (rfl)
@[simp] theorem updRcb_res (g : Nat) (f : Rcb → Rcb) : (updRcb g f s).res = s.res := (rfl)
@[simp] theorem updRcb_streams (g : Nat) (f : Rcb → Rcb) : (updRcb g f s).streams = s.streams := (rfl)
@[simp] theorem updRcb_arb (g : Nat) (f : Rcb → Rcb) : (updRcb g f s).arb = s.arb := (rfl)
@[simp] theorem updRcb_hostJobs (g : Nat) (f : Rcb → Rcb) : (updRcb g f s).hostJobs = s.hostJobs := (rfl)
@[simp] theorem updRcb_training (g : Nat) (f : Rcb → Rcb) : (updRcb g f s).training = s.training := (rfl)
@[simp] theorem updRcb_scrubAt (g : Nat) (f : Rcb → Rcb) : (updRcb g f s).scrubAt = s.scrubAt := (rfl)
@[simp] theorem updRcb_link (g : Nat) (f : Rcb → Rcb) : (updRcb g f s).link = s.link := (rfl)
@[simp] theorem updRcb_fc (g : Nat) (f : Rcb → Rcb) : (updRcb g f s).fc = s.fc := (rfl)
@[simp] theorem updRcb_ets (g : Nat) (f : Rcb → Rcb) : (updRcb g f s).ets = s.ets := (rfl)
@[simp] theorem updRcb_tb (g : Nat) (f : Rcb → Rcb) : (updRcb g f s).tb = s.tb := (rfl)
@[simp] theorem updRcb_obs (g : Nat) (f : Rcb → Rcb) : (updRcb g f s).obs = s.obs := (rfl)
@[simp] theorem updRcb_capts (g : Nat) (f : Rcb → Rcb) : (updRcb g f s).capts = s.capts := (rfl)
@[simp] theorem updRcb_latches (g : Nat) (f : Rcb → Rcb) : (updRcb g f s).latches = s.latches := (rfl)
@[simp] theorem updRcb_spiOut (g : Nat) (f : Rcb → Rcb) : (updRcb g f s).spiOut = s.spiOut := (rfl)
@[simp] theorem updRcb_tap (g : Nat) (f : Rcb → Rcb) : (updRcb g f s).tap = s.tap := (rfl)

@[simp] theorem updLc_pending (g : Nat) (f : LoopCore → LoopCore) : (updLc g f s).pending = s.pending := (rfl)
@[simp] theorem updLc_fresh (g : Nat) (f : LoopCore → LoopCore) : (updLc g f s).fresh = s.fresh := (rfl)
@[simp] theorem updLc_variant (g : Nat) (f : LoopCore → LoopCore) : (updLc g f s).variant = s.variant := (rfl)
@[simp] theorem updLc_inReset (g : Nat) (f : LoopCore → LoopCore) : (updLc g f s).inReset = s.inReset := (rfl)
@[simp] theorem updLc_resetting (g : Nat) (f : LoopCore → LoopCore) : (updLc g f s).resetting = s.resetting := (rfl)
@[simp] theorem updLc_rstPin (g : Nat) (f : LoopCore → LoopCore) : (updLc g f s).rstPin = s.rstPin := (rfl)
@[simp] theorem updLc_ocxo (g : Nat) (f : LoopCore → LoopCore) : (updLc g f s).ocxo = s.ocxo := (rfl)
@[simp] theorem updLc_supplyBad (g : Nat) (f : LoopCore → LoopCore) : (updLc g f s).supplyBad = s.supplyBad := (rfl)
@[simp] theorem updLc_now (g : Nat) (f : LoopCore → LoopCore) : (updLc g f s).now = s.now := (rfl)
@[simp] theorem updLc_cycle (g : Nat) (f : LoopCore → LoopCore) : (updLc g f s).cycle = s.cycle := (rfl)
@[simp] theorem updLc_slot (g : Nat) (f : LoopCore → LoopCore) : (updLc g f s).slot = s.slot := (rfl)
@[simp] theorem updLc_regs (g : Nat) (f : LoopCore → LoopCore) : (updLc g f s).regs = s.regs := (rfl)
@[simp] theorem updLc_ddr (g : Nat) (f : LoopCore → LoopCore) : (updLc g f s).ddr = s.ddr := (rfl)
@[simp] theorem updLc_badBursts (g : Nat) (f : LoopCore → LoopCore) : (updLc g f s).badBursts = s.badBursts := (rfl)
@[simp] theorem updLc_otpBusy (g : Nat) (f : LoopCore → LoopCore) : (updLc g f s).otpBusy = s.otpBusy := (rfl)
@[simp] theorem updLc_trims (g : Nat) (f : LoopCore → LoopCore) : (updLc g f s).trims = s.trims := (rfl)
@[simp] theorem updLc_caused (g : Nat) (f : LoopCore → LoopCore) : (updLc g f s).caused = s.caused := (rfl)
@[simp] theorem updLc_causedAt (g : Nat) (f : LoopCore → LoopCore) : (updLc g f s).causedAt = s.causedAt := (rfl)
@[simp] theorem updLc_asserting (g : Nat) (f : LoopCore → LoopCore) : (updLc g f s).asserting = s.asserting := (rfl)
@[simp] theorem updLc_evDone (g : Nat) (f : LoopCore → LoopCore) : (updLc g f s).evDone = s.evDone := (rfl)
@[simp] theorem updLc_trig (g : Nat) (f : LoopCore → LoopCore) : (updLc g f s).trig = s.trig := (rfl)
@[simp] theorem updLc_marker (g : Nat) (f : LoopCore → LoopCore) : (updLc g f s).marker = s.marker := (rfl)
@[simp] theorem updLc_tickLoad (g : Nat) (f : LoopCore → LoopCore) : (updLc g f s).tickLoad = s.tickLoad := (rfl)
@[simp] theorem updLc_flw (g : Nat) (f : LoopCore → LoopCore) : (updLc g f s).flw = s.flw := (rfl)
@[simp] theorem updLc_barArr (g : Nat) (f : LoopCore → LoopCore) : (updLc g f s).barArr = s.barArr := (rfl)
@[simp] theorem updLc_barGone (g : Nat) (f : LoopCore → LoopCore) : (updLc g f s).barGone = s.barGone := (rfl)
@[simp] theorem updLc_clrLow (g : Nat) (f : LoopCore → LoopCore) : (updLc g f s).clrLow = s.clrLow := (rfl)
@[simp] theorem updLc_clrDue (g : Nat) (f : LoopCore → LoopCore) : (updLc g f s).clrDue = s.clrDue := (rfl)
@[simp] theorem updLc_clrRec (g : Nat) (f : LoopCore → LoopCore) : (updLc g f s).clrRec = s.clrRec := (rfl)
@[simp] theorem updLc_clrFree (g : Nat) (f : LoopCore → LoopCore) : (updLc g f s).clrFree = s.clrFree := (rfl)
@[simp] theorem updLc_rcbStop (g : Nat) (f : LoopCore → LoopCore) : (updLc g f s).rcbStop = s.rcbStop := (rfl)
@[simp] theorem updLc_chans (g : Nat) (f : LoopCore → LoopCore) : (updLc g f s).chans = s.chans := (rfl)
@[simp] theorem updLc_rcbs (g : Nat) (f : LoopCore → LoopCore) : (updLc g f s).rcbs = s.rcbs := (rfl)
@[simp] theorem updLc_mons (g : Nat) (f : LoopCore → LoopCore) : (updLc g f s).mons = s.mons := (rfl)
@[simp] theorem updLc_seqs (g : Nat) (f : LoopCore → LoopCore) : (updLc g f s).seqs = s.seqs := (rfl)
@[simp] theorem updLc_edgeImg (g : Nat) (f : LoopCore → LoopCore) : (updLc g f s).edgeImg = s.edgeImg := (rfl)
@[simp] theorem updLc_icache (g : Nat) (f : LoopCore → LoopCore) : (updLc g f s).icache = s.icache := (rfl)
@[simp] theorem updLc_refetch (g : Nat) (f : LoopCore → LoopCore) : (updLc g f s).refetch = s.refetch := (rfl)
@[simp] theorem updLc_res (g : Nat) (f : LoopCore → LoopCore) : (updLc g f s).res = s.res := (rfl)
@[simp] theorem updLc_streams (g : Nat) (f : LoopCore → LoopCore) : (updLc g f s).streams = s.streams := (rfl)
@[simp] theorem updLc_arb (g : Nat) (f : LoopCore → LoopCore) : (updLc g f s).arb = s.arb := (rfl)
@[simp] theorem updLc_hostJobs (g : Nat) (f : LoopCore → LoopCore) : (updLc g f s).hostJobs = s.hostJobs := (rfl)
@[simp] theorem updLc_training (g : Nat) (f : LoopCore → LoopCore) : (updLc g f s).training = s.training := (rfl)
@[simp] theorem updLc_scrubAt (g : Nat) (f : LoopCore → LoopCore) : (updLc g f s).scrubAt = s.scrubAt := (rfl)
@[simp] theorem updLc_link (g : Nat) (f : LoopCore → LoopCore) : (updLc g f s).link = s.link := (rfl)
@[simp] theorem updLc_fc (g : Nat) (f : LoopCore → LoopCore) : (updLc g f s).fc = s.fc := (rfl)
@[simp] theorem updLc_ets (g : Nat) (f : LoopCore → LoopCore) : (updLc g f s).ets = s.ets := (rfl)
@[simp] theorem updLc_tb (g : Nat) (f : LoopCore → LoopCore) : (updLc g f s).tb = s.tb := (rfl)
@[simp] theorem updLc_obs (g : Nat) (f : LoopCore → LoopCore) : (updLc g f s).obs = s.obs := (rfl)
@[simp] theorem updLc_capts (g : Nat) (f : LoopCore → LoopCore) : (updLc g f s).capts = s.capts := (rfl)
@[simp] theorem updLc_latches (g : Nat) (f : LoopCore → LoopCore) : (updLc g f s).latches = s.latches := (rfl)
@[simp] theorem updLc_spiOut (g : Nat) (f : LoopCore → LoopCore) : (updLc g f s).spiOut = s.spiOut := (rfl)
@[simp] theorem updLc_tap (g : Nat) (f : LoopCore → LoopCore) : (updLc g f s).tap = s.tap := (rfl)

@[simp] theorem updMon_pending (g : Nat) (f : Mon → Mon) : (updMon g f s).pending = s.pending := (rfl)
@[simp] theorem updMon_fresh (g : Nat) (f : Mon → Mon) : (updMon g f s).fresh = s.fresh := (rfl)
@[simp] theorem updMon_variant (g : Nat) (f : Mon → Mon) : (updMon g f s).variant = s.variant := (rfl)
@[simp] theorem updMon_inReset (g : Nat) (f : Mon → Mon) : (updMon g f s).inReset = s.inReset := (rfl)
@[simp] theorem updMon_resetting (g : Nat) (f : Mon → Mon) : (updMon g f s).resetting = s.resetting := (rfl)
@[simp] theorem updMon_rstPin (g : Nat) (f : Mon → Mon) : (updMon g f s).rstPin = s.rstPin := (rfl)
@[simp] theorem updMon_ocxo (g : Nat) (f : Mon → Mon) : (updMon g f s).ocxo = s.ocxo := (rfl)
@[simp] theorem updMon_supplyBad (g : Nat) (f : Mon → Mon) : (updMon g f s).supplyBad = s.supplyBad := (rfl)
@[simp] theorem updMon_now (g : Nat) (f : Mon → Mon) : (updMon g f s).now = s.now := (rfl)
@[simp] theorem updMon_cycle (g : Nat) (f : Mon → Mon) : (updMon g f s).cycle = s.cycle := (rfl)
@[simp] theorem updMon_slot (g : Nat) (f : Mon → Mon) : (updMon g f s).slot = s.slot := (rfl)
@[simp] theorem updMon_regs (g : Nat) (f : Mon → Mon) : (updMon g f s).regs = s.regs := (rfl)
@[simp] theorem updMon_ddr (g : Nat) (f : Mon → Mon) : (updMon g f s).ddr = s.ddr := (rfl)
@[simp] theorem updMon_badBursts (g : Nat) (f : Mon → Mon) : (updMon g f s).badBursts = s.badBursts := (rfl)
@[simp] theorem updMon_otpBusy (g : Nat) (f : Mon → Mon) : (updMon g f s).otpBusy = s.otpBusy := (rfl)
@[simp] theorem updMon_trims (g : Nat) (f : Mon → Mon) : (updMon g f s).trims = s.trims := (rfl)
@[simp] theorem updMon_caused (g : Nat) (f : Mon → Mon) : (updMon g f s).caused = s.caused := (rfl)
@[simp] theorem updMon_causedAt (g : Nat) (f : Mon → Mon) : (updMon g f s).causedAt = s.causedAt := (rfl)
@[simp] theorem updMon_asserting (g : Nat) (f : Mon → Mon) : (updMon g f s).asserting = s.asserting := (rfl)
@[simp] theorem updMon_evDone (g : Nat) (f : Mon → Mon) : (updMon g f s).evDone = s.evDone := (rfl)
@[simp] theorem updMon_trig (g : Nat) (f : Mon → Mon) : (updMon g f s).trig = s.trig := (rfl)
@[simp] theorem updMon_marker (g : Nat) (f : Mon → Mon) : (updMon g f s).marker = s.marker := (rfl)
@[simp] theorem updMon_tickLoad (g : Nat) (f : Mon → Mon) : (updMon g f s).tickLoad = s.tickLoad := (rfl)
@[simp] theorem updMon_flw (g : Nat) (f : Mon → Mon) : (updMon g f s).flw = s.flw := (rfl)
@[simp] theorem updMon_barArr (g : Nat) (f : Mon → Mon) : (updMon g f s).barArr = s.barArr := (rfl)
@[simp] theorem updMon_barGone (g : Nat) (f : Mon → Mon) : (updMon g f s).barGone = s.barGone := (rfl)
@[simp] theorem updMon_clrLow (g : Nat) (f : Mon → Mon) : (updMon g f s).clrLow = s.clrLow := (rfl)
@[simp] theorem updMon_clrDue (g : Nat) (f : Mon → Mon) : (updMon g f s).clrDue = s.clrDue := (rfl)
@[simp] theorem updMon_clrRec (g : Nat) (f : Mon → Mon) : (updMon g f s).clrRec = s.clrRec := (rfl)
@[simp] theorem updMon_clrFree (g : Nat) (f : Mon → Mon) : (updMon g f s).clrFree = s.clrFree := (rfl)
@[simp] theorem updMon_rcbStop (g : Nat) (f : Mon → Mon) : (updMon g f s).rcbStop = s.rcbStop := (rfl)
@[simp] theorem updMon_chans (g : Nat) (f : Mon → Mon) : (updMon g f s).chans = s.chans := (rfl)
@[simp] theorem updMon_rcbs (g : Nat) (f : Mon → Mon) : (updMon g f s).rcbs = s.rcbs := (rfl)
@[simp] theorem updMon_lcs (g : Nat) (f : Mon → Mon) : (updMon g f s).lcs = s.lcs := (rfl)
@[simp] theorem updMon_seqs (g : Nat) (f : Mon → Mon) : (updMon g f s).seqs = s.seqs := (rfl)
@[simp] theorem updMon_edgeImg (g : Nat) (f : Mon → Mon) : (updMon g f s).edgeImg = s.edgeImg := (rfl)
@[simp] theorem updMon_icache (g : Nat) (f : Mon → Mon) : (updMon g f s).icache = s.icache := (rfl)
@[simp] theorem updMon_refetch (g : Nat) (f : Mon → Mon) : (updMon g f s).refetch = s.refetch := (rfl)
@[simp] theorem updMon_res (g : Nat) (f : Mon → Mon) : (updMon g f s).res = s.res := (rfl)
@[simp] theorem updMon_streams (g : Nat) (f : Mon → Mon) : (updMon g f s).streams = s.streams := (rfl)
@[simp] theorem updMon_arb (g : Nat) (f : Mon → Mon) : (updMon g f s).arb = s.arb := (rfl)
@[simp] theorem updMon_hostJobs (g : Nat) (f : Mon → Mon) : (updMon g f s).hostJobs = s.hostJobs := (rfl)
@[simp] theorem updMon_training (g : Nat) (f : Mon → Mon) : (updMon g f s).training = s.training := (rfl)
@[simp] theorem updMon_scrubAt (g : Nat) (f : Mon → Mon) : (updMon g f s).scrubAt = s.scrubAt := (rfl)
@[simp] theorem updMon_link (g : Nat) (f : Mon → Mon) : (updMon g f s).link = s.link := (rfl)
@[simp] theorem updMon_fc (g : Nat) (f : Mon → Mon) : (updMon g f s).fc = s.fc := (rfl)
@[simp] theorem updMon_ets (g : Nat) (f : Mon → Mon) : (updMon g f s).ets = s.ets := (rfl)
@[simp] theorem updMon_tb (g : Nat) (f : Mon → Mon) : (updMon g f s).tb = s.tb := (rfl)
@[simp] theorem updMon_obs (g : Nat) (f : Mon → Mon) : (updMon g f s).obs = s.obs := (rfl)
@[simp] theorem updMon_capts (g : Nat) (f : Mon → Mon) : (updMon g f s).capts = s.capts := (rfl)
@[simp] theorem updMon_latches (g : Nat) (f : Mon → Mon) : (updMon g f s).latches = s.latches := (rfl)
@[simp] theorem updMon_spiOut (g : Nat) (f : Mon → Mon) : (updMon g f s).spiOut = s.spiOut := (rfl)
@[simp] theorem updMon_tap (g : Nat) (f : Mon → Mon) : (updMon g f s).tap = s.tap := (rfl)

@[simp] theorem updSeq_pending (n : Nat) (f : Seq → Seq) : (updSeq n f s).pending = s.pending := (rfl)
@[simp] theorem updSeq_fresh (n : Nat) (f : Seq → Seq) : (updSeq n f s).fresh = s.fresh := (rfl)
@[simp] theorem updSeq_variant (n : Nat) (f : Seq → Seq) : (updSeq n f s).variant = s.variant := (rfl)
@[simp] theorem updSeq_inReset (n : Nat) (f : Seq → Seq) : (updSeq n f s).inReset = s.inReset := (rfl)
@[simp] theorem updSeq_resetting (n : Nat) (f : Seq → Seq) : (updSeq n f s).resetting = s.resetting := (rfl)
@[simp] theorem updSeq_rstPin (n : Nat) (f : Seq → Seq) : (updSeq n f s).rstPin = s.rstPin := (rfl)
@[simp] theorem updSeq_ocxo (n : Nat) (f : Seq → Seq) : (updSeq n f s).ocxo = s.ocxo := (rfl)
@[simp] theorem updSeq_supplyBad (n : Nat) (f : Seq → Seq) : (updSeq n f s).supplyBad = s.supplyBad := (rfl)
@[simp] theorem updSeq_now (n : Nat) (f : Seq → Seq) : (updSeq n f s).now = s.now := (rfl)
@[simp] theorem updSeq_cycle (n : Nat) (f : Seq → Seq) : (updSeq n f s).cycle = s.cycle := (rfl)
@[simp] theorem updSeq_slot (n : Nat) (f : Seq → Seq) : (updSeq n f s).slot = s.slot := (rfl)
@[simp] theorem updSeq_regs (n : Nat) (f : Seq → Seq) : (updSeq n f s).regs = s.regs := (rfl)
@[simp] theorem updSeq_ddr (n : Nat) (f : Seq → Seq) : (updSeq n f s).ddr = s.ddr := (rfl)
@[simp] theorem updSeq_badBursts (n : Nat) (f : Seq → Seq) : (updSeq n f s).badBursts = s.badBursts := (rfl)
@[simp] theorem updSeq_otpBusy (n : Nat) (f : Seq → Seq) : (updSeq n f s).otpBusy = s.otpBusy := (rfl)
@[simp] theorem updSeq_trims (n : Nat) (f : Seq → Seq) : (updSeq n f s).trims = s.trims := (rfl)
@[simp] theorem updSeq_caused (n : Nat) (f : Seq → Seq) : (updSeq n f s).caused = s.caused := (rfl)
@[simp] theorem updSeq_causedAt (n : Nat) (f : Seq → Seq) : (updSeq n f s).causedAt = s.causedAt := (rfl)
@[simp] theorem updSeq_asserting (n : Nat) (f : Seq → Seq) : (updSeq n f s).asserting = s.asserting := (rfl)
@[simp] theorem updSeq_evDone (n : Nat) (f : Seq → Seq) : (updSeq n f s).evDone = s.evDone := (rfl)
@[simp] theorem updSeq_trig (n : Nat) (f : Seq → Seq) : (updSeq n f s).trig = s.trig := (rfl)
@[simp] theorem updSeq_marker (n : Nat) (f : Seq → Seq) : (updSeq n f s).marker = s.marker := (rfl)
@[simp] theorem updSeq_tickLoad (n : Nat) (f : Seq → Seq) : (updSeq n f s).tickLoad = s.tickLoad := (rfl)
@[simp] theorem updSeq_flw (n : Nat) (f : Seq → Seq) : (updSeq n f s).flw = s.flw := (rfl)
@[simp] theorem updSeq_barArr (n : Nat) (f : Seq → Seq) : (updSeq n f s).barArr = s.barArr := (rfl)
@[simp] theorem updSeq_barGone (n : Nat) (f : Seq → Seq) : (updSeq n f s).barGone = s.barGone := (rfl)
@[simp] theorem updSeq_clrLow (n : Nat) (f : Seq → Seq) : (updSeq n f s).clrLow = s.clrLow := (rfl)
@[simp] theorem updSeq_clrDue (n : Nat) (f : Seq → Seq) : (updSeq n f s).clrDue = s.clrDue := (rfl)
@[simp] theorem updSeq_clrRec (n : Nat) (f : Seq → Seq) : (updSeq n f s).clrRec = s.clrRec := (rfl)
@[simp] theorem updSeq_clrFree (n : Nat) (f : Seq → Seq) : (updSeq n f s).clrFree = s.clrFree := (rfl)
@[simp] theorem updSeq_rcbStop (n : Nat) (f : Seq → Seq) : (updSeq n f s).rcbStop = s.rcbStop := (rfl)
@[simp] theorem updSeq_chans (n : Nat) (f : Seq → Seq) : (updSeq n f s).chans = s.chans := (rfl)
@[simp] theorem updSeq_rcbs (n : Nat) (f : Seq → Seq) : (updSeq n f s).rcbs = s.rcbs := (rfl)
@[simp] theorem updSeq_lcs (n : Nat) (f : Seq → Seq) : (updSeq n f s).lcs = s.lcs := (rfl)
@[simp] theorem updSeq_mons (n : Nat) (f : Seq → Seq) : (updSeq n f s).mons = s.mons := (rfl)
@[simp] theorem updSeq_edgeImg (n : Nat) (f : Seq → Seq) : (updSeq n f s).edgeImg = s.edgeImg := (rfl)
@[simp] theorem updSeq_icache (n : Nat) (f : Seq → Seq) : (updSeq n f s).icache = s.icache := (rfl)
@[simp] theorem updSeq_refetch (n : Nat) (f : Seq → Seq) : (updSeq n f s).refetch = s.refetch := (rfl)
@[simp] theorem updSeq_res (n : Nat) (f : Seq → Seq) : (updSeq n f s).res = s.res := (rfl)
@[simp] theorem updSeq_streams (n : Nat) (f : Seq → Seq) : (updSeq n f s).streams = s.streams := (rfl)
@[simp] theorem updSeq_arb (n : Nat) (f : Seq → Seq) : (updSeq n f s).arb = s.arb := (rfl)
@[simp] theorem updSeq_hostJobs (n : Nat) (f : Seq → Seq) : (updSeq n f s).hostJobs = s.hostJobs := (rfl)
@[simp] theorem updSeq_training (n : Nat) (f : Seq → Seq) : (updSeq n f s).training = s.training := (rfl)
@[simp] theorem updSeq_scrubAt (n : Nat) (f : Seq → Seq) : (updSeq n f s).scrubAt = s.scrubAt := (rfl)
@[simp] theorem updSeq_link (n : Nat) (f : Seq → Seq) : (updSeq n f s).link = s.link := (rfl)
@[simp] theorem updSeq_fc (n : Nat) (f : Seq → Seq) : (updSeq n f s).fc = s.fc := (rfl)
@[simp] theorem updSeq_ets (n : Nat) (f : Seq → Seq) : (updSeq n f s).ets = s.ets := (rfl)
@[simp] theorem updSeq_tb (n : Nat) (f : Seq → Seq) : (updSeq n f s).tb = s.tb := (rfl)
@[simp] theorem updSeq_obs (n : Nat) (f : Seq → Seq) : (updSeq n f s).obs = s.obs := (rfl)
@[simp] theorem updSeq_capts (n : Nat) (f : Seq → Seq) : (updSeq n f s).capts = s.capts := (rfl)
@[simp] theorem updSeq_latches (n : Nat) (f : Seq → Seq) : (updSeq n f s).latches = s.latches := (rfl)
@[simp] theorem updSeq_spiOut (n : Nat) (f : Seq → Seq) : (updSeq n f s).spiOut = s.spiOut := (rfl)
@[simp] theorem updSeq_tap (n : Nat) (f : Seq → Seq) : (updSeq n f s).tap = s.tap := (rfl)

@[simp] theorem updRes_pending (r : Nat) (f : Res → Res) : (updRes r f s).pending = s.pending := (rfl)
@[simp] theorem updRes_fresh (r : Nat) (f : Res → Res) : (updRes r f s).fresh = s.fresh := (rfl)
@[simp] theorem updRes_variant (r : Nat) (f : Res → Res) : (updRes r f s).variant = s.variant := (rfl)
@[simp] theorem updRes_inReset (r : Nat) (f : Res → Res) : (updRes r f s).inReset = s.inReset := (rfl)
@[simp] theorem updRes_resetting (r : Nat) (f : Res → Res) : (updRes r f s).resetting = s.resetting := (rfl)
@[simp] theorem updRes_rstPin (r : Nat) (f : Res → Res) : (updRes r f s).rstPin = s.rstPin := (rfl)
@[simp] theorem updRes_ocxo (r : Nat) (f : Res → Res) : (updRes r f s).ocxo = s.ocxo := (rfl)
@[simp] theorem updRes_supplyBad (r : Nat) (f : Res → Res) : (updRes r f s).supplyBad = s.supplyBad := (rfl)
@[simp] theorem updRes_now (r : Nat) (f : Res → Res) : (updRes r f s).now = s.now := (rfl)
@[simp] theorem updRes_cycle (r : Nat) (f : Res → Res) : (updRes r f s).cycle = s.cycle := (rfl)
@[simp] theorem updRes_slot (r : Nat) (f : Res → Res) : (updRes r f s).slot = s.slot := (rfl)
@[simp] theorem updRes_regs (r : Nat) (f : Res → Res) : (updRes r f s).regs = s.regs := (rfl)
@[simp] theorem updRes_ddr (r : Nat) (f : Res → Res) : (updRes r f s).ddr = s.ddr := (rfl)
@[simp] theorem updRes_badBursts (r : Nat) (f : Res → Res) : (updRes r f s).badBursts = s.badBursts := (rfl)
@[simp] theorem updRes_otpBusy (r : Nat) (f : Res → Res) : (updRes r f s).otpBusy = s.otpBusy := (rfl)
@[simp] theorem updRes_trims (r : Nat) (f : Res → Res) : (updRes r f s).trims = s.trims := (rfl)
@[simp] theorem updRes_caused (r : Nat) (f : Res → Res) : (updRes r f s).caused = s.caused := (rfl)
@[simp] theorem updRes_causedAt (r : Nat) (f : Res → Res) : (updRes r f s).causedAt = s.causedAt := (rfl)
@[simp] theorem updRes_asserting (r : Nat) (f : Res → Res) : (updRes r f s).asserting = s.asserting := (rfl)
@[simp] theorem updRes_evDone (r : Nat) (f : Res → Res) : (updRes r f s).evDone = s.evDone := (rfl)
@[simp] theorem updRes_trig (r : Nat) (f : Res → Res) : (updRes r f s).trig = s.trig := (rfl)
@[simp] theorem updRes_marker (r : Nat) (f : Res → Res) : (updRes r f s).marker = s.marker := (rfl)
@[simp] theorem updRes_tickLoad (r : Nat) (f : Res → Res) : (updRes r f s).tickLoad = s.tickLoad := (rfl)
@[simp] theorem updRes_flw (r : Nat) (f : Res → Res) : (updRes r f s).flw = s.flw := (rfl)
@[simp] theorem updRes_barArr (r : Nat) (f : Res → Res) : (updRes r f s).barArr = s.barArr := (rfl)
@[simp] theorem updRes_barGone (r : Nat) (f : Res → Res) : (updRes r f s).barGone = s.barGone := (rfl)
@[simp] theorem updRes_clrLow (r : Nat) (f : Res → Res) : (updRes r f s).clrLow = s.clrLow := (rfl)
@[simp] theorem updRes_clrDue (r : Nat) (f : Res → Res) : (updRes r f s).clrDue = s.clrDue := (rfl)
@[simp] theorem updRes_clrRec (r : Nat) (f : Res → Res) : (updRes r f s).clrRec = s.clrRec := (rfl)
@[simp] theorem updRes_clrFree (r : Nat) (f : Res → Res) : (updRes r f s).clrFree = s.clrFree := (rfl)
@[simp] theorem updRes_rcbStop (r : Nat) (f : Res → Res) : (updRes r f s).rcbStop = s.rcbStop := (rfl)
@[simp] theorem updRes_chans (r : Nat) (f : Res → Res) : (updRes r f s).chans = s.chans := (rfl)
@[simp] theorem updRes_rcbs (r : Nat) (f : Res → Res) : (updRes r f s).rcbs = s.rcbs := (rfl)
@[simp] theorem updRes_lcs (r : Nat) (f : Res → Res) : (updRes r f s).lcs = s.lcs := (rfl)
@[simp] theorem updRes_mons (r : Nat) (f : Res → Res) : (updRes r f s).mons = s.mons := (rfl)
@[simp] theorem updRes_seqs (r : Nat) (f : Res → Res) : (updRes r f s).seqs = s.seqs := (rfl)
@[simp] theorem updRes_edgeImg (r : Nat) (f : Res → Res) : (updRes r f s).edgeImg = s.edgeImg := (rfl)
@[simp] theorem updRes_icache (r : Nat) (f : Res → Res) : (updRes r f s).icache = s.icache := (rfl)
@[simp] theorem updRes_refetch (r : Nat) (f : Res → Res) : (updRes r f s).refetch = s.refetch := (rfl)
@[simp] theorem updRes_streams (r : Nat) (f : Res → Res) : (updRes r f s).streams = s.streams := (rfl)
@[simp] theorem updRes_arb (r : Nat) (f : Res → Res) : (updRes r f s).arb = s.arb := (rfl)
@[simp] theorem updRes_hostJobs (r : Nat) (f : Res → Res) : (updRes r f s).hostJobs = s.hostJobs := (rfl)
@[simp] theorem updRes_training (r : Nat) (f : Res → Res) : (updRes r f s).training = s.training := (rfl)
@[simp] theorem updRes_scrubAt (r : Nat) (f : Res → Res) : (updRes r f s).scrubAt = s.scrubAt := (rfl)
@[simp] theorem updRes_link (r : Nat) (f : Res → Res) : (updRes r f s).link = s.link := (rfl)
@[simp] theorem updRes_fc (r : Nat) (f : Res → Res) : (updRes r f s).fc = s.fc := (rfl)
@[simp] theorem updRes_ets (r : Nat) (f : Res → Res) : (updRes r f s).ets = s.ets := (rfl)
@[simp] theorem updRes_tb (r : Nat) (f : Res → Res) : (updRes r f s).tb = s.tb := (rfl)
@[simp] theorem updRes_obs (r : Nat) (f : Res → Res) : (updRes r f s).obs = s.obs := (rfl)
@[simp] theorem updRes_capts (r : Nat) (f : Res → Res) : (updRes r f s).capts = s.capts := (rfl)
@[simp] theorem updRes_latches (r : Nat) (f : Res → Res) : (updRes r f s).latches = s.latches := (rfl)
@[simp] theorem updRes_spiOut (r : Nat) (f : Res → Res) : (updRes r f s).spiOut = s.spiOut := (rfl)
@[simp] theorem updRes_tap (r : Nat) (f : Res → Res) : (updRes r f s).tap = s.tap := (rfl)

@[simp] theorem updStrm_pending (k : Nat) (f : Stream → Stream) : (updStrm k f s).pending = s.pending := (rfl)
@[simp] theorem updStrm_fresh (k : Nat) (f : Stream → Stream) : (updStrm k f s).fresh = s.fresh := (rfl)
@[simp] theorem updStrm_variant (k : Nat) (f : Stream → Stream) : (updStrm k f s).variant = s.variant := (rfl)
@[simp] theorem updStrm_inReset (k : Nat) (f : Stream → Stream) : (updStrm k f s).inReset = s.inReset := (rfl)
@[simp] theorem updStrm_resetting (k : Nat) (f : Stream → Stream) : (updStrm k f s).resetting = s.resetting := (rfl)
@[simp] theorem updStrm_rstPin (k : Nat) (f : Stream → Stream) : (updStrm k f s).rstPin = s.rstPin := (rfl)
@[simp] theorem updStrm_ocxo (k : Nat) (f : Stream → Stream) : (updStrm k f s).ocxo = s.ocxo := (rfl)
@[simp] theorem updStrm_supplyBad (k : Nat) (f : Stream → Stream) : (updStrm k f s).supplyBad = s.supplyBad := (rfl)
@[simp] theorem updStrm_now (k : Nat) (f : Stream → Stream) : (updStrm k f s).now = s.now := (rfl)
@[simp] theorem updStrm_cycle (k : Nat) (f : Stream → Stream) : (updStrm k f s).cycle = s.cycle := (rfl)
@[simp] theorem updStrm_slot (k : Nat) (f : Stream → Stream) : (updStrm k f s).slot = s.slot := (rfl)
@[simp] theorem updStrm_regs (k : Nat) (f : Stream → Stream) : (updStrm k f s).regs = s.regs := (rfl)
@[simp] theorem updStrm_ddr (k : Nat) (f : Stream → Stream) : (updStrm k f s).ddr = s.ddr := (rfl)
@[simp] theorem updStrm_badBursts (k : Nat) (f : Stream → Stream) : (updStrm k f s).badBursts = s.badBursts := (rfl)
@[simp] theorem updStrm_otpBusy (k : Nat) (f : Stream → Stream) : (updStrm k f s).otpBusy = s.otpBusy := (rfl)
@[simp] theorem updStrm_trims (k : Nat) (f : Stream → Stream) : (updStrm k f s).trims = s.trims := (rfl)
@[simp] theorem updStrm_caused (k : Nat) (f : Stream → Stream) : (updStrm k f s).caused = s.caused := (rfl)
@[simp] theorem updStrm_causedAt (k : Nat) (f : Stream → Stream) : (updStrm k f s).causedAt = s.causedAt := (rfl)
@[simp] theorem updStrm_asserting (k : Nat) (f : Stream → Stream) : (updStrm k f s).asserting = s.asserting := (rfl)
@[simp] theorem updStrm_evDone (k : Nat) (f : Stream → Stream) : (updStrm k f s).evDone = s.evDone := (rfl)
@[simp] theorem updStrm_trig (k : Nat) (f : Stream → Stream) : (updStrm k f s).trig = s.trig := (rfl)
@[simp] theorem updStrm_marker (k : Nat) (f : Stream → Stream) : (updStrm k f s).marker = s.marker := (rfl)
@[simp] theorem updStrm_tickLoad (k : Nat) (f : Stream → Stream) : (updStrm k f s).tickLoad = s.tickLoad := (rfl)
@[simp] theorem updStrm_flw (k : Nat) (f : Stream → Stream) : (updStrm k f s).flw = s.flw := (rfl)
@[simp] theorem updStrm_barArr (k : Nat) (f : Stream → Stream) : (updStrm k f s).barArr = s.barArr := (rfl)
@[simp] theorem updStrm_barGone (k : Nat) (f : Stream → Stream) : (updStrm k f s).barGone = s.barGone := (rfl)
@[simp] theorem updStrm_clrLow (k : Nat) (f : Stream → Stream) : (updStrm k f s).clrLow = s.clrLow := (rfl)
@[simp] theorem updStrm_clrDue (k : Nat) (f : Stream → Stream) : (updStrm k f s).clrDue = s.clrDue := (rfl)
@[simp] theorem updStrm_clrRec (k : Nat) (f : Stream → Stream) : (updStrm k f s).clrRec = s.clrRec := (rfl)
@[simp] theorem updStrm_clrFree (k : Nat) (f : Stream → Stream) : (updStrm k f s).clrFree = s.clrFree := (rfl)
@[simp] theorem updStrm_rcbStop (k : Nat) (f : Stream → Stream) : (updStrm k f s).rcbStop = s.rcbStop := (rfl)
@[simp] theorem updStrm_chans (k : Nat) (f : Stream → Stream) : (updStrm k f s).chans = s.chans := (rfl)
@[simp] theorem updStrm_rcbs (k : Nat) (f : Stream → Stream) : (updStrm k f s).rcbs = s.rcbs := (rfl)
@[simp] theorem updStrm_lcs (k : Nat) (f : Stream → Stream) : (updStrm k f s).lcs = s.lcs := (rfl)
@[simp] theorem updStrm_mons (k : Nat) (f : Stream → Stream) : (updStrm k f s).mons = s.mons := (rfl)
@[simp] theorem updStrm_seqs (k : Nat) (f : Stream → Stream) : (updStrm k f s).seqs = s.seqs := (rfl)
@[simp] theorem updStrm_edgeImg (k : Nat) (f : Stream → Stream) : (updStrm k f s).edgeImg = s.edgeImg := (rfl)
@[simp] theorem updStrm_icache (k : Nat) (f : Stream → Stream) : (updStrm k f s).icache = s.icache := (rfl)
@[simp] theorem updStrm_refetch (k : Nat) (f : Stream → Stream) : (updStrm k f s).refetch = s.refetch := (rfl)
@[simp] theorem updStrm_res (k : Nat) (f : Stream → Stream) : (updStrm k f s).res = s.res := (rfl)
@[simp] theorem updStrm_arb (k : Nat) (f : Stream → Stream) : (updStrm k f s).arb = s.arb := (rfl)
@[simp] theorem updStrm_hostJobs (k : Nat) (f : Stream → Stream) : (updStrm k f s).hostJobs = s.hostJobs := (rfl)
@[simp] theorem updStrm_training (k : Nat) (f : Stream → Stream) : (updStrm k f s).training = s.training := (rfl)
@[simp] theorem updStrm_scrubAt (k : Nat) (f : Stream → Stream) : (updStrm k f s).scrubAt = s.scrubAt := (rfl)
@[simp] theorem updStrm_link (k : Nat) (f : Stream → Stream) : (updStrm k f s).link = s.link := (rfl)
@[simp] theorem updStrm_fc (k : Nat) (f : Stream → Stream) : (updStrm k f s).fc = s.fc := (rfl)
@[simp] theorem updStrm_ets (k : Nat) (f : Stream → Stream) : (updStrm k f s).ets = s.ets := (rfl)
@[simp] theorem updStrm_tb (k : Nat) (f : Stream → Stream) : (updStrm k f s).tb = s.tb := (rfl)
@[simp] theorem updStrm_obs (k : Nat) (f : Stream → Stream) : (updStrm k f s).obs = s.obs := (rfl)
@[simp] theorem updStrm_capts (k : Nat) (f : Stream → Stream) : (updStrm k f s).capts = s.capts := (rfl)
@[simp] theorem updStrm_latches (k : Nat) (f : Stream → Stream) : (updStrm k f s).latches = s.latches := (rfl)
@[simp] theorem updStrm_spiOut (k : Nat) (f : Stream → Stream) : (updStrm k f s).spiOut = s.spiOut := (rfl)
@[simp] theorem updStrm_tap (k : Nat) (f : Stream → Stream) : (updStrm k f s).tap = s.tap := (rfl)

@[simp] theorem updEt_pending (u : Nat) (f : EtUnit → EtUnit) : (updEt u f s).pending = s.pending := (rfl)
@[simp] theorem updEt_fresh (u : Nat) (f : EtUnit → EtUnit) : (updEt u f s).fresh = s.fresh := (rfl)
@[simp] theorem updEt_variant (u : Nat) (f : EtUnit → EtUnit) : (updEt u f s).variant = s.variant := (rfl)
@[simp] theorem updEt_inReset (u : Nat) (f : EtUnit → EtUnit) : (updEt u f s).inReset = s.inReset := (rfl)
@[simp] theorem updEt_resetting (u : Nat) (f : EtUnit → EtUnit) : (updEt u f s).resetting = s.resetting := (rfl)
@[simp] theorem updEt_rstPin (u : Nat) (f : EtUnit → EtUnit) : (updEt u f s).rstPin = s.rstPin := (rfl)
@[simp] theorem updEt_ocxo (u : Nat) (f : EtUnit → EtUnit) : (updEt u f s).ocxo = s.ocxo := (rfl)
@[simp] theorem updEt_supplyBad (u : Nat) (f : EtUnit → EtUnit) : (updEt u f s).supplyBad = s.supplyBad := (rfl)
@[simp] theorem updEt_now (u : Nat) (f : EtUnit → EtUnit) : (updEt u f s).now = s.now := (rfl)
@[simp] theorem updEt_cycle (u : Nat) (f : EtUnit → EtUnit) : (updEt u f s).cycle = s.cycle := (rfl)
@[simp] theorem updEt_slot (u : Nat) (f : EtUnit → EtUnit) : (updEt u f s).slot = s.slot := (rfl)
@[simp] theorem updEt_regs (u : Nat) (f : EtUnit → EtUnit) : (updEt u f s).regs = s.regs := (rfl)
@[simp] theorem updEt_ddr (u : Nat) (f : EtUnit → EtUnit) : (updEt u f s).ddr = s.ddr := (rfl)
@[simp] theorem updEt_badBursts (u : Nat) (f : EtUnit → EtUnit) : (updEt u f s).badBursts = s.badBursts := (rfl)
@[simp] theorem updEt_otpBusy (u : Nat) (f : EtUnit → EtUnit) : (updEt u f s).otpBusy = s.otpBusy := (rfl)
@[simp] theorem updEt_trims (u : Nat) (f : EtUnit → EtUnit) : (updEt u f s).trims = s.trims := (rfl)
@[simp] theorem updEt_caused (u : Nat) (f : EtUnit → EtUnit) : (updEt u f s).caused = s.caused := (rfl)
@[simp] theorem updEt_causedAt (u : Nat) (f : EtUnit → EtUnit) : (updEt u f s).causedAt = s.causedAt := (rfl)
@[simp] theorem updEt_asserting (u : Nat) (f : EtUnit → EtUnit) : (updEt u f s).asserting = s.asserting := (rfl)
@[simp] theorem updEt_evDone (u : Nat) (f : EtUnit → EtUnit) : (updEt u f s).evDone = s.evDone := (rfl)
@[simp] theorem updEt_trig (u : Nat) (f : EtUnit → EtUnit) : (updEt u f s).trig = s.trig := (rfl)
@[simp] theorem updEt_marker (u : Nat) (f : EtUnit → EtUnit) : (updEt u f s).marker = s.marker := (rfl)
@[simp] theorem updEt_tickLoad (u : Nat) (f : EtUnit → EtUnit) : (updEt u f s).tickLoad = s.tickLoad := (rfl)
@[simp] theorem updEt_flw (u : Nat) (f : EtUnit → EtUnit) : (updEt u f s).flw = s.flw := (rfl)
@[simp] theorem updEt_barArr (u : Nat) (f : EtUnit → EtUnit) : (updEt u f s).barArr = s.barArr := (rfl)
@[simp] theorem updEt_barGone (u : Nat) (f : EtUnit → EtUnit) : (updEt u f s).barGone = s.barGone := (rfl)
@[simp] theorem updEt_clrLow (u : Nat) (f : EtUnit → EtUnit) : (updEt u f s).clrLow = s.clrLow := (rfl)
@[simp] theorem updEt_clrDue (u : Nat) (f : EtUnit → EtUnit) : (updEt u f s).clrDue = s.clrDue := (rfl)
@[simp] theorem updEt_clrRec (u : Nat) (f : EtUnit → EtUnit) : (updEt u f s).clrRec = s.clrRec := (rfl)
@[simp] theorem updEt_clrFree (u : Nat) (f : EtUnit → EtUnit) : (updEt u f s).clrFree = s.clrFree := (rfl)
@[simp] theorem updEt_rcbStop (u : Nat) (f : EtUnit → EtUnit) : (updEt u f s).rcbStop = s.rcbStop := (rfl)
@[simp] theorem updEt_chans (u : Nat) (f : EtUnit → EtUnit) : (updEt u f s).chans = s.chans := (rfl)
@[simp] theorem updEt_rcbs (u : Nat) (f : EtUnit → EtUnit) : (updEt u f s).rcbs = s.rcbs := (rfl)
@[simp] theorem updEt_lcs (u : Nat) (f : EtUnit → EtUnit) : (updEt u f s).lcs = s.lcs := (rfl)
@[simp] theorem updEt_mons (u : Nat) (f : EtUnit → EtUnit) : (updEt u f s).mons = s.mons := (rfl)
@[simp] theorem updEt_seqs (u : Nat) (f : EtUnit → EtUnit) : (updEt u f s).seqs = s.seqs := (rfl)
@[simp] theorem updEt_edgeImg (u : Nat) (f : EtUnit → EtUnit) : (updEt u f s).edgeImg = s.edgeImg := (rfl)
@[simp] theorem updEt_icache (u : Nat) (f : EtUnit → EtUnit) : (updEt u f s).icache = s.icache := (rfl)
@[simp] theorem updEt_refetch (u : Nat) (f : EtUnit → EtUnit) : (updEt u f s).refetch = s.refetch := (rfl)
@[simp] theorem updEt_res (u : Nat) (f : EtUnit → EtUnit) : (updEt u f s).res = s.res := (rfl)
@[simp] theorem updEt_streams (u : Nat) (f : EtUnit → EtUnit) : (updEt u f s).streams = s.streams := (rfl)
@[simp] theorem updEt_arb (u : Nat) (f : EtUnit → EtUnit) : (updEt u f s).arb = s.arb := (rfl)
@[simp] theorem updEt_hostJobs (u : Nat) (f : EtUnit → EtUnit) : (updEt u f s).hostJobs = s.hostJobs := (rfl)
@[simp] theorem updEt_training (u : Nat) (f : EtUnit → EtUnit) : (updEt u f s).training = s.training := (rfl)
@[simp] theorem updEt_scrubAt (u : Nat) (f : EtUnit → EtUnit) : (updEt u f s).scrubAt = s.scrubAt := (rfl)
@[simp] theorem updEt_link (u : Nat) (f : EtUnit → EtUnit) : (updEt u f s).link = s.link := (rfl)
@[simp] theorem updEt_fc (u : Nat) (f : EtUnit → EtUnit) : (updEt u f s).fc = s.fc := (rfl)
@[simp] theorem updEt_tb (u : Nat) (f : EtUnit → EtUnit) : (updEt u f s).tb = s.tb := (rfl)
@[simp] theorem updEt_obs (u : Nat) (f : EtUnit → EtUnit) : (updEt u f s).obs = s.obs := (rfl)
@[simp] theorem updEt_capts (u : Nat) (f : EtUnit → EtUnit) : (updEt u f s).capts = s.capts := (rfl)
@[simp] theorem updEt_latches (u : Nat) (f : EtUnit → EtUnit) : (updEt u f s).latches = s.latches := (rfl)
@[simp] theorem updEt_spiOut (u : Nat) (f : EtUnit → EtUnit) : (updEt u f s).spiOut = s.spiOut := (rfl)
@[simp] theorem updEt_tap (u : Nat) (f : EtUnit → EtUnit) : (updEt u f s).tap = s.tap := (rfl)

@[simp] theorem updCls_pending (c : Nat) (f : Cls → Cls) : (updCls c f s).pending = s.pending := (rfl)
@[simp] theorem updCls_fresh (c : Nat) (f : Cls → Cls) : (updCls c f s).fresh = s.fresh := (rfl)
@[simp] theorem updCls_variant (c : Nat) (f : Cls → Cls) : (updCls c f s).variant = s.variant := (rfl)
@[simp] theorem updCls_inReset (c : Nat) (f : Cls → Cls) : (updCls c f s).inReset = s.inReset := (rfl)
@[simp] theorem updCls_resetting (c : Nat) (f : Cls → Cls) : (updCls c f s).resetting = s.resetting := (rfl)
@[simp] theorem updCls_rstPin (c : Nat) (f : Cls → Cls) : (updCls c f s).rstPin = s.rstPin := (rfl)
@[simp] theorem updCls_ocxo (c : Nat) (f : Cls → Cls) : (updCls c f s).ocxo = s.ocxo := (rfl)
@[simp] theorem updCls_supplyBad (c : Nat) (f : Cls → Cls) : (updCls c f s).supplyBad = s.supplyBad := (rfl)
@[simp] theorem updCls_now (c : Nat) (f : Cls → Cls) : (updCls c f s).now = s.now := (rfl)
@[simp] theorem updCls_cycle (c : Nat) (f : Cls → Cls) : (updCls c f s).cycle = s.cycle := (rfl)
@[simp] theorem updCls_slot (c : Nat) (f : Cls → Cls) : (updCls c f s).slot = s.slot := (rfl)
@[simp] theorem updCls_regs (c : Nat) (f : Cls → Cls) : (updCls c f s).regs = s.regs := (rfl)
@[simp] theorem updCls_ddr (c : Nat) (f : Cls → Cls) : (updCls c f s).ddr = s.ddr := (rfl)
@[simp] theorem updCls_badBursts (c : Nat) (f : Cls → Cls) : (updCls c f s).badBursts = s.badBursts := (rfl)
@[simp] theorem updCls_otpBusy (c : Nat) (f : Cls → Cls) : (updCls c f s).otpBusy = s.otpBusy := (rfl)
@[simp] theorem updCls_trims (c : Nat) (f : Cls → Cls) : (updCls c f s).trims = s.trims := (rfl)
@[simp] theorem updCls_caused (c : Nat) (f : Cls → Cls) : (updCls c f s).caused = s.caused := (rfl)
@[simp] theorem updCls_causedAt (c : Nat) (f : Cls → Cls) : (updCls c f s).causedAt = s.causedAt := (rfl)
@[simp] theorem updCls_asserting (c : Nat) (f : Cls → Cls) : (updCls c f s).asserting = s.asserting := (rfl)
@[simp] theorem updCls_evDone (c : Nat) (f : Cls → Cls) : (updCls c f s).evDone = s.evDone := (rfl)
@[simp] theorem updCls_trig (c : Nat) (f : Cls → Cls) : (updCls c f s).trig = s.trig := (rfl)
@[simp] theorem updCls_marker (c : Nat) (f : Cls → Cls) : (updCls c f s).marker = s.marker := (rfl)
@[simp] theorem updCls_tickLoad (c : Nat) (f : Cls → Cls) : (updCls c f s).tickLoad = s.tickLoad := (rfl)
@[simp] theorem updCls_flw (c : Nat) (f : Cls → Cls) : (updCls c f s).flw = s.flw := (rfl)
@[simp] theorem updCls_barArr (c : Nat) (f : Cls → Cls) : (updCls c f s).barArr = s.barArr := (rfl)
@[simp] theorem updCls_barGone (c : Nat) (f : Cls → Cls) : (updCls c f s).barGone = s.barGone := (rfl)
@[simp] theorem updCls_clrLow (c : Nat) (f : Cls → Cls) : (updCls c f s).clrLow = s.clrLow := (rfl)
@[simp] theorem updCls_clrDue (c : Nat) (f : Cls → Cls) : (updCls c f s).clrDue = s.clrDue := (rfl)
@[simp] theorem updCls_clrRec (c : Nat) (f : Cls → Cls) : (updCls c f s).clrRec = s.clrRec := (rfl)
@[simp] theorem updCls_clrFree (c : Nat) (f : Cls → Cls) : (updCls c f s).clrFree = s.clrFree := (rfl)
@[simp] theorem updCls_rcbStop (c : Nat) (f : Cls → Cls) : (updCls c f s).rcbStop = s.rcbStop := (rfl)
@[simp] theorem updCls_chans (c : Nat) (f : Cls → Cls) : (updCls c f s).chans = s.chans := (rfl)
@[simp] theorem updCls_rcbs (c : Nat) (f : Cls → Cls) : (updCls c f s).rcbs = s.rcbs := (rfl)
@[simp] theorem updCls_lcs (c : Nat) (f : Cls → Cls) : (updCls c f s).lcs = s.lcs := (rfl)
@[simp] theorem updCls_mons (c : Nat) (f : Cls → Cls) : (updCls c f s).mons = s.mons := (rfl)
@[simp] theorem updCls_seqs (c : Nat) (f : Cls → Cls) : (updCls c f s).seqs = s.seqs := (rfl)
@[simp] theorem updCls_edgeImg (c : Nat) (f : Cls → Cls) : (updCls c f s).edgeImg = s.edgeImg := (rfl)
@[simp] theorem updCls_icache (c : Nat) (f : Cls → Cls) : (updCls c f s).icache = s.icache := (rfl)
@[simp] theorem updCls_refetch (c : Nat) (f : Cls → Cls) : (updCls c f s).refetch = s.refetch := (rfl)
@[simp] theorem updCls_res (c : Nat) (f : Cls → Cls) : (updCls c f s).res = s.res := (rfl)
@[simp] theorem updCls_streams (c : Nat) (f : Cls → Cls) : (updCls c f s).streams = s.streams := (rfl)
@[simp] theorem updCls_arb (c : Nat) (f : Cls → Cls) : (updCls c f s).arb = s.arb := (rfl)
@[simp] theorem updCls_hostJobs (c : Nat) (f : Cls → Cls) : (updCls c f s).hostJobs = s.hostJobs := (rfl)
@[simp] theorem updCls_training (c : Nat) (f : Cls → Cls) : (updCls c f s).training = s.training := (rfl)
@[simp] theorem updCls_scrubAt (c : Nat) (f : Cls → Cls) : (updCls c f s).scrubAt = s.scrubAt := (rfl)
@[simp] theorem updCls_fc (c : Nat) (f : Cls → Cls) : (updCls c f s).fc = s.fc := (rfl)
@[simp] theorem updCls_ets (c : Nat) (f : Cls → Cls) : (updCls c f s).ets = s.ets := (rfl)
@[simp] theorem updCls_tb (c : Nat) (f : Cls → Cls) : (updCls c f s).tb = s.tb := (rfl)
@[simp] theorem updCls_obs (c : Nat) (f : Cls → Cls) : (updCls c f s).obs = s.obs := (rfl)
@[simp] theorem updCls_capts (c : Nat) (f : Cls → Cls) : (updCls c f s).capts = s.capts := (rfl)
@[simp] theorem updCls_latches (c : Nat) (f : Cls → Cls) : (updCls c f s).latches = s.latches := (rfl)
@[simp] theorem updCls_spiOut (c : Nat) (f : Cls → Cls) : (updCls c f s).spiOut = s.spiOut := (rfl)
@[simp] theorem updCls_tap (c : Nat) (f : Cls → Cls) : (updCls c f s).tap = s.tap := (rfl)

@[simp] theorem updTrig_pending (p : Nat) (f : TrigPin → TrigPin) : (updTrig p f s).pending = s.pending := (rfl)
@[simp] theorem updTrig_fresh (p : Nat) (f : TrigPin → TrigPin) : (updTrig p f s).fresh = s.fresh := (rfl)
@[simp] theorem updTrig_variant (p : Nat) (f : TrigPin → TrigPin) : (updTrig p f s).variant = s.variant := (rfl)
@[simp] theorem updTrig_inReset (p : Nat) (f : TrigPin → TrigPin) : (updTrig p f s).inReset = s.inReset := (rfl)
@[simp] theorem updTrig_resetting (p : Nat) (f : TrigPin → TrigPin) : (updTrig p f s).resetting = s.resetting := (rfl)
@[simp] theorem updTrig_rstPin (p : Nat) (f : TrigPin → TrigPin) : (updTrig p f s).rstPin = s.rstPin := (rfl)
@[simp] theorem updTrig_ocxo (p : Nat) (f : TrigPin → TrigPin) : (updTrig p f s).ocxo = s.ocxo := (rfl)
@[simp] theorem updTrig_supplyBad (p : Nat) (f : TrigPin → TrigPin) : (updTrig p f s).supplyBad = s.supplyBad := (rfl)
@[simp] theorem updTrig_now (p : Nat) (f : TrigPin → TrigPin) : (updTrig p f s).now = s.now := (rfl)
@[simp] theorem updTrig_cycle (p : Nat) (f : TrigPin → TrigPin) : (updTrig p f s).cycle = s.cycle := (rfl)
@[simp] theorem updTrig_slot (p : Nat) (f : TrigPin → TrigPin) : (updTrig p f s).slot = s.slot := (rfl)
@[simp] theorem updTrig_regs (p : Nat) (f : TrigPin → TrigPin) : (updTrig p f s).regs = s.regs := (rfl)
@[simp] theorem updTrig_ddr (p : Nat) (f : TrigPin → TrigPin) : (updTrig p f s).ddr = s.ddr := (rfl)
@[simp] theorem updTrig_badBursts (p : Nat) (f : TrigPin → TrigPin) : (updTrig p f s).badBursts = s.badBursts := (rfl)
@[simp] theorem updTrig_otpBusy (p : Nat) (f : TrigPin → TrigPin) : (updTrig p f s).otpBusy = s.otpBusy := (rfl)
@[simp] theorem updTrig_trims (p : Nat) (f : TrigPin → TrigPin) : (updTrig p f s).trims = s.trims := (rfl)
@[simp] theorem updTrig_caused (p : Nat) (f : TrigPin → TrigPin) : (updTrig p f s).caused = s.caused := (rfl)
@[simp] theorem updTrig_causedAt (p : Nat) (f : TrigPin → TrigPin) : (updTrig p f s).causedAt = s.causedAt := (rfl)
@[simp] theorem updTrig_asserting (p : Nat) (f : TrigPin → TrigPin) : (updTrig p f s).asserting = s.asserting := (rfl)
@[simp] theorem updTrig_evDone (p : Nat) (f : TrigPin → TrigPin) : (updTrig p f s).evDone = s.evDone := (rfl)
@[simp] theorem updTrig_marker (p : Nat) (f : TrigPin → TrigPin) : (updTrig p f s).marker = s.marker := (rfl)
@[simp] theorem updTrig_tickLoad (p : Nat) (f : TrigPin → TrigPin) : (updTrig p f s).tickLoad = s.tickLoad := (rfl)
@[simp] theorem updTrig_flw (p : Nat) (f : TrigPin → TrigPin) : (updTrig p f s).flw = s.flw := (rfl)
@[simp] theorem updTrig_barArr (p : Nat) (f : TrigPin → TrigPin) : (updTrig p f s).barArr = s.barArr := (rfl)
@[simp] theorem updTrig_barGone (p : Nat) (f : TrigPin → TrigPin) : (updTrig p f s).barGone = s.barGone := (rfl)
@[simp] theorem updTrig_clrLow (p : Nat) (f : TrigPin → TrigPin) : (updTrig p f s).clrLow = s.clrLow := (rfl)
@[simp] theorem updTrig_clrDue (p : Nat) (f : TrigPin → TrigPin) : (updTrig p f s).clrDue = s.clrDue := (rfl)
@[simp] theorem updTrig_clrRec (p : Nat) (f : TrigPin → TrigPin) : (updTrig p f s).clrRec = s.clrRec := (rfl)
@[simp] theorem updTrig_clrFree (p : Nat) (f : TrigPin → TrigPin) : (updTrig p f s).clrFree = s.clrFree := (rfl)
@[simp] theorem updTrig_rcbStop (p : Nat) (f : TrigPin → TrigPin) : (updTrig p f s).rcbStop = s.rcbStop := (rfl)
@[simp] theorem updTrig_chans (p : Nat) (f : TrigPin → TrigPin) : (updTrig p f s).chans = s.chans := (rfl)
@[simp] theorem updTrig_rcbs (p : Nat) (f : TrigPin → TrigPin) : (updTrig p f s).rcbs = s.rcbs := (rfl)
@[simp] theorem updTrig_lcs (p : Nat) (f : TrigPin → TrigPin) : (updTrig p f s).lcs = s.lcs := (rfl)
@[simp] theorem updTrig_mons (p : Nat) (f : TrigPin → TrigPin) : (updTrig p f s).mons = s.mons := (rfl)
@[simp] theorem updTrig_seqs (p : Nat) (f : TrigPin → TrigPin) : (updTrig p f s).seqs = s.seqs := (rfl)
@[simp] theorem updTrig_edgeImg (p : Nat) (f : TrigPin → TrigPin) : (updTrig p f s).edgeImg = s.edgeImg := (rfl)
@[simp] theorem updTrig_icache (p : Nat) (f : TrigPin → TrigPin) : (updTrig p f s).icache = s.icache := (rfl)
@[simp] theorem updTrig_refetch (p : Nat) (f : TrigPin → TrigPin) : (updTrig p f s).refetch = s.refetch := (rfl)
@[simp] theorem updTrig_res (p : Nat) (f : TrigPin → TrigPin) : (updTrig p f s).res = s.res := (rfl)
@[simp] theorem updTrig_streams (p : Nat) (f : TrigPin → TrigPin) : (updTrig p f s).streams = s.streams := (rfl)
@[simp] theorem updTrig_arb (p : Nat) (f : TrigPin → TrigPin) : (updTrig p f s).arb = s.arb := (rfl)
@[simp] theorem updTrig_hostJobs (p : Nat) (f : TrigPin → TrigPin) : (updTrig p f s).hostJobs = s.hostJobs := (rfl)
@[simp] theorem updTrig_training (p : Nat) (f : TrigPin → TrigPin) : (updTrig p f s).training = s.training := (rfl)
@[simp] theorem updTrig_scrubAt (p : Nat) (f : TrigPin → TrigPin) : (updTrig p f s).scrubAt = s.scrubAt := (rfl)
@[simp] theorem updTrig_link (p : Nat) (f : TrigPin → TrigPin) : (updTrig p f s).link = s.link := (rfl)
@[simp] theorem updTrig_fc (p : Nat) (f : TrigPin → TrigPin) : (updTrig p f s).fc = s.fc := (rfl)
@[simp] theorem updTrig_ets (p : Nat) (f : TrigPin → TrigPin) : (updTrig p f s).ets = s.ets := (rfl)
@[simp] theorem updTrig_tb (p : Nat) (f : TrigPin → TrigPin) : (updTrig p f s).tb = s.tb := (rfl)
@[simp] theorem updTrig_obs (p : Nat) (f : TrigPin → TrigPin) : (updTrig p f s).obs = s.obs := (rfl)
@[simp] theorem updTrig_capts (p : Nat) (f : TrigPin → TrigPin) : (updTrig p f s).capts = s.capts := (rfl)
@[simp] theorem updTrig_latches (p : Nat) (f : TrigPin → TrigPin) : (updTrig p f s).latches = s.latches := (rfl)
@[simp] theorem updTrig_spiOut (p : Nat) (f : TrigPin → TrigPin) : (updTrig p f s).spiOut = s.spiOut := (rfl)
@[simp] theorem updTrig_tap (p : Nat) (f : TrigPin → TrigPin) : (updTrig p f s).tap = s.tap := (rfl)

@[simp] theorem cause_pending (e : Nat) : (cause e s).pending = s.pending := (rfl)
@[simp] theorem cause_fresh (e : Nat) : (cause e s).fresh = s.fresh := (rfl)
@[simp] theorem cause_variant (e : Nat) : (cause e s).variant = s.variant := (rfl)
@[simp] theorem cause_inReset (e : Nat) : (cause e s).inReset = s.inReset := (rfl)
@[simp] theorem cause_resetting (e : Nat) : (cause e s).resetting = s.resetting := (rfl)
@[simp] theorem cause_rstPin (e : Nat) : (cause e s).rstPin = s.rstPin := (rfl)
@[simp] theorem cause_ocxo (e : Nat) : (cause e s).ocxo = s.ocxo := (rfl)
@[simp] theorem cause_supplyBad (e : Nat) : (cause e s).supplyBad = s.supplyBad := (rfl)
@[simp] theorem cause_now (e : Nat) : (cause e s).now = s.now := (rfl)
@[simp] theorem cause_cycle (e : Nat) : (cause e s).cycle = s.cycle := (rfl)
@[simp] theorem cause_slot (e : Nat) : (cause e s).slot = s.slot := (rfl)
@[simp] theorem cause_regs (e : Nat) : (cause e s).regs = s.regs := (rfl)
@[simp] theorem cause_ddr (e : Nat) : (cause e s).ddr = s.ddr := (rfl)
@[simp] theorem cause_badBursts (e : Nat) : (cause e s).badBursts = s.badBursts := (rfl)
@[simp] theorem cause_otpBusy (e : Nat) : (cause e s).otpBusy = s.otpBusy := (rfl)
@[simp] theorem cause_trims (e : Nat) : (cause e s).trims = s.trims := (rfl)
@[simp] theorem cause_causedAt (e : Nat) : (cause e s).causedAt = s.causedAt := (rfl)
@[simp] theorem cause_asserting (e : Nat) : (cause e s).asserting = s.asserting := (rfl)
@[simp] theorem cause_evDone (e : Nat) : (cause e s).evDone = s.evDone := (rfl)
@[simp] theorem cause_trig (e : Nat) : (cause e s).trig = s.trig := (rfl)
@[simp] theorem cause_marker (e : Nat) : (cause e s).marker = s.marker := (rfl)
@[simp] theorem cause_tickLoad (e : Nat) : (cause e s).tickLoad = s.tickLoad := (rfl)
@[simp] theorem cause_flw (e : Nat) : (cause e s).flw = s.flw := (rfl)
@[simp] theorem cause_barArr (e : Nat) : (cause e s).barArr = s.barArr := (rfl)
@[simp] theorem cause_barGone (e : Nat) : (cause e s).barGone = s.barGone := (rfl)
@[simp] theorem cause_clrLow (e : Nat) : (cause e s).clrLow = s.clrLow := (rfl)
@[simp] theorem cause_clrDue (e : Nat) : (cause e s).clrDue = s.clrDue := (rfl)
@[simp] theorem cause_clrRec (e : Nat) : (cause e s).clrRec = s.clrRec := (rfl)
@[simp] theorem cause_clrFree (e : Nat) : (cause e s).clrFree = s.clrFree := (rfl)
@[simp] theorem cause_rcbStop (e : Nat) : (cause e s).rcbStop = s.rcbStop := (rfl)
@[simp] theorem cause_chans (e : Nat) : (cause e s).chans = s.chans := (rfl)
@[simp] theorem cause_rcbs (e : Nat) : (cause e s).rcbs = s.rcbs := (rfl)
@[simp] theorem cause_lcs (e : Nat) : (cause e s).lcs = s.lcs := (rfl)
@[simp] theorem cause_mons (e : Nat) : (cause e s).mons = s.mons := (rfl)
@[simp] theorem cause_seqs (e : Nat) : (cause e s).seqs = s.seqs := (rfl)
@[simp] theorem cause_edgeImg (e : Nat) : (cause e s).edgeImg = s.edgeImg := (rfl)
@[simp] theorem cause_icache (e : Nat) : (cause e s).icache = s.icache := (rfl)
@[simp] theorem cause_refetch (e : Nat) : (cause e s).refetch = s.refetch := (rfl)
@[simp] theorem cause_res (e : Nat) : (cause e s).res = s.res := (rfl)
@[simp] theorem cause_streams (e : Nat) : (cause e s).streams = s.streams := (rfl)
@[simp] theorem cause_arb (e : Nat) : (cause e s).arb = s.arb := (rfl)
@[simp] theorem cause_hostJobs (e : Nat) : (cause e s).hostJobs = s.hostJobs := (rfl)
@[simp] theorem cause_training (e : Nat) : (cause e s).training = s.training := (rfl)
@[simp] theorem cause_scrubAt (e : Nat) : (cause e s).scrubAt = s.scrubAt := (rfl)
@[simp] theorem cause_link (e : Nat) : (cause e s).link = s.link := (rfl)
@[simp] theorem cause_fc (e : Nat) : (cause e s).fc = s.fc := (rfl)
@[simp] theorem cause_ets (e : Nat) : (cause e s).ets = s.ets := (rfl)
@[simp] theorem cause_tb (e : Nat) : (cause e s).tb = s.tb := (rfl)
@[simp] theorem cause_obs (e : Nat) : (cause e s).obs = s.obs := (rfl)
@[simp] theorem cause_capts (e : Nat) : (cause e s).capts = s.capts := (rfl)
@[simp] theorem cause_latches (e : Nat) : (cause e s).latches = s.latches := (rfl)
@[simp] theorem cause_spiOut (e : Nat) : (cause e s).spiOut = s.spiOut := (rfl)
@[simp] theorem cause_tap (e : Nat) : (cause e s).tap = s.tap := (rfl)

@[simp] theorem countBy_pending (ev q k : Nat) : (countBy ev q k s).pending = s.pending := (rfl)
@[simp] theorem countBy_fresh (ev q k : Nat) : (countBy ev q k s).fresh = s.fresh := (rfl)
@[simp] theorem countBy_variant (ev q k : Nat) : (countBy ev q k s).variant = s.variant := (rfl)
@[simp] theorem countBy_inReset (ev q k : Nat) : (countBy ev q k s).inReset = s.inReset := (rfl)
@[simp] theorem countBy_resetting (ev q k : Nat) : (countBy ev q k s).resetting = s.resetting := (rfl)
@[simp] theorem countBy_rstPin (ev q k : Nat) : (countBy ev q k s).rstPin = s.rstPin := (rfl)
@[simp] theorem countBy_ocxo (ev q k : Nat) : (countBy ev q k s).ocxo = s.ocxo := (rfl)
@[simp] theorem countBy_supplyBad (ev q k : Nat) : (countBy ev q k s).supplyBad = s.supplyBad := (rfl)
@[simp] theorem countBy_now (ev q k : Nat) : (countBy ev q k s).now = s.now := (rfl)
@[simp] theorem countBy_cycle (ev q k : Nat) : (countBy ev q k s).cycle = s.cycle := (rfl)
@[simp] theorem countBy_slot (ev q k : Nat) : (countBy ev q k s).slot = s.slot := (rfl)
@[simp] theorem countBy_regs (ev q k : Nat) : (countBy ev q k s).regs = s.regs := (rfl)
@[simp] theorem countBy_ddr (ev q k : Nat) : (countBy ev q k s).ddr = s.ddr := (rfl)
@[simp] theorem countBy_badBursts (ev q k : Nat) : (countBy ev q k s).badBursts = s.badBursts := (rfl)
@[simp] theorem countBy_otpBusy (ev q k : Nat) : (countBy ev q k s).otpBusy = s.otpBusy := (rfl)
@[simp] theorem countBy_trims (ev q k : Nat) : (countBy ev q k s).trims = s.trims := (rfl)
@[simp] theorem countBy_caused (ev q k : Nat) : (countBy ev q k s).caused = s.caused := (rfl)
@[simp] theorem countBy_causedAt (ev q k : Nat) : (countBy ev q k s).causedAt = s.causedAt := (rfl)
@[simp] theorem countBy_asserting (ev q k : Nat) : (countBy ev q k s).asserting = s.asserting := (rfl)
@[simp] theorem countBy_evDone (ev q k : Nat) : (countBy ev q k s).evDone = s.evDone := (rfl)
@[simp] theorem countBy_trig (ev q k : Nat) : (countBy ev q k s).trig = s.trig := (rfl)
@[simp] theorem countBy_marker (ev q k : Nat) : (countBy ev q k s).marker = s.marker := (rfl)
@[simp] theorem countBy_tickLoad (ev q k : Nat) : (countBy ev q k s).tickLoad = s.tickLoad := (rfl)
@[simp] theorem countBy_flw (ev q k : Nat) : (countBy ev q k s).flw = s.flw := (rfl)
@[simp] theorem countBy_barArr (ev q k : Nat) : (countBy ev q k s).barArr = s.barArr := (rfl)
@[simp] theorem countBy_barGone (ev q k : Nat) : (countBy ev q k s).barGone = s.barGone := (rfl)
@[simp] theorem countBy_clrLow (ev q k : Nat) : (countBy ev q k s).clrLow = s.clrLow := (rfl)
@[simp] theorem countBy_clrDue (ev q k : Nat) : (countBy ev q k s).clrDue = s.clrDue := (rfl)
@[simp] theorem countBy_clrRec (ev q k : Nat) : (countBy ev q k s).clrRec = s.clrRec := (rfl)
@[simp] theorem countBy_clrFree (ev q k : Nat) : (countBy ev q k s).clrFree = s.clrFree := (rfl)
@[simp] theorem countBy_rcbStop (ev q k : Nat) : (countBy ev q k s).rcbStop = s.rcbStop := (rfl)
@[simp] theorem countBy_chans (ev q k : Nat) : (countBy ev q k s).chans = s.chans := (rfl)
@[simp] theorem countBy_rcbs (ev q k : Nat) : (countBy ev q k s).rcbs = s.rcbs := (rfl)
@[simp] theorem countBy_lcs (ev q k : Nat) : (countBy ev q k s).lcs = s.lcs := (rfl)
@[simp] theorem countBy_mons (ev q k : Nat) : (countBy ev q k s).mons = s.mons := (rfl)
@[simp] theorem countBy_seqs (ev q k : Nat) : (countBy ev q k s).seqs = s.seqs := (rfl)
@[simp] theorem countBy_edgeImg (ev q k : Nat) : (countBy ev q k s).edgeImg = s.edgeImg := (rfl)
@[simp] theorem countBy_icache (ev q k : Nat) : (countBy ev q k s).icache = s.icache := (rfl)
@[simp] theorem countBy_refetch (ev q k : Nat) : (countBy ev q k s).refetch = s.refetch := (rfl)
@[simp] theorem countBy_res (ev q k : Nat) : (countBy ev q k s).res = s.res := (rfl)
@[simp] theorem countBy_streams (ev q k : Nat) : (countBy ev q k s).streams = s.streams := (rfl)
@[simp] theorem countBy_arb (ev q k : Nat) : (countBy ev q k s).arb = s.arb := (rfl)
@[simp] theorem countBy_hostJobs (ev q k : Nat) : (countBy ev q k s).hostJobs = s.hostJobs := (rfl)
@[simp] theorem countBy_training (ev q k : Nat) : (countBy ev q k s).training = s.training := (rfl)
@[simp] theorem countBy_scrubAt (ev q k : Nat) : (countBy ev q k s).scrubAt = s.scrubAt := (rfl)
@[simp] theorem countBy_link (ev q k : Nat) : (countBy ev q k s).link = s.link := (rfl)
@[simp] theorem countBy_fc (ev q k : Nat) : (countBy ev q k s).fc = s.fc := (rfl)
@[simp] theorem countBy_ets (ev q k : Nat) : (countBy ev q k s).ets = s.ets := (rfl)
@[simp] theorem countBy_tb (ev q k : Nat) : (countBy ev q k s).tb = s.tb := (rfl)
@[simp] theorem countBy_capts (ev q k : Nat) : (countBy ev q k s).capts = s.capts := (rfl)
@[simp] theorem countBy_latches (ev q k : Nat) : (countBy ev q k s).latches = s.latches := (rfl)
@[simp] theorem countBy_spiOut (ev q k : Nat) : (countBy ev q k s).spiOut = s.spiOut := (rfl)
@[simp] theorem countBy_tap (ev q k : Nat) : (countBy ev q k s).tap = s.tap := (rfl)

@[simp] theorem sendRaw_pending (x : Msg) : (sendRaw x s).pending = s.pending := (rfl)
@[simp] theorem sendRaw_fresh (x : Msg) : (sendRaw x s).fresh = s.fresh := (rfl)
@[simp] theorem sendRaw_variant (x : Msg) : (sendRaw x s).variant = s.variant := (rfl)
@[simp] theorem sendRaw_inReset (x : Msg) : (sendRaw x s).inReset = s.inReset := (rfl)
@[simp] theorem sendRaw_resetting (x : Msg) : (sendRaw x s).resetting = s.resetting := (rfl)
@[simp] theorem sendRaw_rstPin (x : Msg) : (sendRaw x s).rstPin = s.rstPin := (rfl)
@[simp] theorem sendRaw_ocxo (x : Msg) : (sendRaw x s).ocxo = s.ocxo := (rfl)
@[simp] theorem sendRaw_supplyBad (x : Msg) : (sendRaw x s).supplyBad = s.supplyBad := (rfl)
@[simp] theorem sendRaw_now (x : Msg) : (sendRaw x s).now = s.now := (rfl)
@[simp] theorem sendRaw_cycle (x : Msg) : (sendRaw x s).cycle = s.cycle := (rfl)
@[simp] theorem sendRaw_slot (x : Msg) : (sendRaw x s).slot = s.slot := (rfl)
@[simp] theorem sendRaw_regs (x : Msg) : (sendRaw x s).regs = s.regs := (rfl)
@[simp] theorem sendRaw_ddr (x : Msg) : (sendRaw x s).ddr = s.ddr := (rfl)
@[simp] theorem sendRaw_badBursts (x : Msg) : (sendRaw x s).badBursts = s.badBursts := (rfl)
@[simp] theorem sendRaw_otpBusy (x : Msg) : (sendRaw x s).otpBusy = s.otpBusy := (rfl)
@[simp] theorem sendRaw_trims (x : Msg) : (sendRaw x s).trims = s.trims := (rfl)
@[simp] theorem sendRaw_caused (x : Msg) : (sendRaw x s).caused = s.caused := (rfl)
@[simp] theorem sendRaw_causedAt (x : Msg) : (sendRaw x s).causedAt = s.causedAt := (rfl)
@[simp] theorem sendRaw_asserting (x : Msg) : (sendRaw x s).asserting = s.asserting := (rfl)
@[simp] theorem sendRaw_evDone (x : Msg) : (sendRaw x s).evDone = s.evDone := (rfl)
@[simp] theorem sendRaw_trig (x : Msg) : (sendRaw x s).trig = s.trig := (rfl)
@[simp] theorem sendRaw_marker (x : Msg) : (sendRaw x s).marker = s.marker := (rfl)
@[simp] theorem sendRaw_tickLoad (x : Msg) : (sendRaw x s).tickLoad = s.tickLoad := (rfl)
@[simp] theorem sendRaw_flw (x : Msg) : (sendRaw x s).flw = s.flw := (rfl)
@[simp] theorem sendRaw_barArr (x : Msg) : (sendRaw x s).barArr = s.barArr := (rfl)
@[simp] theorem sendRaw_barGone (x : Msg) : (sendRaw x s).barGone = s.barGone := (rfl)
@[simp] theorem sendRaw_clrLow (x : Msg) : (sendRaw x s).clrLow = s.clrLow := (rfl)
@[simp] theorem sendRaw_clrDue (x : Msg) : (sendRaw x s).clrDue = s.clrDue := (rfl)
@[simp] theorem sendRaw_clrRec (x : Msg) : (sendRaw x s).clrRec = s.clrRec := (rfl)
@[simp] theorem sendRaw_clrFree (x : Msg) : (sendRaw x s).clrFree = s.clrFree := (rfl)
@[simp] theorem sendRaw_rcbStop (x : Msg) : (sendRaw x s).rcbStop = s.rcbStop := (rfl)
@[simp] theorem sendRaw_chans (x : Msg) : (sendRaw x s).chans = s.chans := (rfl)
@[simp] theorem sendRaw_rcbs (x : Msg) : (sendRaw x s).rcbs = s.rcbs := (rfl)
@[simp] theorem sendRaw_lcs (x : Msg) : (sendRaw x s).lcs = s.lcs := (rfl)
@[simp] theorem sendRaw_mons (x : Msg) : (sendRaw x s).mons = s.mons := (rfl)
@[simp] theorem sendRaw_seqs (x : Msg) : (sendRaw x s).seqs = s.seqs := (rfl)
@[simp] theorem sendRaw_edgeImg (x : Msg) : (sendRaw x s).edgeImg = s.edgeImg := (rfl)
@[simp] theorem sendRaw_icache (x : Msg) : (sendRaw x s).icache = s.icache := (rfl)
@[simp] theorem sendRaw_refetch (x : Msg) : (sendRaw x s).refetch = s.refetch := (rfl)
@[simp] theorem sendRaw_res (x : Msg) : (sendRaw x s).res = s.res := (rfl)
@[simp] theorem sendRaw_streams (x : Msg) : (sendRaw x s).streams = s.streams := (rfl)
@[simp] theorem sendRaw_arb (x : Msg) : (sendRaw x s).arb = s.arb := (rfl)
@[simp] theorem sendRaw_hostJobs (x : Msg) : (sendRaw x s).hostJobs = s.hostJobs := (rfl)
@[simp] theorem sendRaw_training (x : Msg) : (sendRaw x s).training = s.training := (rfl)
@[simp] theorem sendRaw_scrubAt (x : Msg) : (sendRaw x s).scrubAt = s.scrubAt := (rfl)
@[simp] theorem sendRaw_link (x : Msg) : (sendRaw x s).link = s.link := (rfl)
@[simp] theorem sendRaw_ets (x : Msg) : (sendRaw x s).ets = s.ets := (rfl)
@[simp] theorem sendRaw_tb (x : Msg) : (sendRaw x s).tb = s.tb := (rfl)
@[simp] theorem sendRaw_obs (x : Msg) : (sendRaw x s).obs = s.obs := (rfl)
@[simp] theorem sendRaw_capts (x : Msg) : (sendRaw x s).capts = s.capts := (rfl)
@[simp] theorem sendRaw_latches (x : Msg) : (sendRaw x s).latches = s.latches := (rfl)
@[simp] theorem sendRaw_spiOut (x : Msg) : (sendRaw x s).spiOut = s.spiOut := (rfl)
@[simp] theorem sendRaw_tap (x : Msg) : (sendRaw x s).tap = s.tap := (rfl)

end Sys2Proof.Machine
end

