-- ==== Sys2Proof/Laws/Word.lean ====
section
/-! SUPPORT. Bit fields of words: what a field written reads as, and that other fields keep their value. -/

namespace Sys2Proof

theorem fld_lt (w : Word) (lo len : Nat) : fld w lo len < 2 ^ len := Nat.mod_lt _ (Nat.two_pow_pos _)

/-- The value of a word with a field replaced, while the field lies within the word. -/
theorem setFld_toNat (w : Word) (lo len v : Nat) (h : lo + len ≤ 32) :
    (setFld w lo len v).toNat =
      w.toNat / 2 ^ (lo + len) * 2 ^ (lo + len) + v % 2 ^ len * 2 ^ lo + w.toNat % 2 ^ lo := by
  unfold setFld
  rw [BitVec.toNat_ofNat, Nat.mod_eq_of_lt]
  have hl : w.toNat % 2 ^ lo < 2 ^ lo := Nat.mod_lt _ (Nat.two_pow_pos _)
  have hv : v % 2 ^ len + 1 ≤ 2 ^ len := Nat.mod_lt _ (Nat.two_pow_pos _)
  have hm : v % 2 ^ len * 2 ^ lo + w.toNat % 2 ^ lo < 2 ^ (lo + len) := by
    have := Nat.mul_le_mul_right (2 ^ lo) hv
    rw [Nat.add_mul, ← pow_add, Nat.add_comm len lo] at this
    omega
  have hw : w.toNat < 2 ^ 32 := w.isLt
  have hq : w.toNat / 2 ^ (lo + len) + 1 ≤ 2 ^ (32 - (lo + len)) := by
    apply Nat.succ_le_of_lt
    rw [Nat.div_lt_iff_lt_mul (Nat.two_pow_pos _), ← pow_add]
    rwa [Nat.sub_add_cancel h]
  have := Nat.mul_le_mul_right (2 ^ (lo + len)) hq
  rw [Nat.add_mul, ← pow_add, Nat.sub_add_cancel h] at this
  omega

/-- A field written reads as the value, cut to its width. -/
theorem fld_setFld (w : Word) (lo len v : Nat) (h : lo + len ≤ 32) : fld (setFld w lo len v) lo len = v % 2 ^ len := by
  unfold fld
  rw [setFld_toNat w lo len v h]
  have hl : w.toNat % 2 ^ lo < 2 ^ lo := Nat.mod_lt _ (Nat.two_pow_pos _)
  have : w.toNat / 2 ^ (lo + len) * 2 ^ (lo + len) + v % 2 ^ len * 2 ^ lo + w.toNat % 2 ^ lo =
      w.toNat % 2 ^ lo + 2 ^ lo * (w.toNat / 2 ^ (lo + len) * 2 ^ len + v % 2 ^ len) := by
    rw [pow_add, Nat.mul_add]; ring
  rw [this, Nat.add_mul_div_left _ _ (Nat.two_pow_pos _), Nat.div_eq_of_lt hl, Nat.zero_add, Nat.add_comm,
    Nat.add_mul_mod_self_right, Nat.mod_mod]

/-- A field above a written one keeps its value. -/
theorem fld_setFld_above (w : Word) (lo len v lo' len' : Nat) (h : lo + len ≤ 32) (ha : lo + len ≤ lo') :
    fld (setFld w lo len v) lo' len' = fld w lo' len' := by
  unfold fld
  rw [setFld_toNat w lo len v h]
  congr 1
  obtain ⟨d, rfl⟩ := Nat.exists_eq_add_of_le ha
  have hl : w.toNat % 2 ^ lo < 2 ^ lo := Nat.mod_lt _ (Nat.two_pow_pos _)
  have hv : v % 2 ^ len + 1 ≤ 2 ^ len := Nat.mod_lt _ (Nat.two_pow_pos _)
  have hm : v % 2 ^ len * 2 ^ lo + w.toNat % 2 ^ lo < 2 ^ (lo + len) := by
    have := Nat.mul_le_mul_right (2 ^ lo) hv
    rw [Nat.add_mul, ← pow_add, Nat.add_comm len lo] at this
    omega
  rw [pow_add 2 (lo + len) d, ← Nat.div_div_eq_div_mul, ← Nat.div_div_eq_div_mul, Nat.add_assoc, Nat.add_comm (_ * _),
    Nat.add_mul_div_right _ _ (Nat.two_pow_pos _), Nat.div_eq_of_lt hm, Nat.zero_add]

/-- A field below a written one keeps its value. -/
theorem fld_setFld_below (w : Word) (lo len v lo' len' : Nat) (h : lo + len ≤ 32) (hb : lo' + len' ≤ lo) :
    fld (setFld w lo len v) lo' len' = fld w lo' len' := by
  unfold fld
  rw [setFld_toNat w lo len v h, ← Nat.mod_mul_right_div_self, ← Nat.mod_mul_right_div_self, ← pow_add]
  congr 1
  obtain ⟨d, rfl⟩ := Nat.exists_eq_add_of_le hb
  have e : w.toNat / 2 ^ (lo' + len' + d + len) * 2 ^ (lo' + len' + d + len) + v % 2 ^ len * 2 ^ (lo' + len' + d)
      + w.toNat % 2 ^ (lo' + len' + d)
      = w.toNat % 2 ^ (lo' + len' + d) + 2 ^ (lo' + len') * (2 ^ d * (w.toNat / 2 ^ (lo' + len' + d + len) * 2 ^ len + v % 2 ^ len)) := by
    simp only [pow_add]; ring
  rw [e, Nat.add_mul_mod_self_left, Nat.mod_mod_of_dvd _ (pow_dvd_pow 2 (Nat.le_add_right _ d))]

/-- Fields that do not overlap do not disturb each other. -/
theorem fld_setFld_of_disjoint (w : Word) (lo len v lo' len' : Nat) (h : lo + len ≤ 32)
    (hd : lo + len ≤ lo' ∨ lo' + len' ≤ lo) : fld (setFld w lo len v) lo' len' = fld w lo' len' := by
  rcases hd with ha | hb
  · exact fld_setFld_above w lo len v lo' len' h ha
  · exact fld_setFld_below w lo len v lo' len' h hb

theorem bit_eq_fld (w : Word) (i : Nat) : bit w i = decide (fld w i 1 = 1) := by
  unfold bit fld
  rw [pow_one, Bool.beq_eq_decide_eq]

end Sys2Proof
end

