-- ==== Sys2Proof/Laws/Read.lean ====
section
/-! SUPPORT. Reading after writing: registers, their fields, and the structures by number. -/

namespace Sys2Proof.Machine

variable (s : State)

/-! ### Registers -/

@[simp] theorem rd_wr_same (a : Nat) (w : Word) : rd (wr a w s) a = w := Map.get_put_same _ _ _ _

theorem rd_wr_of_ne {a b : Nat} (w : Word) (h : a ≠ b) : rd (wr a w s) b = rd s b := Map.get_put_of_ne _ _ _ w h

theorem rd_wr (a b : Nat) (w : Word) : rd (wr a w s) b = if a = b then w else rd s b := by
  by_cases h : a = b
  · subst h; simp
  · rw [rd_wr_of_ne s w h, if_neg h]

theorem rd_sf_of_ne {a b : Nat} (lo len v : Nat) (h : a ≠ b) : rd (sf a lo len v s) b = rd s b := rd_wr_of_ne s _ h

theorem rd_sb_of_ne {a b : Nat} (i : Nat) (v : Bool) (h : a ≠ b) : rd (sb a i v s) b = rd s b := rd_wr_of_ne s _ h

theorem rd_flag_of_ne {a b : Nat} (i : Nat) (h : a ≠ b) : rd (flag a i s) b = rd s b := rd_wr_of_ne s _ h

theorem rd_bumpBy_of_ne {a b : Nat} (lo len k : Nat) (h : a ≠ b) : rd (bumpBy a lo len k s) b = rd s b := rd_wr_of_ne s _ h

theorem rd_bump_of_ne {a b : Nat} (lo len : Nat) (h : a ≠ b) : rd (bump a lo len s) b = rd s b := rd_wr_of_ne s _ h

theorem gf_sf_same (a lo len v : Nat) (h : lo + len ≤ 32) : gf (sf a lo len v s) a lo len = v % 2 ^ len := by
  unfold gf sf
  rw [rd_wr_same]
  exact fld_setFld _ lo len v h

theorem gf_sf_of_disjoint (a lo len v lo' len' : Nat) (h : lo + len ≤ 32) (hd : lo + len ≤ lo' ∨ lo' + len' ≤ lo) :
    gf (sf a lo len v s) a lo' len' = gf s a lo' len' := by
  unfold gf sf
  rw [rd_wr_same]
  exact fld_setFld_of_disjoint _ lo len v lo' len' h hd

theorem gf_sf_of_ne {a b : Nat} (lo len v lo' len' : Nat) (h : a ≠ b) : gf (sf a lo len v s) b lo' len' = gf s b lo' len' := by
  unfold gf
  rw [rd_sf_of_ne s lo len v h]

theorem gb_eq_gf (a i : Nat) : gb s a i = decide (gf s a i 1 = 1) := bit_eq_fld _ i

theorem gb_sb_same (a i : Nat) (b : Bool) (h : i < 32) : gb (sb a i b s) a i = b := by
  rw [gb_eq_gf]
  unfold sb
  rw [gf_sf_same s a i 1 _ (by omega)]
  cases b <;> rfl

theorem gb_sb_of_ne_bit (a i j : Nat) (b : Bool) (h : i < 32) (hj : i ≠ j) : gb (sb a i b s) a j = gb s a j := by
  rw [gb_eq_gf, gb_eq_gf]
  unfold sb
  rw [gf_sf_of_disjoint s a i 1 _ j 1 (by omega) (by omega)]

theorem gb_flag_same (a i : Nat) (h : i < 32) : gb (flag a i s) a i = true := gb_sb_same s a i true h

theorem gf_bump_same (a lo len : Nat) (h : lo + len ≤ 32) :
    gf (bump a lo len s) a lo len = min (gf s a lo len + 1) (2 ^ len - 1) := by
  unfold bump bumpBy
  rw [gf_sf_same s a lo len _ h, Nat.mod_eq_of_lt]
  have := Nat.two_pow_pos len
  omega

/-! ### The structures by number -/

theorem chan_updChan (n m : Nat) (f : Chan → Chan) : chan (updChan n f s) m = if n = m then f (chan s n) else chan s m := Map.get_put _ _ _ _ _

@[simp] theorem chan_updChan_same (n : Nat) (f : Chan → Chan) : chan (updChan n f s) n = f (chan s n) := Map.get_put_same _ _ _ _

theorem rcb_updRcb (n m : Nat) (f : Rcb → Rcb) : rcb (updRcb n f s) m = if n = m then f (rcb s n) else rcb s m := Map.get_put _ _ _ _ _

@[simp] theorem rcb_updRcb_same (n : Nat) (f : Rcb → Rcb) : rcb (updRcb n f s) n = f (rcb s n) := Map.get_put_same _ _ _ _

theorem lcore_updLc (n m : Nat) (f : LoopCore → LoopCore) : lcore (updLc n f s) m = if n = m then f (lcore s n) else lcore s m := Map.get_put _ _ _ _ _

@[simp] theorem lcore_updLc_same (n : Nat) (f : LoopCore → LoopCore) : lcore (updLc n f s) n = f (lcore s n) := Map.get_put_same _ _ _ _

theorem mon_updMon (n m : Nat) (f : Mon → Mon) : mon (updMon n f s) m = if n = m then f (mon s n) else mon s m := Map.get_put _ _ _ _ _

@[simp] theorem mon_updMon_same (n : Nat) (f : Mon → Mon) : mon (updMon n f s) n = f (mon s n) := Map.get_put_same _ _ _ _

theorem seq_updSeq (n m : Nat) (f : Seq → Seq) : seq (updSeq n f s) m = if n = m then f (seq s n) else seq s m := Map.get_put _ _ _ _ _

@[simp] theorem seq_updSeq_same (n : Nat) (f : Seq → Seq) : seq (updSeq n f s) n = f (seq s n) := Map.get_put_same _ _ _ _

theorem resOf_updRes (n m : Nat) (f : Res → Res) : resOf (updRes n f s) m = if n = m then f (resOf s n) else resOf s m := Map.get_put _ _ _ _ _

@[simp] theorem resOf_updRes_same (n : Nat) (f : Res → Res) : resOf (updRes n f s) n = f (resOf s n) := Map.get_put_same _ _ _ _

theorem strm_updStrm (n m : Nat) (f : Stream → Stream) : strm (updStrm n f s) m = if n = m then f (strm s n) else strm s m := Map.get_put _ _ _ _ _

@[simp] theorem strm_updStrm_same (n : Nat) (f : Stream → Stream) : strm (updStrm n f s) n = f (strm s n) := Map.get_put_same _ _ _ _

theorem etu_updEt (n m : Nat) (f : EtUnit → EtUnit) : etu (updEt n f s) m = if n = m then f (etu s n) else etu s m := Map.get_put _ _ _ _ _

@[simp] theorem etu_updEt_same (n : Nat) (f : EtUnit → EtUnit) : etu (updEt n f s) n = f (etu s n) := Map.get_put_same _ _ _ _

theorem lcls_updCls (n m : Nat) (f : Cls → Cls) : lcls (updCls n f s) m = if n = m then f (lcls s n) else lcls s m := Map.get_put _ _ _ _ _

@[simp] theorem lcls_updCls_same (n : Nat) (f : Cls → Cls) : lcls (updCls n f s) n = f (lcls s n) := Map.get_put_same _ _ _ _

theorem tpin_updTrig (n m : Nat) (f : TrigPin → TrigPin) : tpin (updTrig n f s) m = if n = m then f (tpin s n) else tpin s m := Map.get_put _ _ _ _ _

@[simp] theorem tpin_updTrig_same (n : Nat) (f : TrigPin → TrigPin) : tpin (updTrig n f s) n = f (tpin s n) := Map.get_put_same _ _ _ _

@[simp] theorem rd_updChan (n : Nat) (f : Chan → Chan) (m : Nat) : rd (updChan n f s) m = rd s m := (rfl)
@[simp] theorem rd_updRcb (g : Nat) (f : Rcb → Rcb) (m : Nat) : rd (updRcb g f s) m = rd s m := (rfl)
@[simp] theorem rd_updLc (g : Nat) (f : LoopCore → LoopCore) (m : Nat) : rd (updLc g f s) m = rd s m := (rfl)
@[simp] theorem rd_updMon (g : Nat) (f : Mon → Mon) (m : Nat) : rd (updMon g f s) m = rd s m := (rfl)
@[simp] theorem rd_updSeq (n : Nat) (f : Seq → Seq) (m : Nat) : rd (updSeq n f s) m = rd s m := (rfl)
@[simp] theorem rd_updRes (r : Nat) (f : Res → Res) (m : Nat) : rd (updRes r f s) m = rd s m := (rfl)
@[simp] theorem rd_updStrm (k : Nat) (f : Stream → Stream) (m : Nat) : rd (updStrm k f s) m = rd s m := (rfl)
@[simp] theorem rd_updEt (u : Nat) (f : EtUnit → EtUnit) (m : Nat) : rd (updEt u f s) m = rd s m := (rfl)
@[simp] theorem rd_updCls (c : Nat) (f : Cls → Cls) (m : Nat) : rd (updCls c f s) m = rd s m := (rfl)
@[simp] theorem rd_updTrig (p : Nat) (f : TrigPin → TrigPin) (m : Nat) : rd (updTrig p f s) m = rd s m := (rfl)
@[simp] theorem rd_cause (e : Nat) (m : Nat) : rd (cause e s) m = rd s m := (rfl)
@[simp] theorem rd_countBy (ev q k : Nat) (m : Nat) : rd (countBy ev q k s) m = rd s m := (rfl)
@[simp] theorem rd_sendRaw (x : Msg) (m : Nat) : rd (sendRaw x s) m = rd s m := (rfl)

@[simp] theorem gf_updChan (n : Nat) (f : Chan → Chan) (m l i : Nat) : gf (updChan n f s) m l i = gf s m l i := (rfl)
@[simp] theorem gf_updRcb (g : Nat) (f : Rcb → Rcb) (m l i : Nat) : gf (updRcb g f s) m l i = gf s m l i := (rfl)
@[simp] theorem gf_updLc (g : Nat) (f : LoopCore → LoopCore) (m l i : Nat) : gf (updLc g f s) m l i = gf s m l i := (rfl)
@[simp] theorem gf_updMon (g : Nat) (f : Mon → Mon) (m l i : Nat) : gf (updMon g f s) m l i = gf s m l i := (rfl)
@[simp] theorem gf_updSeq (n : Nat) (f : Seq → Seq) (m l i : Nat) : gf (updSeq n f s) m l i = gf s m l i := (rfl)
@[simp] theorem gf_updRes (r : Nat) (f : Res → Res) (m l i : Nat) : gf (updRes r f s) m l i = gf s m l i := (rfl)
@[simp] theorem gf_updStrm (k : Nat) (f : Stream → Stream) (m l i : Nat) : gf (updStrm k f s) m l i = gf s m l i := (rfl)
@[simp] theorem gf_updEt (u : Nat) (f : EtUnit → EtUnit) (m l i : Nat) : gf (updEt u f s) m l i = gf s m l i := (rfl)
@[simp] theorem gf_updCls (c : Nat) (f : Cls → Cls) (m l i : Nat) : gf (updCls c f s) m l i = gf s m l i := (rfl)
@[simp] theorem gf_updTrig (p : Nat) (f : TrigPin → TrigPin) (m l i : Nat) : gf (updTrig p f s) m l i = gf s m l i := (rfl)
@[simp] theorem gf_cause (e : Nat) (m l i : Nat) : gf (cause e s) m l i = gf s m l i := (rfl)
@[simp] theorem gf_countBy (ev q k : Nat) (m l i : Nat) : gf (countBy ev q k s) m l i = gf s m l i := (rfl)
@[simp] theorem gf_sendRaw (x : Msg) (m l i : Nat) : gf (sendRaw x s) m l i = gf s m l i := (rfl)

@[simp] theorem gb_updChan (n : Nat) (f : Chan → Chan) (m j : Nat) : gb (updChan n f s) m j = gb s m j := (rfl)
@[simp] theorem gb_updRcb (g : Nat) (f : Rcb → Rcb) (m j : Nat) : gb (updRcb g f s) m j = gb s m j := (rfl)
@[simp] theorem gb_updLc (g : Nat) (f : LoopCore → LoopCore) (m j : Nat) : gb (updLc g f s) m j = gb s m j := (rfl)
@[simp] theorem gb_updMon (g : Nat) (f : Mon → Mon) (m j : Nat) : gb (updMon g f s) m j = gb s m j := (rfl)
@[simp] theorem gb_updSeq (n : Nat) (f : Seq → Seq) (m j : Nat) : gb (updSeq n f s) m j = gb s m j := (rfl)
@[simp] theorem gb_updRes (r : Nat) (f : Res → Res) (m j : Nat) : gb (updRes r f s) m j = gb s m j := (rfl)
@[simp] theorem gb_updStrm (k : Nat) (f : Stream → Stream) (m j : Nat) : gb (updStrm k f s) m j = gb s m j := (rfl)
@[simp] theorem gb_updEt (u : Nat) (f : EtUnit → EtUnit) (m j : Nat) : gb (updEt u f s) m j = gb s m j := (rfl)
@[simp] theorem gb_updCls (c : Nat) (f : Cls → Cls) (m j : Nat) : gb (updCls c f s) m j = gb s m j := (rfl)
@[simp] theorem gb_updTrig (p : Nat) (f : TrigPin → TrigPin) (m j : Nat) : gb (updTrig p f s) m j = gb s m j := (rfl)
@[simp] theorem gb_cause (e : Nat) (m j : Nat) : gb (cause e s) m j = gb s m j := (rfl)
@[simp] theorem gb_countBy (ev q k : Nat) (m j : Nat) : gb (countBy ev q k s) m j = gb s m j := (rfl)
@[simp] theorem gb_sendRaw (x : Msg) (m j : Nat) : gb (sendRaw x s) m j = gb s m j := (rfl)

@[simp] theorem rd64_updChan (n : Nat) (f : Chan → Chan) (m : Nat) : rd64 (updChan n f s) m = rd64 s m := (rfl)
@[simp] theorem rd64_updRcb (g : Nat) (f : Rcb → Rcb) (m : Nat) : rd64 (updRcb g f s) m = rd64 s m := (rfl)
@[simp] theorem rd64_updLc (g : Nat) (f : LoopCore → LoopCore) (m : Nat) : rd64 (updLc g f s) m = rd64 s m := (rfl)
@[simp] theorem rd64_updMon (g : Nat) (f : Mon → Mon) (m : Nat) : rd64 (updMon g f s) m = rd64 s m := (rfl)
@[simp] theorem rd64_updSeq (n : Nat) (f : Seq → Seq) (m : Nat) : rd64 (updSeq n f s) m = rd64 s m := (rfl)
@[simp] theorem rd64_updRes (r : Nat) (f : Res → Res) (m : Nat) : rd64 (updRes r f s) m = rd64 s m := (rfl)
@[simp] theorem rd64_updStrm (k : Nat) (f : Stream → Stream) (m : Nat) : rd64 (updStrm k f s) m = rd64 s m := (rfl)
@[simp] theorem rd64_updEt (u : Nat) (f : EtUnit → EtUnit) (m : Nat) : rd64 (updEt u f s) m = rd64 s m := (rfl)
@[simp] theorem rd64_updCls (c : Nat) (f : Cls → Cls) (m : Nat) : rd64 (updCls c f s) m = rd64 s m := (rfl)
@[simp] theorem rd64_updTrig (p : Nat) (f : TrigPin → TrigPin) (m : Nat) : rd64 (updTrig p f s) m = rd64 s m := (rfl)
@[simp] theorem rd64_cause (e : Nat) (m : Nat) : rd64 (cause e s) m = rd64 s m := (rfl)
@[simp] theorem rd64_countBy (ev q k : Nat) (m : Nat) : rd64 (countBy ev q k s) m = rd64 s m := (rfl)
@[simp] theorem rd64_sendRaw (x : Msg) (m : Nat) : rd64 (sendRaw x s) m = rd64 s m := (rfl)

@[simp] theorem ticktime_updChan (n : Nat) (f : Chan → Chan) : ticktime (updChan n f s) = ticktime s := (rfl)
@[simp] theorem ticktime_updRcb (g : Nat) (f : Rcb → Rcb) : ticktime (updRcb g f s) = ticktime s := (rfl)
@[simp] theorem ticktime_updLc (g : Nat) (f : LoopCore → LoopCore) : ticktime (updLc g f s) = ticktime s := (rfl)
@[simp] theorem ticktime_updMon (g : Nat) (f : Mon → Mon) : ticktime (updMon g f s) = ticktime s := (rfl)
@[simp] theorem ticktime_updSeq (n : Nat) (f : Seq → Seq) : ticktime (updSeq n f s) = ticktime s := (rfl)
@[simp] theorem ticktime_updRes (r : Nat) (f : Res → Res) : ticktime (updRes r f s) = ticktime s := (rfl)
@[simp] theorem ticktime_updStrm (k : Nat) (f : Stream → Stream) : ticktime (updStrm k f s) = ticktime s := (rfl)
@[simp] theorem ticktime_updEt (u : Nat) (f : EtUnit → EtUnit) : ticktime (updEt u f s) = ticktime s := (rfl)
@[simp] theorem ticktime_updCls (c : Nat) (f : Cls → Cls) : ticktime (updCls c f s) = ticktime s := (rfl)
@[simp] theorem ticktime_updTrig (p : Nat) (f : TrigPin → TrigPin) : ticktime (updTrig p f s) = ticktime s := (rfl)
@[simp] theorem ticktime_cause (e : Nat) : ticktime (cause e s) = ticktime s := (rfl)
@[simp] theorem ticktime_countBy (ev q k : Nat) : ticktime (countBy ev q k s) = ticktime s := (rfl)
@[simp] theorem ticktime_sendRaw (x : Msg) : ticktime (sendRaw x s) = ticktime s := (rfl)

@[simp] theorem running_updChan (n : Nat) (f : Chan → Chan) : running (updChan n f s) = running s := (rfl)
@[simp] theorem running_updRcb (g : Nat) (f : Rcb → Rcb) : running (updRcb g f s) = running s := (rfl)
@[simp] theorem running_updLc (g : Nat) (f : LoopCore → LoopCore) : running (updLc g f s) = running s := (rfl)
@[simp] theorem running_updMon (g : Nat) (f : Mon → Mon) : running (updMon g f s) = running s := (rfl)
@[simp] theorem running_updSeq (n : Nat) (f : Seq → Seq) : running (updSeq n f s) = running s := (rfl)
@[simp] theorem running_updRes (r : Nat) (f : Res → Res) : running (updRes r f s) = running s := (rfl)
@[simp] theorem running_updStrm (k : Nat) (f : Stream → Stream) : running (updStrm k f s) = running s := (rfl)
@[simp] theorem running_updEt (u : Nat) (f : EtUnit → EtUnit) : running (updEt u f s) = running s := (rfl)
@[simp] theorem running_updCls (c : Nat) (f : Cls → Cls) : running (updCls c f s) = running s := (rfl)
@[simp] theorem running_updTrig (p : Nat) (f : TrigPin → TrigPin) : running (updTrig p f s) = running s := (rfl)
@[simp] theorem running_cause (e : Nat) : running (cause e s) = running s := (rfl)
@[simp] theorem running_countBy (ev q k : Nat) : running (countBy ev q k s) = running s := (rfl)
@[simp] theorem running_sendRaw (x : Msg) : running (sendRaw x s) = running s := (rfl)

@[simp] theorem chan_wr (a : Nat) (w : Word) (m : Nat) : chan (wr a w s) m = chan s m := (rfl)
@[simp] theorem chan_sf (a lo len v : Nat) (m : Nat) : chan (sf a lo len v s) m = chan s m := (rfl)
@[simp] theorem chan_sb (a i : Nat) (b : Bool) (m : Nat) : chan (sb a i b s) m = chan s m := (rfl)
@[simp] theorem chan_flag (a i : Nat) (m : Nat) : chan (flag a i s) m = chan s m := (rfl)
@[simp] theorem chan_bumpBy (a lo len k : Nat) (m : Nat) : chan (bumpBy a lo len k s) m = chan s m := (rfl)
@[simp] theorem chan_bump (a lo len : Nat) (m : Nat) : chan (bump a lo len s) m = chan s m := (rfl)
@[simp] theorem chan_reject (a i ca lo len : Nat) (m : Nat) : chan (reject a i ca lo len s) m = chan s m := (rfl)
@[simp] theorem chan_wr64 (a v : Nat) (m : Nat) : chan (wr64 a v s) m = chan s m := (rfl)
@[simp] theorem chan_updRcb (g : Nat) (f : Rcb → Rcb) (m : Nat) : chan (updRcb g f s) m = chan s m := (rfl)
@[simp] theorem chan_updLc (g : Nat) (f : LoopCore → LoopCore) (m : Nat) : chan (updLc g f s) m = chan s m := (rfl)
@[simp] theorem chan_updMon (g : Nat) (f : Mon → Mon) (m : Nat) : chan (updMon g f s) m = chan s m := (rfl)
@[simp] theorem chan_updSeq (n : Nat) (f : Seq → Seq) (m : Nat) : chan (updSeq n f s) m = chan s m := (rfl)
@[simp] theorem chan_updRes (r : Nat) (f : Res → Res) (m : Nat) : chan (updRes r f s) m = chan s m := (rfl)
@[simp] theorem chan_updStrm (k : Nat) (f : Stream → Stream) (m : Nat) : chan (updStrm k f s) m = chan s m := (rfl)
@[simp] theorem chan_updEt (u : Nat) (f : EtUnit → EtUnit) (m : Nat) : chan (updEt u f s) m = chan s m := (rfl)
@[simp] theorem chan_updCls (c : Nat) (f : Cls → Cls) (m : Nat) : chan (updCls c f s) m = chan s m := (rfl)
@[simp] theorem chan_updTrig (p : Nat) (f : TrigPin → TrigPin) (m : Nat) : chan (updTrig p f s) m = chan s m := (rfl)
@[simp] theorem chan_cause (e : Nat) (m : Nat) : chan (cause e s) m = chan s m := (rfl)
@[simp] theorem chan_countBy (ev q k : Nat) (m : Nat) : chan (countBy ev q k s) m = chan s m := (rfl)
@[simp] theorem chan_sendRaw (x : Msg) (m : Nat) : chan (sendRaw x s) m = chan s m := (rfl)

@[simp] theorem rcb_wr (a : Nat) (w : Word) (m : Nat) : rcb (wr a w s) m = rcb s m := (rfl)
@[simp] theorem rcb_sf (a lo len v : Nat) (m : Nat) : rcb (sf a lo len v s) m = rcb s m := (rfl)
@[simp] theorem rcb_sb (a i : Nat) (b : Bool) (m : Nat) : rcb (sb a i b s) m = rcb s m := (rfl)
@[simp] theorem rcb_flag (a i : Nat) (m : Nat) : rcb (flag a i s) m = rcb s m := (rfl)
@[simp] theorem rcb_bumpBy (a lo len k : Nat) (m : Nat) : rcb (bumpBy a lo len k s) m = rcb s m := (rfl)
@[simp] theorem rcb_bump (a lo len : Nat) (m : Nat) : rcb (bump a lo len s) m = rcb s m := (rfl)
@[simp] theorem rcb_reject (a i ca lo len : Nat) (m : Nat) : rcb (reject a i ca lo len s) m = rcb s m := (rfl)
@[simp] theorem rcb_wr64 (a v : Nat) (m : Nat) : rcb (wr64 a v s) m = rcb s m := (rfl)
@[simp] theorem rcb_updChan (n : Nat) (f : Chan → Chan) (m : Nat) : rcb (updChan n f s) m = rcb s m := (rfl)
@[simp] theorem rcb_updLc (g : Nat) (f : LoopCore → LoopCore) (m : Nat) : rcb (updLc g f s) m = rcb s m := (rfl)
@[simp] theorem rcb_updMon (g : Nat) (f : Mon → Mon) (m : Nat) : rcb (updMon g f s) m = rcb s m := (rfl)
@[simp] theorem rcb_updSeq (n : Nat) (f : Seq → Seq) (m : Nat) : rcb (updSeq n f s) m = rcb s m := (rfl)
@[simp] theorem rcb_updRes (r : Nat) (f : Res → Res) (m : Nat) : rcb (updRes r f s) m = rcb s m := (rfl)
@[simp] theorem rcb_updStrm (k : Nat) (f : Stream → Stream) (m : Nat) : rcb (updStrm k f s) m = rcb s m := (rfl)
@[simp] theorem rcb_updEt (u : Nat) (f : EtUnit → EtUnit) (m : Nat) : rcb (updEt u f s) m = rcb s m := (rfl)
@[simp] theorem rcb_updCls (c : Nat) (f : Cls → Cls) (m : Nat) : rcb (updCls c f s) m = rcb s m := (rfl)
@[simp] theorem rcb_updTrig (p : Nat) (f : TrigPin → TrigPin) (m : Nat) : rcb (updTrig p f s) m = rcb s m := (rfl)
@[simp] theorem rcb_cause (e : Nat) (m : Nat) : rcb (cause e s) m = rcb s m := (rfl)
@[simp] theorem rcb_countBy (ev q k : Nat) (m : Nat) : rcb (countBy ev q k s) m = rcb s m := (rfl)
@[simp] theorem rcb_sendRaw (x : Msg) (m : Nat) : rcb (sendRaw x s) m = rcb s m := (rfl)

@[simp] theorem lcore_wr (a : Nat) (w : Word) (m : Nat) : lcore (wr a w s) m = lcore s m := (rfl)
@[simp] theorem lcore_sf (a lo len v : Nat) (m : Nat) : lcore (sf a lo len v s) m = lcore s m := (rfl)
@[simp] theorem lcore_sb (a i : Nat) (b : Bool) (m : Nat) : lcore (sb a i b s) m = lcore s m := (rfl)
@[simp] theorem lcore_flag (a i : Nat) (m : Nat) : lcore (flag a i s) m = lcore s m := (rfl)
@[simp] theorem lcore_bumpBy (a lo len k : Nat) (m : Nat) : lcore (bumpBy a lo len k s) m = lcore s m := (rfl)
@[simp] theorem lcore_bump (a lo len : Nat) (m : Nat) : lcore (bump a lo len s) m = lcore s m := (rfl)
@[simp] theorem lcore_reject (a i ca lo len : Nat) (m : Nat) : lcore (reject a i ca lo len s) m = lcore s m := (rfl)
@[simp] theorem lcore_wr64 (a v : Nat) (m : Nat) : lcore (wr64 a v s) m = lcore s m := (rfl)
@[simp] theorem lcore_updChan (n : Nat) (f : Chan → Chan) (m : Nat) : lcore (updChan n f s) m = lcore s m := (rfl)
@[simp] theorem lcore_updRcb (g : Nat) (f : Rcb → Rcb) (m : Nat) : lcore (updRcb g f s) m = lcore s m := (rfl)
@[simp] theorem lcore_updMon (g : Nat) (f : Mon → Mon) (m : Nat) : lcore (updMon g f s) m = lcore s m := (rfl)
@[simp] theorem lcore_updSeq (n : Nat) (f : Seq → Seq) (m : Nat) : lcore (updSeq n f s) m = lcore s m := (rfl)
@[simp] theorem lcore_updRes (r : Nat) (f : Res → Res) (m : Nat) : lcore (updRes r f s) m = lcore s m := (rfl)
@[simp] theorem lcore_updStrm (k : Nat) (f : Stream → Stream) (m : Nat) : lcore (updStrm k f s) m = lcore s m := (rfl)
@[simp] theorem lcore_updEt (u : Nat) (f : EtUnit → EtUnit) (m : Nat) : lcore (updEt u f s) m = lcore s m := (rfl)
@[simp] theorem lcore_updCls (c : Nat) (f : Cls → Cls) (m : Nat) : lcore (updCls c f s) m = lcore s m := (rfl)
@[simp] theorem lcore_updTrig (p : Nat) (f : TrigPin → TrigPin) (m : Nat) : lcore (updTrig p f s) m = lcore s m := (rfl)
@[simp] theorem lcore_cause (e : Nat) (m : Nat) : lcore (cause e s) m = lcore s m := (rfl)
@[simp] theorem lcore_countBy (ev q k : Nat) (m : Nat) : lcore (countBy ev q k s) m = lcore s m := (rfl)
@[simp] theorem lcore_sendRaw (x : Msg) (m : Nat) : lcore (sendRaw x s) m = lcore s m := (rfl)

@[simp] theorem mon_wr (a : Nat) (w : Word) (m : Nat) : mon (wr a w s) m = mon s m := (rfl)
@[simp] theorem mon_sf (a lo len v : Nat) (m : Nat) : mon (sf a lo len v s) m = mon s m := (rfl)
@[simp] theorem mon_sb (a i : Nat) (b : Bool) (m : Nat) : mon (sb a i b s) m = mon s m := (rfl)
@[simp] theorem mon_flag (a i : Nat) (m : Nat) : mon (flag a i s) m = mon s m := (rfl)
@[simp] theorem mon_bumpBy (a lo len k : Nat) (m : Nat) : mon (bumpBy a lo len k s) m = mon s m := (rfl)
@[simp] theorem mon_bump (a lo len : Nat) (m : Nat) : mon (bump a lo len s) m = mon s m := (rfl)
@[simp] theorem mon_reject (a i ca lo len : Nat) (m : Nat) : mon (reject a i ca lo len s) m = mon s m := (rfl)
@[simp] theorem mon_wr64 (a v : Nat) (m : Nat) : mon (wr64 a v s) m = mon s m := (rfl)
@[simp] theorem mon_updChan (n : Nat) (f : Chan → Chan) (m : Nat) : mon (updChan n f s) m = mon s m := (rfl)
@[simp] theorem mon_updRcb (g : Nat) (f : Rcb → Rcb) (m : Nat) : mon (updRcb g f s) m = mon s m := (rfl)
@[simp] theorem mon_updLc (g : Nat) (f : LoopCore → LoopCore) (m : Nat) : mon (updLc g f s) m = mon s m := (rfl)
@[simp] theorem mon_updSeq (n : Nat) (f : Seq → Seq) (m : Nat) : mon (updSeq n f s) m = mon s m := (rfl)
@[simp] theorem mon_updRes (r : Nat) (f : Res → Res) (m : Nat) : mon (updRes r f s) m = mon s m := (rfl)
@[simp] theorem mon_updStrm (k : Nat) (f : Stream → Stream) (m : Nat) : mon (updStrm k f s) m = mon s m := (rfl)
@[simp] theorem mon_updEt (u : Nat) (f : EtUnit → EtUnit) (m : Nat) : mon (updEt u f s) m = mon s m := (rfl)
@[simp] theorem mon_updCls (c : Nat) (f : Cls → Cls) (m : Nat) : mon (updCls c f s) m = mon s m := (rfl)
@[simp] theorem mon_updTrig (p : Nat) (f : TrigPin → TrigPin) (m : Nat) : mon (updTrig p f s) m = mon s m := (rfl)
@[simp] theorem mon_cause (e : Nat) (m : Nat) : mon (cause e s) m = mon s m := (rfl)
@[simp] theorem mon_countBy (ev q k : Nat) (m : Nat) : mon (countBy ev q k s) m = mon s m := (rfl)
@[simp] theorem mon_sendRaw (x : Msg) (m : Nat) : mon (sendRaw x s) m = mon s m := (rfl)

@[simp] theorem seq_wr (a : Nat) (w : Word) (m : Nat) : seq (wr a w s) m = seq s m := (rfl)
@[simp] theorem seq_sf (a lo len v : Nat) (m : Nat) : seq (sf a lo len v s) m = seq s m := (rfl)
@[simp] theorem seq_sb (a i : Nat) (b : Bool) (m : Nat) : seq (sb a i b s) m = seq s m := (rfl)
@[simp] theorem seq_flag (a i : Nat) (m : Nat) : seq (flag a i s) m = seq s m := (rfl)
@[simp] theorem seq_bumpBy (a lo len k : Nat) (m : Nat) : seq (bumpBy a lo len k s) m = seq s m := (rfl)
@[simp] theorem seq_bump (a lo len : Nat) (m : Nat) : seq (bump a lo len s) m = seq s m := (rfl)
@[simp] theorem seq_reject (a i ca lo len : Nat) (m : Nat) : seq (reject a i ca lo len s) m = seq s m := (rfl)
@[simp] theorem seq_wr64 (a v : Nat) (m : Nat) : seq (wr64 a v s) m = seq s m := (rfl)
@[simp] theorem seq_updChan (n : Nat) (f : Chan → Chan) (m : Nat) : seq (updChan n f s) m = seq s m := (rfl)
@[simp] theorem seq_updRcb (g : Nat) (f : Rcb → Rcb) (m : Nat) : seq (updRcb g f s) m = seq s m := (rfl)
@[simp] theorem seq_updLc (g : Nat) (f : LoopCore → LoopCore) (m : Nat) : seq (updLc g f s) m = seq s m := (rfl)
@[simp] theorem seq_updMon (g : Nat) (f : Mon → Mon) (m : Nat) : seq (updMon g f s) m = seq s m := (rfl)
@[simp] theorem seq_updRes (r : Nat) (f : Res → Res) (m : Nat) : seq (updRes r f s) m = seq s m := (rfl)
@[simp] theorem seq_updStrm (k : Nat) (f : Stream → Stream) (m : Nat) : seq (updStrm k f s) m = seq s m := (rfl)
@[simp] theorem seq_updEt (u : Nat) (f : EtUnit → EtUnit) (m : Nat) : seq (updEt u f s) m = seq s m := (rfl)
@[simp] theorem seq_updCls (c : Nat) (f : Cls → Cls) (m : Nat) : seq (updCls c f s) m = seq s m := (rfl)
@[simp] theorem seq_updTrig (p : Nat) (f : TrigPin → TrigPin) (m : Nat) : seq (updTrig p f s) m = seq s m := (rfl)
@[simp] theorem seq_cause (e : Nat) (m : Nat) : seq (cause e s) m = seq s m := (rfl)
@[simp] theorem seq_countBy (ev q k : Nat) (m : Nat) : seq (countBy ev q k s) m = seq s m := (rfl)
@[simp] theorem seq_sendRaw (x : Msg) (m : Nat) : seq (sendRaw x s) m = seq s m := (rfl)

@[simp] theorem resOf_wr (a : Nat) (w : Word) (m : Nat) : resOf (wr a w s) m = resOf s m := (rfl)
@[simp] theorem resOf_sf (a lo len v : Nat) (m : Nat) : resOf (sf a lo len v s) m = resOf s m := (rfl)
@[simp] theorem resOf_sb (a i : Nat) (b : Bool) (m : Nat) : resOf (sb a i b s) m = resOf s m := (rfl)
@[simp] theorem resOf_flag (a i : Nat) (m : Nat) : resOf (flag a i s) m = resOf s m := (rfl)
@[simp] theorem resOf_bumpBy (a lo len k : Nat) (m : Nat) : resOf (bumpBy a lo len k s) m = resOf s m := (rfl)
@[simp] theorem resOf_bump (a lo len : Nat) (m : Nat) : resOf (bump a lo len s) m = resOf s m := (rfl)
@[simp] theorem resOf_reject (a i ca lo len : Nat) (m : Nat) : resOf (reject a i ca lo len s) m = resOf s m := (rfl)
@[simp] theorem resOf_wr64 (a v : Nat) (m : Nat) : resOf (wr64 a v s) m = resOf s m := (rfl)
@[simp] theorem resOf_updChan (n : Nat) (f : Chan → Chan) (m : Nat) : resOf (updChan n f s) m = resOf s m := (rfl)
@[simp] theorem resOf_updRcb (g : Nat) (f : Rcb → Rcb) (m : Nat) : resOf (updRcb g f s) m = resOf s m := (rfl)
@[simp] theorem resOf_updLc (g : Nat) (f : LoopCore → LoopCore) (m : Nat) : resOf (updLc g f s) m = resOf s m := (rfl)
@[simp] theorem resOf_updMon (g : Nat) (f : Mon → Mon) (m : Nat) : resOf (updMon g f s) m = resOf s m := (rfl)
@[simp] theorem resOf_updSeq (n : Nat) (f : Seq → Seq) (m : Nat) : resOf (updSeq n f s) m = resOf s m := (rfl)
@[simp] theorem resOf_updStrm (k : Nat) (f : Stream → Stream) (m : Nat) : resOf (updStrm k f s) m = resOf s m := (rfl)
@[simp] theorem resOf_updEt (u : Nat) (f : EtUnit → EtUnit) (m : Nat) : resOf (updEt u f s) m = resOf s m := (rfl)
@[simp] theorem resOf_updCls (c : Nat) (f : Cls → Cls) (m : Nat) : resOf (updCls c f s) m = resOf s m := (rfl)
@[simp] theorem resOf_updTrig (p : Nat) (f : TrigPin → TrigPin) (m : Nat) : resOf (updTrig p f s) m = resOf s m := (rfl)
@[simp] theorem resOf_cause (e : Nat) (m : Nat) : resOf (cause e s) m = resOf s m := (rfl)
@[simp] theorem resOf_countBy (ev q k : Nat) (m : Nat) : resOf (countBy ev q k s) m = resOf s m := (rfl)
@[simp] theorem resOf_sendRaw (x : Msg) (m : Nat) : resOf (sendRaw x s) m = resOf s m := (rfl)

@[simp] theorem strm_wr (a : Nat) (w : Word) (m : Nat) : strm (wr a w s) m = strm s m := (rfl)
@[simp] theorem strm_sf (a lo len v : Nat) (m : Nat) : strm (sf a lo len v s) m = strm s m := (rfl)
@[simp] theorem strm_sb (a i : Nat) (b : Bool) (m : Nat) : strm (sb a i b s) m = strm s m := (rfl)
@[simp] theorem strm_flag (a i : Nat) (m : Nat) : strm (flag a i s) m = strm s m := (rfl)
@[simp] theorem strm_bumpBy (a lo len k : Nat) (m : Nat) : strm (bumpBy a lo len k s) m = strm s m := (rfl)
@[simp] theorem strm_bump (a lo len : Nat) (m : Nat) : strm (bump a lo len s) m = strm s m := (rfl)
@[simp] theorem strm_reject (a i ca lo len : Nat) (m : Nat) : strm (reject a i ca lo len s) m = strm s m := (rfl)
@[simp] theorem strm_wr64 (a v : Nat) (m : Nat) : strm (wr64 a v s) m = strm s m := (rfl)
@[simp] theorem strm_updChan (n : Nat) (f : Chan → Chan) (m : Nat) : strm (updChan n f s) m = strm s m := (rfl)
@[simp] theorem strm_updRcb (g : Nat) (f : Rcb → Rcb) (m : Nat) : strm (updRcb g f s) m = strm s m := (rfl)
@[simp] theorem strm_updLc (g : Nat) (f : LoopCore → LoopCore) (m : Nat) : strm (updLc g f s) m = strm s m := (rfl)
@[simp] theorem strm_updMon (g : Nat) (f : Mon → Mon) (m : Nat) : strm (updMon g f s) m = strm s m := (rfl)
@[simp] theorem strm_updSeq (n : Nat) (f : Seq → Seq) (m : Nat) : strm (updSeq n f s) m = strm s m := (rfl)
@[simp] theorem strm_updRes (r : Nat) (f : Res → Res) (m : Nat) : strm (updRes r f s) m = strm s m := (rfl)
@[simp] theorem strm_updEt (u : Nat) (f : EtUnit → EtUnit) (m : Nat) : strm (updEt u f s) m = strm s m := (rfl)
@[simp] theorem strm_updCls (c : Nat) (f : Cls → Cls) (m : Nat) : strm (updCls c f s) m = strm s m := (rfl)
@[simp] theorem strm_updTrig (p : Nat) (f : TrigPin → TrigPin) (m : Nat) : strm (updTrig p f s) m = strm s m := (rfl)
@[simp] theorem strm_cause (e : Nat) (m : Nat) : strm (cause e s) m = strm s m := (rfl)
@[simp] theorem strm_countBy (ev q k : Nat) (m : Nat) : strm (countBy ev q k s) m = strm s m := (rfl)
@[simp] theorem strm_sendRaw (x : Msg) (m : Nat) : strm (sendRaw x s) m = strm s m := (rfl)

@[simp] theorem etu_wr (a : Nat) (w : Word) (m : Nat) : etu (wr a w s) m = etu s m := (rfl)
@[simp] theorem etu_sf (a lo len v : Nat) (m : Nat) : etu (sf a lo len v s) m = etu s m := (rfl)
@[simp] theorem etu_sb (a i : Nat) (b : Bool) (m : Nat) : etu (sb a i b s) m = etu s m := (rfl)
@[simp] theorem etu_flag (a i : Nat) (m : Nat) : etu (flag a i s) m = etu s m := (rfl)
@[simp] theorem etu_bumpBy (a lo len k : Nat) (m : Nat) : etu (bumpBy a lo len k s) m = etu s m := (rfl)
@[simp] theorem etu_bump (a lo len : Nat) (m : Nat) : etu (bump a lo len s) m = etu s m := (rfl)
@[simp] theorem etu_reject (a i ca lo len : Nat) (m : Nat) : etu (reject a i ca lo len s) m = etu s m := (rfl)
@[simp] theorem etu_wr64 (a v : Nat) (m : Nat) : etu (wr64 a v s) m = etu s m := (rfl)
@[simp] theorem etu_updChan (n : Nat) (f : Chan → Chan) (m : Nat) : etu (updChan n f s) m = etu s m := (rfl)
@[simp] theorem etu_updRcb (g : Nat) (f : Rcb → Rcb) (m : Nat) : etu (updRcb g f s) m = etu s m := (rfl)
@[simp] theorem etu_updLc (g : Nat) (f : LoopCore → LoopCore) (m : Nat) : etu (updLc g f s) m = etu s m := (rfl)
@[simp] theorem etu_updMon (g : Nat) (f : Mon → Mon) (m : Nat) : etu (updMon g f s) m = etu s m := (rfl)
@[simp] theorem etu_updSeq (n : Nat) (f : Seq → Seq) (m : Nat) : etu (updSeq n f s) m = etu s m := (rfl)
@[simp] theorem etu_updRes (r : Nat) (f : Res → Res) (m : Nat) : etu (updRes r f s) m = etu s m := (rfl)
@[simp] theorem etu_updStrm (k : Nat) (f : Stream → Stream) (m : Nat) : etu (updStrm k f s) m = etu s m := (rfl)
@[simp] theorem etu_updCls (c : Nat) (f : Cls → Cls) (m : Nat) : etu (updCls c f s) m = etu s m := (rfl)
@[simp] theorem etu_updTrig (p : Nat) (f : TrigPin → TrigPin) (m : Nat) : etu (updTrig p f s) m = etu s m := (rfl)
@[simp] theorem etu_cause (e : Nat) (m : Nat) : etu (cause e s) m = etu s m := (rfl)
@[simp] theorem etu_countBy (ev q k : Nat) (m : Nat) : etu (countBy ev q k s) m = etu s m := (rfl)
@[simp] theorem etu_sendRaw (x : Msg) (m : Nat) : etu (sendRaw x s) m = etu s m := (rfl)

@[simp] theorem lcls_wr (a : Nat) (w : Word) (m : Nat) : lcls (wr a w s) m = lcls s m := (rfl)
@[simp] theorem lcls_sf (a lo len v : Nat) (m : Nat) : lcls (sf a lo len v s) m = lcls s m := (rfl)
@[simp] theorem lcls_sb (a i : Nat) (b : Bool) (m : Nat) : lcls (sb a i b s) m = lcls s m := (rfl)
@[simp] theorem lcls_flag (a i : Nat) (m : Nat) : lcls (flag a i s) m = lcls s m := (rfl)
@[simp] theorem lcls_bumpBy (a lo len k : Nat) (m : Nat) : lcls (bumpBy a lo len k s) m = lcls s m := (rfl)
@[simp] theorem lcls_bump (a lo len : Nat) (m : Nat) : lcls (bump a lo len s) m = lcls s m := (rfl)
@[simp] theorem lcls_reject (a i ca lo len : Nat) (m : Nat) : lcls (reject a i ca lo len s) m = lcls s m := (rfl)
@[simp] theorem lcls_wr64 (a v : Nat) (m : Nat) : lcls (wr64 a v s) m = lcls s m := (rfl)
@[simp] theorem lcls_updChan (n : Nat) (f : Chan → Chan) (m : Nat) : lcls (updChan n f s) m = lcls s m := (rfl)
@[simp] theorem lcls_updRcb (g : Nat) (f : Rcb → Rcb) (m : Nat) : lcls (updRcb g f s) m = lcls s m := (rfl)
@[simp] theorem lcls_updLc (g : Nat) (f : LoopCore → LoopCore) (m : Nat) : lcls (updLc g f s) m = lcls s m := (rfl)
@[simp] theorem lcls_updMon (g : Nat) (f : Mon → Mon) (m : Nat) : lcls (updMon g f s) m = lcls s m := (rfl)
@[simp] theorem lcls_updSeq (n : Nat) (f : Seq → Seq) (m : Nat) : lcls (updSeq n f s) m = lcls s m := (rfl)
@[simp] theorem lcls_updRes (r : Nat) (f : Res → Res) (m : Nat) : lcls (updRes r f s) m = lcls s m := (rfl)
@[simp] theorem lcls_updStrm (k : Nat) (f : Stream → Stream) (m : Nat) : lcls (updStrm k f s) m = lcls s m := (rfl)
@[simp] theorem lcls_updEt (u : Nat) (f : EtUnit → EtUnit) (m : Nat) : lcls (updEt u f s) m = lcls s m := (rfl)
@[simp] theorem lcls_updTrig (p : Nat) (f : TrigPin → TrigPin) (m : Nat) : lcls (updTrig p f s) m = lcls s m := (rfl)
@[simp] theorem lcls_cause (e : Nat) (m : Nat) : lcls (cause e s) m = lcls s m := (rfl)
@[simp] theorem lcls_countBy (ev q k : Nat) (m : Nat) : lcls (countBy ev q k s) m = lcls s m := (rfl)
@[simp] theorem lcls_sendRaw (x : Msg) (m : Nat) : lcls (sendRaw x s) m = lcls s m := (rfl)

@[simp] theorem tpin_wr (a : Nat) (w : Word) (m : Nat) : tpin (wr a w s) m = tpin s m := (rfl)
@[simp] theorem tpin_sf (a lo len v : Nat) (m : Nat) : tpin (sf a lo len v s) m = tpin s m := (rfl)
@[simp] theorem tpin_sb (a i : Nat) (b : Bool) (m : Nat) : tpin (sb a i b s) m = tpin s m := (rfl)
@[simp] theorem tpin_flag (a i : Nat) (m : Nat) : tpin (flag a i s) m = tpin s m := (rfl)
@[simp] theorem tpin_bumpBy (a lo len k : Nat) (m : Nat) : tpin (bumpBy a lo len k s) m = tpin s m := (rfl)
@[simp] theorem tpin_bump (a lo len : Nat) (m : Nat) : tpin (bump a lo len s) m = tpin s m := (rfl)
@[simp] theorem tpin_reject (a i ca lo len : Nat) (m : Nat) : tpin (reject a i ca lo len s) m = tpin s m := (rfl)
@[simp] theorem tpin_wr64 (a v : Nat) (m : Nat) : tpin (wr64 a v s) m = tpin s m := (rfl)
@[simp] theorem tpin_updChan (n : Nat) (f : Chan → Chan) (m : Nat) : tpin (updChan n f s) m = tpin s m := (rfl)
@[simp] theorem tpin_updRcb (g : Nat) (f : Rcb → Rcb) (m : Nat) : tpin (updRcb g f s) m = tpin s m := (rfl)
@[simp] theorem tpin_updLc (g : Nat) (f : LoopCore → LoopCore) (m : Nat) : tpin (updLc g f s) m = tpin s m := (rfl)
@[simp] theorem tpin_updMon (g : Nat) (f : Mon → Mon) (m : Nat) : tpin (updMon g f s) m = tpin s m := (rfl)
@[simp] theorem tpin_updSeq (n : Nat) (f : Seq → Seq) (m : Nat) : tpin (updSeq n f s) m = tpin s m := (rfl)
@[simp] theorem tpin_updRes (r : Nat) (f : Res → Res) (m : Nat) : tpin (updRes r f s) m = tpin s m := (rfl)
@[simp] theorem tpin_updStrm (k : Nat) (f : Stream → Stream) (m : Nat) : tpin (updStrm k f s) m = tpin s m := (rfl)
@[simp] theorem tpin_updEt (u : Nat) (f : EtUnit → EtUnit) (m : Nat) : tpin (updEt u f s) m = tpin s m := (rfl)
@[simp] theorem tpin_updCls (c : Nat) (f : Cls → Cls) (m : Nat) : tpin (updCls c f s) m = tpin s m := (rfl)
@[simp] theorem tpin_cause (e : Nat) (m : Nat) : tpin (cause e s) m = tpin s m := (rfl)
@[simp] theorem tpin_countBy (ev q k : Nat) (m : Nat) : tpin (countBy ev q k s) m = tpin s m := (rfl)
@[simp] theorem tpin_sendRaw (x : Msg) (m : Nat) : tpin (sendRaw x s) m = tpin s m := (rfl)

@[simp] theorem nChans_wr (a : Nat) (w : Word) : nChans (wr a w s) = nChans s := (rfl)
@[simp] theorem nChans_sf (a lo len v : Nat) : nChans (sf a lo len v s) = nChans s := (rfl)
@[simp] theorem nChans_sb (a i : Nat) (b : Bool) : nChans (sb a i b s) = nChans s := (rfl)
@[simp] theorem nChans_flag (a i : Nat) : nChans (flag a i s) = nChans s := (rfl)
@[simp] theorem nChans_bumpBy (a lo len k : Nat) : nChans (bumpBy a lo len k s) = nChans s := (rfl)
@[simp] theorem nChans_bump (a lo len : Nat) : nChans (bump a lo len s) = nChans s := (rfl)
@[simp] theorem nChans_reject (a i ca lo len : Nat) : nChans (reject a i ca lo len s) = nChans s := (rfl)
@[simp] theorem nChans_wr64 (a v : Nat) : nChans (wr64 a v s) = nChans s := (rfl)
@[simp] theorem nChans_updChan (n : Nat) (f : Chan → Chan) : nChans (updChan n f s) = nChans s := (rfl)
@[simp] theorem nChans_updRcb (g : Nat) (f : Rcb → Rcb) : nChans (updRcb g f s) = nChans s := (rfl)
@[simp] theorem nChans_updLc (g : Nat) (f : LoopCore → LoopCore) : nChans (updLc g f s) = nChans s := (rfl)
@[simp] theorem nChans_updMon (g : Nat) (f : Mon → Mon) : nChans (updMon g f s) = nChans s := (rfl)
@[simp] theorem nChans_updSeq (n : Nat) (f : Seq → Seq) : nChans (updSeq n f s) = nChans s := (rfl)
@[simp] theorem nChans_updRes (r : Nat) (f : Res → Res) : nChans (updRes r f s) = nChans s := (rfl)
@[simp] theorem nChans_updStrm (k : Nat) (f : Stream → Stream) : nChans (updStrm k f s) = nChans s := (rfl)
@[simp] theorem nChans_updEt (u : Nat) (f : EtUnit → EtUnit) : nChans (updEt u f s) = nChans s := (rfl)
@[simp] theorem nChans_updCls (c : Nat) (f : Cls → Cls) : nChans (updCls c f s) = nChans s := (rfl)
@[simp] theorem nChans_updTrig (p : Nat) (f : TrigPin → TrigPin) : nChans (updTrig p f s) = nChans s := (rfl)
@[simp] theorem nChans_cause (e : Nat) : nChans (cause e s) = nChans s := (rfl)
@[simp] theorem nChans_countBy (ev q k : Nat) : nChans (countBy ev q k s) = nChans s := (rfl)
@[simp] theorem nChans_sendRaw (x : Msg) : nChans (sendRaw x s) = nChans s := (rfl)

@[simp] theorem hasChan_wr (a : Nat) (w : Word) (m : Nat) : hasChan (wr a w s) m = hasChan s m := (rfl)
@[simp] theorem hasChan_sf (a lo len v : Nat) (m : Nat) : hasChan (sf a lo len v s) m = hasChan s m := (rfl)
@[simp] theorem hasChan_sb (a i : Nat) (b : Bool) (m : Nat) : hasChan (sb a i b s) m = hasChan s m := (rfl)
@[simp] theorem hasChan_flag (a i : Nat) (m : Nat) : hasChan (flag a i s) m = hasChan s m := (rfl)
@[simp] theorem hasChan_bumpBy (a lo len k : Nat) (m : Nat) : hasChan (bumpBy a lo len k s) m = hasChan s m := (rfl)
@[simp] theorem hasChan_bump (a lo len : Nat) (m : Nat) : hasChan (bump a lo len s) m = hasChan s m := (rfl)
@[simp] theorem hasChan_reject (a i ca lo len : Nat) (m : Nat) : hasChan (reject a i ca lo len s) m = hasChan s m := (rfl)
@[simp] theorem hasChan_wr64 (a v : Nat) (m : Nat) : hasChan (wr64 a v s) m = hasChan s m := (rfl)
@[simp] theorem hasChan_updChan (n : Nat) (f : Chan → Chan) (m : Nat) : hasChan (updChan n f s) m = hasChan s m := (rfl)
@[simp] theorem hasChan_updRcb (g : Nat) (f : Rcb → Rcb) (m : Nat) : hasChan (updRcb g f s) m = hasChan s m := (rfl)
@[simp] theorem hasChan_updLc (g : Nat) (f : LoopCore → LoopCore) (m : Nat) : hasChan (updLc g f s) m = hasChan s m := (rfl)
@[simp] theorem hasChan_updMon (g : Nat) (f : Mon → Mon) (m : Nat) : hasChan (updMon g f s) m = hasChan s m := (rfl)
@[simp] theorem hasChan_updSeq (n : Nat) (f : Seq → Seq) (m : Nat) : hasChan (updSeq n f s) m = hasChan s m := (rfl)
@[simp] theorem hasChan_updRes (r : Nat) (f : Res → Res) (m : Nat) : hasChan (updRes r f s) m = hasChan s m := (rfl)
@[simp] theorem hasChan_updStrm (k : Nat) (f : Stream → Stream) (m : Nat) : hasChan (updStrm k f s) m = hasChan s m := (rfl)
@[simp] theorem hasChan_updEt (u : Nat) (f : EtUnit → EtUnit) (m : Nat) : hasChan (updEt u f s) m = hasChan s m := (rfl)
@[simp] theorem hasChan_updCls (c : Nat) (f : Cls → Cls) (m : Nat) : hasChan (updCls c f s) m = hasChan s m := (rfl)
@[simp] theorem hasChan_updTrig (p : Nat) (f : TrigPin → TrigPin) (m : Nat) : hasChan (updTrig p f s) m = hasChan s m := (rfl)
@[simp] theorem hasChan_cause (e : Nat) (m : Nat) : hasChan (cause e s) m = hasChan s m := (rfl)
@[simp] theorem hasChan_countBy (ev q k : Nat) (m : Nat) : hasChan (countBy ev q k s) m = hasChan s m := (rfl)
@[simp] theorem hasChan_sendRaw (x : Msg) (m : Nat) : hasChan (sendRaw x s) m = hasChan s m := (rfl)

@[simp] theorem hasGroup_wr (a : Nat) (w : Word) (m : Nat) : hasGroup (wr a w s) m = hasGroup s m := (rfl)
@[simp] theorem hasGroup_sf (a lo len v : Nat) (m : Nat) : hasGroup (sf a lo len v s) m = hasGroup s m := (rfl)
@[simp] theorem hasGroup_sb (a i : Nat) (b : Bool) (m : Nat) : hasGroup (sb a i b s) m = hasGroup s m := (rfl)
@[simp] theorem hasGroup_flag (a i : Nat) (m : Nat) : hasGroup (flag a i s) m = hasGroup s m := (rfl)
@[simp] theorem hasGroup_bumpBy (a lo len k : Nat) (m : Nat) : hasGroup (bumpBy a lo len k s) m = hasGroup s m := (rfl)
@[simp] theorem hasGroup_bump (a lo len : Nat) (m : Nat) : hasGroup (bump a lo len s) m = hasGroup s m := (rfl)
@[simp] theorem hasGroup_reject (a i ca lo len : Nat) (m : Nat) : hasGroup (reject a i ca lo len s) m = hasGroup s m := (rfl)
@[simp] theorem hasGroup_wr64 (a v : Nat) (m : Nat) : hasGroup (wr64 a v s) m = hasGroup s m := (rfl)
@[simp] theorem hasGroup_updChan (n : Nat) (f : Chan → Chan) (m : Nat) : hasGroup (updChan n f s) m = hasGroup s m := (rfl)
@[simp] theorem hasGroup_updRcb (g : Nat) (f : Rcb → Rcb) (m : Nat) : hasGroup (updRcb g f s) m = hasGroup s m := (rfl)
@[simp] theorem hasGroup_updLc (g : Nat) (f : LoopCore → LoopCore) (m : Nat) : hasGroup (updLc g f s) m = hasGroup s m := (rfl)
@[simp] theorem hasGroup_updMon (g : Nat) (f : Mon → Mon) (m : Nat) : hasGroup (updMon g f s) m = hasGroup s m := (rfl)
@[simp] theorem hasGroup_updSeq (n : Nat) (f : Seq → Seq) (m : Nat) : hasGroup (updSeq n f s) m = hasGroup s m := (rfl)
@[simp] theorem hasGroup_updRes (r : Nat) (f : Res → Res) (m : Nat) : hasGroup (updRes r f s) m = hasGroup s m := (rfl)
@[simp] theorem hasGroup_updStrm (k : Nat) (f : Stream → Stream) (m : Nat) : hasGroup (updStrm k f s) m = hasGroup s m := (rfl)
@[simp] theorem hasGroup_updEt (u : Nat) (f : EtUnit → EtUnit) (m : Nat) : hasGroup (updEt u f s) m = hasGroup s m := (rfl)
@[simp] theorem hasGroup_updCls (c : Nat) (f : Cls → Cls) (m : Nat) : hasGroup (updCls c f s) m = hasGroup s m := (rfl)
@[simp] theorem hasGroup_updTrig (p : Nat) (f : TrigPin → TrigPin) (m : Nat) : hasGroup (updTrig p f s) m = hasGroup s m := (rfl)
@[simp] theorem hasGroup_cause (e : Nat) (m : Nat) : hasGroup (cause e s) m = hasGroup s m := (rfl)
@[simp] theorem hasGroup_countBy (ev q k : Nat) (m : Nat) : hasGroup (countBy ev q k s) m = hasGroup s m := (rfl)
@[simp] theorem hasGroup_sendRaw (x : Msg) (m : Nat) : hasGroup (sendRaw x s) m = hasGroup s m := (rfl)

@[simp] theorem nEts_wr (a : Nat) (w : Word) : nEts (wr a w s) = nEts s := (rfl)
@[simp] theorem nEts_sf (a lo len v : Nat) : nEts (sf a lo len v s) = nEts s := (rfl)
@[simp] theorem nEts_sb (a i : Nat) (b : Bool) : nEts (sb a i b s) = nEts s := (rfl)
@[simp] theorem nEts_flag (a i : Nat) : nEts (flag a i s) = nEts s := (rfl)
@[simp] theorem nEts_bumpBy (a lo len k : Nat) : nEts (bumpBy a lo len k s) = nEts s := (rfl)
@[simp] theorem nEts_bump (a lo len : Nat) : nEts (bump a lo len s) = nEts s := (rfl)
@[simp] theorem nEts_reject (a i ca lo len : Nat) : nEts (reject a i ca lo len s) = nEts s := (rfl)
@[simp] theorem nEts_wr64 (a v : Nat) : nEts (wr64 a v s) = nEts s := (rfl)
@[simp] theorem nEts_updChan (n : Nat) (f : Chan → Chan) : nEts (updChan n f s) = nEts s := (rfl)
@[simp] theorem nEts_updRcb (g : Nat) (f : Rcb → Rcb) : nEts (updRcb g f s) = nEts s := (rfl)
@[simp] theorem nEts_updLc (g : Nat) (f : LoopCore → LoopCore) : nEts (updLc g f s) = nEts s := (rfl)
@[simp] theorem nEts_updMon (g : Nat) (f : Mon → Mon) : nEts (updMon g f s) = nEts s := (rfl)
@[simp] theorem nEts_updSeq (n : Nat) (f : Seq → Seq) : nEts (updSeq n f s) = nEts s := (rfl)
@[simp] theorem nEts_updRes (r : Nat) (f : Res → Res) : nEts (updRes r f s) = nEts s := (rfl)
@[simp] theorem nEts_updStrm (k : Nat) (f : Stream → Stream) : nEts (updStrm k f s) = nEts s := (rfl)
@[simp] theorem nEts_updEt (u : Nat) (f : EtUnit → EtUnit) : nEts (updEt u f s) = nEts s := (rfl)
@[simp] theorem nEts_updCls (c : Nat) (f : Cls → Cls) : nEts (updCls c f s) = nEts s := (rfl)
@[simp] theorem nEts_updTrig (p : Nat) (f : TrigPin → TrigPin) : nEts (updTrig p f s) = nEts s := (rfl)
@[simp] theorem nEts_cause (e : Nat) : nEts (cause e s) = nEts s := (rfl)
@[simp] theorem nEts_countBy (ev q k : Nat) : nEts (countBy ev q k s) = nEts s := (rfl)
@[simp] theorem nEts_sendRaw (x : Msg) : nEts (sendRaw x s) = nEts s := (rfl)

@[simp] theorem hasStream_wr (a : Nat) (w : Word) (m : Nat) : hasStream (wr a w s) m = hasStream s m := (rfl)
@[simp] theorem hasStream_sf (a lo len v : Nat) (m : Nat) : hasStream (sf a lo len v s) m = hasStream s m := (rfl)
@[simp] theorem hasStream_sb (a i : Nat) (b : Bool) (m : Nat) : hasStream (sb a i b s) m = hasStream s m := (rfl)
@[simp] theorem hasStream_flag (a i : Nat) (m : Nat) : hasStream (flag a i s) m = hasStream s m := (rfl)
@[simp] theorem hasStream_bumpBy (a lo len k : Nat) (m : Nat) : hasStream (bumpBy a lo len k s) m = hasStream s m := (rfl)
@[simp] theorem hasStream_bump (a lo len : Nat) (m : Nat) : hasStream (bump a lo len s) m = hasStream s m := (rfl)
@[simp] theorem hasStream_reject (a i ca lo len : Nat) (m : Nat) : hasStream (reject a i ca lo len s) m = hasStream s m := (rfl)
@[simp] theorem hasStream_wr64 (a v : Nat) (m : Nat) : hasStream (wr64 a v s) m = hasStream s m := (rfl)
@[simp] theorem hasStream_updChan (n : Nat) (f : Chan → Chan) (m : Nat) : hasStream (updChan n f s) m = hasStream s m := (rfl)
@[simp] theorem hasStream_updRcb (g : Nat) (f : Rcb → Rcb) (m : Nat) : hasStream (updRcb g f s) m = hasStream s m := (rfl)
@[simp] theorem hasStream_updLc (g : Nat) (f : LoopCore → LoopCore) (m : Nat) : hasStream (updLc g f s) m = hasStream s m := (rfl)
@[simp] theorem hasStream_updMon (g : Nat) (f : Mon → Mon) (m : Nat) : hasStream (updMon g f s) m = hasStream s m := (rfl)
@[simp] theorem hasStream_updSeq (n : Nat) (f : Seq → Seq) (m : Nat) : hasStream (updSeq n f s) m = hasStream s m := (rfl)
@[simp] theorem hasStream_updRes (r : Nat) (f : Res → Res) (m : Nat) : hasStream (updRes r f s) m = hasStream s m := (rfl)
@[simp] theorem hasStream_updStrm (k : Nat) (f : Stream → Stream) (m : Nat) : hasStream (updStrm k f s) m = hasStream s m := (rfl)
@[simp] theorem hasStream_updEt (u : Nat) (f : EtUnit → EtUnit) (m : Nat) : hasStream (updEt u f s) m = hasStream s m := (rfl)
@[simp] theorem hasStream_updCls (c : Nat) (f : Cls → Cls) (m : Nat) : hasStream (updCls c f s) m = hasStream s m := (rfl)
@[simp] theorem hasStream_updTrig (p : Nat) (f : TrigPin → TrigPin) (m : Nat) : hasStream (updTrig p f s) m = hasStream s m := (rfl)
@[simp] theorem hasStream_cause (e : Nat) (m : Nat) : hasStream (cause e s) m = hasStream s m := (rfl)
@[simp] theorem hasStream_countBy (ev q k : Nat) (m : Nat) : hasStream (countBy ev q k s) m = hasStream s m := (rfl)
@[simp] theorem hasStream_sendRaw (x : Msg) (m : Nat) : hasStream (sendRaw x s) m = hasStream s m := (rfl)

@[simp] theorem hasRc_wr (a : Nat) (w : Word) : hasRc (wr a w s) = hasRc s := (rfl)
@[simp] theorem hasRc_sf (a lo len v : Nat) : hasRc (sf a lo len v s) = hasRc s := (rfl)
@[simp] theorem hasRc_sb (a i : Nat) (b : Bool) : hasRc (sb a i b s) = hasRc s := (rfl)
@[simp] theorem hasRc_flag (a i : Nat) : hasRc (flag a i s) = hasRc s := (rfl)
@[simp] theorem hasRc_bumpBy (a lo len k : Nat) : hasRc (bumpBy a lo len k s) = hasRc s := (rfl)
@[simp] theorem hasRc_bump (a lo len : Nat) : hasRc (bump a lo len s) = hasRc s := (rfl)
@[simp] theorem hasRc_reject (a i ca lo len : Nat) : hasRc (reject a i ca lo len s) = hasRc s := (rfl)
@[simp] theorem hasRc_wr64 (a v : Nat) : hasRc (wr64 a v s) = hasRc s := (rfl)
@[simp] theorem hasRc_updChan (n : Nat) (f : Chan → Chan) : hasRc (updChan n f s) = hasRc s := (rfl)
@[simp] theorem hasRc_updRcb (g : Nat) (f : Rcb → Rcb) : hasRc (updRcb g f s) = hasRc s := (rfl)
@[simp] theorem hasRc_updLc (g : Nat) (f : LoopCore → LoopCore) : hasRc (updLc g f s) = hasRc s := (rfl)
@[simp] theorem hasRc_updMon (g : Nat) (f : Mon → Mon) : hasRc (updMon g f s) = hasRc s := (rfl)
@[simp] theorem hasRc_updSeq (n : Nat) (f : Seq → Seq) : hasRc (updSeq n f s) = hasRc s := (rfl)
@[simp] theorem hasRc_updRes (r : Nat) (f : Res → Res) : hasRc (updRes r f s) = hasRc s := (rfl)
@[simp] theorem hasRc_updStrm (k : Nat) (f : Stream → Stream) : hasRc (updStrm k f s) = hasRc s := (rfl)
@[simp] theorem hasRc_updEt (u : Nat) (f : EtUnit → EtUnit) : hasRc (updEt u f s) = hasRc s := (rfl)
@[simp] theorem hasRc_updCls (c : Nat) (f : Cls → Cls) : hasRc (updCls c f s) = hasRc s := (rfl)
@[simp] theorem hasRc_updTrig (p : Nat) (f : TrigPin → TrigPin) : hasRc (updTrig p f s) = hasRc s := (rfl)
@[simp] theorem hasRc_cause (e : Nat) : hasRc (cause e s) = hasRc s := (rfl)
@[simp] theorem hasRc_countBy (ev q k : Nat) : hasRc (countBy ev q k s) = hasRc s := (rfl)
@[simp] theorem hasRc_sendRaw (x : Msg) : hasRc (sendRaw x s) = hasRc s := (rfl)

end Sys2Proof.Machine
end

