-- ==== Sys2Proof/Laws/Answers.lean ====
section
/-! SUPPORT. What the shared forms of a command's answer say: when the command acts, when it changes nothing, and what no command
of that form touches. -/

namespace Sys2Proof.Machine

variable {s t : State} {f : State → State} {n g : Nat}

/-- Every command of the form answers a next state. -/
theorem live_next (s : State) (f : State → State) : ∃ t, live s f = .next t := ⟨_, rfl⟩

theorem live_of_inReset (h : s.inReset = true) (f : State → State) : live s f = .next s := by
  unfold live
  rw [if_pos h]

theorem live_of_awake (h : s.inReset = false) (f : State → State) :
    live s f = .next { f s with pending := s.pending, inReset := false, ddr := s.ddr } := by
  unfold live
  rw [if_neg (by simp [h])]

/-- What no command of the form touches: the queue, the reset and DDR5. -/
theorem live_frame (h : live s f = .next t) : t.pending = s.pending ∧ t.inReset = s.inReset ∧ t.ddr = s.ddr := by
  unfold live at h
  injection h with h
  subst h
  split
  · exact ⟨rfl, rfl, rfl⟩
  · next hr => exact ⟨rfl, by simpa using hr, rfl⟩

theorem liveMem_of_inReset (h : s.inReset = true) (k : State → State × List (Nat × Byte)) : liveMem s k = .next s := by
  unfold liveMem
  rw [if_pos h]

theorem liveMem_of_awake (h : s.inReset = false) (k : State → State × List (Nat × Byte)) :
    liveMem s k = .next { (k s).1 with pending := s.pending, inReset := false, ddr := Memory.writes (k s).2 s.ddr } := by
  unfold liveMem
  rw [if_neg (by simp [h])]

/-- A command that writes DDR5 keeps its canonical form, the queue and the reset. -/
theorem liveMem_frame {k : State → State × List (Nat × Byte)} (h : liveMem s k = .next t) :
    t.pending = s.pending ∧ t.inReset = s.inReset ∧ (Memory.wf s.ddr → Memory.wf t.ddr) := by
  unfold liveMem at h
  injection h with h
  subst h
  split
  · exact ⟨rfl, rfl, id⟩
  · next hr => exact ⟨rfl, by simpa using hr, fun w => Memory.writes_wf _ w⟩

/-- A command of the core clock acts while the device runs. -/
theorem clocked_acts (hr : s.inReset = false) (hc : running s = true) (f : State → State) :
    clocked s f = .next { f s with pending := s.pending, inReset := false, ddr := s.ddr } := by
  unfold clocked
  rw [live_of_awake hr, if_pos hc]

theorem clockedMem_acts (hr : s.inReset = false) (hc : running s = true) (k : State → State × List (Nat × Byte)) :
    clockedMem s k = .next { (k s).1 with pending := s.pending, inReset := false, ddr := Memory.writes (k s).2 s.ddr } := by
  unfold clockedMem
  rw [liveMem_of_awake hr, if_pos hc]

/-- A state with its own queue, reset and DDR5 put back. -/
theorem restore_self (hr : s.inReset = false) : ({ s with pending := s.pending, inReset := false, ddr := s.ddr } : State) = s := by
  cases s
  simp_all

/-- A state whose own queue, reset and DDR5 are those put back. -/
theorem restore_eq (hp : t.pending = s.pending) (hr : t.inReset = false) (hd : t.ddr = s.ddr) :
    ({ t with pending := s.pending, inReset := false, ddr := s.ddr } : State) = t := by
  cases t
  simp_all

/-- A command of a channel acts where the channel is present. -/
theorem onChan_acts (hr : s.inReset = false) (hc : running s = true) (hn : hasChan s n = true) (f : State → State) :
    onChan n s f = .next { f s with pending := s.pending, inReset := false, ddr := s.ddr } := by
  unfold onChan
  rw [clocked_acts hr hc, if_pos hn]

/-- A command of an absent channel changes nothing (00 R3). -/
theorem onChan_absent (hn : hasChan s n = false) (f : State → State) : onChan n s f = .next s := by
  unfold onChan clocked
  by_cases hr : s.inReset = true
  · exact live_of_inReset hr _
  · rw [live_of_awake (by simpa using hr)]
    simp only [hn, Bool.false_eq_true, if_false, ite_self]
    rw [restore_self (by simpa using hr)]

/-- An event that is due acts. -/
theorem whenDue_acts {due : State → Bool} (hr : s.inReset = false) (hc : running s = true) (hn : hasChan s n = true)
    (hd : due s = true) (f : State → State) :
    whenDue n due s f = .next { f s with pending := s.pending, inReset := false, ddr := s.ddr } := by
  unfold whenDue
  rw [onChan_acts hr hc hn, if_pos hd]

theorem whenGroup_acts {due : State → Bool} (hr : s.inReset = false) (hc : running s = true) (hg : hasGroup s g = true)
    (hd : due s = true) (f : State → State) :
    whenGroup g due s f = .next { f s with pending := s.pending, inReset := false, ddr := s.ddr } := by
  unfold whenGroup
  rw [clocked_acts hr hc, if_pos (by simp [hg, hd])]

/-- A Tysel instruction runs where its channel has a context that may execute. -/
theorem tysel_acts {ok : Bool} {body : Nat → State → State} {cost : Nat} (hr : s.inReset = false) (hc : running s = true)
    (hn : hasChan s n = true) (hq : seqReady s n = true) :
    tysel n cost ok body s =
      .next { runInstr n cost ok body s with pending := s.pending, inReset := false, ddr := s.ddr } := by
  unfold tysel
  exact whenDue_acts hr hc hn hq _

/-- A command acts by a function that leaves the queue, the reset and DDR5 alone. -/
theorem clocked_next (ho : Operating s) (hf : (f s).pending = s.pending ∧ (f s).inReset = s.inReset ∧ (f s).ddr = s.ddr) :
    clocked s f = .next (f s) := by
  rw [clocked_acts ho.1 ho.2, restore_eq hf.1 (hf.2.1.trans ho.1) hf.2.2]

theorem onChan_next (hn : ChanIn n s) (hf : (f s).pending = s.pending ∧ (f s).inReset = s.inReset ∧ (f s).ddr = s.ddr) :
    onChan n s f = .next (f s) := by
  rw [onChan_acts hn.1.1 hn.1.2 hn.2, restore_eq hf.1 (hf.2.1.trans hn.1.1) hf.2.2]

theorem whenDue_next {due : State → Bool} (hn : ChanIn n s) (hd : due s = true)
    (hf : (f s).pending = s.pending ∧ (f s).inReset = s.inReset ∧ (f s).ddr = s.ddr) : whenDue n due s f = .next (f s) := by
  rw [whenDue_acts hn.1.1 hn.1.2 hn.2 hd, restore_eq hf.1 (hf.2.1.trans hn.1.1) hf.2.2]

theorem whenGroup_next {due : State → Bool} (hg : GroupIn g s) (hd : due s = true)
    (hf : (f s).pending = s.pending ∧ (f s).inReset = s.inReset ∧ (f s).ddr = s.ddr) : whenGroup g due s f = .next (f s) := by
  rw [whenGroup_acts hg.1.1 hg.1.2 hg.2 hd, restore_eq hf.1 (hf.2.1.trans hg.1.1) hf.2.2]

/-- A well-formed Tysel instruction that fits into the tick: its body acts on the state with the slots taken. -/
theorem tysel_next {ok : Bool} {body : Nat → State → State} {cost x : Nat} (he : Executes n x cost s) (hok : ok = true)
    (hf : (body x (takeSlots n cost (pcOf s x) s)).pending = s.pending ∧
      (body x (takeSlots n cost (pcOf s x) s)).inReset = s.inReset ∧ (body x (takeSlots n cost (pcOf s x) s)).ddr = s.ddr) :
    tysel n cost ok body s = .next (body x (takeSlots n cost (pcOf s x) s)) := by
  obtain ⟨⟨⟨hr, hc⟩, hn⟩, hq, hb, hu⟩ := he
  have hrun : runInstr n cost ok body s = body x (takeSlots n cost (pcOf s x) s) := by
    unfold runInstr
    rw [hb]
    simp only [hok, if_true]
    rw [if_neg (by omega)]
  rw [tysel_acts hr hc hn hq, hrun, restore_eq hf.1 (hf.2.1.trans hr) hf.2.2]

/-- The forms that never write DDR5. -/
theorem clocked_frame (h : clocked s f = .next t) : t.pending = s.pending ∧ t.inReset = s.inReset ∧ t.ddr = s.ddr := live_frame h

theorem onChan_frame (h : onChan n s f = .next t) : t.pending = s.pending ∧ t.inReset = s.inReset ∧ t.ddr = s.ddr := live_frame h

theorem whenDue_frame {due : State → Bool} (h : whenDue n due s f = .next t) :
    t.pending = s.pending ∧ t.inReset = s.inReset ∧ t.ddr = s.ddr := live_frame h

theorem whenGroup_frame {due : State → Bool} (h : whenGroup g due s f = .next t) :
    t.pending = s.pending ∧ t.inReset = s.inReset ∧ t.ddr = s.ddr := live_frame h

theorem tysel_frame {ok : Bool} {body : Nat → State → State} {cost : Nat} (h : tysel n cost ok body s = .next t) :
    t.pending = s.pending ∧ t.inReset = s.inReset ∧ t.ddr = s.ddr := live_frame h

end Sys2Proof.Machine
end

