-- ==== Sys2Proof/WellFormed.lean ====
section
/-! DEFINITION. Which operands a command can carry: the numbers of units, lines, descriptors and words that the spec's
register layouts and packet formats leave room for (00 R1, 01 R36, 07 R201, 12 R331, 17 R431). -/

namespace Sys2Proof

/-- A number below the bound. -/
def inRange (bound n : Nat) : Bool := decide (n < bound)

/-- A count of 1 to the bound. -/
def inCount (bound n : Nat) : Bool := decide (0 < n) && decide (n ≤ bound)

/-- A list of 1 to the bound words (12 R334). -/
def inWords (bound : Nat) (ws : List Word) : Bool := inCount bound ws.length

/-- The operands of a command lie in their ranges. -/
def Instr.wf : Instr → Bool
  | .registerWrite _ _ _ => true
  | .lowWordRead _ _ => true
  | .loopComputation g _ => inRange 4 g
  | .loopDeadline n => inRange 32 n
  | .pllLocked => true
  | .refclkLoss => true
  | .pllUnlock => true
  | .tickCtrlMark => true
  | .tickCtrlRelock => true
  | .ticktimeLoad => true
  | .tickInEdge cyc => inRange 50 cyc
  | .locked => true
  | .markerDetect => true
  | .tickLoss => true
  | .evSw _ => true
  | .eventLineAssert e => inRange 64 e
  | .triggerInputEdge pin _ => inRange 8 pin
  | .triggerPulseEnd pin => inRange 8 pin
  | .clrNAssert => true
  | .clrNRecognised => true
  | .clrNDeassert => true
  | .clrLatchClear => true
  | .rcbClockRestart => true
  | .modeWrite n _ => inRange 32 n
  | .heldModeLands n => inRange 32 n
  | .connectingEnd n => inRange 32 n
  | .modeCommitFromMeasure n => inRange 32 n
  | .chCtrlPulseGo n => inRange 32 n
  | .chCtrlPulseStop n => inRange 32 n
  | .chCtrlCntClr n => inRange 32 n
  | .pulseBegin n => inRange 32 n
  | .pulseEnd n => inRange 32 n
  | .limitWrite n off _ => inRange 32 n && inRange 65536 off
  | .rangeWrite n _ => inRange 32 n
  | .heldRangeDecision n => inRange 32 n
  | .autorangeDecision n => inRange 32 n
  | .tackDecision n => inRange 32 n
  | .crossfadeStep n => inRange 32 n
  | .bankSwitch n => inRange 32 n
  | .breakBeforeMakeDecision n => inRange 32 n
  | .breakBeforeMakeResume n => inRange 32 n
  | .descriptorWrite n off _ => inRange 32 n && inRange 65536 off
  | .frameShift g => inRange 4 g
  | .latchWord g => inRange 4 g
  | .frameFire g => inRange 4 g
  | .statusFrame g _ _ => inRange 4 g
  | .ackTimeout g => inRange 4 g
  | .rcbNoack g => inRange 4 g
  | .loopCfgWrite n _ => inRange 32 n
  | .loopCtrlOpen n => inRange 32 n
  | .loopCtrlClose n => inRange 32 n
  | .spWrite n _ => inRange 32 n
  | .secCommit n _ => inRange 32 n
  | .bankWrite n off _ => inRange 32 n && inRange 65536 off
  | .rcCfgWrite n _ => inRange 32 n
  | .rcCtrlClear n => inRange 32 n
  | .rcCtrlBackup n => inRange 32 n
  | .rcCtrlRestore n => inRange 32 n
  | .rcTransferDone n => inRange 32 n
  | .rcTdataAccess _ n _ => inRange 32 n
  | .rcEntryEnd n => inRange 32 n
  | .luffWindowEnd n => inRange 32 n
  | .loopLuff n => inRange 32 n
  | .luffCtrlReefSet n => inRange 32 n
  | .luffCtrlReefRel n => inRange 32 n
  | .luffCtrlRestart n => inRange 32 n
  | .injCtrlGo n => inRange 32 n
  | .injCtrlStop n => inRange 32 n
  | .injectionEnd n => inRange 32 n
  | .captureHeaderWrite n => inRange 32 n
  | .captureTrailerWrite n => inRange 32 n
  | .pairCfgWrite n _ => inRange 32 n
  | .interleaveBlockEnd n _ _ => inRange 32 n
  | .apCtrlGo n _ => inRange 32 n
  | .apCtrlStop n _ => inRange 32 n
  | .apertureClose n _ => inRange 32 n
  | .lineTmo n _ => inRange 32 n
  | .rawCtrlGo n => inRange 32 n
  | .rawCtrlStop n => inRange 32 n
  | .rawCaptureEnd n => inRange 32 n
  | .calLowWordWrite _ e _ => inRange 524288 e
  | .calHighWordWrite _ e _ => inRange 524288 e
  | .calLdGo n _ => inRange 32 n
  | .calLoadDone n => inRange 32 n
  | .spanWrite n _ => inRange 32 n
  | .dacClrWrite n _ => inRange 32 n
  | .conversionSlotBoundary g => inRange 4 g
  | .conversionResult g _ => inRange 4 g
  | .injReq g k _ => inRange 4 g && inRange 4 k
  | .maCtrlCal g => inRange 4 g
  | .calibrationComplete g => inRange 4 g
  | .monCal g => inRange 4 g
  | .genCtrlPrime n d => inRange 32 n && inRange 1024 d
  | .genCtrlStart n d => inRange 32 n && inRange 1024 d
  | .genCtrlStop n => inRange 32 n
  | .genCtrlJump n d => inRange 32 n && inRange 1024 d
  | .genCtrlJumpNow n d => inRange 32 n && inRange 1024 d
  | .genCtrlMark n back => inRange 32 n && inRange 16384 back
  | .genCtrlRewind n => inRange 32 n
  | .genCtrlUnmark n => inRange 32 n
  | .genDescriptorWrite n off _ => inRange 32 n && inRange 65536 off
  | .commitPoint n => inRange 32 n
  | .playEnd n => inRange 32 n
  | .jumpNowBoundary n => inRange 32 n
  | .replayEnd n => inRange 32 n
  | .refillRequest n => inRange 32 n
  | .refillBurst n => inRange 32 n
  | .genUnderrun n => inRange 32 n
  | .underrunEnd n => inRange 32 n
  | .ddsFtwLoWrite _ n _ => inRange 32 n
  | .ddsFtwHiWrite _ n _ => inRange 32 n
  | .ddsTabWrite n i _ => inRange 32 n && inRange 1024 i
  | .ddsCtrlGo n => inRange 32 n
  | .ddsCtrlHalt n => inRange 32 n
  | .ddsCtrlPhaseReset n => inRange 32 n
  | .seqCmdBind n x => inRange 32 n && inRange 4096 x
  | .seqCmdHalt n => inRange 32 n
  | .seqCmdResume n => inRange 32 n
  | .seqCmdUnbind n => inRange 32 n
  | .contextStoreWrite x off _ => inRange 4096 x && inRange 65536 off
  | .pinLoadDone n => inRange 32 n
  | .cacheFill line _ _ => inRange 4096 line
  | .icCtrlFlush => true
  | .waitExpiry n => inRange 32 n
  | .waitevTimeout n => inRange 32 n
  | .resourceGrant r => inRange 64 r
  | .nop n _ => inRange 32 n
  | .halt n _ => inRange 32 n
  | .jmp n _ => inRange 32 n
  | .brCc n _ => inRange 32 n
  | .call n _ => inRange 32 n
  | .ret n _ => inRange 32 n
  | .loop n _ => inRange 32 n
  | .mov n _ => inRange 32 n
  | .ldi n _ => inRange 32 n
  | .add n _ => inRange 32 n
  | .sub n _ => inRange 32 n
  | .mul n _ => inRange 32 n
  | .shl n _ => inRange 32 n
  | .shr n _ => inRange 32 n
  | .andOp n _ => inRange 32 n
  | .orOp n _ => inRange 32 n
  | .xorOp n _ => inRange 32 n
  | .cmp n _ => inRange 32 n
  | .mode n _ => inRange 32 n
  | .range n _ => inRange 32 n
  | .force n _ => inRange 32 n
  | .limit n _ => inRange 32 n
  | .ramp n _ => inRange 32 n
  | .loopOpen n _ => inRange 32 n
  | .loopClose n _ => inRange 32 n
  | .coefStage n _ => inRange 32 n
  | .coefCommit n _ => inRange 32 n
  | .coefRc n _ => inRange 32 n
  | .coefReef n _ => inRange 32 n
  | .meas n _ => inRange 32 n
  | .measStop n _ => inRange 32 n
  | .mread n _ => inRange 32 n
  | .emit n _ => inRange 32 n
  | .genPrime n _ => inRange 32 n
  | .genStart n _ => inRange 32 n
  | .genStop n _ => inRange 32 n
  | .genUnmark n _ => inRange 32 n
  | .seg n _ => inRange 32 n
  | .dds n _ => inRange 32 n
  | .mark n _ => inRange 32 n
  | .rewind n _ => inRange 32 n
  | .jump n _ => inRange 32 n
  | .listLd n _ => inRange 32 n
  | .listNext n _ => inRange 32 n
  | .listEntryArrival n => inRange 32 n
  | .wait n _ => inRange 32 n
  | .waitev n _ => inRange 32 n
  | .trig n _ => inRange 32 n
  | .trigPin n _ => inRange 32 n
  | .sync n _ => inRange 32 n
  | .acq n _ => inRange 32 n
  | .rel n _ => inRange 32 n
  | .etarm n _ => inRange 32 n
  | .etread n _ => inRange 32 n
  | .chain n _ => inRange 32 n
  | .yield n _ => inRange 32 n
  | .notify n _ => inRange 32 n
  | .etCtrlArm u => inRange 8 u
  | .etCtrlStats u => inRange 8 u
  | .etCtrlStop u => inRange 8 u
  | .edge u src _ cyc _ => inRange 8 u && inRange 128 src && inRange 50 cyc
  | .measurementComplete u => inRange 8 u
  | .measurementOverflow u => inRange 8 u
  | .resultBlockWrite u => inRange 8 u
  | .tbGateEnd _ => true
  | .refLost => true
  | .ocxoRdyChange _ => true
  | .tbCfgWrite _ => true
  | .memCtrlInit => true
  | .trainingDone _ => true
  | .arbiterDraw => true
  | .agingGrant => true
  | .burstIssue => true
  | .burstCompletion _ _ => true
  | .scrubRead _ => true
  | .arbTktWrite p _ => inRange 12 p
  | .arbSeedWrite _ => true
  | .resHcmdAcq r => inRange 64 r
  | .resHcmdRel r => inRange 64 r
  | .streamItemOffer k _ => inRange 36 k
  | .streamSpill k _ => inRange 36 k
  | .streamRefill k _ => inRange 36 k
  | .strCfgWrite k _ => inRange 36 k
  | .strCtrlDrop k => inRange 36 k
  | .strCtrlPurge k => inRange 36 k
  | .strCtrlCntClr k => inRange 36 k
  | .streamReadComplete k _ => inRange 36 k
  | .coalesceExpiry k => inRange 36 k
  | .streamReadTimeout k => inRange 36 k
  | .streamSlow k => inRange 36 k
  | .signalDetect lanes => inRange 16 lanes
  | .adaptationEnd lanes => inRange 16 lanes
  | .markerLock lanes => inRange 16 lanes
  | .alignTimeout => true
  | .initFlit _ => true
  | .initTimeout => true
  | .lnkCtrlRetrain => true
  | .lnkCtrlLogClr => true
  | .lnkCtrlCntClr => true
  | .flitBlock _ _ _ _ => true
  | .flow _ => true
  | .flowSend => true
  | .flitTransmit => true
  | .replayTimeout c => inRange 4 c
  | .violationWindowEnd => true
  | .regRd _ tag _ words => inRange 65536 tag && inCount 16 words
  | .regWr _ tag _ ws => inRange 65536 tag && inWords 16 ws
  | .strRd tag k maxb => inRange 65536 tag && inRange 36 k && inRange 16384 maxb
  | .strDrop tag k => inRange 65536 tag && inRange 36 k
  | .abortHalt tag _ => inRange 65536 tag
  | .abortHold tag _ => inRange 65536 tag
  | .abortOff tag _ => inRange 65536 tag
  | .abortFurl tag _ => inRange 65536 tag
  | .keepalive tag => inRange 65536 tag
  | .bulkWr tag _ _ => inRange 65536 tag
  | .bulkRd tag _ _ => inRange 65536 tag
  | .linkHb => true
  | .mgmtSpiRead _ _ cmd _ => decide (cmd ≠ 2)
  | .mgmtSpiWrite _ _ _ _ => true
  | .lanyardMessage _ => true
  | .faultReaction _ => true
  | .selfTestStart _ => true
  | .selfTestResult _ _ => true
  | .mirrorWrite => true
  | .holdRel _ => true
  | .chFurledRelease _ => true
  | .devFurlRelease => true
  | .fiCtrlGo _ => true
  | .faultInjectionSend => true
  | .resetNAssert => true
  | .supplyTrip => true
  | .resetEnd => true
  | .otpReadDone => true
  | .selftestDone _ _ => true
  | .bootTimeout => true
  | .otpCtrlProg _ => true
  | .otpProgDone _ => true
  | .otpEnFall _ => true
  | .probeWrite p _ => inRange 4 p
  | .traceRecord p _ => inRange 4 p
  | .traceSend => true
  | .obsPacketTimeout => true
  | .cntSelWrite i _ => inRange 256 i
  | .pcCtrlClr => true
  | .pcCtrlSnap => true
  | .illegal n _ => inRange 32 n
  | .spareRelease => true
  | .refPresent _ => true

end Sys2Proof
end

