-- ==== Sys2Proof/Laws/PerInstr.lean ====
section
/-! SUPPORT. Families of statements about every command as syntax, one lemma per constructor. -/

namespace Sys2Proof.Laws.OperandShape

set_option Elab.async false

/-- A well-formed Tysel instruction names a channel below 32 and an opcode of seven bits, so that its instruction word holds
the opcode whole (00 R1, 09 R247). -/
def Statement (i : Instr) : Prop := ∀ p ∈ tyselParts i, i.wf = true → p.1 < 32 ∧ p.2.1 < 128

theorem registerWrite (p : Port) (addr : Nat) (w : Word) : Statement (.registerWrite p addr w) := fun _ h => nomatch h
theorem lowWordRead (p : Port) (addr : Nat) : Statement (.lowWordRead p addr) := fun _ h => nomatch h
theorem loopComputation (g : Nat) (ins : List LoopIn) : Statement (.loopComputation g ins) := fun _ h => nomatch h
theorem loopDeadline (n : Nat) : Statement (.loopDeadline n) := fun _ h => nomatch h
theorem tickInEdge (cyc : Nat) : Statement (.tickInEdge cyc) := fun _ h => nomatch h
theorem evSw (w : Word) : Statement (.evSw w) := fun _ h => nomatch h
theorem eventLineAssert (e : Nat) : Statement (.eventLineAssert e) := fun _ h => nomatch h
theorem triggerInputEdge (pin : Nat) (level : Bool) : Statement (.triggerInputEdge pin level) := fun _ h => nomatch h
theorem triggerPulseEnd (pin : Nat) : Statement (.triggerPulseEnd pin) := fun _ h => nomatch h
theorem modeWrite (n : Nat) (w : Word) : Statement (.modeWrite n w) := fun _ h => nomatch h
theorem heldModeLands (n : Nat) : Statement (.heldModeLands n) := fun _ h => nomatch h
theorem connectingEnd (n : Nat) : Statement (.connectingEnd n) := fun _ h => nomatch h
theorem modeCommitFromMeasure (n : Nat) : Statement (.modeCommitFromMeasure n) := fun _ h => nomatch h
theorem chCtrlPulseGo (n : Nat) : Statement (.chCtrlPulseGo n) := fun _ h => nomatch h
theorem chCtrlPulseStop (n : Nat) : Statement (.chCtrlPulseStop n) := fun _ h => nomatch h
theorem chCtrlCntClr (n : Nat) : Statement (.chCtrlCntClr n) := fun _ h => nomatch h
theorem pulseBegin (n : Nat) : Statement (.pulseBegin n) := fun _ h => nomatch h
theorem pulseEnd (n : Nat) : Statement (.pulseEnd n) := fun _ h => nomatch h
theorem limitWrite (n off : Nat) (w : Word) : Statement (.limitWrite n off w) := fun _ h => nomatch h
theorem rangeWrite (n : Nat) (w : Word) : Statement (.rangeWrite n w) := fun _ h => nomatch h
theorem heldRangeDecision (n : Nat) : Statement (.heldRangeDecision n) := fun _ h => nomatch h
theorem autorangeDecision (n : Nat) : Statement (.autorangeDecision n) := fun _ h => nomatch h
theorem tackDecision (n : Nat) : Statement (.tackDecision n) := fun _ h => nomatch h
theorem crossfadeStep (n : Nat) : Statement (.crossfadeStep n) := fun _ h => nomatch h
theorem bankSwitch (n : Nat) : Statement (.bankSwitch n) := fun _ h => nomatch h
theorem breakBeforeMakeDecision (n : Nat) : Statement (.breakBeforeMakeDecision n) := fun _ h => nomatch h
theorem breakBeforeMakeResume (n : Nat) : Statement (.breakBeforeMakeResume n) := fun _ h => nomatch h
theorem descriptorWrite (n off : Nat) (w : Word) : Statement (.descriptorWrite n off w) := fun _ h => nomatch h
theorem frameShift (g : Nat) : Statement (.frameShift g) := fun _ h => nomatch h
theorem latchWord (g : Nat) : Statement (.latchWord g) := fun _ h => nomatch h
theorem frameFire (g : Nat) : Statement (.frameFire g) := fun _ h => nomatch h
theorem statusFrame (g : Nat) (late : Bool) (bits : BitVec 48) : Statement (.statusFrame g late bits) := fun _ h => nomatch h
theorem ackTimeout (g : Nat) : Statement (.ackTimeout g) := fun _ h => nomatch h
theorem rcbNoack (g : Nat) : Statement (.rcbNoack g) := fun _ h => nomatch h
theorem loopCfgWrite (n : Nat) (w : Word) : Statement (.loopCfgWrite n w) := fun _ h => nomatch h
theorem loopCtrlOpen (n : Nat) : Statement (.loopCtrlOpen n) := fun _ h => nomatch h
theorem loopCtrlClose (n : Nat) : Statement (.loopCtrlClose n) := fun _ h => nomatch h
theorem spWrite (n : Nat) (w : Word) : Statement (.spWrite n w) := fun _ h => nomatch h
theorem secCommit (n : Nat) (w : Word) : Statement (.secCommit n w) := fun _ h => nomatch h
theorem bankWrite (n off : Nat) (w : Word) : Statement (.bankWrite n off w) := fun _ h => nomatch h
theorem rcCfgWrite (n : Nat) (w : Word) : Statement (.rcCfgWrite n w) := fun _ h => nomatch h
theorem rcCtrlClear (n : Nat) : Statement (.rcCtrlClear n) := fun _ h => nomatch h
theorem rcCtrlBackup (n : Nat) : Statement (.rcCtrlBackup n) := fun _ h => nomatch h
theorem rcCtrlRestore (n : Nat) : Statement (.rcCtrlRestore n) := fun _ h => nomatch h
theorem rcTransferDone (n : Nat) : Statement (.rcTransferDone n) := fun _ h => nomatch h
theorem rcTdataAccess (p : Port) (n : Nat) (wr : Option Word) : Statement (.rcTdataAccess p n wr) := fun _ h => nomatch h
theorem rcEntryEnd (n : Nat) : Statement (.rcEntryEnd n) := fun _ h => nomatch h
theorem luffWindowEnd (n : Nat) : Statement (.luffWindowEnd n) := fun _ h => nomatch h
theorem loopLuff (n : Nat) : Statement (.loopLuff n) := fun _ h => nomatch h
theorem luffCtrlReefSet (n : Nat) : Statement (.luffCtrlReefSet n) := fun _ h => nomatch h
theorem luffCtrlReefRel (n : Nat) : Statement (.luffCtrlReefRel n) := fun _ h => nomatch h
theorem luffCtrlRestart (n : Nat) : Statement (.luffCtrlRestart n) := fun _ h => nomatch h
theorem injCtrlGo (n : Nat) : Statement (.injCtrlGo n) := fun _ h => nomatch h
theorem injCtrlStop (n : Nat) : Statement (.injCtrlStop n) := fun _ h => nomatch h
theorem injectionEnd (n : Nat) : Statement (.injectionEnd n) := fun _ h => nomatch h
theorem captureHeaderWrite (n : Nat) : Statement (.captureHeaderWrite n) := fun _ h => nomatch h
theorem captureTrailerWrite (n : Nat) : Statement (.captureTrailerWrite n) := fun _ h => nomatch h
theorem pairCfgWrite (n : Nat) (w : Word) : Statement (.pairCfgWrite n w) := fun _ h => nomatch h
theorem interleaveBlockEnd (n : Nat) (pa : Path) (est : Estimate) : Statement (.interleaveBlockEnd n pa est) := fun _ h => nomatch h
theorem apCtrlGo (n : Nat) (pa : Path) : Statement (.apCtrlGo n pa) := fun _ h => nomatch h
theorem apCtrlStop (n : Nat) (pa : Path) : Statement (.apCtrlStop n pa) := fun _ h => nomatch h
theorem apertureClose (n : Nat) (pa : Path) : Statement (.apertureClose n pa) := fun _ h => nomatch h
theorem lineTmo (n : Nat) (pa : Path) : Statement (.lineTmo n pa) := fun _ h => nomatch h
theorem rawCtrlGo (n : Nat) : Statement (.rawCtrlGo n) := fun _ h => nomatch h
theorem rawCtrlStop (n : Nat) : Statement (.rawCtrlStop n) := fun _ h => nomatch h
theorem rawCaptureEnd (n : Nat) : Statement (.rawCaptureEnd n) := fun _ h => nomatch h
theorem calLowWordWrite (p : Port) (e : Nat) (w : Word) : Statement (.calLowWordWrite p e w) := fun _ h => nomatch h
theorem calHighWordWrite (p : Port) (e : Nat) (w : Word) : Statement (.calHighWordWrite p e w) := fun _ h => nomatch h
theorem calLdGo (n : Nat) (w : Word) : Statement (.calLdGo n w) := fun _ h => nomatch h
theorem calLoadDone (n : Nat) : Statement (.calLoadDone n) := fun _ h => nomatch h
theorem spanWrite (n : Nat) (w : Word) : Statement (.spanWrite n w) := fun _ h => nomatch h
theorem dacClrWrite (n : Nat) (w : Word) : Statement (.dacClrWrite n w) := fun _ h => nomatch h
theorem conversionSlotBoundary (g : Nat) : Statement (.conversionSlotBoundary g) := fun _ h => nomatch h
theorem conversionResult (g : Nat) (res : Int) : Statement (.conversionResult g res) := fun _ h => nomatch h
theorem injReq (g k : Nat) (w : Word) : Statement (.injReq g k w) := fun _ h => nomatch h
theorem maCtrlCal (g : Nat) : Statement (.maCtrlCal g) := fun _ h => nomatch h
theorem calibrationComplete (g : Nat) : Statement (.calibrationComplete g) := fun _ h => nomatch h
theorem monCal (g : Nat) : Statement (.monCal g) := fun _ h => nomatch h
theorem genCtrlPrime (n d : Nat) : Statement (.genCtrlPrime n d) := fun _ h => nomatch h
theorem genCtrlStart (n d : Nat) : Statement (.genCtrlStart n d) := fun _ h => nomatch h
theorem genCtrlStop (n : Nat) : Statement (.genCtrlStop n) := fun _ h => nomatch h
theorem genCtrlJump (n d : Nat) : Statement (.genCtrlJump n d) := fun _ h => nomatch h
theorem genCtrlJumpNow (n d : Nat) : Statement (.genCtrlJumpNow n d) := fun _ h => nomatch h
theorem genCtrlMark (n back : Nat) : Statement (.genCtrlMark n back) := fun _ h => nomatch h
theorem genCtrlRewind (n : Nat) : Statement (.genCtrlRewind n) := fun _ h => nomatch h
theorem genCtrlUnmark (n : Nat) : Statement (.genCtrlUnmark n) := fun _ h => nomatch h
theorem genDescriptorWrite (n off : Nat) (w : Word) : Statement (.genDescriptorWrite n off w) := fun _ h => nomatch h
theorem commitPoint (n : Nat) : Statement (.commitPoint n) := fun _ h => nomatch h
theorem playEnd (n : Nat) : Statement (.playEnd n) := fun _ h => nomatch h
theorem jumpNowBoundary (n : Nat) : Statement (.jumpNowBoundary n) := fun _ h => nomatch h
theorem replayEnd (n : Nat) : Statement (.replayEnd n) := fun _ h => nomatch h
theorem refillRequest (n : Nat) : Statement (.refillRequest n) := fun _ h => nomatch h
theorem refillBurst (n : Nat) : Statement (.refillBurst n) := fun _ h => nomatch h
theorem genUnderrun (n : Nat) : Statement (.genUnderrun n) := fun _ h => nomatch h
theorem underrunEnd (n : Nat) : Statement (.underrunEnd n) := fun _ h => nomatch h
theorem ddsFtwLoWrite (p : Port) (n : Nat) (w : Word) : Statement (.ddsFtwLoWrite p n w) := fun _ h => nomatch h
theorem ddsFtwHiWrite (p : Port) (n : Nat) (w : Word) : Statement (.ddsFtwHiWrite p n w) := fun _ h => nomatch h
theorem ddsTabWrite (n i : Nat) (w : Word) : Statement (.ddsTabWrite n i w) := fun _ h => nomatch h
theorem ddsCtrlGo (n : Nat) : Statement (.ddsCtrlGo n) := fun _ h => nomatch h
theorem ddsCtrlHalt (n : Nat) : Statement (.ddsCtrlHalt n) := fun _ h => nomatch h
theorem ddsCtrlPhaseReset (n : Nat) : Statement (.ddsCtrlPhaseReset n) := fun _ h => nomatch h
theorem seqCmdBind (n x : Nat) : Statement (.seqCmdBind n x) := fun _ h => nomatch h
theorem seqCmdHalt (n : Nat) : Statement (.seqCmdHalt n) := fun _ h => nomatch h
theorem seqCmdResume (n : Nat) : Statement (.seqCmdResume n) := fun _ h => nomatch h
theorem seqCmdUnbind (n : Nat) : Statement (.seqCmdUnbind n) := fun _ h => nomatch h
theorem contextStoreWrite (x off : Nat) (w : Word) : Statement (.contextStoreWrite x off w) := fun _ h => nomatch h
theorem pinLoadDone (n : Nat) : Statement (.pinLoadDone n) := fun _ h => nomatch h
theorem cacheFill (line : Nat) (evict upset : Option Nat) : Statement (.cacheFill line evict upset) := fun _ h => nomatch h
theorem waitExpiry (n : Nat) : Statement (.waitExpiry n) := fun _ h => nomatch h
theorem waitevTimeout (n : Nat) : Statement (.waitevTimeout n) := fun _ h => nomatch h
theorem resourceGrant (r : Nat) : Statement (.resourceGrant r) := fun _ h => nomatch h
theorem nop (n : Nat) (f : TF) : Statement (.nop n f) := by simp [Statement, tyselParts, Instr.wf, inRange]
theorem halt (n : Nat) (f : TF) : Statement (.halt n f) := by simp [Statement, tyselParts, Instr.wf, inRange]
theorem jmp (n : Nat) (f : TF) : Statement (.jmp n f) := by simp [Statement, tyselParts, Instr.wf, inRange]
theorem brCc (n : Nat) (f : TF) : Statement (.brCc n f) := by simp [Statement, tyselParts, Instr.wf, inRange]
theorem call (n : Nat) (f : TF) : Statement (.call n f) := by simp [Statement, tyselParts, Instr.wf, inRange]
theorem ret (n : Nat) (f : TF) : Statement (.ret n f) := by simp [Statement, tyselParts, Instr.wf, inRange]
theorem loop (n : Nat) (f : TF) : Statement (.loop n f) := by simp [Statement, tyselParts, Instr.wf, inRange]
theorem mov (n : Nat) (f : TF) : Statement (.mov n f) := by simp [Statement, tyselParts, Instr.wf, inRange]
theorem ldi (n : Nat) (f : TF) : Statement (.ldi n f) := by simp [Statement, tyselParts, Instr.wf, inRange]
theorem add (n : Nat) (f : TF) : Statement (.add n f) := by simp [Statement, tyselParts, Instr.wf, inRange]
theorem sub (n : Nat) (f : TF) : Statement (.sub n f) := by simp [Statement, tyselParts, Instr.wf, inRange]
theorem mul (n : Nat) (f : TF) : Statement (.mul n f) := by simp [Statement, tyselParts, Instr.wf, inRange]
theorem shl (n : Nat) (f : TF) : Statement (.shl n f) := by simp [Statement, tyselParts, Instr.wf, inRange]
theorem shr (n : Nat) (f : TF) : Statement (.shr n f) := by simp [Statement, tyselParts, Instr.wf, inRange]
theorem andOp (n : Nat) (f : TF) : Statement (.andOp n f) := by simp [Statement, tyselParts, Instr.wf, inRange]
theorem orOp (n : Nat) (f : TF) : Statement (.orOp n f) := by simp [Statement, tyselParts, Instr.wf, inRange]
theorem xorOp (n : Nat) (f : TF) : Statement (.xorOp n f) := by simp [Statement, tyselParts, Instr.wf, inRange]
theorem cmp (n : Nat) (f : TF) : Statement (.cmp n f) := by simp [Statement, tyselParts, Instr.wf, inRange]
theorem mode (n : Nat) (f : TF) : Statement (.mode n f) := by simp [Statement, tyselParts, Instr.wf, inRange]
theorem range (n : Nat) (f : TF) : Statement (.range n f) := by simp [Statement, tyselParts, Instr.wf, inRange]
theorem force (n : Nat) (f : TF) : Statement (.force n f) := by simp [Statement, tyselParts, Instr.wf, inRange]
theorem limit (n : Nat) (f : TF) : Statement (.limit n f) := by simp [Statement, tyselParts, Instr.wf, inRange]
theorem ramp (n : Nat) (f : TF) : Statement (.ramp n f) := by simp [Statement, tyselParts, Instr.wf, inRange]
theorem loopOpen (n : Nat) (f : TF) : Statement (.loopOpen n f) := by simp [Statement, tyselParts, Instr.wf, inRange]
theorem loopClose (n : Nat) (f : TF) : Statement (.loopClose n f) := by simp [Statement, tyselParts, Instr.wf, inRange]
theorem coefStage (n : Nat) (f : TF) : Statement (.coefStage n f) := by simp [Statement, tyselParts, Instr.wf, inRange]
theorem coefCommit (n : Nat) (f : TF) : Statement (.coefCommit n f) := by simp [Statement, tyselParts, Instr.wf, inRange]
theorem coefRc (n : Nat) (f : TF) : Statement (.coefRc n f) := by simp [Statement, tyselParts, Instr.wf, inRange]
theorem coefReef (n : Nat) (f : TF) : Statement (.coefReef n f) := by simp [Statement, tyselParts, Instr.wf, inRange]
theorem meas (n : Nat) (f : TF) : Statement (.meas n f) := by simp [Statement, tyselParts, Instr.wf, inRange]
theorem measStop (n : Nat) (f : TF) : Statement (.measStop n f) := by simp [Statement, tyselParts, Instr.wf, inRange]
theorem mread (n : Nat) (f : TF) : Statement (.mread n f) := by simp [Statement, tyselParts, Instr.wf, inRange]
theorem emit (n : Nat) (f : TF) : Statement (.emit n f) := by simp [Statement, tyselParts, Instr.wf, inRange]
theorem genPrime (n : Nat) (f : TF) : Statement (.genPrime n f) := by simp [Statement, tyselParts, Instr.wf, inRange]
theorem genStart (n : Nat) (f : TF) : Statement (.genStart n f) := by simp [Statement, tyselParts, Instr.wf, inRange]
theorem genStop (n : Nat) (f : TF) : Statement (.genStop n f) := by simp [Statement, tyselParts, Instr.wf, inRange]
theorem genUnmark (n : Nat) (f : TF) : Statement (.genUnmark n f) := by simp [Statement, tyselParts, Instr.wf, inRange]
theorem seg (n : Nat) (f : TF) : Statement (.seg n f) := by simp [Statement, tyselParts, Instr.wf, inRange]
theorem dds (n : Nat) (f : TF) : Statement (.dds n f) := by simp [Statement, tyselParts, Instr.wf, inRange]
theorem mark (n : Nat) (f : TF) : Statement (.mark n f) := by simp [Statement, tyselParts, Instr.wf, inRange]
theorem rewind (n : Nat) (f : TF) : Statement (.rewind n f) := by simp [Statement, tyselParts, Instr.wf, inRange]
theorem jump (n : Nat) (f : TF) : Statement (.jump n f) := by simp [Statement, tyselParts, Instr.wf, inRange]
theorem listLd (n : Nat) (f : TF) : Statement (.listLd n f) := by simp [Statement, tyselParts, Instr.wf, inRange]
theorem listNext (n : Nat) (f : TF) : Statement (.listNext n f) := by simp [Statement, tyselParts, Instr.wf, inRange]
theorem listEntryArrival (n : Nat) : Statement (.listEntryArrival n) := fun _ h => nomatch h
theorem wait (n : Nat) (f : TF) : Statement (.wait n f) := by simp [Statement, tyselParts, Instr.wf, inRange]
theorem waitev (n : Nat) (f : TF) : Statement (.waitev n f) := by simp [Statement, tyselParts, Instr.wf, inRange]
theorem trig (n : Nat) (f : TF) : Statement (.trig n f) := by simp [Statement, tyselParts, Instr.wf, inRange]
theorem trigPin (n : Nat) (f : TF) : Statement (.trigPin n f) := by simp [Statement, tyselParts, Instr.wf, inRange]
theorem sync (n : Nat) (f : TF) : Statement (.sync n f) := by simp [Statement, tyselParts, Instr.wf, inRange]
theorem acq (n : Nat) (f : TF) : Statement (.acq n f) := by simp [Statement, tyselParts, Instr.wf, inRange]
theorem rel (n : Nat) (f : TF) : Statement (.rel n f) := by simp [Statement, tyselParts, Instr.wf, inRange]
theorem etarm (n : Nat) (f : TF) : Statement (.etarm n f) := by simp [Statement, tyselParts, Instr.wf, inRange]
theorem etread (n : Nat) (f : TF) : Statement (.etread n f) := by simp [Statement, tyselParts, Instr.wf, inRange]
theorem chain (n : Nat) (f : TF) : Statement (.chain n f) := by simp [Statement, tyselParts, Instr.wf, inRange]
theorem yield (n : Nat) (f : TF) : Statement (.yield n f) := by simp [Statement, tyselParts, Instr.wf, inRange]
theorem notify (n : Nat) (f : TF) : Statement (.notify n f) := by simp [Statement, tyselParts, Instr.wf, inRange]
theorem etCtrlArm (u : Nat) : Statement (.etCtrlArm u) := fun _ h => nomatch h
theorem etCtrlStats (u : Nat) : Statement (.etCtrlStats u) := fun _ h => nomatch h
theorem etCtrlStop (u : Nat) : Statement (.etCtrlStop u) := fun _ h => nomatch h
theorem edge (u src f cyc : Nat) (up : Bool) : Statement (.edge u src f cyc up) := fun _ h => nomatch h
theorem measurementComplete (u : Nat) : Statement (.measurementComplete u) := fun _ h => nomatch h
theorem measurementOverflow (u : Nat) : Statement (.measurementOverflow u) := fun _ h => nomatch h
theorem resultBlockWrite (u : Nat) : Statement (.resultBlockWrite u) := fun _ h => nomatch h
theorem tbGateEnd (len : Int) : Statement (.tbGateEnd len) := fun _ h => nomatch h
theorem ocxoRdyChange (level : Bool) : Statement (.ocxoRdyChange level) := fun _ h => nomatch h
theorem tbCfgWrite (w : Word) : Statement (.tbCfgWrite w) := fun _ h => nomatch h
theorem trainingDone (ok : Bool) : Statement (.trainingDone ok) := fun _ h => nomatch h
theorem burstCompletion (r : Req) (res : BurstResult) : Statement (.burstCompletion r res) := fun _ h => nomatch h
theorem scrubRead (res : BurstResult) : Statement (.scrubRead res) := fun _ h => nomatch h
theorem arbTktWrite (p : Nat) (w : Word) : Statement (.arbTktWrite p w) := fun _ h => nomatch h
theorem arbSeedWrite (w : Word) : Statement (.arbSeedWrite w) := fun _ h => nomatch h
theorem resHcmdAcq (r : Nat) : Statement (.resHcmdAcq r) := fun _ h => nomatch h
theorem resHcmdRel (r : Nat) : Statement (.resHcmdRel r) := fun _ h => nomatch h
theorem streamItemOffer (k : Nat) (it : List Byte) : Statement (.streamItemOffer k it) := fun _ h => nomatch h
theorem streamSpill (k : Nat) (upset : Option (Nat × Nat)) : Statement (.streamSpill k upset) := fun _ h => nomatch h
theorem streamRefill (k : Nat) (res : BurstResult) : Statement (.streamRefill k res) := fun _ h => nomatch h
theorem strCfgWrite (k : Nat) (w : Word) : Statement (.strCfgWrite k w) := fun _ h => nomatch h
theorem strCtrlDrop (k : Nat) : Statement (.strCtrlDrop k) := fun _ h => nomatch h
theorem strCtrlPurge (k : Nat) : Statement (.strCtrlPurge k) := fun _ h => nomatch h
theorem strCtrlCntClr (k : Nat) : Statement (.strCtrlCntClr k) := fun _ h => nomatch h
theorem streamReadComplete (k : Nat) (upset : Option (Nat × Nat)) : Statement (.streamReadComplete k upset) := fun _ h => nomatch h
theorem coalesceExpiry (k : Nat) : Statement (.coalesceExpiry k) := fun _ h => nomatch h
theorem streamReadTimeout (k : Nat) : Statement (.streamReadTimeout k) := fun _ h => nomatch h
theorem streamSlow (k : Nat) : Statement (.streamSlow k) := fun _ h => nomatch h
theorem signalDetect (lanes : Nat) : Statement (.signalDetect lanes) := fun _ h => nomatch h
theorem adaptationEnd (lanes : Nat) : Statement (.adaptationEnd lanes) := fun _ h => nomatch h
theorem markerLock (lanes : Nat) : Statement (.markerLock lanes) := fun _ h => nomatch h
theorem initFlit (flit : BitVec 256) : Statement (.initFlit flit) := fun _ h => nomatch h
theorem flitBlock (tag : BitVec 10) (flit : BitVec 256) (fec : Fec) (began : List Fec) : Statement (.flitBlock tag flit fec began) := fun _ h => nomatch h
theorem flow (flit : BitVec 256) : Statement (.flow flit) := fun _ h => nomatch h
theorem replayTimeout (c : Nat) : Statement (.replayTimeout c) := fun _ h => nomatch h
theorem regRd (p : Port) (tag addr words : Nat) : Statement (.regRd p tag addr words) := fun _ h => nomatch h
theorem regWr (p : Port) (tag addr : Nat) (ws : List Word) : Statement (.regWr p tag addr ws) := fun _ h => nomatch h
theorem strRd (tag k maxb : Nat) : Statement (.strRd tag k maxb) := fun _ h => nomatch h
theorem strDrop (tag k : Nat) : Statement (.strDrop tag k) := fun _ h => nomatch h
theorem abortHalt (tag : Nat) (mask : Word) : Statement (.abortHalt tag mask) := fun _ h => nomatch h
theorem abortHold (tag : Nat) (mask : Word) : Statement (.abortHold tag mask) := fun _ h => nomatch h
theorem abortOff (tag : Nat) (mask : Word) : Statement (.abortOff tag mask) := fun _ h => nomatch h
theorem abortFurl (tag : Nat) (mask : Word) : Statement (.abortFurl tag mask) := fun _ h => nomatch h
theorem keepalive (tag : Nat) : Statement (.keepalive tag) := fun _ h => nomatch h
theorem bulkWr (tag addr : Nat) (data : List Byte) : Statement (.bulkWr tag addr data) := fun _ h => nomatch h
theorem bulkRd (tag addr len : Nat) : Statement (.bulkRd tag addr len) := fun _ h => nomatch h
theorem mgmtSpiRead (addr : Nat) (crc : Byte) (cmd : Byte) (cut : Bool) : Statement (.mgmtSpiRead addr crc cmd cut) := fun _ h => nomatch h
theorem mgmtSpiWrite (addr : Nat) (w : Word) (crc : Byte) (cut : Bool) : Statement (.mgmtSpiWrite addr w crc cut) := fun _ h => nomatch h
theorem selfTestStart (i : Nat) : Statement (.selfTestStart i) := fun _ h => nomatch h
theorem selfTestResult (i : Nat) (persistent : Bool) : Statement (.selfTestResult i persistent) := fun _ h => nomatch h
theorem holdRel (w : Word) : Statement (.holdRel w) := fun _ h => nomatch h
theorem chFurledRelease (w : Word) : Statement (.chFurledRelease w) := fun _ h => nomatch h
theorem fiCtrlGo (w : Word) : Statement (.fiCtrlGo w) := fun _ h => nomatch h
theorem selftestDone (item spares : Nat) : Statement (.selftestDone item spares) := fun _ h => nomatch h
theorem otpCtrlProg (w : Word) : Statement (.otpCtrlProg w) := fun _ h => nomatch h
theorem otpProgDone (word : Word) : Statement (.otpProgDone word) := fun _ h => nomatch h
theorem otpEnFall (word : Word) : Statement (.otpEnFall word) := fun _ h => nomatch h
theorem probeWrite (p : Nat) (w : Word) : Statement (.probeWrite p w) := fun _ h => nomatch h
theorem traceRecord (p : Nat) (kind : Bool) : Statement (.traceRecord p kind) := fun _ h => nomatch h
theorem cntSelWrite (i : Nat) (w : Word) : Statement (.cntSelWrite i w) := fun _ h => nomatch h
theorem illegal (n : Nat) (f : TF) : Statement (.illegal n f) := fun _ h => nomatch h
theorem refPresent (level : Bool) : Statement (.refPresent level) := fun _ h => nomatch h
theorem pllLocked : Statement (.pllLocked) := fun _ h => nomatch h
theorem refclkLoss : Statement (.refclkLoss) := fun _ h => nomatch h
theorem pllUnlock : Statement (.pllUnlock) := fun _ h => nomatch h
theorem tickCtrlMark : Statement (.tickCtrlMark) := fun _ h => nomatch h
theorem tickCtrlRelock : Statement (.tickCtrlRelock) := fun _ h => nomatch h
theorem ticktimeLoad : Statement (.ticktimeLoad) := fun _ h => nomatch h
theorem locked : Statement (.locked) := fun _ h => nomatch h
theorem markerDetect : Statement (.markerDetect) := fun _ h => nomatch h
theorem tickLoss : Statement (.tickLoss) := fun _ h => nomatch h
theorem clrNAssert : Statement (.clrNAssert) := fun _ h => nomatch h
theorem clrNRecognised : Statement (.clrNRecognised) := fun _ h => nomatch h
theorem clrNDeassert : Statement (.clrNDeassert) := fun _ h => nomatch h
theorem clrLatchClear : Statement (.clrLatchClear) := fun _ h => nomatch h
theorem rcbClockRestart : Statement (.rcbClockRestart) := fun _ h => nomatch h
theorem icCtrlFlush : Statement (.icCtrlFlush) := fun _ h => nomatch h
theorem refLost : Statement (.refLost) := fun _ h => nomatch h
theorem memCtrlInit : Statement (.memCtrlInit) := fun _ h => nomatch h
theorem arbiterDraw : Statement (.arbiterDraw) := fun _ h => nomatch h
theorem agingGrant : Statement (.agingGrant) := fun _ h => nomatch h
theorem burstIssue : Statement (.burstIssue) := fun _ h => nomatch h
theorem alignTimeout : Statement (.alignTimeout) := fun _ h => nomatch h
theorem initTimeout : Statement (.initTimeout) := fun _ h => nomatch h
theorem lnkCtrlRetrain : Statement (.lnkCtrlRetrain) := fun _ h => nomatch h
theorem lnkCtrlLogClr : Statement (.lnkCtrlLogClr) := fun _ h => nomatch h
theorem lnkCtrlCntClr : Statement (.lnkCtrlCntClr) := fun _ h => nomatch h
theorem flowSend : Statement (.flowSend) := fun _ h => nomatch h
theorem flitTransmit : Statement (.flitTransmit) := fun _ h => nomatch h
theorem violationWindowEnd : Statement (.violationWindowEnd) := fun _ h => nomatch h
theorem linkHb : Statement (.linkHb) := fun _ h => nomatch h
theorem lanyardMessage (par : Option (Nat × Bool)) : Statement (.lanyardMessage par) := fun _ h => nomatch h
theorem faultReaction (silent : List Nat) : Statement (.faultReaction silent) := fun _ h => nomatch h
theorem mirrorWrite : Statement (.mirrorWrite) := fun _ h => nomatch h
theorem devFurlRelease : Statement (.devFurlRelease) := fun _ h => nomatch h
theorem faultInjectionSend : Statement (.faultInjectionSend) := fun _ h => nomatch h
theorem resetNAssert : Statement (.resetNAssert) := fun _ h => nomatch h
theorem supplyTrip : Statement (.supplyTrip) := fun _ h => nomatch h
theorem resetEnd : Statement (.resetEnd) := fun _ h => nomatch h
theorem otpReadDone : Statement (.otpReadDone) := fun _ h => nomatch h
theorem bootTimeout : Statement (.bootTimeout) := fun _ h => nomatch h
theorem traceSend : Statement (.traceSend) := fun _ h => nomatch h
theorem obsPacketTimeout : Statement (.obsPacketTimeout) := fun _ h => nomatch h
theorem pcCtrlClr : Statement (.pcCtrlClr) := fun _ h => nomatch h
theorem pcCtrlSnap : Statement (.pcCtrlSnap) := fun _ h => nomatch h
theorem spareRelease : Statement (.spareRelease) := fun _ h => nomatch h

end Sys2Proof.Laws.OperandShape
end

