-- ==== Sys2Proof/Laws/Tick.lean ====
section
/-! SUPPORT. What a step on an empty queue is: the second step of a reset, going on by itself, or the tick edge. -/

namespace Sys2Proof.Machine

/-- On an empty queue the device goes on by itself. -/
theorem step_empty {s : State} (h : s.pending = []) : step s = .next (idleStep s) := by simp only [step, h]

/-- A reset whose second step is still to come comes to it (14 R380). -/
theorem step_resetting {s : State} (h : s.pending = []) (hr : s.inReset = true) (hs : s.resetting = true) :
    step s = .next (resetBlocks s) := by simp [step_empty h, idleStep, hr, hs]

/-- A device that is not in reset stays out of it and keeps DDR5 while it goes on by itself. -/
theorem step_goes_on {s : State} (h : s.pending = []) (hr : s.inReset = false) :
    step s = .next { goOn s with inReset := false, ddr := s.ddr } := by simp [step_empty h, idleStep, hr]

/-- Where the tick is over the device's next step is the tick edge. -/
theorem step_tick {s : State} (h : TickOver s) : step s = .next { tickEdge s with inReset := false, ddr := s.ddr } := by
  obtain ⟨⟨hr, hrun⟩, hp, hdue, hplay, hreq, hslot, hauto, hlate⟩ := h
  rw [step_goes_on hp hr]
  simp only [goOn, hdue, hrun, hplay, hlate, Option.isNone_iff_eq_none.mp hreq, Option.isNone_iff_eq_none.mp hauto,
    Nat.not_lt.mpr hslot, Bool.not_true, Bool.false_eq_true, if_false]

end Sys2Proof.Machine
end

