-- ==== Sys2Proof/Laws/Tysel.lean ====
section
/-! SUPPORT. What the shared operations of Tysel instructions do: slots, gd, flags and the PC. -/

namespace Sys2Proof.Machine

/-- A bit of a word, as the library spells it. -/
theorem bit_lsb (w : Word) (i : Nat) : bit w i = w.getLsbD i := by
  unfold bit
  rw [BitVec.getLsbD, Nat.testBit_eq_decide_div_mod_eq, Bool.beq_eq_decide_eq]
section
variable (s : State)
@[simp] theorem rd_takeSlots (n c p a : Nat) : rd (takeSlots n c p s) a = rd s a := by simp [takeSlots]
@[simp] theorem pending_takeSlots (n c p : Nat) : (takeSlots n c p s).pending = s.pending := by simp [takeSlots]
@[simp] theorem inReset_takeSlots (n c p : Nat) : (takeSlots n c p s).inReset = s.inReset := by simp [takeSlots]
@[simp] theorem ddr_takeSlots (n c p : Nat) : (takeSlots n c p s).ddr = s.ddr := by simp [takeSlots]
@[simp] theorem gf_takeSlots (n c p a lo len : Nat) : gf (takeSlots n c p s) a lo len = gf s a lo len := by simp [gf]
@[simp] theorem pcOf_takeSlots (n c p x : Nat) : pcOf (takeSlots n c p s) x = pcOf s x := by simp [pcOf]
@[simp] theorem gReg_takeSlots (n c p x i : Nat) : gReg (takeSlots n c p s) x i = gReg s x i := by simp [gReg]
@[simp] theorem opA_takeSlots (n c p x : Nat) (f) : opA (takeSlots n c p s) x f = opA s x f := by simp [opA]
@[simp] theorem opB_takeSlots (n c p x : Nat) (f) : opB (takeSlots n c p s) x f = opB s x f := by simp [opB]
@[simp] theorem pending_setG (x i w) : (setG x i w s).pending = s.pending := by unfold setG; split <;> simp
@[simp] theorem inReset_setG (x i w) : (setG x i w s).inReset = s.inReset := by unfold setG; split <;> simp
@[simp] theorem ddr_setG (x i w) : (setG x i w s).ddr = s.ddr := by unfold setG; split <;> simp
@[simp] theorem pending_putFlags (x o) : (putFlags x o s).pending = s.pending := by unfold putFlags putZN putZ putC putOvf; cases o.c <;> cases o.ovf <;> simp
@[simp] theorem inReset_putFlags (x o) : (putFlags x o s).inReset = s.inReset := by unfold putFlags putZN putZ putC putOvf; cases o.c <;> cases o.ovf <;> simp
@[simp] theorem ddr_putFlags (x o) : (putFlags x o s).ddr = s.ddr := by unfold putFlags putZN putZ putC putOvf; cases o.c <;> cases o.ovf <;> simp
theorem rd_setG_of_ne (x i a : Nat) (w : Word) (h : i ≠ 0 → cxA x (R.cxG0 + 4*i) ≠ a) : rd (setG x i w s) a = rd s a := by
  unfold setG; split
  · rfl
  · next hi => exact rd_wr_of_ne s w (h hi)
theorem rd_putFlags_of_ne (x a : Nat) (o : Alu) (h : cxA x R.cxFlags ≠ a) : rd (putFlags x o s) a = rd s a := by
  unfold putFlags putZN putZ putC putOvf
  cases o.c <;> cases o.ovf <;> simp only [rd_sb_of_ne _ _ _ h]
theorem gb_sb (a i j : Nat) (b : Bool) (hi : i < 32) : gb (sb a i b s) a j = if i = j then b else gb s a j := by
  by_cases h : i = j
  · subst h; simp [gb_sb_same _ _ _ _ hi]
  · simp [h, gb_sb_of_ne_bit _ _ _ _ _ hi h]
theorem flags_putFlags (x : Nat) (o : Alu) : AluFlags x o.r (o.c.getD (flagC s x)) (o.ovf.getD (flagOvf s x)) s (putFlags x o s) := by
  unfold putFlags putZN putZ putC putOvf AluFlags flagZ flagN flagC flagOvf flagCmp
  cases hc : o.c <;> cases ho : o.ovf <;> simp [gb_sb, bit_lsb, Bool.beq_eq_decide_eq]
theorem gb_eq_rd {t : State} {a i : Nat} (h : rd t a = rd s a) : gb t a i = gb s a i := by simp [gb, h]
end
theorem pcOf_advance (s : State) (x f) : pcOf (advance x f s) x = (pcOf s x + TF.words f) % 2 ^ 20 := by
  unfold pcOf advance
  exact gf_sf_same s _ 0 20 _ (by omega)
theorem rd_advance_of_ne (s : State) (x a f) (h : cxA x R.cxPc ≠ a) : rd (advance x f s) a = rd s a := rd_sf_of_ne s _ _ _ h
theorem cx_ne (x a b : Nat) (h : a ≠ b) : cxA x a ≠ cxA x b := by unfold cxA; omega
theorem regs_alu (s : State) (x f o) : RegsExcept (gdReg x f ++ [cxA x R.cxFlags, cxA x R.cxPc]) s
    (advance x f (putFlags x o (setG x f.rd.toNat o.r s))) := by
  intro a ha
  simp only [List.mem_append, List.mem_cons, List.not_mem_nil, or_false, not_or] at ha
  rw [rd_advance_of_ne _ _ _ _ (fun h => ha.2.2 h.symm), rd_putFlags_of_ne _ _ _ _ (fun h => ha.2.1 h.symm), rd_setG_of_ne]
  intro h0 h
  apply ha.1
  unfold gdReg
  rw [if_neg, h]
  · simp
  · intro h; apply h0; rw [h]; rfl
theorem gd_alu (s : State) (x f o) : GdTakes x f o.r (advance x f (putFlags x o (setG x f.rd.toNat o.r s))) := by
  unfold GdTakes gReg
  by_cases h : f.rd = 0
  · simp [h]
  · have h0 : f.rd.toNat ≠ 0 := fun e => h (BitVec.eq_of_toNat_eq e)
    rw [if_neg h0, if_neg h, rd_advance_of_ne _ _ _ _ (cx_ne _ _ _ (by have := f.rd.isLt; simp only [R.cxG0, R.cxPc]; omega)),
      rd_putFlags_of_ne _ _ _ _ (cx_ne _ _ _ (by have := f.rd.isLt; simp only [R.cxG0, R.cxFlags]; omega))]
    unfold setG
    rw [if_neg h0, rd_wr_same]
theorem flags_of_rd {s t s' t' : State} {x r c v} (h : AluFlags x r c v s t) (hs : rd s' (cxA x R.cxFlags) = rd s (cxA x R.cxFlags))
    (ht : rd t' (cxA x R.cxFlags) = rd t (cxA x R.cxFlags)) : AluFlags x r c v s' t' := by
  unfold AluFlags flagZ flagN flagC flagOvf flagCmp gb at *
  rw [hs, ht]; exact h

end Sys2Proof.Machine
end

