-- ==== Sys2Proof/Tests/Slice0.lean ====
section
/-! SUPPORT. Tests: ill-formed commands that the check refuses, states that meet the hypotheses of the statements, and single
steps against values worked out from the spec by hand. -/

namespace Sys2Proof.Tests

open Sys2Proof.Machine

/-- A running device with context 0 bound to CH0 and executing. -/
def ctxRun : State := { State.reset with regs := [(R.devState, 24), (R.clkStat, 2), (cxA 0 0, 2), (sqA 0 R.seqStat, 0x1000)] }

/-- A running device. -/
def up : State := { State.reset with regs := [(R.devState, 24), (R.clkStat, 2)] }

/-- A running device that has done everything of its tick. -/
def tickOver : State := { up with variant := .vs3208, now := 1, slot := 256, lcs := [(0, { done := true })] }

theorem wit_AluSumsAndProducts : let f : TF := ⟨15, 1, true, 1, 5⟩; (f.x = true → TF.rb f = 0) ∧ TF.fn f = 1 ∧ Executes 0 0 3 ctxRun := by decide

theorem wit_AluSums_fn0 : let f : TF := ⟨0, 15, false, 0xF000, 0⟩; (f.x = true → TF.rb f = 0) ∧ TF.fn f = 0 ∧ f.rd = 0 ∧ Executes 0 0 8 ctxRun := by decide

theorem wit_ShiftsAndBitwiseOperations : let f : TF := ⟨3, 1, true, 0, 33⟩; let g : TF := ⟨3, 1, false, 0x2001, 0⟩; (f.x = true → TF.rb f = 0) ∧ TF.fn f = 0 ∧ TF.fn g = 1 ∧ Executes 0 0 2 ctxRun := by decide

theorem wit_MovesAndImmediates : noFields ⟨0, 0, false, 0, 0⟩ = true ∧ Executes 0 0 8 ctxRun ∧ TF.fn ⟨15, 0, false, 3, 0⟩ = 3 ∧ TF.rb ⟨3, 3, false, 1, 0⟩ = 0 := by decide

theorem wit_BranchesCallsAndLoops : let f : TF := ⟨0, 0, false, 0, 0⟩; let s := wr (cxA 0 R.cxDepth) 7 ctxRun; f.ra = 0 ∧ (f.x = true → f.imm = 0 ∧ fld f.ext 20 12 = 0) ∧ f.rd ≠ 15 ∧ f.rd.toNat < 4 ∧ Executes 0 0 1 s ∧ 0 < stackDepth s 0 ∧ stackDepth s 0 < 8 := by decide

theorem wit_ChannelWritesOfInstructions : let f : TF := ⟨0, 0, false, 8, 0⟩; let g : TF := ⟨0, 1, false, 7, 0⟩; immOnly 16 f = true ∧ Executes 0 0 8 ctxRun ∧ modeRejected ctxRun 0 8 = false ∧ modeHolds ctxRun 0 = false ∧ noFields ⟨0, 0, false, 0, 0⟩ = true ∧ TF.rb g = 0 ∧ TF.fn g = 7 := by decide

theorem wit_PulseGoOfInstruction : let f : TF := ⟨0, 1, false, 5, 0⟩; let s := wr (chA 0 R.chStat) 4 ctxRun; TF.fn f = 5 ∧ Executes 0 0 1 s ∧ pulseRejected s 0 = false ∧ FW.pulseGo ∉ (chan s 0).shadow := by decide

theorem wit_ModeRefusedOrHeld : let f : TF := ⟨0, 0, false, 8, 0⟩; let s := wr (chA 0 R.chStat) 0x402 ctxRun; let g : TF := ⟨0, 1, false, 5, 0⟩; immOnly 16 f = true ∧ Executes 0 0 1 s ∧ modeRejected s 0 8 = false ∧ modeHolds s 0 = true ∧ modeRejected s 0 9 = true ∧ immOnly 16 ⟨0, 0, false, 9, 0⟩ = true ∧ TF.fn g = 5 ∧ pulseRejected s 0 = true := by decide

theorem wit_CoefficientInstructions : let f : TF := ⟨7, 0, true, 5, 3⟩; TF.rb f = 0 ∧ TF.fn f < 6 ∧ f.rd.toNat < 8 ∧ (f.x = true → f.ra = 0) ∧ Executes 0 0 8 ctxRun ∧ hasRc ctxRun = true ∧ TF.fn ⟨0, 0, false, 0x202, 0⟩ = 0x202 ∧ TF.fn ⟨7, 0, false, 0x10F, 0⟩ / 256 = 1 := by decide

theorem wit_ReefInstructions : let s := wr (chA 0 R.chStat) 8 (wr (chA 0 0x3000) 0x100 ctxRun); let r := updChan 0 (fun c => { c with shadow := [.reef true] }) s; Executes 0 0 1 s ∧ gb s (chA 0 0x3000) 8 = true ∧ reefAhead s 0 = false ∧ modeNow s 0 = 8 ∧ gb ctxRun (chA 0 0x3000) 8 = false ∧ Executes 0 0 1 ctxRun ∧ TF.fn ⟨0, 0, false, 0x301, 0⟩ = 0x301 ∧ reefAhead r 0 = true ∧ Executes 0 0 1 r := by decide

theorem wit_WaitsAndHalts : let f : TF := ⟨0, 0, false, 0, 0⟩; let s := wr R.barCfg 2 ctxRun; noFields f = true ∧ Executes 0 0 8 s ∧ EtQuiet s ∧ hasLine s (TF.fn f) = true ∧ TF.rb f = 0 ∧ immOnly 64 f = true ∧ barCount s (TF.immBits f 0 6) ≠ 0 ∧ ∀ r, r < 36 → shareable r = false → holds s 0 r = false := by decide

theorem wit_MeasurementInstructions : let f : TF := ⟨0, 0, false, 3, 0⟩; let g : TF := ⟨1, 0, false, 0x14, 0⟩; immOnly 4 f = true ∧ f.imm ≠ 0 ∧ Executes 0 0 8 ctxRun ∧ ((chan ctxRun 0).path .i).ap = none ∧ ((chan ctxRun 0).path .v).stop = false ∧ g.ra = 0 ∧ TF.rb g = 0 ∧ TF.fn g = 0x14 := by decide

theorem wit_MeasStopEmitNotify : let f : TF := ⟨0, 0, false, 7, 0⟩; immOnly 8 f = true ∧ 5 ≤ f.imm.toNat ∧ Executes 0 0 3 ctxRun ∧ emitFull ctxRun 0 = false ∧ (seq ctxRun 0).notes < 4 ∧ TF.fn ⟨0, 0, false, 0, 0⟩ = 0 := by decide

theorem wit_NoRoom : let s := updSeq 0 (fun q => { q with notes := 4 }) (updChan 0 (fun c => { c with recs := List.replicate 8 [] }) (wr (stA 0 R.strCfg) 1 ctxRun)); Executes 0 0 3 s ∧ emitFull s 0 = true ∧ 4 ≤ (seq s 0).notes := by decide

theorem wit_GeneratorInstructions : let f : TF := ⟨0, 0, false, 0, 0⟩; let s := wr (gdA 0 0 12) 0x80000000 ctxRun; let u := updGen 0 (fun g => { g with run := true, mark := some 5 }) s; noFields f = true ∧ Executes 0 0 8 s ∧ startRefused s 0 0 = false ∧ Executes 0 0 8 u ∧ jumpRefused u 0 0 = false ∧ markRefused u 0 = false ∧ rewindRefused u 0 = false ∧ startRefused u 0 0 = true ∧ jumpRefused s 0 0 = true ∧ markRefused s 0 = true ∧ rewindRefused s 0 = true := by decide

theorem wit_SegInstruction : let f : TF := ⟨0, 0, true, 3, 0x80000000⟩; let s := wr (gdA 0 0 8) 4 ctxRun; (f.x = true → f.ra = 0) ∧ TF.fn f = 3 ∧ Executes 0 0 2 s ∧ gdHeld s 0 0 12 0x80000000 = false ∧ gdCheck s 0 0 = true ∧ (let u := updGen 0 (fun g => { g with cur := some 0 }) s; Executes 0 0 2 u ∧ gdHeld u 0 0 12 0x80000000 = true) ∧ Executes 0 0 2 ctxRun ∧ gdHeld ctxRun 0 0 12 0x80000000 = false ∧ gdCheck ctxRun 0 0 = false := by decide

theorem wit_ListInstructions : let f : TF := ⟨0, 1, false, 0x1000, 0⟩; let g : TF := ⟨2, 0, false, 1, 0⟩; let s := wr (cxA 0 (R.cxG0 + 4)) 3 ctxRun; let u := updChan 0 (fun c => { c with list := { started := true, buf := [some 7] } }) (wr (lsA 0 R.lstLen) 4 (wr (lsA 0 R.lstStat) 1 ctxRun)); Executes 0 0 2 s ∧ fld (gReg s 0 1) 0 25 = 3 ∧ TF.rb f = 1 ∧ TF.fn f = 0 ∧ 64 * 3 + 4 * 3 ≤ memSize s ∧ Executes 0 0 2 ctxRun ∧ fld (gReg ctxRun 0 1) 0 25 = 0 ∧ TF.fn g = 1 ∧ TF.rb g = 0 ∧ Executes 0 0 1 u ∧ listEnd u 0 = false ∧ (chan u 0).list.buf.head?.join = some 7 := by decide

theorem wit_ListArrival : let s := wr (lsA 0 R.lstLen) 20 { up with arb := { inbox := [({ port := 5, offset := 0, who := .list 0 0 16, write := false }, some (leBytes 64 9))] } }; ChanIn 0 s ∧ (fromInbox s 5 (fun w => match w with | .list m _ _ => m == 0 | _ => false)).map (fun e => e.1.who) = some (.list 0 (chan s 0).list.epoch 16) ∧ 16 < listLen s 0 := by decide

theorem wit_EventAndResourceInstructions : let f : TF := ⟨0, 0, false, 1, 0⟩; let s := setHeld 0 1 true ctxRun; let g : TF := ⟨0, 0, false, 3, 0⟩; f.x = false ∧ f.ra = 0 ∧ Executes 0 0 8 s ∧ holds s 0 1 = true ∧ EtQuiet s ∧ hasEt s 1 = true ∧ hasRes s 3 = true ∧ freeNow s 3 = true ∧ (∀ q, q < 36 → holds s 0 q = true → q < TF.immBits g 0 6) ∧ TF.immBits ⟨0, 0, false, 0x8007, 0⟩ 3 13 = 4096 := by decide

theorem wit_AcqQueues : let s := updRes 35 (fun q => { q with holders := [.host] }) ctxRun; hasRes s 35 = true ∧ freeNow s 35 = false ∧ Executes 0 0 1 s ∧ TF.immBits ⟨0, 0, false, 35, 0⟩ 0 6 = 35 := by decide

theorem wit_Chain : 1 < nCtxs ctxRun ∧ ctxState ctxRun 1 = 0 ∧ chainTarget ctxRun 1 = false ∧ pinsBad ctxRun 0 1 = false ∧ TF.immBits ⟨0, 0, false, 1, 0⟩ 0 12 = 1 := by decide

theorem wit_ContextExceptions : let f : TF := ⟨0, 0, false, 35, 0⟩; let s := setHeld 0 35 true (wr (cxA 0 R.cxDepth) 8 ctxRun); (seq s 0).pendSt ≠ some 4 ∧ EtQuiet s ∧ Executes 0 0 (TF.words f) s ∧ noFields f = false ∧ f.imm.toNat < 36 ∧ hasRes s 35 = true ∧ (∃ q, q < 36 ∧ holds s 0 q = true ∧ 35 ≤ q) ∧ holds s 0 34 = false ∧ 8 ≤ stackDepth s 0 ∧ stackDepth ctxRun 0 = 0 ∧ barCount ctxRun 0 = 0 ∧ ctxState s 0 ≠ 0 ∧ 0 < nCtxs s := by decide

theorem wit_ContextExceptionsAbsent : let s := { ctxRun with variant := .vs3208 }; Executes 0 0 1 s ∧ hasRes s 0 = false ∧ hasEt s 0 = false ∧ hasLine s 9 = false ∧ hasRc s = false ∧ TF.fn ⟨0, 0, false, 0x200, 0⟩ = 0x200 ∧ nCtxs s ≤ 0xFFF := by decide

theorem wit_ChainBad : let s := sb (cxA 1 R.cxState) 3 true (sf (cxA 1 R.cxPin) 0 12 2049 ctxRun); let u := updSeq 1 (fun q => { q with chainTo := some 1 }) ctxRun; Executes 0 0 1 s ∧ ctxState s 1 = 0 ∧ chainTarget s 1 = false ∧ pinsBad s 0 1 = true ∧ chainTarget u 1 = true ∧ ctxState u 1 = 0 := by decide +kernel

theorem wit_ListFault : let s := updChan 0 (fun c => { c with list := { started := true, buf := [none] } }) (wr (lsA 0 R.lstLen) 4 (wr (lsA 0 R.lstStat) 1 ctxRun)); Executes 0 0 1 s ∧ listEnd s 0 = false ∧ (chan s 0).list.buf.head? = some none := by decide

theorem wit_SoftwareEvents : Operating up := by decide

theorem wit_MarkersWithoutEffect : let s := { wr R.tickCtrl 2 up with marker := [0] }; Operating s ∧ gf s R.tickCtrl 0 2 = 2 ∧ s.now ∈ s.marker ∧ gb s R.tickCtrl 9 = false := by decide

theorem wit_SharedTick : let s := { wr R.tickCtrl 2 up with flw := { expect := some 2, goodRun := 16, missing := 4 } }; Operating s ∧ gf s R.tickCtrl 0 2 = 2 ∧ gb s R.tickStat 0 = false ∧ 16 ≤ s.flw.goodRun ∧ s.flw.realign = false ∧ ∀ n ∈ chans s, modeNow s n = 0 := by decide

theorem wit_SharedTickLoss : let s := { wr R.tickStat 1 (wr R.tickCtrl 0x202 up) with flw := { missing := 4, markDue := true }, marker := [0] }; Operating s ∧ gb s R.tickStat 0 = true ∧ s.flw.markDue = true ∧ 4 ≤ s.flw.missing ∧ s.now ∈ s.marker ∧ gb s R.tickCtrl 9 = true := by decide

theorem wit_SharedTickEdges : let s := fun (f : Follower) => { wr R.tickStat 1 (wr R.tickCtrl 2 up) with flw := f, marker := [1] }; (Operating (s {}) ∧ gf (s {}) R.tickCtrl 0 2 = 2) ∧ (s { expect := some 0, goodRun := 3 }).flw.realign = false ∧ (s { expect := some 49, late := some 5, missing := 1, markDue := true }).flw.late = some 5 ∧ (s { expect := some 49 }).flw.late = none ∧ ¬ (10 = 7 ∨ 10 = (7 + 1) % 50 ∨ (10 + 1) % 50 = 7) ∧ (s { realign := true }).flw.realign = true := by decide

theorem wit_SharedTickRejected : let s := wr (chA 0 R.chStat) 4 (wr R.tickCtrl 1 up); Operating s ∧ gf s R.tickCtrl 0 2 ≠ 2 ∧ ∃ n ∈ chans s, modeNow s n ≠ 0 := by decide

theorem wit_EventLinesAndPins : let s := updSeq 0 (fun q => { q with wait := .event 50 none 2 }) { wr R.trigCfg 0x322 ctxRun with now := 3, asserting := [50], trig := [(1, { until_ := some 2 })] }; Operating s ∧ (50 ∈ s.asserting ∧ 50 ∉ s.evDone) ∧ hasChan s 0 = true ∧ boundCtx s 0 = some 0 ∧ (seq s 0).wait = .event 50 none 2 ∧ 2 < s.now ∧ (∀ m ∈ chans s, m ≠ 0 → boundCtx s m ≠ some 0) ∧ gf s R.trigCfg 0 2 = 2 ∧ gf s R.trigCfg 4 6 = 50 ∧ ∃ u ∈ (tpin s 1).until_, u < s.now := by decide

theorem wit_TriggerInputEdge : let s := wr R.trigCfg 5 up; Operating s ∧ gf s R.trigCfg 0 2 = 1 ∧ false = !gb s R.trigCfg 2 := by decide

theorem wit_RegisterAccess : Operating up ∧ writeStatus up .tc1 R.tickStat [0] ≠ 0 ∧ hasChan up 31 = true ∧ 4095 < nCtxs up ∧ ctxState up 4095 = 0 ∧ captured R.ticktimeLo = [R.ticktimeLo + 4] ∧ readStatus up .spi R.ticktimeLo 1 = 0 ∧ hasStream up 3 = true ∧ strEn up 3 = false ∧ strItems (strm up 3) = [] ∧ (strm up 3).reads = [] := by decide

theorem wit_RegisterAccessRejected : let s := wr (stA 3 R.strCfg) 1 (wr (chA 0 R.chStat) 4 up); Operating s ∧ (∃ m ∈ chans s, modeNow s m ≠ 0) ∧ (fld 2 0 8 ≠ gf s R.tickCtrl 0 8 ∧ (2 : Word).getLsbD 10 = false) ∧ hasStream s 3 = true ∧ strEn s 3 = true ∧ fld 0xFFF00000 20 12 ≠ gf s (stA 3 R.spillBaseLo) 20 12 := by decide

theorem wit_ModeWrites : let s := wr (chA 0 R.chStat) 0x402 up; ChanIn 0 s ∧ modeRejected s 0 9 = true ∧ modeRejected s 0 3 = false ∧ modeHolds s 0 = true ∧ modeHolds up 0 = false ∧ modeRejected up 0 3 = false := by decide

theorem wit_HeldModes : let s := updChan 0 (fun c => { c with heldMode := some 3 }) up; let u := updChan 0 (fun c => { c with fromMeas := some (2, some 0) }) { wr (chA 0 R.chStat) 1 up with now := 1 }; let v := updChan 0 (fun c => { c with entry := some { todo := [], waiting := 0, lastFire := 0, lastAck := 0, settle := 0, measure := false } }) { wr (chA 0 R.chStat) 0x202 up with now := 1 }; heldModeDue s 0 = true ∧ modeRejected s 0 3 = false ∧ fromMeasDue u 0 = true ∧ connectingEndDue v 0 = true ∧ isClosed (modeNow v 0) = true ∧ ChanIn 0 v := by decide

theorem wit_Pulses : let s := wr (chA 0 R.pulseW) 20 (wr (chA 0 R.chStat) 4 up); let p := updChan 0 (fun c => { c with train := some { next := 0, left := none, stop := false, lvl := 0, w := 0, per := 0, last := none }, shadow := [.pulseGo] }) s; let e := updChan 0 (fun c => { c with train := some { next := 9, left := some 0, stop := false, lvl := 0, w := 20, per := 0, last := some 0 } }) { s with now := 1 }; ChanIn 0 s ∧ pulseRejected s 0 = false ∧ pulseRejected p 0 = true ∧ FW.pulseGo ∉ (chan s 0).shadow ∧ FW.pulseGo ∈ (chan p 0).shadow ∧ (∃ q ∈ (chan p 0).train, q.next = p.now ∧ q.last = none ∧ q.stop = false ∧ q.left ≠ some 0) ∧ ∃ q ∈ (chan e 0).train, ∃ l ∈ q.last, l < e.now := by decide

theorem wit_RangeRequests : let s := updChan 0 (fun c => { c with heldV := some 3, arDue := some true }) (wr (chA 0 R.chStat) 2 up); ChanIn 0 s ∧ heldRangeDue s 0 = true ∧ modeNow s 0 ≠ 0 ∧ (chan s 0).heldI = none ∧ slotNow s 0 .v ≠ 3 ∧ modeBlocked s 0 = false ∧ autoPath (modeNow s 0) = some .i := by decide

theorem wit_AutorangeDecision : let s := wr (chA 0 (R.desc + 16 * 9)) 0x40000000 (wr (chA 0 R.arMask) 0xFF00 (wr (chA 0 R.chStat) 2 up)); (nearestSlot s 0 true (eligibleSlots s 0 .i true)).isSome = true := by decide

theorem wit_Tack : let g : Change := { path := .v, target := 1, old := 0, tack := true, phase := .standby, decided := 0, fire := none, acked := false, k := 0, breakFire := none }; let s := updRcb 0 (fun b => { b with frames := [{ newFrame 0 .v 2 1 5 .standing false 0 0 with st := .pending }] }) (updChan 0 (fun c => { c with chg := some g }) up); let f := wr (chA 0 R.tackCfg) 4 (updChan 0 (fun c => { c with chg := some { g with phase := .makeSettle, fire := some 0, acked := true } }) { up with now := 9 }); tackDue s 0 = true ∧ (standingAt s 0 g).map (·.ch) = some 0 ∧ fadeDue f 0 = true ∧ bankDue { f with now := 12 } 0 = true := by decide

theorem wit_BreakBeforeMake : let g : Change := { path := .i, target := 9, old := 8, tack := false, phase := .standby, decided := 0, fire := none, acked := false, k := 0, breakFire := none }; let s := updChan 0 (fun c => { c with chg := some g }) up; let e := updChan 0 (fun c => { c with chg := some { g with phase := .gap, fire := some 0 } }) up; bbmDue s 0 = true ∧ resumeDue { e with now := 9 } 0 = true := by decide

theorem wit_Descriptors : let w : Word := 0x40000000; differs up (chA 0 R.desc) w = true ∧ descInUse up 0 0 = true ∧ differs up (chA 0 (R.desc + 0x50)) w = true ∧ descInUse up 0 5 = false := by decide

theorem wit_DescriptorFields : let s := wr (chA 0 (R.desc + 0x50)) 0x3F800000 up; let stands := fun (x : Word) => let u := wr (chA 0 (R.desc + 0x5C)) x s; descOk u 0 5 4 && (List.range 16).all (fun j => j = 5 || pairOk u 0 j 4); descInUse s 0 5 = false ∧ stands 0x0201 = true ∧ stands 0x0200 = false ∧ differs s (chA 0 (R.desc + 0x5C)) 0x0203 = true ∧ differs s (chA 0 (R.desc + 0x5C)) 0x0200 = true := by decide

theorem wit_RcbShift : let fr := newFrame 8 .i 1 3 4 .switch true 0 0; let s := updRcb 1 (fun b => { b with frames := [fr] }) up; GroupIn 1 s ∧ nextShift s 1 = some fr ∧ fr.ch / 8 = 1 := by decide

theorem wit_RcbLatch : let fr := { newFrame 0 .v 1 3 4 .switch true 0 0 with st := .pending }; let s := updRcb 0 (fun b => { b with frames := [fr] }) { up with rcbStop := none }; nextLatch s 0 = some fr ∧ firing (updRcb 0 (fun b => { b with frames := [{ fr with st := .latched 0 }] }) up) 0 = some { fr with st := .latched 0 } := by decide

theorem wit_RcbAck : let fr := { newFrame 0 .v 0 0 4 .entry true 0 0 with st := .fired 0 }; let s := updRcb 0 (fun b => { b with frames := [fr] }) { up with now := 3 }; let u := updRcb 0 (fun b => { b with frames := [{ fr with st := .failed 2 }] }) { up with now := 3, rcbStop := some 3 }; awaiting s 0 = some (fr, 0) ∧ ackValid fr 0 = false ∧ ackValid fr (0x100 * 256 + crc8 (msbBits 40 0x100)) = true ∧ (failedDue u 0).isSome = true ∧ u.rcbStop = some 3 := by decide +kernel

theorem wit_LoopAndForceWrites : let w : Word := rd up (chA 0 R.loopCfg); ChanIn 0 up ∧ cfgAhead up 0 = w ∧ macSum up 0 0 (setFld (setFld (setFld (mergeMask 0x700 0 w) 8 1 (if hasRc up = true ∧ w.getLsbD 8 = true then 1 else 0)) 0 3 (fld w 0 3)) 4 3 (fld w 4 3)) ≤ 760 ∧ modeNow up 0 = 0 ∧ gf up (chA 0 R.dacCfg) 0 3 ≠ 4 ∧ clrLatched up = false ∧ furled up 0 = false ∧ differs up (chA 0 R.dacClr) 1 = true ∧ pairIdle up 0 .v = true := by decide

theorem wit_LoopAndForceRejections : let full := each (fun k s => wr (chA k R.loopCfg) 0x726 (wr (chA k R.chStat) 7 s)) (List.range 8) up; let o := { updChan 0 (fun c => { c with shadow := [.span 3, .dacClr 5] }) up with now := 1 }; openNow (wr (chA 0 R.chStat) 2 up) 0 = false ∧ fld (rd up (chA 0 R.loopCfg)) 0 3 ≠ 6 ∧ 760 < macSum full 0 7 0x726 ∧ lastOf (fun x => match x with | .span c => some c | _ => none) (chan o 0).shadow = some 3 ∧ gf o (chA 0 R.dacCfg) 0 3 ≠ 3 ∧ modeNow (wr (chA 0 R.chStat) 2 o) 0 ≠ 0 ∧ furled (sb R.chFurled 0 true o) 0 = true ∧ pairIdle (wr (chA 0 R.chStat) 2 up) 0 .v = false := by decide

theorem wit_BankWrites : let off := 0x1220; let s := wr (chA 0 R.chStat) 2 up; let c := sf (chA 0 R.rngStat) 0 4 0 s; (rowAt (chA 0 off)).isSome = true ∧ differs s (chA 0 off) 5 = true ∧ clampBad s 0 off 5 = false ∧ setInUse s 0 off = false ∧ setInUse c 0 0x1020 = true ∧ openNow c 0 = false ∧ setInUse (wr (chA 0 R.loopCtrl) 1 c) 0 0x1020 = true ∧ openNow (wr (chA 0 R.loopCtrl) 1 c) 0 = true := by decide

theorem wit_LoopComputations : let z : SampleIn := ⟨0, false, false, false⟩; let c : ConvOut := ⟨0, false⟩; let w : RawIn := ⟨c, c, c, c⟩; let x : LoopIn := ⟨z, z, z, z, 0, none, false, false, false, false, w, w⟩; let s := wr (chA 7 R.chStat) 8 (wr (chA 1 R.chStat) 8 up); GroupIn 0 s ∧ (lcore s 0).done = false ∧ (List.replicate 8 x).length = 8 ∧ (List.replicate 8 x)[7]? = some x ∧ modeNow s 7 = 8 ∧ chCost s 7 ≠ 0 ∧ ((List.range 8).map (fun j => chCost s (8 * 0 + j))).sum ≤ 800 ∧ connecting s 7 = false ∧ inHold s 7 = false ∧ inGap s 7 = false ∧ injRuns s 7 = false := by decide

theorem wit_ClosedLoops : let s := updLoop 0 (fun l => { l with presets := [⟨true, false, 0, true, false⟩] }) (wr (chA 0 R.loopCfg) 0x12 (wr (chA 0 R.chStat) 2 up)); openNow s 0 = false ∧ 0 < gf s (chA 0 R.loopCfg) 0 3 ∧ 0 < gf s (chA 0 R.loopCfg) 4 3 ∧ (chan s 0).loop.presets.any (fun p => p.clear && !p.clearAll) = true ∧ (chan s 0).loop.selC = false ∧ connecting s 0 = false ∧ inHold s 0 = false ∧ inGap s 0 = false ∧ injRuns s 0 = false ∧ isClosed (modeNow s 0) = true ∧ openNow (wr (chA 0 R.loopCtrl) 1 s) 0 = true := by decide

theorem wit_LoopDeadline : (chan (updChan 0 (fun c => { c with loop := { c.loop with dlDue := true } }) up) 0).loop.dlDue = true := by decide

theorem wit_RepetitiveController : let s := updChan 0 (fun c => { c with rc := { c.rc with endDue := true } }) up; let u := updChan 0 (fun c => { c with rc := { c.rc with xfer := some (true, 0, 16), valid := false, endDue := true } }) (wr (chA 0 R.rcCfg) 16 up); ChanIn 0 s ∧ hasRc s = true ∧ differs s (chA 0 R.rcCfg) 0x90010 = true ∧ gb s (chA 0 R.loopCfg) 8 = false ∧ gf s (chA 0 R.rcLead) 0 13 < 16 ∧ (chan s 0).rc.xfer = none ∧ gb s (chA 0 R.rcCtrl) 0 = false ∧ (chan s 0).rc.endDue = true ∧ (chan s 0).rc.valid = true ∧ (∃ x ∈ (chan u 0).rc.xfer, rcP u 0 ≤ x.2.2) ∧ (chan u 0).rc.valid = false ∧ gb (wr (chA 0 R.rcCtrl) 1 up) (chA 0 R.rcCtrl) 0 = true ∧ gb (wr (chA 0 R.rcCtrl) 1 s) (chA 0 R.rcCtrl) 0 = true := by decide

theorem wit_LuffAndReef : let s := updChan 0 (fun c => { c with luff := { c.luff with endDue := true, assertDue := true, crossings := 4, peak := 9 } }) (wr (chA 0 R.luffCross) 0x100001 (wr (chA 0 0x3000) 0x100 (wr (chA 0 R.chStat) 2 up))); ChanIn 0 s ∧ (chan s 0).luff.endDue = true ∧ (chan s 0).luff.peak = 9 ∧ (chan s 0).luff.assertDue = true ∧ gb s (chA 0 0x3000) 8 = true ∧ reefAhead s 0 = false ∧ isClosed (modeNow s 0) = true ∧ reefAhead (updChan 0 (fun c => { c with shadow := [.reef true] }) s) 0 = true := by decide

theorem wit_InjectionCommands : let s := wr (chA 0 R.injCfg) 4 (wr (chA 0 R.loopCfg) 0x411 (wr (chA 0 R.chStat) 2 { ctxRun with res := [(8, { holders := [.ctx 0 0] })] })); let g := updChan 0 (fun c => { c with shadow := [.injGo] }) s; injRejected s 0 = false ∧ FW.injGo ∉ (chan s 0).shadow ∧ injRejected up 0 = true ∧ FW.injGo ∈ (chan g 0).shadow ∧ ChanIn 0 s := by decide

theorem wit_InjectionRecords : let i : Inj := { first := 0, last := 0, chip := false, prbs0 := 0, written := 0, dropped := 0, cmpTicks := 0, missed := 0, rngTicks := 0, stop := false, ended := none, headerDone := false, startTime := 0, stream := 0, amp := 0, n := 1, cfg := 0 }; let s := updChan 0 (fun c => { c with inj := some i }) { wr (stA 32 R.strCfg) 1 up with now := 1 }; let e := updChan 0 (fun c => { c with inj := some { i with headerDone := true, ended := some 0 } }) s; i.last < s.now ∧ capTakes s i = true ∧ (injHead e 0).isSome = true ∧ strEn s 32 = true ∧ headRoom s 32 16 = true := by decide

theorem wit_Apertures : let a : Ap := { newAp 0 2 with i := 1, n := 1, got := 1 }; let s := wr (stA 0 R.strCfg) 1 (updMeas 0 .v (fun m => { m with ap := some a, before := some (3, 0) }) { up with slot := 256 }); ChanIn 0 s ∧ ((chan s 0).path .v).ap = some a ∧ ((chan s 0).path .v).stop = false ∧ apCloseDue s 0 .v = true ∧ ((chan s 0).path .v).before = some (3, 0) ∧ (chan s 0).recs = [] ∧ strEn s 0 = true ∧ (strm s 0).fmt = false ∧ headRoom s 0 16 = true ∧ ((chan s 1).path .i).ap = none := by decide

theorem wit_AperturesDropStopLine : let a : Ap := { newAp 0 2 with armed := true, cfg := 0x200, lines := 1 }; let s := wr (chA 0 R.lineCfg) 0x203 (updMeas 0 .v (fun m => { m with ap := some a, queued := true }) { up with now := 5 }); ChanIn 0 s ∧ ((chan s 0).path .v).stop = false ∧ ((chan s 0).path .v).queued = true ∧ ((chan s 0).path .v).ap = some a ∧ lineTmoDue s 0 .v = true ∧ a.start ≤ s.now ∧ (let b := { newAp 4 2 with cfg := 0x200, lines := 2 }; let u := updMeas 0 .v (fun m => { m with ap := some b }) s; b.armed = false ∧ b.start ≤ u.now ∧ apEndsNow u 0 b = false) := by decide

theorem wit_CapturesCorrectionsAndTables : let s := wr (chA 0 R.rawCfg) 1 up; let u := updChan 0 (fun c => { c with calLd := some { slot := 3, path := 1, src := 0, next := 512, done := 512 }, raw := some { first := 0, last := 1, blkV := [], blkI := [], tV := 0, tI := 0, dropV := 0, dropI := 0, dst := 0 } }) { up with now := 2 }; ChanIn 0 s ∧ 0 / 16384 = 0 ∧ (chan s 0).raw = none ∧ (chan s 0).rawStopAt = none ∧ fld (rd s (chA 0 R.rawCfg)) 0 2 ≠ 0 ∧ (rd s (chA 0 R.rawCfg)).getLsbD 2 = false ∧ calInUse s 0 3 = false ∧ calInUse s 0 0 = true ∧ ChanIn 0 u ∧ (∃ r ∈ (chan u 0).raw, r.last < u.now ∧ r.first ≠ u.now + 1) ∧ calLoaded u 0 = true ∧ corrHeld s 0 .v = false ∧ pairMode s 0 .v ≠ 2 ∧ ((chan s 0).path .v).pairs < 4096 ∧ 4096 ≤ ((chan (updMeas 0 .v (fun m => { m with pairs := 4096 }) s) 0).path .v).pairs := by decide

theorem wit_ClearPin : ({ up with inReset := true } : State).inReset = true ∧ let s := { wr R.clrStat 1 up with clrDue := true }; s.inReset = false ∧ running s = true ∧ s.clrDue = true ∧ hasChan s 31 = true ∧ hasGroup s 3 = true ∧ gb s R.clrStat 0 = true ∧ gb s R.clrStat 1 = false ∧ s.clrRec ≠ some s.now ∧ gb (wr R.clrStat 3 s) R.clrStat 1 = true := by decide

theorem wit_MonitorRequests : let s := wr (maA 0 R.maCfg) 0x44 { up with res := [(20, { holders := [.host] })] }; GroupIn 0 s ∧ hostHolds s 20 = true ∧ reqPending s 0 0 = false ∧ monInput s 0 (fld 0x10 0 6) = true ∧ gb s (maA 0 R.maStat) 0 = false ∧ (mon s 0).calWait = false ∧ s.now % 80 = 0 ∧ (mon s 0).next ≤ s.now ∧ (mon s 0).calSlots = none ∧ (mon s 0).writes = [] ∧ (mon s 0).pend = [] ∧ gb s (maA 0 R.maCfg) 6 = true ∧ gb (sb (maA 0 R.maStat) 0 true s) (maA 0 R.maStat) 0 = true := by decide

theorem wit_MonitorResults : let q : MonReq := { input := 3, chk := true, limset := 0, src := 4, entry := 0, at_ := 0 }; let s := updMon 0 (fun m => { m with fin := some (q, 1, 0), pend := [q], calSlots := some 255 }) { up with now := 1 }; GroupIn 0 s ∧ (mon s 0).fin = some (q, s.now, 0) ∧ q.src ≤ 5 ∧ q.entry < 32 ∧ q.limset < 8 ∧ (∃ c ∈ (mon s 0).calSlots, 31 ≤ c ∧ max 33 (gf s (maA 0 R.maCfg) 8 8) ≤ c) ∧ gf s (maA 0 R.rbWin) 0 16 < ((2000 : Int) - rneDiv 0 80).natAbs := by decide

theorem wit_MonitorRejects : let s := updMon 0 (fun m => { m with calWait := true, calAt := 0 }) up; GroupIn 0 s ∧ hostHolds s 20 = false ∧ (mon s 0).calWait = true ∧ (mon s 0).calAt = s.now ∧ gb s (maA 0 R.maStat) 0 = false := by decide

theorem wit_MonitorTakes : let q : MonReq := { input := 3, chk := true, limset := 0, src := 4, entry := 0, at_ := 0 }; let q1 : MonReq := { q with src := 1 }; let s := updMon 0 (fun m => { m with pend := [q] }) { up with now := 80 }; let u := updMon 0 (fun m => { m with pend := [q1] }) s; GroupIn 0 s ∧ s.now % 80 = 0 ∧ (mon s 0).next ≤ s.now ∧ q ∈ (mon s 0).pend ∧ q.at_ < s.now ∧ q.src = 4 ∧ q1 ∈ (mon u 0).pend ∧ q1.src < 4 ∧ ∀ x ∈ (mon u 0).pend, x.at_ < u.now → q1.src ≤ x.src ∧ x.src ≠ 4 := by decide

theorem wit_GeneratorCommands : let s := wr (chA 0 (R.gd + 12)) 0x80000000 up; let u := updGen 0 (fun g => { g with run := true, mark := some 3, cur := some 0 }) s; ChanIn 0 s ∧ gb s (chA 0 (R.gd + 16 * 0 + 12)) 31 = true ∧ gb s (chA 0 (R.gd + 16 * 1 + 12)) 31 = false ∧ (chan s 0).gen.run = false ∧ (chan s 0).shadow = [] ∧ (chan s 0).gen.mark = none ∧ (chan u 0).gen.run = true ∧ (chan u 0).gen.replay = none ∧ (chan u 0).gen.mark ≠ none ∧ some 0 = (chan u 0).gen.cur ∧ gdHeld u 0 0 12 0 = true ∧ gdHeld s 0 0 12 0 = false ∧ playPending s 0 = false ∧ gf s (chA 0 (R.gd + 8)) 0 25 < 4 := by decide

theorem wit_GeneratorEvents : let s := updGen 0 (fun g => { g with run := true, cur := some 1, commitDue := true, endDue := true, underDue := true, gapDue := some 3, now_ := some (2, 0) }) { ctxRun with now := 1 }; let u := updGen 0 (fun g => { g with now_ := none, replay := some 0 }) s; ChanIn 0 s ∧ boundCtx s 0 = some 0 ∧ (chan s 0).gen.commitDue = true ∧ (chan s 0).gen.endDue = true ∧ (chan s 0).gen.done = false ∧ (chan s 0).gen.replay = none ∧ (chan s 0).gen.nowAt < s.now ∧ (chan s 0).gen.now_ = some (2, (chan s 0).gen.r) ∧ (chan u 0).gen.replay = some (chan u 0).gen.r ∧ (chan s 0).gen.underDue = true ∧ ctxState s 0 = 2 ∧ (seq s 0).pendSt ≠ some 4 ∧ EtQuiet s ∧ (chan s 0).gen.stopDue = false ∧ 3 ∈ (chan s 0).gen.gapDue := by decide

theorem wit_GeneratorChoices : let s := fun (g : Player) => updChan 0 (fun c => { c with gen := { g with run := true, cur := some 1, commitDue := true, endDue := true } }) up; let v := wr (chA 0 (R.gd + 0x2C)) 0x80000000; ChanIn 0 (v (s { pend := some 2 })) ∧ gb (v (s { pend := some 2 })) (chA 0 (R.gd + 0x2C)) 31 = true ∧ gb (s { pend := some 3 }) (chA 0 (R.gd + 0x3C)) 31 = false ∧ gb (wr (chA 0 (R.gd + 0x1C)) 0x20000000 (s {})) (chA 0 (R.gd + 0x1C)) 29 = true ∧ (chan (s { nxt := some 2 }) 0).gen.nxt = some 2 ∧ (chan (s {}) 0).gen.nxt = none ∧ (chan (s {}) 0).gen.now_ = none := by decide

theorem wit_GeneratorUnderrun : let s := updGen 0 (fun g => { g with run := true, cur := some 1, underDue := true, w := 16, bad := [0] }) up; let u := updGen 0 (fun g => { g with bad := [] }) s; ChanIn 0 s ∧ (chan s 0).gen.underDue = true ∧ ((chan s 0).gen.bad.contains ((chan s 0).gen.r / 16 * 16) = true ∧ (chan s 0).gen.r < (chan s 0).gen.w) ∧ boundCtx s 0 = none ∧ (chan u 0).gen.bad = [] ∧ gb u (chA 0 R.genCfg) 8 = false := by decide

theorem wit_GeneratorRefill : let s := updGen 0 (fun g => { g with cur := some 1, run := true }) (wr (chA 0 (R.gd + 24)) 4 { up with arb := { queues := [], inbox := [({ port := 4, offset := 0, who := .gen 0 0 0, write := false }, none)] } }); ChanIn 0 s ∧ (nextGranule s 0).isSome = true ∧ portFree s 4 = true ∧ s.hostJobs = [] ∧ (genBurst s 0).map (fun e => decide (e.1.who = .gen 0 (chan s 0).gen.epoch (chan s 0).gen.w)) = some true := by decide

theorem wit_DdsCommands : let s := updDds 0 (fun d => { d with run := true }) (wr (chA 0 R.ddsCfg) 3 up); ChanIn 0 s ∧ gf s (chA 0 R.ddsCfg) 0 2 = 3 ∧ (chan s 0).dds.run = true ∧ (chan up 0).dds.run = false ∧ ChanIn 0 up := by decide

theorem wit_SequencerCommands : let s := { State.reset with regs := [(R.devState, 24), (R.clkStat, 2), (cxA 0 0, 3), (sqA 0 R.seqStat, 0x1000)] }; ChanIn 0 s ∧ boundCtx s 0 = some 0 ∧ ctxState s 0 = 3 ∧ 1 < nCtxs s ∧ ctxState s 1 = 0 ∧ chainTarget s 1 = false ∧ pinsBad s 0 1 = false ∧ (seq s 0).pendSt = none ∧ differs s (cxA 0 R.cxPc) 5 = true ∧ boundCtx up 0 = none ∧ ctxState ctxRun 0 = 2 ∧ (seq ctxRun 0).own = false ∧ differs ctxRun (cxA 0 R.cxPc) 5 = true ∧ differs up (cxA 0 R.cxDepth) 9 = true := by decide

theorem wit_BindAbsent : let s := { up with variant := .vs3208 }; ChanIn 0 s ∧ nCtxs s ≤ 1024 ∧ chainTarget s 1024 = false := by decide

theorem wit_SequencerEvents : let s := setWait 0 (.wait 0) ctxRun; let v := setWait 0 (.event 3 (some 9) 7) { ctxRun with now := 9 }; let g := updRes 4 (fun q => { q with queue := [.ctx 0 0] }) ctxRun; let p := sf (cxA 0 0) 0 3 1 ctxRun; ChanIn 0 s ∧ boundCtx s 0 = some 0 ∧ (seq s 0).wait = .wait 0 ∧ boundCtx v 0 = some 0 ∧ ChanIn 0 v ∧ (seq v 0).wait = .event 3 (some 9) 7 ∧ 9 ≤ v.now ∧ 3 ∉ v.asserting ∧ hasRes g 4 = true ∧ (resOf g 4).holders = [] ∧ (resOf g 4).queue = .ctx 0 0 :: [] ∧ (resOf g 4).freed = none ∧ (let h := updRes 4 (fun q => { q with queue := [.host, .ctx 0 0] }) ctxRun; (resOf h 4).queue = .host :: [.ctx 0 0] ∧ hasRes h 4 = true ∧ (resOf h 4).holders = []) ∧ ctxState p 0 = 1 ∧ pinMissing p 0 = [] ∧ boundCtx p 0 = some 0 := by decide

theorem wit_CacheFills : let s := { setWait 0 (.fetch 2) ctxRun with arb := { inbox := [({ port := 6, offset := 128, who := .fetch 2, write := false }, none)] } }; ChanIn 0 s ∧ (fromInbox s 6 (fun w => w == .fetch 2)).isSome = true ∧ (seq s 0).wait = .fetch 2 ∧ ctxState s 0 = 2 ∧ (∀ m ∈ chans s, m ≠ 0 → boundCtx s m ≠ some 0) ∧ (seq s 0).pendSt ≠ some 4 ∧ EtQuiet s ∧ (let d := { s with arb := { inbox := [({ port := 6, offset := 128, who := .fetch 2, write := false }, some (List.replicate 64 1))] } }; ∃ i ∈ fromInbox d 6 (fun w => w == .fetch 2), ∃ bs ∈ i.2, bs.length = 64) := by decide

theorem wit_EdgeTimerArms : let s := updEt 0 (fun e => { e with armed := true, cfg := 0x100 }) (wr R.cmpCfg 0x10000 { up with res := [(0, { holders := [.host] })] }); Operating s ∧ 0 < nEts s ∧ .host ∈ (resOf s 0).holders ∧ (resOf s 0).deferred = false ∧ (etu s 0).armed = true ∧ (etu s 0).stats = false ∧ gb s R.cmpCfg 16 = true ∧ 0 = fld (etu s 0).cfg 0 7 ∧ 0 ≠ fld (etu s 0).cfg 8 7 ∧ (etu s 0).stop = none ∧ (etu s 0).start = none ∧ (etu s 0).preStop = none ∧ (etu s 0).free ≤ 1 ∧ slopeOk s 0 true = true ∧ slopeOk s 0 false = false ∧ tbTakes s 0 1 true = false ∧ etDue s 0 = false ∧ etOvfDue s 0 = false ∧ EtQuiet s ∧ etFirst s (List.range (nEts s)) = none ∧ (resOf s 1).holders = [] ∧ (etu s 1).armed = false := by decide

theorem wit_EdgeTimerEnds : let a : EtEdge := { c := 10, f := 5, coarse := false, time := 0, cyc := 9 }; let s := updEt 0 (fun e => { e with armed := true, cfg := 0x100, start := some a, stop := some { a with c := 12 }, block := some (List.replicate 16 7) }) { up with now := 2 }; let v := updEt 0 (fun e => { e with stop := none }) { s with now := 90000000 }; Operating s ∧ (etu s 0).start = some a ∧ convEnd a < 50 * (s.now + 1) ∧ convEnd { a with c := 12 } < 50 * (s.now + 1) ∧ (etu s 0).block = some (List.replicate 16 7) ∧ (etu v 0).armed = true ∧ (etu v 0).start = some a ∧ (etu v 0).stop = none ∧ etDue s 0 = true ∧ EtQuiet s ∧ a.at_ + 2 ^ 32 < 50 * (v.now + 1) := by decide

theorem wit_TimeBase : let s := wr R.cmpCfg 0x10000 (wr R.tbCfg 1 { up with tb := { lastDev := some 0 } }); s.inReset = false ∧ nEts s ≠ 0 ∧ s.tb.lastDev = some 0 ∧ running s = true ∧ gb s R.tbCfg 0 = true ∧ gf s R.tbCfg 1 3 = 0 ∧ gb s R.cmpCfg 16 = true ∧ fineOk s 0 1 true = true ∧ (etu s 0).armed = false ∧ s.tb.gate = none ∧ s.tb.last = none ∧ (let v : State := { s with now := 40000000 }; v.tb.edgeAt + 40000000 ≤ v.now) := by decide

theorem wit_MemoryController : let q : Req := { port := 3, offset := 64, who := .refill 2 0, write := false }; let c : Req := { port := 11, offset := 128, who := .scrub, write := false }; let s := { up with training := true, arb := { issued := [{ req := q, data := [] }, { req := c, data := [] }] }, badBursts := [64] }; Operating s ∧ s.training = true ∧ gb up R.memStat 0 = false ∧ up.training = false ∧ s.arb.issued.find? (fun x => x.req == q) = some { req := q, data := [] } ∧ TakesAtOnce q.who = false ∧ Routed s ∧ q.offset ∈ s.badBursts ∧ s.arb.issued.find? (fun q => q.req.who == .scrub) = some { req := c, data := [] } ∧ c.offset ∉ s.badBursts ∧ q ∉ up.arb.issued.map (·.req) := by decide

theorem wit_ArbiterDraws : let r : Req := { port := 0, offset := 0, who := .hostWr, write := true }; let s := { wr R.memStat 1 up with arb := { queues := [(0, [r])] } }; let d := { s with arb := { s.arb with due := [0] } }; Operating s ∧ memReady s = true ∧ s.arb.grant = none ∧ s.arb.due = [] ∧ portQ s 0 ≠ [] ∧ d.arb.due.head? = some 0 ∧ portQ s 5 = [] := by decide

theorem wit_ArbiterIssues : let r : Req := { port := 0, offset := 0, who := .hostWr, write := true }; let j : HostJob := { write := true, tag := 0, off := 0, len := 64, data := List.replicate 64 7, toRead := [], toWrite := [], waiting := [0], failed := false }; let q : Req := { port := 3, offset := 0, who := .refill 0 0, write := false }; let s := { wr R.memStat 1 up with hostJobs := [j], arb := { grant := some (0, 2), queues := [(0, [r])] } }; let u := { s with arb := { grant := some (3, 2), queues := [(3, [q])] } }; Operating s ∧ memReady s = true ∧ (portQ s 0).head? = some r ∧ r.offset + 64 ≤ memSize s ∧ s.hostJobs.find? (fun i => i.write && i.waiting.contains r.offset) = some j ∧ j.data.length = j.len ∧ Routed s ∧ (portQ u 3).head? = some q ∧ TakesAtOnce q.who = false ∧ (let z : Req := { port := 2, offset := 64, who := .spill 1, write := true }; let v := wr (stA 1 R.strCfg) 0xA1 (updStrm 1 (fun t => { t with head := [[7, 8]] }) { s with arb := { grant := some (2, 1), queues := [(2, [z])] } }); (portQ v 2).head? = some z ∧ 64 ≤ ringSize v 1 ∧ Routed v) := by decide

theorem wit_HostResources : let s := { up with res := [(3, { holders := [.host] }), (5, { holders := [.ctx 1 2] })] }; let v := { up with res := [(5, { queue := [.host] })] }; Operating s ∧ hasRes s 5 = true ∧ hostHolds s 3 = true ∧ EtQuiet s ∧ (∀ y, y < 36 → Holder.host ∉ (resOf s y).queue) ∧ (∀ y, y < 36 → 4 ≤ y → hostHolds s y = false) ∧ hostHolds s 5 = false ∧ (resOf s 4).holders = [] ∧ Holder.host ∈ (resOf v 5).queue ∧ hasRes { up with variant := .vs3208 } 0 = false := by decide

theorem wit_StreamStages : let s := wr (stA 33 R.strCfg) 0xA1 { up with arb := { inbox := [({ port := 2, offset := 0, who := .spill 33, write := true }, some []), ({ port := 3, offset := 0, who := .refill 33 0, write := false }, none)] } }; Operating s ∧ hasStream s 33 = true ∧ strEn s 33 = true ∧ headRoom s 33 16 = true ∧ (strm s 33).ring = [] ∧ strEn up 3 = false ∧ (chan up 3).recs = [] ∧ (fromInbox s 2 (fun w => w == .spill 33)).isSome = true ∧ (fromInbox s 3 (refillTurn s 33)).isSome = true ∧ (strm s 33).fpos = 0 := by decide

theorem wit_StreamStagesBusy : let s := wr (stA 33 R.strCfg) 0xA1 { up with arb := { inbox := [({ port := 2, offset := 0, who := .spill 33, write := true }, some [4, 5]), ({ port := 3, offset := 0, who := .refill 33 0, write := false }, some [1, 2, 3])] } }; let s := updStrm 33 (fun t => { t with head := [[4, 5], List.replicate 16383 0], ring := [[1, 2], [3]], wpos := 3 }) s; let u := wr (stA 33 R.strCfg) 0xA5 s; let e := { s with arb := { inbox := [({ port := 3, offset := 0, who := .refill 33 0, write := false }, none)] } }; Operating s ∧ hasStream s 33 = true ∧ headRoom s 33 16 = false ∧ strDropNew s 33 = false ∧ strDropNew u 33 = true ∧ strEn u 33 = true ∧ (fromInbox s 2 (fun w => w == .spill 33)).map (·.2) = some (some [4, 5]) ∧ (spillItems 2 (strm s 33).head).2.1 = [[4, 5]] ∧ (strm s 33).ring ≠ [] ∧ fromInbox s 3 (refillTurn s 33) = some ({ port := 3, offset := 0, who := .refill 33 0, write := false }, some [1, 2, 3]) ∧ (strm s 33).fbuf ++ List.drop 0 [1, 2, 3] = (strm s 33).ring.flatten.take 3 ∧ (strm s 33).fpos = 0 ∧ fromInbox e 3 (refillTurn e 33) = some ({ port := 3, offset := 0, who := .refill 33 0, write := false }, none) ∧ (∀ x ∈ ringEnds (strm e 33).rpos (strm e 33).ring, (strm e 33).fpos < x.2.1) := by decide +kernel

theorem wit_StreamRecordsWait : let s := updChan 0 (fun c => { c with recs := [[1]] }) (updStrm 1 (fun t => { t with head := [List.replicate 16380 0], ring := [[1]] }) (wr (stA 1 R.strCfg) 1 up)); Operating s ∧ hasStream s 0 = true ∧ (chan s 0).recs ≠ [] ∧ hasStream s 1 = true ∧ strEn s 1 = true ∧ headRoom s 1 16 = false ∧ strDropNew s 1 = false ∧ (chan s 1).recs = [] := by decide +kernel

theorem wit_StreamRawBlock : let it : List Byte := List.replicate 6 0 ++ [0x81, 0xC2] ++ List.replicate 12 0; let s := updChan 1 (fun c => { c with recs := [[1]] }) (updStrm 1 (fun t => { t with head := [List.replicate 16380 0], ring := [[1]] }) (wr (stA 1 R.strCfg) 1 up)); let d := wr (stA 1 R.strCfg) 5 s; Operating s ∧ hasStream s 1 = true ∧ isRawBlock it = true ∧ (it.getD 6 0).toNat % 32 = 1 ∧ hasChan s 1 = true ∧ strEn s 1 = true ∧ headRoom s 1 it.length = false ∧ strDropNew s 1 = false ∧ strDropNew d 1 = true ∧ headRoom d 1 it.length = false ∧ isRawBlock (List.replicate 16 0xC2) = false := by decide +kernel

theorem wit_StreamReads : let q : Rd := { tag := 1, maxb := 16, oldest := some 0, due := some 0 }; let s := updStrm 0 (fun t => { t with tail := [[1, 2]], reads := [q], slowDue := some 4 }) (wr (stA 0 R.strTmo) 0 up); let e := updStrm 0 (fun t => { t with tail := [] }) s; Operating s ∧ hasStream s 0 = true ∧ (strm s 0).reads.head? = some q ∧ readFull s 0 = true ∧ takeItems q.maxb (strItems (strm s 0)) ≠ [] ∧ strItems (strm s 0) ≠ [] ∧ (takeItems q.maxb (strItems (strm s 0))).length ≤ (strm s 0).tail.length ∧ gf s (stA 0 R.strTmo) 16 16 = 0 ∧ (strm s 0).slowDue ≠ none ∧ strItems (strm e 0) = [] ∧ (strm e 0).reads.head? = some q ∧ recordsWait e 0 = false ∧ gf e (stA 0 R.strTmo) 0 16 = 0 ∧ (let b := updStrm 0 (fun t => { t with tail := [List.replicate 17 0] }) s; readFull b 0 = true ∧ (strItems (strm b 0)).head? = some (List.replicate 17 0) ∧ q.maxb < 17) ∧ (let b := updStrm 0 (fun t => { t with tail := [], ring := [[3]], wpos := 1 }) s; ¬ (takeItems q.maxb (strItems (strm b 0))).length ≤ (strm b 0).tail.length) := by decide

theorem wit_StreamConfig : let p : Pkt := { cls := 3, opc := 0x83, tag := 1, status := 0, p0 := 2, p1 := 0, data := List.replicate 100 0, items := [40, 60] }; let s := updCls 3 (fun c => { c with tx := some (3, p, 1) }) up; let w : Word := BitVec.ofNat 32 (1 + 8 * 20); strEn s 2 = false ∧ strItems (strm s 2) = [] ∧ (strm s 2).reads = [] ∧ hasStream s 2 = true ∧ 20 ≤ fld w 3 5 ∧ fld w 3 5 ≤ 30 ∧ ringBase s 2 + 2 ^ fld w 3 5 ≤ memSize s ∧ ringBase s 2 % 2 ^ fld w 3 5 = 0 ∧ (sendingNow s 2).isSome = true ∧ sendingNow s 3 = none ∧ (let v := wr (stA 2 R.spillBaseHi) 15 s; w.getLsbD 0 = true ∧ strEn v 2 = false ∧ strItems (strm v 2) = [] ∧ (strm v 2).reads = [] ∧ fld w 3 5 = gf v (stA 2 R.strCfg) 3 5 ∧ memSize v < ringBase v 2 + 2 ^ fld w 3 5) ∧ (let b := updStrm 2 (fun t => { t with tail := [[1]] }) (wr (stA 2 R.strCfg) 1 s); strItems (strm b 2) ≠ [] ∧ strEn b 2 = true ∧ strEn (updStrm 2 (fun t => { t with tail := [[1]] }) s) 2 = false) ∧ fld (9 : Word) 3 5 < 20 ∧ fld (9 : Word) 3 5 ≠ gf s (stA 2 R.strCfg) 3 5 := by decide

theorem wit_LinkTraining : let s := { sf R.lnkStat 0 3 1 up with link := { en := 15, lanes := 15 } }; let v := { s with now := 300000 }; Operating s ∧ gf s R.lnkStat 0 3 = 1 ∧ Nat.land 3 s.link.en ≠ 0 ∧ gf (sf R.lnkStat 0 3 2 s) R.lnkStat 0 3 = 2 ∧ gf (sf R.lnkStat 0 3 3 v) R.lnkStat 0 3 = 3 ∧ Nat.land 3 v.link.lanes ≠ 0 ∧ v.link.at_ + 40000 ≤ v.now ∧ gf (sf R.lnkStat 0 3 4 v) R.lnkStat 0 3 = 4 ∧ v.link.at_ + 2000 ≤ v.now ∧ lctlOk 0 = false ∧ windowOver v = true := by decide +kernel

theorem wit_LinkInit : let f := lctlFlit ([2, 1, 15, 0] ++ leBytes 4 3 ++ leBytes 4 129 ++ leBytes 4 0 ++ leBytes 4 129 ++ leBytes 8 0); let s := { sf R.lnkStat 0 3 4 up with link := { en := 15, lanes := 15 } }; let u := sf R.lnkStat 0 3 5 s; Operating s ∧ initForm s f = true ∧ [0, 1, 3].find? (fun c => decide (ffld f (32 + 32 * c) 16 < (if c = 0 then 3 else 129))) = none ∧ gf u R.lnkStat 0 3 = 5 ∧ lctlOk f = true ∧ ffld f 0 8 = 2 ∧ Tolerated u := by decide +kernel

theorem wit_LinkInitLow : let f := lctlFlit ([2, 1, 15, 0] ++ leBytes 4 2 ++ leBytes 20 0); let s := { sf R.lnkStat 0 3 4 up with link := { en := 15, lanes := 15 } }; initForm s f = true ∧ [0, 1, 3].find? (fun c => decide (ffld f (32 + 32 * c) 16 < (if c = 0 then 3 else 129))) = some 0 := by decide +kernel

theorem wit_LinkPackets : let bs : List Byte := [6, 0, 0, 0] ++ List.replicate 24 0; let f := lctlFlit bs; let s := sf R.lnkStat 0 3 5 up; let n := updCls 0 (fun k => { k with e := 4095 }) s; let o := updCls 0 (fun k => { k with e := 2048 }) s; let p := updCls 0 (fun k => { k with e := 10 }) s; Operating s ∧ gf s R.lnkStat 0 3 = 5 ∧ Tolerated s ∧ (lcls s 0).open_ = none ∧ (lcls s 0).rcvd < rxSize 0 + (lcls s 0).adv ∧ ffld f 48 13 = 0 ∧ crc32 ((flitBytes f).take 28) = ffld f 224 32 ∧ request 0 f [] = .inl (.keepalive 0) ∧ (ffld f 16 12 + 4096 - (lcls n 0).e) % 4096 = 1 ∧ (ffld f 16 12 + 4096 - (lcls o 0).e) % 4096 = 2048 ∧ 3072 ≤ (ffld f 16 12 + 4096 - (lcls p 0).e) % 4096 ∧ crc32 ((flitBytes 0).take 28) ≠ ffld 0 224 32 ∧ request 0 (lctlFlit ([9, 0, 0, 0] ++ List.replicate 24 0)) [] = .inr (0x0A, 0x0A) := by decide +kernel

theorem wit_LinkTurns : let p : Pkt := { cls := 1, opc := 0x41, tag := 7, status := 0, p0 := 0, p1 := 0, data := List.replicate 40 1 }; let s := { sf (R.txcStat + 4) 0 16 9 (sf (R.txcStat + 12) 0 16 9 (sf R.lnkStat 0 3 5 up)) with link := { cls := [(1, { limit := 9, replay := [(0, p)], resend := 1, txq := [p], next := 1 }), (3, { limit := 9, txq := [p] })], budget := flitCost, lastNew := 3 } }; mayTransmit s = true ∧ s.link.flowDue = false ∧ (lcls s 0).tx = none ∧ (lcls s 1).tx = none ∧ (lcls s 3).tx = none ∧ canStart s 0 = false ∧ canStart s 1 = true ∧ canStart s 3 = true ∧ s.link.lastNew = 3 ∧ p.sent ≤ avail s 1 := by decide +kernel

theorem wit_LinkFlow : let g := lctlFlit (leBytes 4 1 ++ leBytes 24 0); let p : Pkt := { cls := 0, opc := 0x81, tag := 7, status := 0, p0 := 0, p1 := 0, data := List.replicate 40 1 }; let s := { sf R.txcStat 0 16 9 (sf R.lnkStat 0 3 5 up) with now := 70000, link := { cls := [(0, { limit := 9, replay := [(0, p)], txq := [p], next := 1 }), (1, { limit := 9 }), (3, { limit := 9 })], budget := flitCost } }; let v := updCls 0 (fun k => { k with tx := some (1, p, 0), tries := 4 }) s; Operating s ∧ lctlOk g = true ∧ ffld g 0 8 = 1 ∧ (∀ q, q < 4 → ffld g (44 + 32 * q) 1 = 0) ∧ (∀ q ∈ [0, 1, 3], avail s q ≤ (lcls s q).limit ∧ (lcls s q).limit < 65536) ∧ replayLate s 0 = true ∧ (lcls s 0).tries < max 1 (gf s R.lnkRply 16 4) ∧ flowFalls s = true ∧ mayTransmit s = true ∧ canStart s 0 = true ∧ (lcls s 0).txq.head? = some p ∧ (lcls v 0).tx = some (1, p, 0) ∧ 1 < p.sent ∧ (let i := sf R.lnkStat 0 3 4 s; gf i R.lnkStat 0 3 = 4 ∧ i.link.initSent = false ∧ mayTransmit i = true) ∧ (let d := { s with link := { s.link with flowDue := true } }; mayTransmit d = true ∧ d.link.flowDue = true) ∧ replayLate v 0 = true ∧ max 1 (gf v R.lnkRply 16 4) ≤ (lcls v 0).tries ∧ (let h := lctlFlit (leBytes 4 1 ++ leBytes 4 4096 ++ leBytes 20 0); let o := updCls 0 (fun k => { k with tx := some (0, p, 0), replay := [], tries := 0 }) s; lctlOk h = true ∧ ffld h 0 8 = 1 ∧ (∀ q, q < 4 → ffld h (44 + 32 * q) 1 = if q = 0 then 1 else 0) ∧ ffld h 45 1 = 0 ∧ ffld h 48 16 = 0 ∧ (lcls o 0).tx ≠ none ∧ (lcls o 0).reOpen = false ∧ (lcls o 0).tries < max 1 (gf o R.lnkRply 16 4)) := by decide +kernel

theorem wit_HostRequests : let s := wr R.memStat 1 up; Operating s ∧ writeStatus s .tc1 R.tickStat [0] ≠ 0 ∧ writeStatus s .tc0 R.tickStat [0] = 0 ∧ hasStream s 40 = false ∧ hasStream s 0 = true ∧ (strm s 0).reads.length < 8 ∧ Tolerated s ∧ hasChan s 0 = true ∧ memReady s = true ∧ 0x1000000000 + 64 ≤ 0x1000000000 + memSize s ∧ segHit s 0 64 = [] ∧ memReady up = false := by decide

theorem wit_HostRequestsHit : let s := updGen 0 (fun g => { g with cur := some 0 }) (wr (gdA 0 0 8) 4 (wr R.memStat 1 up)); let q : Rd := { tag := 0, maxb := 16, oldest := none, due := none }; let u := updStrm 0 (fun t => { t with reads := List.replicate 8 q }) s; Operating s ∧ segHit s 0 64 ≠ [] ∧ 8 ≤ (strm u 0).reads.length ∧ Tolerated u := by decide

theorem wit_Heartbeat : let s := { wr R.hbStat 1 (wr R.hbCfg 0x20001 up) with now := 600 }; s.inReset = false ∧ running s = true ∧ gb s R.hbCfg 0 = true ∧ gb s R.hbStat 0 = true ∧ s.link.hbLast + max 200 (gf s R.hbCfg 8 24) ≤ s.now := by decide

theorem wit_ManagementPort : let a := R.tickStat; let d := R.memStat; up.inReset = false ∧ spiServed up true a = true ∧ spiServed State.reset true a = false ∧ crc8 (msbBits 48 (3 * 2 ^ 40 + a % 2 ^ 40)) < 256 ∧ crc8 (msbBits 48 (9 * 2 ^ 40 + a % 2 ^ 40)) < 256 ∧ crc8 (msbBits 80 ((2 * 2 ^ 40 + a % 2 ^ 40) * 2 ^ 32 + 2)) < 256 ∧ readStatus up .spi a 1 = 0 ∧ readStatus up .spi d 1 = 0x0E ∧ writeStatus up .spi R.pcCtrl [2] = 0 ∧ writeStatus up .spi a [2] = 0x0E := by decide +kernel

theorem wit_LanyardMessagesParity : let s : State := { up with fc := { up.fc with active := [3] } }; s.inReset = false ∧ s.variant = .vs3240 ∧ takable s = none ∧ s.fc.active = [3] ∧ up.fc.active = [] ∧ gb s (R.classCfg0 + 12) 0 = true ∧ ({ up with variant := .vs3208 } : State).variant ≠ .vs3240 := by decide

theorem wit_LanyardMessages : let m : Msg := { src := 0x20, kind := 0x12, inj := false, addr := 0, info := 0, tick := 0, time := 0, cyc := 0 }; let s := { up with now := 5, fc := { up.fc with bus := [m] } }; s.inReset = false ∧ takable s = some m ∧ m.forceFurl = false ∧ shadowOf s m = none ∧ repeatOf s m = none ∧ reactBits s (classOf s 0x12) ≠ 0 := by decide

theorem wit_LanyardMessagesRepeat : let m : Msg := { src := 0x20, kind := 0x12, inj := false, addr := 0, info := 0, tick := 4, time := 0, cyc := 0 }; let s := wr R.rptWin 100 { up with now := 5, fc := { up.fc with bus := [m], det := [(255, (3, 0x20, 0x12, 0))] } }; let w : State := { s with fc := { s.fc with windows := [{ idx := some 3, first := 1, last := 64, ch := none, test := false }] } }; repeatOf s m = some 255 ∧ shadowOf s m = none ∧ takable s = some m ∧ (shadowOf w m).isSome = true ∧ takable w = some m ∧ (takable { s with fc := { s.fc with bus := [{ m with forceFurl := true }] } }).isSome = true := by decide

theorem wit_LanyardMessagesTwin : let m : Msg := { src := 0x20, kind := 0x12, inj := true, addr := 0, info := 0, tick := 4, time := 0, cyc := 0 }; let s := { up with now := 5, fc := { up.fc with bus := [m, { m with inj := false }] } }; takable s = some m ∧ (s.fc.bus.tail.find? (twins m)).isSome = true := by decide

theorem wit_FaultReactionsWeak : let s := wr (chA 3 R.chStat) 5 { up with fc := { up.fc with reacts := [{ at_ := 0, targets := [3], act := .hold84, idx := none }, { at_ := 0, targets := [4], act := .clr, idx := none }] } }; ChanIn 3 s ∧ ChanIn 4 s ∧ ChanIn 5 s ∧ reactDue s = true ∧ s.variant = .vs3240 ∧ (s.now, 3) ∉ s.fc.retries ∧ furled s 3 = false ∧ (s.fc.reacts.any (fun r => r.act == .dev)) = false ∧ (let v : State := { s with fc := { s.fc with retries := [(0, 3)] } }; (v.now, 3) ∈ v.fc.retries) := by decide

theorem wit_FaultReactions : let s := { up with fc := { up.fc with reacts := [{ at_ := 0, targets := [0], act := .furl, idx := none }, { at_ := 0, targets := [1], act := .hold, idx := none }, { at_ := 0, targets := [2], act := .off, idx := none }, { at_ := 0, targets := [], act := .dev, idx := none }] } }; ChanIn 0 s ∧ ChanIn 1 s ∧ ChanIn 2 s ∧ reactDue s = true ∧ furled s 0 = false := by decide

theorem wit_SelfTestsAndMirror : let u : Test := { idx := 4, cls := 1, kind := 0x0A, src := 0x20, addr := 0, info := 0, aux := 0, block := (1, 0), start := 0 }; let v : Test := { u with idx := 3, running := true }; let s := { wr R.logSeq 9 up with now := 2000, fc := { up.fc with tests := [u] } }; let w := { s with fc := { s.fc with tests := [v, u] } }; Operating s ∧ (startable s 4).isSome = true ∧ (startable w 4).isSome = true ∧ (endable w 3).isSome = true ∧ (w.fc.tests.find? (fun x => x.running && x.block == u.block)).isSome = true ∧ (mirrorNext { wr R.mirCfg 19 s with fc := { s.fc with mirrorDirty := [5] } }).isSome = true ∧ v.shares ≠ some 3 ∧ (startable { s with fc := { s.fc with tests := [{ u with block := (6, 0) }, { u with idx := 6, block := (2, 3) }] } } 6).isSome = true := by decide

theorem wit_SelfTestNotes : let u : Test := { idx := 4, cls := 1, kind := 0x0A, src := 0x20, addr := 0, info := 0, aux := 0, block := (1, 0), start := 0, running := true }; let s := { wr R.logSeq 9 up with now := 2000, fc := { up.fc with tests := [u] } }; Operating s ∧ (endable s 4).isSome = true ∧ 4 < (rd s R.logSeq).toNat ∧ gb s (R.classCfg0 + 4) 1 = true ∧ (lcls s 1).txq = [] ∧ gb (wr R.classCfg0 0 s) R.classCfg0 1 = false := by decide

theorem wit_HoldsFurlsAndInjection : let s := sb R.chFurled 2 true (sb (chA 1 R.chStat) 10 true (wr R.devStat 3 { up with fc := { up.fc with fi := some (0, 3, 0, 0x20000000) } })); Operating s ∧ inHold s 1 = true ∧ (chan s 1).holdEnd = [] ∧ inHold s 0 = false ∧ furled s 2 = true ∧ gb s R.devStat 0 = true ∧ gb s R.stResult 1 = false ∧ hasChan s 2 = true := by decide

theorem wit_ResetAndBoot : let s : State := { State.reset with regs := [(R.otpWord, 0x0A5E), (R.otpWord + 28, BitVec.ofNat 32 (otpCrc { State.reset with regs := [(R.otpWord, 0x0A5E)] } 0 7))] }; ({ State.reset with inReset := true } : State).inReset = true ∧ s.inReset = false ∧ gf s R.devState 3 2 = 0 ∧ gf s R.devState 0 3 = 0 ∧ fld (rd s R.otpWord) 0 16 = 0x0A5E ∧ headerOk s = true := by decide +kernel

theorem wit_ResetFirstStep : let s : State := { State.reset with inReset := true, resetting := true }; s.inReset = true ∧ s.resetting = true ∧ s.pending = [] ∧ up.inReset = false ∧ up.pending = [] ∧ hasChan up 3 = true ∧ State.reset.inReset = false := by decide

theorem wit_ResetAndBootLater : let s := wr R.devState 1 State.reset; let t := wr R.clkStat 1 (wr R.devState 8 State.reset); let u := { wr R.devState 16 up with now := 2000000 }; let v := wr R.devState 24 up; gf s R.devState 3 2 = 0 ∧ gf s R.devState 0 3 = 1 ∧ gf t R.devState 3 2 = 1 ∧ gf t R.devState 0 3 = 0 ∧ gb t R.clkStat 0 = true ∧ running u = true ∧ gf u R.devState 3 2 = 2 ∧ gf v R.devState 3 2 = 3 ∧ gb v R.clkStat 2 = false := by decide

theorem wit_SecondClockLoss : let s := wr R.clkStat 8 up; let t := wr R.clkStat 4 up; s.inReset = false ∧ running s = false ∧ gb s R.clkStat 3 = true ∧ gb s R.clkStat 2 = false ∧ gb t R.clkStat 2 = true ∧ gb t R.clkStat 3 = false ∧ running up = true ∧ running State.reset = false ∧ gb State.reset R.clkStat 2 = false := by decide

theorem wit_ClockLossAndProgramming : let s := wr R.otpStat 0x1000 (wr R.otpAddr 9 up); let w : Word := 0xA501; Operating s ∧ hasChan s 0 = true ∧ w.toNat / 256 % 256 = 0xA5 ∧ s.otpBusy = none ∧ (rd s (R.otpWord + 32)).getLsbD 0 = false ∧ gf s R.otpAddr 0 8 = 9 ∧ ({ s with otpBusy := some (9, 1) } : State).otpBusy ≠ none := by decide

theorem wit_TraceRecords : let s := wr (R.txcStat + 4) 9 <| updLc 0 (fun c => { c with done := true }) <| wr R.obsCfg 1 (wr R.probe 0x1D { up with obs := { up.obs with trace := { fifo := [(0, [1])] }, tc1 := { fifo := [(0, [1])] } }, now := 5 }); Operating s ∧ hasChan s 0 = true ∧ (rd s R.probe).getLsbD 0 = true ∧ fld (rd s R.probe) 1 2 = 2 ∧ ticktime s % 2 ^ (fld (rd s R.probe) 10 4) = 0 ∧ (s.obs.trace.fifo.head?).isSome = true ∧ packRoom s = true ∧ s.obs.oldSel = [] ∧ (chan s 0).loop.tRec.length = 16 ∧ (lcore s 0).done = true ∧ (s.obs.tc1.fifo.map (fun r => r.2.length)).sum ≤ 4096 := by decide

theorem wit_TraceRecordsPc : let s := wr R.probe 0x0B (updSeq 0 (fun q => { q with executed := 1 }) { ctxRun with slot := 300 }); Operating s ∧ fld (rd s R.probe) 1 2 = 1 ∧ boundCtx s 0 = some 0 ∧ 0 < (seq s 0).executed ∧ 256 ≤ s.slot ∧ (let u := { s with obs := { s.obs with oldSel := [(0, 0x0B)] } }; (u.obs.oldSel.find? (fun o => o.1 == 0)) = some (0, 0x0B) ∧ selDue u 0x0B true = true ∧ wouldDrop u 0x0B true = true ∧ fld (0x0B : Word) 3 2 = 1) := by decide

theorem wit_PerformanceCounters : Operating up ∧ hasChan up 4 = true ∧ hasGroup up 3 = true ∧ hasGroup up 4 = false ∧ hasStream up 35 = true ∧ hasStream up 36 = false := by decide

theorem wit_TickEdge : let s := wr (R.cntSel + 20) 1 (sf R.pcCtrl 0 1 1 { updChan 0 (fun c => { c with shadow := [.reg R.rampRate 1 9, .reg R.rampRate (rwMask (chA 0 R.rampRate)) 5] }) tickOver with caused := [48], obs := { tickOver.obs with snap := true, clr := true, writes := [(R.probe + 4 - R.obsCfg, 5)] } }); TickOver s ∧ hasChan s 0 = true ∧ s.fc.reacts = [] ∧ (chan s 0).holdEnd = [] ∧ gb s R.tickCtrl 9 = false ∧ lineLive s 48 = true ∧ gb s R.pcCtrl 0 = true ∧ fld (rd s (R.cntSel + 20)) 0 8 = 1 := by decide +kernel

theorem wit_StepRunsFrontCommand : State.reset.pending = [] ∧ ({ State.reset with inReset := true } : State).pending = [] ∧ State.reset.resetting = false := by decide

theorem wit_NoEffectWhileHeld : ({ State.reset with inReset := true } : State).inReset = true ∧ Instr.keepalive 0 ≠ .clrNAssert ∧ Instr.keepalive 0 ≠ .resetEnd ∧ (tyselParts (.nop 3 ⟨0, 0, false, 0, 0⟩)).isSome = true ∧ seqReady up 3 = false := by decide

theorem wit_MemoryKeepsItsForm : Safe State.reset := by unfold Safe; decide

theorem wit_InstructionWordsRoundTrip : tyselOwn (.add 3 ⟨1, 2, true, 0, 7⟩) = true ∧ tyselParts (decodeTysel 3 0x24000000 0) ≠ none := by decide

/-! ### Ill-formed commands, one for each check of a kind of operand (a unit, a line, a count, a length) -/

theorem test_wf_channel : (Instr.modeWrite 32 2).wf = false ∧ (Instr.modeWrite 31 2).wf = true := by decide
theorem test_wf_group : (Instr.frameShift 4).wf = false ∧ (Instr.latchWord 5).wf = false := by decide
theorem test_wf_stream : (Instr.strCfgWrite 36 0).wf = false ∧ (Instr.streamSpill 40 none).wf = false := by decide
theorem test_wf_edge_unit : (Instr.etCtrlArm 8).wf = false ∧ (Instr.resultBlockWrite 9).wf = false := by decide
theorem test_wf_edge_source : (Instr.edge 0 128 0 0 true).wf = false ∧ (Instr.edge 0 0 0 50 true).wf = false := by decide
theorem test_wf_pin : (Instr.triggerInputEdge 8 true).wf = false ∧ (Instr.triggerPulseEnd 8).wf = false := by decide
theorem test_wf_line : (Instr.eventLineAssert 64).wf = false ∧ (Instr.tickInEdge 50).wf = false := by decide
theorem test_wf_offset : (Instr.limitWrite 0 65536 0).wf = false ∧ (Instr.contextStoreWrite 4096 0 0).wf = false := by decide
theorem test_wf_descriptor : (Instr.genCtrlStart 0 1024).wf = false ∧ (Instr.genCtrlMark 0 16384).wf = false := by decide
theorem test_wf_calibration : (Instr.calLowWordWrite .tc0 524288 0).wf = false := by decide
theorem test_wf_resource : (Instr.resHcmdAcq 64).wf = false ∧ (Instr.resourceGrant 64).wf = false := by decide
theorem test_wf_port : (Instr.arbTktWrite 12 0).wf = false ∧ (Instr.replayTimeout 4).wf = false := by decide
theorem test_wf_lanes : (Instr.signalDetect 16).wf = false ∧ (Instr.markerLock 16).wf = false := by decide
theorem test_wf_read_words : (Instr.regRd .tc0 0 0 17).wf = false ∧ (Instr.regRd .tc0 0 0 0).wf = false := by decide
theorem test_wf_write_words : (Instr.regWr .tc0 0 0 []).wf = false ∧ (Instr.regWr .tc0 0 0 [7]).wf = true := by decide
theorem test_wf_tag : (Instr.keepalive 65536).wf = false ∧ (Instr.strRd 65536 0 16).wf = false := by decide
theorem test_wf_read_length : (Instr.strRd 0 0 16384).wf = false ∧ (Instr.strRd 0 36 16).wf = false := by decide
theorem test_wf_bind : (Instr.seqCmdBind 0 4096).wf = false ∧ (Instr.cacheFill 4096 none none).wf = false := by decide
theorem test_wf_monitor : (Instr.injReq 0 4 0).wf = false := by decide
theorem test_wf_probe : (Instr.probeWrite 4 0).wf = false ∧ (Instr.cntSelWrite 256 0).wf = false := by decide

/-! ### Tysel words: OPC [31:25], RD [24:21], RA [20:17], X [16], IMM16 [15:0], or RB [15:12] and FN [11:0] (09 R247) -/

/-- The words of Program 1 that 09 gives with their fields. -/
theorem test_word_ldi : decodeTysel 4 0x22410000 0x00800000 = .ldi 4 ⟨2, 0, true, 0, 0x00800000⟩ := by decide
theorem test_word_mread : decodeTysel 4 0x62200003 0 = .mread 4 ⟨1, 0, false, 3, 0⟩ := by decide
theorem test_word_and : decodeTysel 4 0x2E227000 0 = .andOp 4 ⟨1, 1, false, 0x7000, 0⟩ := by decide
theorem test_word_brNe : decodeTysel 4 0x06400004 0 = .brCc 4 ⟨2, 0, false, 4, 0⟩ := by decide
theorem test_word_loop : decodeTysel 4 0x0C00FFF7 0 = .loop 4 ⟨0, 0, false, 0xFFF7, 0⟩ := by decide

/-- Words written bit by bit from 09 R247 and the opcodes of R253. -/
theorem test_word_wait40 : decodeTysel 0 0b10010000000000000000000000101000 0 = .wait 0 ⟨0, 0, false, 40, 0⟩ := by decide
theorem test_word_acq13 : decodeTysel 0 0b10100000000000000000000000001101 0 = .acq 0 ⟨0, 0, false, 13, 0⟩ := by decide
theorem test_word_forceG3 : decodeTysel 0 0b01000100000001100000000000000000 0 = .force 0 ⟨0, 3, false, 0, 0⟩ := by decide
theorem test_word_measStop : decodeTysel 0 0b01100000000000000000000000000111 0 = .measStop 0 ⟨0, 0, false, 7, 0⟩ := by decide
theorem test_word_jumpNow : decodeTysel 0 0b01111010000001000000000000000001 0 = .jump 0 ⟨0, 2, false, 1, 0⟩ := by decide
theorem test_word_trigPin : decodeTysel 0 0b10010100000000001000000000000101 0 = .trigPin 0 ⟨0, 0, false, 0x8005, 0⟩ := by decide
theorem test_word_unlisted : decodeTysel 0 0xFE000000 0 = .illegal 0 ⟨0, 0, false, 0, 0⟩ := by decide

/-! ### Values worked out by hand -/

/-- Round half to even (00 R10). -/
theorem test_rne : rneDiv 5 2 = 2 ∧ rneDiv 7 2 = 4 ∧ rneDiv (-5) 2 = -2 ∧ rneDiv (-7) 2 = -4 ∧ rneDiv 9 4 = 2 := by decide

/-- CRC-8 with polynomial 0x07 of the bytes "123456789" is 0xF4, the check value of that code. -/
theorem test_crc8 : crc8 (msbBits 72 0x313233343536373839) = 0xF4 := by decide +kernel

/-- CRC-32 of IEEE 802.3 of the bytes "123456789" is 0xCBF43926, its check value. -/
theorem test_crc32 : crc32 [0x31, 0x32, 0x33, 0x34, 0x35, 0x36, 0x37, 0x38, 0x39] = 0xCBF43926 := by decide +kernel

/-- A setpoint of 0.75 of 6.4 V is 0.48 of 10 V: 0.48 * 2^31 = 1030792151.04 (00 R445, with 6.4 taken as the nearest binary32,
13421773 / 2^21). -/
theorem test_rescale : rescale 0x60000000 0x40CCCCCD 0x41200000 = 1030792166 := by decide +kernel

/-- A check of the state after a command; false where the command does not answer a next state. -/
def after (c : Instr) (s : State) (p : State → Bool) : Bool :=
  match exec c s with
  | .next t => p t
  | _ => false

/-- A write of SP waits for the next tick edge: SP itself keeps its value in the tick (01 R15). -/
theorem test_sp_waits :
    after (.spWrite 3 0x1234) up (fun t => rd t (chA 3 R.sp) == 0 && (chan t 3).shadow == [.sp 0x1234]) = true := by decide +kernel

/-- ADD of 0xFFFFFFFF and 1 gives 0 with Z and C set, N and OVF clear (09 R251). -/
theorem test_add_wraps :
    after (.add 0 ⟨3, 1, false, 0x2000, 0⟩) (wr (cxA 0 (R.cxG0 + 8)) 1 (wr (cxA 0 (R.cxG0 + 4)) 0xFFFFFFFF ctxRun))
      (fun t => gReg t 0 3 == 0 && gf t (cxA 0 R.cxFlags) 0 3 == 5 && !gb t (cxA 0 R.cxFlags) 4) = true := by decide +kernel

/-- A mode write to an absent channel changes nothing (00 R3). -/
theorem test_absent :
    after (.modeWrite 8 2) (wr R.clkStat 2 { State.reset with variant := .vs3208 }) (fun t => t.chans.isEmpty && t.rcbs.isEmpty) = true := by
  decide +kernel

/-- The boundary-scan chain has 179 cells, one a digital signal ball (16 R427). -/
theorem test_chain_length : chainBalls.length = 179 := by decide +kernel

end Sys2Proof.Tests
end

section
/-! SUPPORT. Words as their bits, and the frame of an operation that touches registers only. -/

namespace Sys2Proof

/-! ### Words as their bits -/

theorem testBit_fld (w : Word) (lo len i : Nat) : (fld w lo len).testBit i = (decide (i < len) && w.getLsbD (lo + i)) := by
  unfold fld
  rw [Nat.testBit_mod_two_pow, Nat.testBit_div_two_pow, BitVec.getLsbD, Nat.add_comm]

/-- Words that agree where a mask is 1 agree in every field within the mask. -/
theorem fld_eq_of_masked {x y m : Word} (h : (x ^^^ y) &&& m = 0) {lo len : Nat} (hm : ∀ i, i < len → m.getLsbD (lo + i) = true) :
    fld x lo len = fld y lo len := by
  refine Nat.eq_of_testBit_eq fun i => ?_
  rw [testBit_fld, testBit_fld]
  by_cases hi : i < len
  · have hb : ((x ^^^ y) &&& m).getLsbD (lo + i) = false := by rw [h]; exact BitVec.getLsbD_zero
    rw [BitVec.getLsbD_and, BitVec.getLsbD_xor, hm i hi, Bool.and_true, bne_eq_false_iff_eq] at hb
    rw [hb]
  · simp [hi]

/-- A field written with its own value leaves the word. -/
theorem setFld_fld (w : Word) {lo len : Nat} (h : lo + len ≤ 32) : setFld w lo len (fld w lo len) = w := by
  apply BitVec.eq_of_toNat_eq
  rw [setFld_toNat w lo len _ h, Nat.mod_eq_of_lt (fld_lt w lo len)]
  unfold fld
  have low : w.toNat / 2 ^ lo * 2 ^ lo + w.toNat % 2 ^ lo = w.toNat := Nat.div_add_mod' _ _
  have mid : w.toNat / 2 ^ (lo + len) * 2 ^ len + w.toNat / 2 ^ lo % 2 ^ len = w.toNat / 2 ^ lo := by
    rw [pow_add, ← Nat.div_div_eq_div_mul]
    exact Nat.div_add_mod' _ _
  calc w.toNat / 2 ^ (lo + len) * 2 ^ (lo + len) + w.toNat / 2 ^ lo % 2 ^ len * 2 ^ lo + w.toNat % 2 ^ lo
      = (w.toNat / 2 ^ (lo + len) * 2 ^ len + w.toNat / 2 ^ lo % 2 ^ len) * 2 ^ lo + w.toNat % 2 ^ lo := by rw [pow_add]; ring
    _ = w.toNat := by rw [mid, low]

end Sys2Proof

namespace Sys2Proof.Machine

/-! ### Saturation to 32 bits -/

theorem sat32_eq (x : Int) : sat32 x = max (-2 ^ 31) (min x (2 ^ 31 - 1)) := by
  unfold sat32 sat
  norm_num

/-- A saturation to 32 bits changes what lies outside of them. -/
theorem sat32_bne (x : Int) : (sat32 x != x) = decide (x < -2 ^ 31 ∨ 2 ^ 31 - 1 < x) := by
  rw [sat32_eq, Bool.eq_iff_iff, bne_iff_ne, decide_eq_true_eq]
  omega

/-! ### What an operation leaves alone -/

/-- From s to t the queue, the reset and DDR5 stand, and only registers of the list have new words. -/
def Touches (l : List Nat) (s t : State) : Prop :=
  (t.pending = s.pending ∧ t.inReset = s.inReset ∧ t.ddr = s.ddr) ∧ RegsExcept l s t

namespace Touches
variable {l : List Nat} {s t : State} {a n : Nat}

theorem refl (l : List Nat) (s : State) : Touches l s s := ⟨⟨rfl, rfl, rfl⟩, fun _ _ => rfl⟩

theorem trans {u : State} (h : Touches l s t) (h' : Touches l t u) : Touches l s u := by
  obtain ⟨⟨hp, hr, hd⟩, hk⟩ := h
  obtain ⟨⟨hp', hr', hd'⟩, hk'⟩ := h'
  exact ⟨⟨hp'.trans hp, hr'.trans hr, hd'.trans hd⟩, fun b hb => (hk' b hb).trans (hk b hb)⟩

theorem mono {l' : List Nat} (h : Touches l s t) (hl : l ⊆ l') : Touches l' s t := ⟨h.1, fun b hb => h.2 b (fun hm => hb (hl hm))⟩

theorem wr (ha : a ∈ l) (w : Word) (s : State) : Touches l s (wr a w s) :=
  ⟨⟨rfl, rfl, rfl⟩, fun _ hb => rd_wr_of_ne s w (fun e => hb (e ▸ ha))⟩

theorem sf (ha : a ∈ l) (lo len v : Nat) (s : State) : Touches l s (sf a lo len v s) := Touches.wr ha _ s

theorem flag (ha : a ∈ l) (i : Nat) (s : State) : Touches l s (flag a i s) := Touches.wr ha _ s

theorem sb (ha : a ∈ l) (i : Nat) (b : Bool) (s : State) : Touches l s (sb a i b s) := Touches.wr ha _ s

theorem bump (ha : a ∈ l) (lo len : Nat) (s : State) : Touches l s (bump a lo len s) := Touches.wr ha _ s

theorem updChan (n : Nat) (f : Chan → Chan) (s : State) : Touches l s (updChan n f s) := ⟨⟨rfl, rfl, rfl⟩, fun _ _ => rfl⟩

theorem whenB {f : State → State} (b : Bool) (h : Touches l s (f s)) : Touches l s (whenB b f s) := by
  cases b
  · exact refl l s
  · exact h

theorem onlyRegs (h : Touches l s t) : OnlyRegs l s t := ⟨h.2, fun _ => by rw [h.1.2.2]⟩

/-- A command of a channel that makes the state t of s, touching registers only, answers t. -/
theorem onChan {f : State → State} (h : Touches l s t) (hn : ChanIn n s) (hf : f s = t) : onChan n s f = .next t := by
  subst hf
  exact onChan_next hn h.1

/-- The same for an event of a channel that is due. -/
theorem whenDue {due : State → Bool} {f : State → State} (h : Touches l s t) (hn : ChanIn n s) (hd : due s = true) (hf : f s = t) :
    whenDue n due s f = .next t := by
  subst hf
  exact whenDue_next hn hd h.1

end Touches

/-- An action under a condition keeps what the action keeps. -/
theorem whenB_keeps {β : Type} (g : State → β) {f : State → State} {u : State} (h : g (f u) = g u) (b : Bool) : g (whenB b f u) = g u := by
  cases b
  · rfl
  · exact h

/-! ### Fields of other registers and other fields -/

variable (s : State)

@[simp] theorem chA_inj {n a b : Nat} : chA n a = chA n b ↔ a = b := by unfold chA; omega

theorem gf_flag_of_ne {a b : Nat} (i lo len : Nat) (h : a ≠ b) : gf (flag a i s) b lo len = gf s b lo len := gf_sf_of_ne s i 1 _ lo len h

theorem gf_flag_of_disjoint {a i lo len : Nat} (hi : i < 32) (hd : i + 1 ≤ lo ∨ lo + len ≤ i) :
    gf (flag a i s) a lo len = gf s a lo len := gf_sf_of_disjoint s a i 1 _ lo len hi hd

theorem gb_sf_of_ne {a b : Nat} (lo len v i : Nat) (h : a ≠ b) : gb (sf a lo len v s) b i = gb s b i := by
  unfold gb
  rw [rd_sf_of_ne s lo len v h]

theorem gb_sf_of_disjoint {a lo len : Nat} (v : Nat) {i : Nat} (h : lo + len ≤ 32) (hd : i < lo ∨ lo + len ≤ i) :
    gb (sf a lo len v s) a i = gb s a i := by
  rw [gb_eq_gf, gb_eq_gf, gf_sf_of_disjoint s a lo len v i 1 h (by omega)]

theorem gb_flag {a i j : Nat} (hi : i < 32) : gb (flag a i s) a j = (gb s a j || decide (i = j)) := by
  unfold flag
  rw [gb_sb s a i j true hi]
  by_cases h : i = j <;> simp [h]

/-! ### The registers of a channel window -/

theorem hasChan_lt {s : State} {n : Nat} (h : hasChan s n = true) : n < 32 := by
  unfold hasChan nChans at h
  cases hv : s.variant <;> simp [hv] at h <;> omega

theorem blockOf_chA {n off : Nat} (hn : n < 32) (ho : off < 0x10000) : blockOf (chA n off) = (.chan n, off) := by
  unfold blockOf chA
  rw [if_neg (by omega), if_pos (by omega)]
  congr 2 <;> omega

theorem rowAt_chA {n off : Nat} (hn : n < 32) (ho : off < 0x1000) : rowAt (chA n off) = findRow chanRows off := by
  unfold rowAt
  rw [blockOf_chA hn (by omega)]
  exact if_neg (by omega)

theorem rwMask_rcCfg {n : Nat} (hn : n < 32) : rwMask (chA n R.rcCfg) = 0xf3fff := by
  unfold rwMask
  rw [rowAt_chA hn (by decide)]
  rfl

end Sys2Proof.Machine
end

section
/-! PROOFS. The repetitive controller (04 R125 to R131): what each of its operations does, and O24 assembled from it. -/

namespace Sys2Proof.Machine

section
variable (s : State) (n : Nat)

@[simp] theorem rc_updRc (f : Rc → Rc) : (chan (updRc n f s) n).rc = f (chan s n).rc := by simp [updRc]
@[simp] theorem rd_updRc (f : Rc → Rc) (a : Nat) : rd (updRc n f s) a = rd s a := (rfl)
@[simp] theorem gf_updRc (f : Rc → Rc) (a lo len : Nat) : gf (updRc n f s) a lo len = gf s a lo len := gf_updChan s n _ a lo len
@[simp] theorem gb_updRc (f : Rc → Rc) (a i : Nat) : gb (updRc n f s) a i = gb s a i := gb_updChan s n _ a i
@[simp] theorem chan_rcReject (m : Nat) : chan (rcReject n s) m = chan s m := chan_flag s _ 15 m
@[simp] theorem chan_tidxNext (m : Nat) : chan (tidxNext n s) m = chan s m := chan_sf s _ 0 13 _ m

theorem Touches.updRc {l : List Nat} (f : Rc → Rc) : Touches l s (updRc n f s) := Touches.updChan n _ s

theorem touches_rcReject : Touches [chA n R.rcStat] s (rcReject n s) := Touches.flag (by simp) 15 s

theorem gb_rcReject_same : gb (rcReject n s) (chA n R.rcStat) 15 = true := gb_flag_same s _ 15 (by decide)

/-! ### RC_CFG (R130) -/

/-- P and DLOG are idle (R130). -/
abbrev RcIdle (s : State) (n : Nat) : Prop := gb s (chA n R.loopCfg) 8 = false ∨ openNow s n = true

/-- A P that RC_CFG takes: the one that stands, or while idle one of R125 above LEAD. -/
abbrev RcTakesP (s : State) (n p : Nat) : Prop :=
  p = gf s (chA n R.rcCfg) 0 14 ∨ (RcIdle s n ∧ 16 ≤ p ∧ p ≤ 8192 ∧ gf s (chA n R.rcLead) 0 13 < p)

/-- A DLOG that RC_CFG takes: the one that stands, or while idle one of R125. -/
abbrev RcTakesD (s : State) (n d : Nat) : Prop := d = gf s (chA n R.rcCfg) 16 4 ∨ (RcIdle s n ∧ d ≤ 8)

/-- P as a write of RC_CFG leaves it. -/
abbrev rcNewP (s : State) (n : Nat) (w : Word) : Nat := if RcTakesP s n (fld w 0 14) then fld w 0 14 else gf s (chA n R.rcCfg) 0 14

/-- DLOG as a write of RC_CFG leaves it. -/
abbrev rcNewD (s : State) (n : Nat) (w : Word) : Nat := if RcTakesD s n (fld w 16 4) then fld w 16 4 else gf s (chA n R.rcCfg) 16 4

/-- The word of RC_CFG with P and DLOG. -/
def rcCfgWord (s : State) (n p d : Nat) : Word := setFld (setFld (rd s (chA n R.rcCfg)) 0 14 p) 16 4 d

/-- RC_CFG takes P and DLOG; where either is new the pointer returns to entry 0. -/
def rcSet (n p d : Nat) (s : State) : State :=
  if differs s (chA n R.rcCfg) (rcCfgWord s n p d) then rcRestart false n (wr (chA n R.rcCfg) (rcCfgWord s n p d) s) else s

theorem rcRestart_false : rcRestart false n s =
    updRc n (fun r => { r with tick := 0, esum := 0, valid := true, endDue := false }) (sf (chA n R.rcStat) 0 13 0 s) := (rfl)

/-- A write of RC_CFG takes each of P and DLOG or keeps what stood, and is rejected where it keeps one (00 R5). -/
theorem rcCfgWrite_eq {w : Word} (hrc : hasRc s = true) (hd : differs s (chA n R.rcCfg) w = true) :
    rcCfgWrite n w s = whenB (!decide (RcTakesP s n (fld w 0 14) ∧ RcTakesD s n (fld w 16 4))) (rcReject n)
      (rcSet n (rcNewP s n w) (rcNewD s n w) s) := by
  have takesP : (fld w 0 14 == gf s (chA n R.rcCfg) 0 14 || ((!gb s (chA n R.loopCfg) 8 || openNow s n) && decide (16 ≤ fld w 0 14) &&
      decide (fld w 0 14 ≤ 8192) && decide (gf s (chA n R.rcLead) 0 13 < fld w 0 14))) = decide (RcTakesP s n (fld w 0 14)) := by
    rw [Bool.eq_iff_iff]
    simp [and_assoc]
  have takesD : (fld w 16 4 == gf s (chA n R.rcCfg) 16 4 || ((!gb s (chA n R.loopCfg) 8 || openNow s n) && decide (fld w 16 4 ≤ 8))) =
      decide (RcTakesD s n (fld w 16 4)) := by
    rw [Bool.eq_iff_iff]
    simp
  unfold rcCfgWrite rcSet rcCfgWord
  simp only [hrc, hd, takesP, takesD, Bool.not_true, Bool.or_false, Bool.false_eq_true, if_false, decide_eq_true_eq, Bool.decide_and]

variable {s n} {p d : Nat}

theorem touches_rcSet : Touches [chA n R.rcCfg, chA n R.rcStat] s (rcSet n p d s) := by
  unfold rcSet
  rw [rcRestart_false]
  split
  · exact (Touches.wr (by simp) _ s).trans ((Touches.sf (by simp) 0 13 0 _).trans (Touches.updRc _ n _))
  · exact Touches.refl _ s

theorem rcCfgWord_self (hp : p = gf s (chA n R.rcCfg) 0 14) (hd : d = gf s (chA n R.rcCfg) 16 4) :
    rcCfgWord s n p d = rd s (chA n R.rcCfg) := by
  unfold rcCfgWord
  rw [hp, hd, gf, setFld_fld _ (by decide), gf, setFld_fld _ (by decide)]

/-- P and DLOG as they stand change nothing. -/
theorem rcSet_self (hp : p = gf s (chA n R.rcCfg) 0 14) (hd : d = gf s (chA n R.rcCfg) 16 4) : rcSet n p d s = s := by
  unfold rcSet differs
  simp [rcCfgWord_self hp hd]

theorem fld_rcCfgWord (hp : p < 2 ^ 14) (hd : d < 2 ^ 4) :
    fld (rcCfgWord s n p d) 0 14 = p ∧ fld (rcCfgWord s n p d) 16 4 = d := by
  unfold rcCfgWord
  refine ⟨?_, ?_⟩
  · rw [fld_setFld_below _ 16 4 d 0 14 (by decide) (by decide), fld_setFld _ 0 14 p (by decide), Nat.mod_eq_of_lt hp]
  · rw [fld_setFld _ 16 4 d (by decide), Nat.mod_eq_of_lt hd]

/-- A new P or DLOG changes a writable bit of RC_CFG. -/
theorem differs_rcCfgWord (hn : n < 32) (hp : p < 2 ^ 14) (hd : d < 2 ^ 4)
    (hne : p ≠ gf s (chA n R.rcCfg) 0 14 ∨ d ≠ gf s (chA n R.rcCfg) 16 4) :
    differs s (chA n R.rcCfg) (rcCfgWord s n p d) = true := by
  obtain ⟨fp, fd⟩ := fld_rcCfgWord (s := s) (n := n) hp hd
  unfold differs
  rw [rwMask_rcCfg hn, bne_iff_ne]
  intro h
  have ep := (fld_eq_of_masked h (lo := 0) (len := 14) (by decide)).trans fp
  have ed := (fld_eq_of_masked h (lo := 16) (len := 4) (by decide)).trans fd
  exact hne.elim (fun e => e ep.symm) (fun e => e ed.symm)

/-- What a new P or DLOG leaves: both fields, and the pointer and the entry at their beginning. -/
theorem rcSet_new (hn : n < 32) (hp : p < 2 ^ 14) (hd : d < 2 ^ 4)
    (hne : p ≠ gf s (chA n R.rcCfg) 0 14 ∨ d ≠ gf s (chA n R.rcCfg) 16 4) :
    gf (rcSet n p d s) (chA n R.rcCfg) 0 14 = p ∧ gf (rcSet n p d s) (chA n R.rcCfg) 16 4 = d ∧
      rcPtr (rcSet n p d s) n = 0 ∧ (chan (rcSet n p d s) n).rc.tick = 0 := by
  obtain ⟨fp, fd⟩ := fld_rcCfgWord (s := s) (n := n) hp hd
  have apart : chA n R.rcStat ≠ chA n R.rcCfg := by simp
  unfold rcSet rcPtr
  rw [if_pos (differs_rcCfgWord hn hp hd hne), rcRestart_false, gf_updRc, gf_updRc, gf_updRc, rc_updRc]
  refine ⟨?_, ?_, ?_, rfl⟩
  · rw [gf_sf_of_ne _ 0 13 0 0 14 apart, gf, rd_wr_same, fp]
  · rw [gf_sf_of_ne _ 0 13 0 16 4 apart, gf, rd_wr_same, fd]
  · rw [gf_sf_same _ _ 0 13 0 (by decide), Nat.zero_mod]

/-- P and DLOG read as set, whether new or not. -/
theorem gf_rcSet (hn : n < 32) (hp : p < 2 ^ 14) (hd : d < 2 ^ 4) :
    gf (rcSet n p d s) (chA n R.rcCfg) 0 14 = p ∧ gf (rcSet n p d s) (chA n R.rcCfg) 16 4 = d := by
  by_cases hne : p ≠ gf s (chA n R.rcCfg) 0 14 ∨ d ≠ gf s (chA n R.rcCfg) 16 4
  · obtain ⟨gp, gd, -⟩ := rcSet_new hn hp hd hne
    exact ⟨gp, gd⟩
  · obtain ⟨ep, ed⟩ := not_or.mp hne
    rw [rcSet_self (not_not.mp ep) (not_not.mp ed)]
    exact ⟨(not_not.mp ep).symm, (not_not.mp ed).symm⟩

/-- CFG_REJ stands while RC_CFG is taken. -/
theorem gb_rcSet : gb (rcSet n p d s) (chA n R.rcStat) 15 = gb s (chA n R.rcStat) 15 := by
  unfold rcSet
  rw [rcRestart_false]
  split
  · rw [gb_updRc, gb_sf_of_disjoint _ 0 (by decide) (by decide)]
    exact gb_eq_rd _ (rd_wr_of_ne s _ (by simp))
  · rfl

theorem rcNewP_lt (s : State) (n : Nat) (w : Word) : rcNewP s n w < 2 ^ 14 := by
  unfold rcNewP
  split
  · exact fld_lt w 0 14
  · exact fld_lt _ 0 14

theorem rcNewD_lt (s : State) (n : Nat) (w : Word) : rcNewD s n w < 2 ^ 4 := by
  unfold rcNewD
  split
  · exact fld_lt w 16 4
  · exact fld_lt _ 16 4

/-- RC_CFG_WRITE: what it leaves where it would change a writable bit. -/
theorem rcCfgWrite_answers {w : Word} (hn : ChanIn n s) (hrc : hasRc s = true) (hd : differs s (chA n R.rcCfg) w = true) :
    ∃ t, exec (.rcCfgWrite n w) s = .next t ∧ gf t (chA n R.rcCfg) 0 14 = rcNewP s n w ∧ gf t (chA n R.rcCfg) 16 4 = rcNewD s n w ∧
      gb t (chA n R.rcStat) 15 =
        (gb s (chA n R.rcStat) 15 || !decide (RcTakesP s n (fld w 0 14) ∧ RcTakesD s n (fld w 16 4))) ∧
      OnlyRegs [chA n R.rcCfg, chA n R.rcStat] s t ∧
      (rcNewP s n w ≠ gf s (chA n R.rcCfg) 0 14 ∨ rcNewD s n w ≠ gf s (chA n R.rcCfg) 16 4 → rcPtr t n = 0 ∧ (chan t n).rc.tick = 0) ∧
      (rcNewP s n w = gf s (chA n R.rcCfg) 0 14 → rcNewD s n w = gf s (chA n R.rcCfg) 16 4 → (chan t n).rc = (chan s n).rc) := by
  have hlt := hasChan_lt hn.2
  have eff := rcCfgWrite_eq s n hrc hd
  generalize hp : rcNewP s n w = p at *
  generalize hq : rcNewD s n w = d at *
  generalize (!decide (RcTakesP s n (fld w 0 14) ∧ RcTakesD s n (fld w 16 4))) = b at *
  have hp14 : p < 2 ^ 14 := hp ▸ rcNewP_lt s n w
  have hd4 : d < 2 ^ 4 := hq ▸ rcNewD_lt s n w
  obtain ⟨gp, gd⟩ := gf_rcSet (s := s) hlt hp14 hd4
  have apart : chA n R.rcStat ≠ chA n R.rcCfg := by simp
  have keepsChan : chan (whenB b (rcReject n) (rcSet n p d s)) n = chan (rcSet n p d s) n :=
    whenB_keeps (chan · n) (chan_rcReject _ n n) b
  have flags : gb (whenB b (rcReject n) (rcSet n p d s)) (chA n R.rcStat) 15 = (gb s (chA n R.rcStat) 15 || b) := by
    cases b with
    | false => exact gb_rcSet.trans (Bool.or_false _).symm
    | true => exact (gb_rcReject_same _ n).trans (Bool.or_true _).symm
  have touches : Touches [chA n R.rcCfg, chA n R.rcStat] s (whenB b (rcReject n) (rcSet n p d s)) :=
    touches_rcSet.trans (Touches.whenB b ((touches_rcReject _ n).mono (by simp)))
  refine ⟨_, touches.onChan hn eff, ?_, ?_, flags, touches.onlyRegs, fun hne => ?_, fun ep ed => ?_⟩
  · exact (whenB_keeps (gf · _ 0 14) (gf_flag_of_ne _ 15 0 14 apart) b).trans gp
  · exact (whenB_keeps (gf · _ 16 4) (gf_flag_of_ne _ 15 16 4 apart) b).trans gd
  · obtain ⟨-, -, ptr, tick⟩ := rcSet_new hlt hp14 hd4 hne
    exact ⟨(whenB_keeps (rcPtr · n) (gf_flag_of_disjoint _ (by decide) (by decide)) b).trans ptr, by rw [keepsChan, tick]⟩
  · rw [keepsChan, rcSet_self ep ed]

/-! ### CLEAR, BACKUP and RESTORE (R131) -/

/-- A command of the repetitive controller that is rejected (R125). -/
theorem rcReject_answers {f : State → State} (hn : ChanIn n s) (hf : f s = rcReject n s) :
    ∃ t, onChan n s f = .next t ∧ gb t (chA n R.rcStat) 15 = true ∧ (chan t n).rc = (chan s n).rc ∧ OnlyRegs [chA n R.rcStat] s t :=
  ⟨_, (touches_rcReject s n).onChan hn hf, gb_rcReject_same s n, congrArg (·.rc) (chan_rcReject s n n), (touches_rcReject s n).onlyRegs⟩

theorem rcClear_answers (hn : ChanIn n s) (hrc : hasRc s = true) :
    ∃ t, exec (.rcCtrlClear n) s = .next t ∧ Accepted n .rcClear s t ∧ OnlyRegs [] s t := by
  have touches : Touches [] s (accept n .rcClear s) := Touches.updChan n _ s
  refine ⟨_, touches.onChan hn (if_pos hrc), ?_, touches.onlyRegs⟩
  unfold Accepted accept
  rw [chan_updChan_same]

theorem rcBackup_busy (hrc : hasRc s = true) (hx : (chan s n).rc.xfer ≠ none) : rcBackup n s = rcReject n s := by
  unfold rcBackup rcBusy
  simp [hrc, Option.isSome_iff_ne_none.mpr hx]

theorem rcBackup_idle (hrc : hasRc s = true) (hx : (chan s n).rc.xfer = none) :
    rcBackup n s = whenB (gb s (chA n R.rcCtrl) 0) (flag (chA n R.rcStat) 17) (rcStart n false s) := by
  unfold rcBackup rcBusy
  simp [hrc, hx]

theorem rcRestore_refused (hrc : hasRc s = true) (h : (chan s n).rc.xfer ≠ none ∨ gb s (chA n R.rcCtrl) 0 = true ∨
    ¬ RcIdle s n) : rcRestore n s = rcReject n s := by
  have refuses : (rcBusy s n || gb s (chA n R.rcCtrl) 0 || (gb s (chA n R.loopCfg) 8 && !openNow s n)) = true := by
    rcases h with hx | hl | hi
    · simp [rcBusy, Option.isSome_iff_ne_none.mpr hx]
    · simp [hl]
    · simp only [RcIdle, not_or, Bool.not_eq_false, Bool.not_eq_true] at hi
      simp [hi]
  unfold rcRestore
  simp [hrc, refuses]

theorem rcRestore_idle (hrc : hasRc s = true) (hx : (chan s n).rc.xfer = none) (hl : gb s (chA n R.rcCtrl) 0 = false)
    (hi : RcIdle s n) : rcRestore n s = rcStart n true s := by
  unfold rcRestore rcBusy
  rcases hi with hi | hi <;> simp [hrc, hx, hl, hi]

theorem touches_rcStart (r : Bool) : Touches [chA n R.rcStat] s (rcStart n r s) :=
  (Touches.updRc s n _).trans (Touches.sb (by simp) 16 true _)

/-- A transfer starts from entry 0, at the offset RC_BK holds, with BK_BUSY; BK_TORN stands. -/
theorem rcStart_leaves (r : Bool) : (chan (rcStart n r s) n).rc.xfer = some (r, 0, 0) ∧
    (chan (rcStart n r s) n).rc.bkAt = rcBkOff s n ∧ gb (rcStart n r s) (chA n R.rcStat) 16 = true ∧
    gb (rcStart n r s) (chA n R.rcStat) 17 = gb s (chA n R.rcStat) 17 := by
  have rc : (chan (rcStart n r s) n).rc = { (chan s n).rc with xfer := some (r, 0, 0), bkAt := rcBkOff s n } := by
    unfold rcStart
    rw [chan_sb, rc_updRc]
  refine ⟨by rw [rc], by rw [rc], gb_sb_same _ _ 16 true (by decide), ?_⟩
  unfold rcStart
  rw [gb_sb_of_ne_bit _ _ 16 17 true (by decide) (by decide), gb_updRc]

theorem rcBackup_answers (hn : ChanIn n s) (hrc : hasRc s = true) (hx : (chan s n).rc.xfer = none) :
    ∃ t, exec (.rcCtrlBackup n) s = .next t ∧ (chan t n).rc.xfer = some (false, 0, 0) ∧ (chan t n).rc.bkAt = rcBkOff s n ∧
      gb t (chA n R.rcStat) 16 = true ∧ gb t (chA n R.rcStat) 17 = (gb s (chA n R.rcStat) 17 || gb s (chA n R.rcCtrl) 0) ∧
      OnlyRegs [chA n R.rcStat] s t := by
  obtain ⟨xfer, bkAt, busy, torn⟩ := rcStart_leaves (s := s) (n := n) false
  have idle := rcBackup_idle hrc hx
  cases hl : gb s (chA n R.rcCtrl) 0 with
  | false =>
    rw [hl] at idle
    exact ⟨_, (touches_rcStart false).onChan hn idle, xfer, bkAt, busy, by rw [torn, Bool.or_false], (touches_rcStart false).onlyRegs⟩
  | true =>
    rw [hl] at idle
    have touches : Touches [chA n R.rcStat] s (flag (chA n R.rcStat) 17 (rcStart n false s)) :=
      (touches_rcStart false).trans (Touches.flag (by simp) 17 _)
    refine ⟨_, touches.onChan hn idle, ?_, ?_, ?_, ?_, touches.onlyRegs⟩
    · rw [chan_flag, xfer]
    · rw [chan_flag, bkAt]
    · rw [gb_flag _ (by decide), busy, Bool.true_or]
    · rw [gb_flag_same _ _ 17 (by decide), Bool.or_true]

theorem rcRestore_answers (hn : ChanIn n s) (hrc : hasRc s = true) (hx : (chan s n).rc.xfer = none) (hl : gb s (chA n R.rcCtrl) 0 = false)
    (hi : RcIdle s n) :
    ∃ t, exec (.rcCtrlRestore n) s = .next t ∧ (chan t n).rc.xfer = some (true, 0, 0) ∧ (chan t n).rc.bkAt = rcBkOff s n ∧
      gb t (chA n R.rcStat) 16 = true ∧ OnlyRegs [chA n R.rcStat] s t := by
  obtain ⟨xfer, bkAt, busy, -⟩ := rcStart_leaves (s := s) (n := n) true
  exact ⟨_, (touches_rcStart true).onChan hn (rcRestore_idle hrc hx hl hi), xfer, bkAt, busy, (touches_rcStart true).onlyRegs⟩

theorem exec_rcTransferDone (s : State) (n : Nat) : exec (.rcTransferDone n) s = whenDue n (fun t => rcXferDue t n) s
    (fun t => sb (chA n R.rcStat) 16 false (updRc n (fun r => { r with xfer := none }) t)) := (rfl)

theorem rcTransferDone_answers (hn : ChanIn n s) {x : Bool × Nat × Nat} (hx : (chan s n).rc.xfer = some x) (hp : rcP s n ≤ x.2.2) :
    ∃ t, exec (.rcTransferDone n) s = .next t ∧ (chan t n).rc.xfer = none ∧ gb t (chA n R.rcStat) 16 = false ∧
      OnlyRegs [chA n R.rcStat] s t := by
  have due : rcXferDue s n = true := by
    unfold rcXferDue
    simp [hx, hp]
  have touches : Touches [chA n R.rcStat] s (sb (chA n R.rcStat) 16 false (updRc n (fun r => { r with xfer := none }) s)) :=
    (Touches.updRc s n _).trans (Touches.sb (by simp) 16 false _)
  refine ⟨_, (exec_rcTransferDone s n).trans (touches.whenDue hn due rfl), ?_, gb_sb_same _ _ 16 false (by decide), touches.onlyRegs⟩
  rw [chan_sb, rc_updRc]

/-! ### RC_TDATA (R125, R131) -/

theorem gf_tidxNext : gf (tidxNext n s) (chA n R.rcTidx) 0 13 = (gf s (chA n R.rcTidx) 0 13 + 1) % 8192 :=
  gf_sf_same s _ 0 13 _ (by decide)

theorem touches_tidxNext : Touches [chA n R.rcTidx] s (tidxNext n s) := Touches.sf (by simp) 0 13 _ s

theorem exec_rcTdataWrite (s : State) (n : Nat) (w : Word) : exec (.rcTdataAccess .tc0 n (some w)) s =
    onChan n s (fun t => if Port.tc0 ≠ .tc0 ∨ ¬ hasRc t then t else rcTdataWrite n w t) := (rfl)

theorem exec_rcTdataRead (s : State) (n : Nat) : exec (.rcTdataAccess .tc0 n none) s =
    onChan n s (fun t => if Port.tc0 ≠ .tc0 ∨ ¬ hasRc t then t else tidxNext n t) := (rfl)

/-- A write of RC_TDATA while LEARN is 0 stores the word at the index; the index moves on. -/
theorem rcTdataWrite_answers (hn : ChanIn n s) (hrc : hasRc s = true) (w : Word) (hl : gb s (chA n R.rcCtrl) 0 = false) :
    ∃ t, exec (.rcTdataAccess .tc0 n (some w)) s = .next t ∧
      (∀ i, Map.get 0 (chan t n).rc.tab i = if gf s (chA n R.rcTidx) 0 13 = i then w else Map.get 0 (chan s n).rc.tab i) ∧
      gf t (chA n R.rcTidx) 0 13 = (gf s (chA n R.rcTidx) 0 13 + 1) % 8192 ∧ OnlyRegs [chA n R.rcTidx] s t := by
  have touches : Touches [chA n R.rcTidx] s (tidxNext n (rcStore n (gf s (chA n R.rcTidx) 0 13) w s)) :=
    (Touches.updRc s n _).trans touches_tidxNext
  refine ⟨_, (exec_rcTdataWrite s n w).trans (touches.onChan hn (by simp [hrc, rcTdataWrite, hl])), fun i => ?_, ?_, touches.onlyRegs⟩
  · rw [chan_tidxNext, rcStore, rc_updRc]
    exact Map.get_put 0 _ _ i w
  · rw [gf_tidxNext, rcStore, gf_updRc]

/-- A write of RC_TDATA while LEARN is 1 is rejected and stores nothing; the index moves on all the same. -/
theorem rcTdataWrite_refused (hn : ChanIn n s) (hrc : hasRc s = true) (w : Word) (hl : gb s (chA n R.rcCtrl) 0 = true) :
    ∃ t, exec (.rcTdataAccess .tc0 n (some w)) s = .next t ∧ (chan t n).rc = (chan s n).rc ∧ gb t (chA n R.rcStat) 15 = true ∧
      gf t (chA n R.rcTidx) 0 13 = (gf s (chA n R.rcTidx) 0 13 + 1) % 8192 ∧ OnlyRegs [chA n R.rcStat, chA n R.rcTidx] s t := by
  have touches : Touches [chA n R.rcStat, chA n R.rcTidx] s (tidxNext n (rcReject n s)) :=
    ((touches_rcReject s n).mono (by simp)).trans (touches_tidxNext.mono (by simp))
  refine ⟨_, (exec_rcTdataWrite s n w).trans (touches.onChan hn (by simp [hrc, rcTdataWrite, hl])), ?_, ?_, ?_, touches.onlyRegs⟩
  · rw [chan_tidxNext, chan_rcReject]
  · exact (gb_sf_of_ne _ 0 13 _ 15 (by simp)).trans (gb_rcReject_same s n)
  · rw [gf_tidxNext, rcReject, gf_flag_of_ne s 15 0 13 (by simp)]

/-- A read of RC_TDATA moves the index on and leaves the table. -/
theorem rcTdataRead_answers (hn : ChanIn n s) (hrc : hasRc s = true) :
    ∃ t, exec (.rcTdataAccess .tc0 n none) s = .next t ∧ (chan t n).rc = (chan s n).rc ∧
      gf t (chA n R.rcTidx) 0 13 = (gf s (chA n R.rcTidx) 0 13 + 1) % 8192 ∧ OnlyRegs [chA n R.rcTidx] s t :=
  ⟨_, (exec_rcTdataRead s n).trans (touches_tidxNext.onChan hn (by simp [hrc])), by rw [chan_tidxNext], gf_tidxNext, touches_tidxNext.onlyRegs⟩

/-! ### The end of an entry (R127, R128) -/

@[simp] theorem rcP_updRc (f : Rc → Rc) (m : Nat) : rcP (updRc n f s) m = rcP s m := congrArg (max 1) (gf_updRc s n f _ 0 14)

@[simp] theorem rcPtr_updRc (f : Rc → Rc) (m : Nat) : rcPtr (updRc n f s) m = rcPtr s m := gf_updRc s n f _ 0 13

/-- The entry that the end of the present one updates: the pointer less LEAD. -/
def rcLearnAt (s : State) (n : Nat) : Nat := (rcPtr s n + (rcP s n - gf s (chA n R.rcLead) 0 13 % rcP s n)) % rcP s n

/-- The value it takes before saturation (R127): the three taps of one period, and the mean error. -/
def rcLearnTo (s : State) (n : Nat) : Int :=
  let q := rcP s n
  let k := rcLearnAt s n
  let tab (i : Nat) : Word := Map.get 0 (chan s n).rc.tab i
  let before := (Map.get none (chan s n).rc.prev ((k + (q - 1)) % q)).getD (tab ((k + (q - 1)) % q))
  rneDiv (sfld (rd s (chA n R.rcQf)) 0 16 * (tab k).toInt + sfld (rd s (chA n R.rcQf)) 16 16 * (before.toInt + (tab ((k + 1) % q)).toInt)) (2 ^ 15) +
    rneDiv (sfld (rd s (chA n R.rcGain)) 0 16 * sat32 (rneDiv (chan s n).rc.esum (2 ^ gf s (chA n R.rcCfg) 16 4))) (2 ^ 15)

/-- The entry's end is done with. -/
def rcEnded (n : Nat) (s : State) : State := updRc n (fun r => { r with endDue := false }) s

/-- An entry takes a new value, and the old one becomes its previous value. -/
def rcPut (n k : Nat) (old new : Word) (s : State) : State :=
  updRc n (fun r => { r with tab := Map.put 0 r.tab k new, prev := Map.put none r.prev k (some old) }) s

theorem rcLearn_invalid (hv : (chan s n).rc.valid = false) : rcLearn n s = bump (chA n R.rcStat) 24 8 (rcEnded n s) := by
  unfold rcLearn rcEnded
  simp [hv]

theorem rcLearn_held (hv : (chan s n).rc.valid = true) (hl : gb s (chA n R.rcCtrl) 0 = false) : rcLearn n s = rcEnded n s := by
  unfold rcLearn rcEnded
  simp [hv, hl]

theorem rcLearn_learns (hv : (chan s n).rc.valid = true) (hl : gb s (chA n R.rcCtrl) 0 = true) :
    rcLearn n s = whenB (sat32 (rcLearnTo s n) != rcLearnTo s n) (flag (chA n R.rcStat) 14)
      (rcPut n (rcLearnAt s n) (Map.get 0 (chan s n).rc.tab (rcLearnAt s n)) (toW (sat32 (rcLearnTo s n))) (rcEnded n s)) := by
  unfold rcLearn rcPut rcEnded rcLearnTo rcLearnAt whenB
  simp only [hv, hl, Bool.not_true, Bool.false_eq_true, if_false, gb_updRc, gf_updRc, rd_updRc, rcP_updRc, rcPtr_updRc, sgn]

/-- The end of an entry touches the status register only. -/
theorem touches_rcLearn : Touches [chA n R.rcStat] s (rcLearn n s) := by
  have ended : Touches [chA n R.rcStat] s (rcEnded n s) := Touches.updRc s n _
  cases hv : (chan s n).rc.valid with
  | false =>
    rw [rcLearn_invalid hv]
    exact ended.trans (Touches.bump (by simp) 24 8 _)
  | true =>
    cases hl : gb s (chA n R.rcCtrl) 0 with
    | false =>
      rw [rcLearn_held hv hl]
      exact ended
    | true =>
      rw [rcLearn_learns hv hl]
      exact ended.trans ((Touches.updRc _ n _).trans (Touches.whenB _ (Touches.flag (by simp) 14 _)))

/-- An invalid entry is counted as skipped. -/
theorem rcLearn_skips (hv : (chan s n).rc.valid = false) :
    (chan (rcLearn n s) n).rc = { (chan s n).rc with endDue := false } ∧
      gf (rcLearn n s) (chA n R.rcStat) 24 8 = min (gf s (chA n R.rcStat) 24 8 + 1) 255 := by
  rw [rcLearn_invalid hv, chan_bump, rcEnded, rc_updRc]
  exact ⟨rfl, gf_bump_same _ _ 24 8 (by decide)⟩

/-- A valid entry at whose end nothing is learnt. -/
theorem rcLearn_keeps (hv : (chan s n).rc.valid = true) (hl : gb s (chA n R.rcCtrl) 0 = false) :
    (chan (rcLearn n s) n).rc = { (chan s n).rc with endDue := false } := by
  rw [rcLearn_held hv hl, rcEnded, rc_updRc]

/-- What learning leaves of the unit: the entry of the pointer less LEAD has its new value, saturated. -/
theorem rcLearn_updates (hv : (chan s n).rc.valid = true) (hl : gb s (chA n R.rcCtrl) 0 = true) :
    (chan (rcLearn n s) n).rc.endDue = false ∧
      ∀ i, Map.get 0 (chan (rcLearn n s) n).rc.tab i =
        if rcLearnAt s n = i then toW (sat32 (rcLearnTo s n)) else Map.get 0 (chan s n).rc.tab i := by
  rw [rcLearn_learns hv hl, whenB_keeps (chan · n) (chan_flag _ _ 14 n), rcPut, rc_updRc, rcEnded, rc_updRc]
  exact ⟨rfl, fun i => Map.get_put 0 _ _ i _⟩

/-- Learning sets SAT where the value saturates, and skips nothing. -/
theorem rcLearn_flags (hv : (chan s n).rc.valid = true) (hl : gb s (chA n R.rcCtrl) 0 = true) :
    gb (rcLearn n s) (chA n R.rcStat) 14 = (gb s (chA n R.rcStat) 14 || (sat32 (rcLearnTo s n) != rcLearnTo s n)) ∧
      gf (rcLearn n s) (chA n R.rcStat) 24 8 = gf s (chA n R.rcStat) 24 8 := by
  rw [rcLearn_learns hv hl]
  cases sat32 (rcLearnTo s n) != rcLearnTo s n with
  | false => exact ⟨(Bool.or_false _).symm, rfl⟩
  | true =>
    refine ⟨(gb_flag_same _ _ 14 (by decide)).trans (Bool.or_true _).symm, ?_⟩
    exact gf_flag_of_disjoint _ (by decide) (by decide)

theorem exec_rcEntryEnd (s : State) (n : Nat) : exec (.rcEntryEnd n) s = whenDue n (fun t => (chan t n).rc.endDue) s (rcLearn n) := (rfl)

/-- RC_ENTRY_END is due and acts (R127). -/
theorem rcEntryEnd_next (hn : ChanIn n s) (hd : (chan s n).rc.endDue = true) : exec (.rcEntryEnd n) s = .next (rcLearn n s) :=
  (exec_rcEntryEnd s n).trans (touches_rcLearn.whenDue hn hd rfl)

/-- At every entry end the mark is cleared. -/
theorem rcLearn_endDue : (chan (rcLearn n s) n).rc.endDue = false := by
  cases hv : (chan s n).rc.valid with
  | false => rw [(rcLearn_skips hv).1]
  | true =>
    cases hl : gb s (chA n R.rcCtrl) 0 with
    | false => rw [rcLearn_keeps hv hl]
    | true => exact (rcLearn_updates hv hl).1

/-- A valid entry changes no entry of the table but that of the pointer less LEAD, and none while LEARN is 0. -/
theorem rcLearn_tab_of_ne {i : Nat} (hv : (chan s n).rc.valid = true) (h : gb s (chA n R.rcCtrl) 0 = false ∨ i ≠ rcLearnAt s n) :
    Map.get 0 (chan (rcLearn n s) n).rc.tab i = Map.get 0 (chan s n).rc.tab i := by
  cases hl : gb s (chA n R.rcCtrl) 0 with
  | false => rw [rcLearn_keeps hv hl]
  | true =>
    have hi : i ≠ rcLearnAt s n := h.resolve_left (by simp [hl])
    rw [(rcLearn_updates hv hl).2 i, if_neg (Ne.symm hi)]

end

/-- Settles O24: each clause by the lemma that says what its command leaves, the entry's end by the three ways it can go (invalid,
with LEARN 0, learning). -/
theorem repetitiveController : Obligations.RepetitiveController := by
  unfold Obligations.RepetitiveController
  intro s n i w hn hrc st tab learn idx idle a p d okP okD newP newD refused
  refine ⟨fun hd => rcCfgWrite_answers hn hrc hd, rcClear_answers hn hrc, rcBackup_answers hn hrc,
    rcRestore_answers hn hrc, fun hx => rcReject_answers hn (rcBackup_busy hrc hx), fun h => rcReject_answers hn (rcRestore_refused hrc h),
    fun x hx hp => rcTransferDone_answers hn hx hp, fun hl => ?_, rcTdataWrite_refused hn hrc w, ?_, fun hd => ?_⟩
  · obtain ⟨t, ht, stored, moved, only⟩ := rcTdataWrite_answers hn hrc w hl
    exact ⟨t, ht, (stored idx).trans (if_pos rfl), fun hi => (stored i).trans (if_neg (Ne.symm hi)), moved, only⟩
  · obtain ⟨t, ht, rc, moved, only⟩ := rcTdataRead_answers hn hrc
    exact ⟨t, ht, congrArg (fun r => Map.get 0 r.tab i) rc, moved, only⟩
  · refine ⟨_, rcEntryEnd_next hn hd, rcLearn_endDue, fun hv => ?_, rcLearn_tab_of_ne, fun hv hl => ?_, touches_rcLearn.onlyRegs⟩
    · obtain ⟨rc, skipped⟩ := rcLearn_skips hv
      exact ⟨skipped, congrArg (fun r => Map.get 0 r.tab i) rc⟩
    · obtain ⟨sat, skipped⟩ := rcLearn_flags hv hl
      intro q k before em tap x
      have value : rcLearnTo s n = x := by
        simp only [rcLearnTo, sat32_eq]
        rfl
      rw [value] at sat
      refine ⟨?_, sat.trans (by rw [sat32_bne]), skipped⟩
      exact (((rcLearn_updates hv hl).2 k).trans (if_pos rfl)).trans (by rw [value, sat32_eq]; rfl)

end Sys2Proof.Machine
end

section
/-! PROOFS. The four statements of the family that the model does not meet, each refuted by a state in which one command of it leads to
something else than the statement says. -/

namespace Sys2Proof.Scope

open Sys2Proof.Machine

/-- The command answers a next state that passes a check. -/
def leadsTo (i : Instr) (s : State) (p : State → Bool) : Bool :=
  match exec i s with
  | .next t => p t
  | _ => false

/-- A command has one next state: what holds of the one evaluated holds of the one a statement names. -/
theorem holds_of_leadsTo {i : Instr} {s t : State} {p : State → Bool} (hp : leadsTo i s p = true) (ht : exec i s = .next t) :
    p t = true := by
  unfold leadsTo at hp
  rw [ht] at hp
  exact hp

/-- A running VS3240 after its boot. -/
def awake : State := { State.reset with regs := [(R.devState, 24), (R.clkStat, 2)] }

/-- A running device whose list of registers names TICKTIME_LO with its reset value: the register file reads as that of `awake`, but
the list is not canonical (Map.Canon). -/
def strayEntry : State := { awake with regs := (R.ticktimeLo, 0) :: awake.regs }

/-- Refutes O17: a write of TICKTIME stores the word that stands (00 R4), and storing a reset value removes a list entry (Map.put). From
a state whose list carries such an entry the next state is therefore equal register by register and still not the same state, which
the statement's `.next s` asks for; it does not ask for a canonical list. -/
theorem not_registerAccess : ¬ Obligations.RegisterAccess := by
  unfold Obligations.RegisterAccess
  intro h
  obtain ⟨-, -, -, -, -, -, readOnly, -⟩ := h strayEntry .tc0 0 0 0 0 0 (by decide)
  have kept := readOnly R.ticktimeLo (by simp)
  have lost : leadsTo (.registerWrite .tc0 R.ticktimeLo 0) strayEntry (fun t => decide (t.regs ≠ strayEntry.regs)) = true := by
    decide +kernel
  exact absurd rfl (of_decide_eq_true (holds_of_leadsTo lost kept))

/-- CH0 in FV on slot 0, with a V request for slot 1 held and a calibration load of slot 1 running (CAL_STAT.LD_BUSY). -/
def calLoading : State :=
  { awake with
    regs := awake.regs ++ [(chA 0 R.chStat, 2), (chA 0 R.calStat, 4)]
    chans := [(0, { heldV := some 1, calLd := some { slot := 1, path := 0, src := 0 } })] }

/-- Refutes O20: the change to slot 1 that a held request starts brings the slot into use, and the calibration load of that slot is
abandoned in the same tick (05 R158). CAL_STAT.LD_ABT shows it, while the statement lets RNG_STAT alone change. -/
theorem not_rangeCommands : ¬ Obligations.RangeCommands := by
  unfold Obligations.RangeCommands
  intro h
  obtain ⟨-, heldRange, -⟩ := h calLoading 0 0 0 (by decide)
  obtain ⟨t, ht, -, -, -, -, only, -⟩ := heldRange (by decide) (by decide) (by decide) 1 (by decide) (by decide) (by decide)
  have abandoned : leadsTo (.heldRangeDecision 0) calLoading (fun t => gb t (chA 0 R.calStat) 3) = true := by decide +kernel
  have same : gb t (chA 0 R.calStat) 3 = gb calLoading (chA 0 R.calStat) 3 := gb_eq_rd _ (only (chA 0 R.calStat) (by decide))
  rw [holds_of_leadsTo abandoned ht] at same
  exact absurd same (by decide)

/-- Context 1 is IDLE and pins one line of its program; the cache is empty and CH0 has no context bound. -/
def pinsUnloaded : State := { awake with regs := awake.regs ++ [(cxA 1 R.cxState, 8), (cxA 1 R.cxPin, 1)] }

/-- Refutes O34: bound to CH0, the context waits in LOADING for its line (08 R228). The statement takes the missing lines of the state
before the BIND, in which CH0 has locked none, and so expects RUN. -/
theorem not_sequencerCommands : ¬ Obligations.SequencerCommands := by
  unfold Obligations.SequencerCommands
  intro h
  obtain ⟨-, bind, -⟩ := h pinsUnloaded 0 1 0 0 0 none (by decide) (by decide)
  obtain ⟨t, ht, -, runs, -⟩ := bind (by decide) (by decide)
  have loading : leadsTo (.seqCmdBind 0 1) pinsUnloaded (fun t => ctxState t 1 == 1) = true := by decide +kernel
  have one : ctxState t 1 = 1 := eq_of_beq (holds_of_leadsTo loading ht)
  exact absurd (one.symm.trans runs) (by decide)

/-- The host holds capture stream 0 (resource 8), into which an injection whose GO is accepted on CH0 is to write. -/
def captureHeld : State :=
  { awake with
    res := [(8, { holders := [.host] })]
    chans := [(0, { shadow := [.injGo] })] }

/-- Refutes O40: a capture stream that is still written is given up later (08 R239), so that REL leaves the host among its holders; the
statement has the host no longer hold it in every case of an accepted REL. -/
theorem not_hostResources : ¬ Obligations.HostResources := by
  unfold Obligations.HostResources
  intro h
  obtain ⟨-, -, present⟩ := h captureHeld 8 (by decide)
  obtain ⟨-, -, -, -, release, -⟩ := present (by decide) (by decide)
  obtain ⟨t, ht, gone, -⟩ := release (by decide) (by decide)
  have held : leadsTo (.resHcmdRel 8) captureHeld (fun t => hostHolds t 8) = true := by decide +kernel
  rw [holds_of_leadsTo held ht] at gone
  exact absurd gone (by decide)

end Sys2Proof.Scope
end

section
/-! PROOFS. Statements of the family 01 that do not hold. Each refutation gives a state that the model evaluates to something else than
the statement says. -/

namespace Sys2Proof.Scope

open Sys2Proof.Machine

/-- The step answers a next state that passes a check. -/
def stepLeadsTo (s : State) (p : State → Bool) : Bool :=
  match step s with
  | .next t => p t
  | _ => false

/-- A step has one next state: what holds of the one evaluated holds of the one a statement names. -/
theorem holds_of_stepLeadsTo {s t : State} {p : State → Bool} (hp : stepLeadsTo s p = true) (ht : step s = .next t) : p t = true := by
  unfold stepLeadsTo at hp
  rw [ht] at hp
  exact hp

/-- Line SW0 asserts in this tick and has not reached its consumers. -/
def lineRises : State := { awake with asserting := [48] }

/-- Refutes O55: a device that goes on by itself puts the events that are due at the front of its queue, here those of SW0, while the
statement has the step of an empty queue leave the queue empty. -/
theorem not_stepRunsFrontCommand : ¬ Obligations.StepRunsFrontCommand := by
  unfold Obligations.StepRunsFrontCommand
  intro h
  obtain ⟨-, -, goesOn⟩ := h lineRises .tickCtrlMark []
  obtain ⟨t, ht, empty, -⟩ := goesOn (by decide)
  have queued : stepLeadsTo lineRises (fun t => !t.pending.isEmpty) = true := by decide +kernel
  have nonempty := holds_of_stepLeadsTo queued ht
  rw [empty] at nonempty
  exact absurd nonempty (by decide)

/-- In the tick in which CH0 takes this write of its bank 1, section 0 of bank 1 has been committed. -/
def commitAccepted : State := { awake with chans := [(0, { shadow := [.secCommit 0 1 0 0 0] })] }

/-- Refutes O22: where a commit of the same section was accepted before it in its tick, a word of a bank that is not in use joins the
shadow set too, so that it lands after that commit; the statement has the word change the register alone. -/
theorem not_loopAndForceWrites : ¬ Obligations.LoopAndForceWrites := by
  unfold Obligations.LoopAndForceWrites
  intro h
  obtain ⟨-, -, -, -, -, -, -, banks, -⟩ := h commitAccepted 0 0x1220 5 (by decide)
  obtain ⟨unused, -⟩ := banks (by decide) (by decide) (by decide) (by decide) (by decide) (by decide)
  obtain ⟨t, ht, -, same, -⟩ := unused (by decide)
  have joins : leadsTo (.bankWrite 0 0x1220 5) commitAccepted (fun t => decide (2 ≤ (chan t 0).shadow.length)) = true := by
    decide +kernel
  have two := of_decide_eq_true (holds_of_leadsTo joins ht)
  rw [same] at two
  exact absurd two (by decide)

/-- The end of a tick of a VS3208 with CH0 in MANUAL, its reef set valid, in which REEF_SET and after it the commit of section 0 to
bank 0 were accepted. -/
def reefThenCommit : State :=
  { awake with
    variant := .vs3208
    now := 1
    slot := 256
    lcs := [(0, { done := true })]
    regs := awake.regs ++ [(chA 0 R.chStat, 8), (chA 0 0x3000, 0x100)]
    chans := [(0, { shadow := [.reef true, .secCommit 0 0 5 0 0] })] }

/-- Refutes O54: of the two writes the reef set lands first, and the commit then goes to the set that the channel's loop uses from this
edge on, the reef set. `Lands` asks only that the reef set was not in use before the edge, and expects the words in bank 0. -/
theorem not_performanceCounters : ¬ Obligations.PerformanceCounters := by
  unfold Obligations.PerformanceCounters
  intro h
  obtain ⟨-, -, -, -, edge⟩ := h reefThenCommit 0 0 0 0 (by decide) (by decide)
  obtain ⟨t, ht, -, -, -, -, -, -, landing, -⟩ := edge (by decide +kernel)
  obtain ⟨-, -, -, -, -, -, -, -, -, -, -, commits, -⟩ := landing (by decide) (by decide) (by decide)
  obtain ⟨bankWord, -⟩ := commits (0, 0, 5, 0, 0) (by decide) (by decide) (by decide) (by decide) (by decide) (by decide) (by decide)
    (by decide) (by decide)
  have kept : stepLeadsTo reefThenCommit (fun t => decide (rd t (chA 0 0x1020) = 0)) = true := by decide +kernel
  have zero := of_decide_eq_true (holds_of_stepLeadsTo kept ht)
  exact absurd (zero.symm.trans bankWord) (by decide)

end Sys2Proof.Scope
end

section
/-! SUPPORT. Frames of operations that change no register at all, of operations under a condition and of repeated ones. -/

namespace Sys2Proof.Machine

namespace Touches
variable {l : List Nat} {s t : State}

/-- An operation on what is not a register touches no register. -/
theorem of_regs_eq (hr : t.regs = s.regs) (hf : t.pending = s.pending ∧ t.inReset = s.inReset ∧ t.ddr = s.ddr) : Touches l s t :=
  ⟨hf, fun a _ => congrArg (fun m => Map.get (resetWord a) m a) hr⟩

theorem updTrig (p : Nat) (f : TrigPin → TrigPin) (s : State) : Touches l s (updTrig p f s) := of_regs_eq rfl ⟨rfl, rfl, rfl⟩

theorem updSeq (n : Nat) (f : Seq → Seq) (s : State) : Touches l s (updSeq n f s) := of_regs_eq rfl ⟨rfl, rfl, rfl⟩

theorem cause (e : Nat) (s : State) : Touches l s (cause e s) := of_regs_eq rfl ⟨rfl, rfl, rfl⟩

theorem causeAt (e k : Nat) (s : State) : Touches l s (causeAt e k s) := of_regs_eq rfl ⟨rfl, rfl, rfl⟩

theorem sendMsg (src kind addr info : Nat) (s : State) : Touches l s (sendMsg src kind addr info s) := of_regs_eq rfl ⟨rfl, rfl, rfl⟩

theorem accept (n : Nat) (w : FW) (s : State) : Touches l s (accept n w s) := updChan n _ s

theorem reject {a c : Nat} (ha : a ∈ l) (hc : c ∈ l) (i lo len : Nat) (s : State) : Touches l s (reject a i c lo len s) :=
  (flag ha i s).trans (bump hc lo len _)

theorem each {α : Type} {f : α → State → State} {xs : List α} (h : ∀ x ∈ xs, ∀ u, Touches l u (f x u)) (s : State) :
    Touches l s (each f xs s) := by
  induction xs generalizing s with
  | nil => exact refl l s
  | cons x xs ih =>
    exact (h x List.mem_cons_self s).trans (ih (fun y hy => h y (List.mem_cons_of_mem x hy)) _)

/-- A command of the device that makes the state t of s, touching registers only, answers t. -/
theorem clocked {f : State → State} (h : Touches l s t) (ho : Operating s) (hf : f s = t) : clocked s f = .next t := by
  subst hf
  exact clocked_next ho h.1

end Touches

variable (s : State)

theorem gb_bump_of_disjoint {a lo len i : Nat} (h : lo + len ≤ 32) (hd : i < lo ∨ lo + len ≤ i) :
    gb (bump a lo len s) a i = gb s a i := gb_sf_of_disjoint s _ h hd

/-- A count of eight bits stops at 255. -/
theorem gf_bump_byte {a lo : Nat} (h : lo + 8 ≤ 32) : gf (bump a lo 8 s) a lo 8 = min (gf s a lo 8 + 1) 255 :=
  gf_bump_same s a lo 8 h

theorem mem_insMsg (m : Msg) (l : List Msg) : m ∈ insMsg m l := by
  induction l with
  | nil => exact List.mem_cons_self
  | cons h t ih =>
    unfold insMsg
    split
    · exact List.mem_cons_self
    · exact List.mem_cons_of_mem h ih

end Sys2Proof.Machine
end

section
/-! PROOFS. Software events and the markers that have no effect (01 R35, R39). -/

namespace Sys2Proof.Machine

variable (s : State)

/-! ### Software events -/

theorem mem_caused_causeAt (e x k : Nat) : e ∈ (causeAt x k s).caused ↔ e ∈ s.caused ∨ e = x := by
  by_cases h : x ∈ s.caused
  · simp only [causeAt, cause, List.contains_eq_mem, h, decide_true, if_true]
    exact ⟨Or.inl, fun he => he.elim id (fun hx => hx ▸ h)⟩
  · simp [causeAt, cause, h]

/-- Bit i of EV_SW. -/
def swBit (w : Word) (i : Nat) (s : State) : State := if bit w i then causeAt (48 + i) s.cycle s else s

theorem evSwWrite_eq (w : Word) : evSwWrite w s = each (swBit w) (List.range 16) s := (rfl)

theorem mem_caused_swBit (w : Word) (e i : Nat) : e ∈ (swBit w i s).caused ↔ e ∈ s.caused ∨ (bit w i = true ∧ e = 48 + i) := by
  unfold swBit
  split
  · next h => simp [mem_caused_causeAt, h]
  · next h => simp [h]

theorem mem_caused_each_swBit (w : Word) (e : Nat) (xs : List Nat) :
    e ∈ (each (swBit w) xs s).caused ↔ e ∈ s.caused ∨ ∃ i ∈ xs, bit w i = true ∧ e = 48 + i := by
  induction xs generalizing s with
  | nil => simp [each]
  | cons x xs ih => rw [each, ih, mem_caused_swBit, List.exists_mem_cons_iff, or_assoc]

theorem mem_caused_evSwWrite (w : Word) (e : Nat) :
    e ∈ (evSwWrite w s).caused ↔ e ∈ s.caused ∨ (48 ≤ e ∧ e < 64 ∧ w.getLsbD (e - 48) = true) := by
  rw [evSwWrite_eq, mem_caused_each_swBit]
  refine or_congr_right ⟨?_, ?_⟩
  · rintro ⟨i, hi, hb, rfl⟩
    rw [List.mem_range] at hi
    rw [bit_lsb] at hb
    exact ⟨by omega, by omega, by rwa [Nat.add_sub_cancel_left]⟩
  · rintro ⟨hlo, hhi, hb⟩
    exact ⟨e - 48, List.mem_range.2 (by omega), by rw [bit_lsb, hb], by omega⟩

theorem evSwWrite_touches (w : Word) : Touches [] s (evSwWrite w s) := by
  refine Touches.each (fun i _ u => ?_) s
  split
  · exact Touches.causeAt _ _ u
  · exact Touches.refl _ u

/-- Settles O13: a bit of EV_SW from 0 to 15 that is written 1 adds its line, and nothing else does. -/
theorem softwareEvents : Obligations.SoftwareEvents := by
  unfold Obligations.SoftwareEvents
  intro s w e ho
  have frame := evSwWrite_touches s w
  exact ⟨_, frame.clocked ho rfl, mem_caused_evSwWrite s w e, frame.onlyRegs⟩

/-! ### Markers -/

theorem role_eq_two : role s = 2 ↔ gf s R.tickCtrl 0 2 = 2 := by
  unfold role
  split <;> omega

theorem tickMark_follower (h : role s = 2) : tickMark s = s := if_pos h

/-- A marker without ARM_LOAD is used up (R35). -/
theorem loadTime_unarmed (h : gb s R.tickCtrl 9 = false) : loadTime s = { s with marker := s.marker.filter (· != s.now) } :=
  if_neg (Bool.eq_false_iff.1 h)

theorem loadDue_iff : loadDue s = true ↔ s.now ∈ s.marker := List.contains_iff_mem

/-- TICKTIME_LOAD at a marker loads. -/
theorem execTicktimeLoad_due {s t : State} {l : List Nat} (ho : Operating s) (hd : s.now ∈ s.marker) (h : Touches l s t)
    (ht : loadTime s = t) : execTicktimeLoad s = .next t :=
  h.clocked ho ((if_pos ((loadDue_iff s).2 hd)).trans ht)

/-- Settles O14: MARK on a follower is no write, and a marker that finds ARM_LOAD 0 only leaves the list of markers. -/
theorem markersWithoutEffect : Obligations.MarkersWithoutEffect := by
  unfold Obligations.MarkersWithoutEffect
  intro s ho
  refine ⟨fun follower => ?_, fun due unarmed => ?_⟩
  · exact (Touches.refl [] s).clocked ho (tickMark_follower s ((role_eq_two s).2 follower))
  · have frame : Touches [] s { s with marker := s.marker.filter (· != s.now) } := .of_regs_eq rfl ⟨rfl, rfl, rfl⟩
    exact ⟨_, execTicktimeLoad_due ho due frame (loadTime_unarmed s unarmed), rfl, by simp, frame.onlyRegs⟩

end Sys2Proof.Machine
end

section
/-! PROOFS. The tick shared between devices (01 R30 to R34): each operation of the tick unit, and O15 assembled from them. -/

namespace Sys2Proof.Machine

variable (s : State)

/-! ### Pairs of registers -/

theorem rd64_wr64_same (a : Nat) {v : Nat} (h : v < 2 ^ 64) : rd64 (wr64 a v s) a = v := by
  unfold rd64 wr64
  rw [rd_wr_of_ne _ _ (by omega : a + 4 ≠ a), rd_wr_same, rd_wr_same, BitVec.toNat_ofNat, BitVec.toNat_ofNat,
    Nat.mod_eq_of_lt (by omega : v / 2 ^ 32 < 2 ^ 32)]
  exact Nat.mod_add_div' v (2 ^ 32)

theorem rd64_congr {s t : State} {a : Nat} (hlo : rd t a = rd s a) (hhi : rd t (a + 4) = rd s (a + 4)) : rd64 t a = rd64 s a := by
  unfold rd64
  rw [hlo, hhi]

theorem Touches.wr64 {l : List Nat} {a : Nat} (hlo : a ∈ l) (hhi : a + 4 ∈ l) (v : Nat) (s : State) : Touches l s (wr64 a v s) :=
  (Touches.wr hlo _ s).trans (Touches.wr hhi _ _)

/-- TICKTIME stands where its two words are not among those that change. -/
theorem Touches.ticktime_eq {l : List Nat} {s t : State} (h : Touches l s t) (hlo : R.ticktimeLo ∉ l) (hhi : R.ticktimeLo + 4 ∉ l) :
    ticktime t = ticktime s := rd64_congr (h.2 _ hlo) (h.2 _ hhi)

/-! ### Markers and the load of TICKTIME -/

theorem tickMark_of_not_follower (h : role s ≠ 2) : tickMark s = { s with marker := s.marker ++ [s.now + 3] } := if_neg h

theorem tickMark_touches (l : List Nat) : Touches l s (tickMark s) := by
  unfold tickMark
  split
  · exact .refl l s
  · exact .of_regs_eq rfl ⟨rfl, rfl, rfl⟩

theorem loadTime_armed (h : gb s R.tickCtrl 9 = true) : loadTime s =
    flag R.tickStat 3 (sb R.tickCtrl 9 false (wr64 R.ticktimeLo s.tickLoad.toNat { s with marker := s.marker.filter (· != s.now) })) :=
  if_pos h

theorem ticktime_loadTime (h : gb s R.tickCtrl 9 = true) : ticktime (loadTime s) = s.tickLoad.toNat := by
  rw [loadTime_armed s h]
  have stands : ∀ a u, R.tickStat ≠ a → R.tickCtrl ≠ a → rd (flag R.tickStat 3 (sb R.tickCtrl 9 false u)) a = rd u a :=
    fun _ u hs hc => (rd_flag_of_ne _ _ hs).trans (rd_sb_of_ne u _ _ hc)
  exact (rd64_congr (stands _ _ (by decide) (by decide)) (stands _ _ (by decide) (by decide))).trans
    (rd64_wr64_same _ _ s.tickLoad.isLt)

theorem armed_loadTime (h : gb s R.tickCtrl 9 = true) : gb (loadTime s) R.tickCtrl 9 = false := by
  rw [loadTime_armed s h, gb_eq_rd _ (rd_flag_of_ne _ _ (by decide)), gb_sb_same _ _ _ _ (by decide)]

theorem loaded_loadTime (h : gb s R.tickCtrl 9 = true) : gb (loadTime s) R.tickStat 3 = true := by
  rw [loadTime_armed s h, gb_flag_same _ _ _ (by decide)]

theorem marker_loadTime (h : gb s R.tickCtrl 9 = true) : (loadTime s).marker = s.marker.filter (· != s.now) := by
  rw [loadTime_armed s h]
  simp

theorem loadTime_touches (h : gb s R.tickCtrl 9 = true) :
    Touches [R.ticktimeLo, R.ticktimeLo + 4, R.tickCtrl, R.tickStat] s (loadTime s) := by
  rw [loadTime_armed s h]
  have used : Touches [R.ticktimeLo, R.ticktimeLo + 4, R.tickCtrl, R.tickStat] s { s with marker := s.marker.filter (· != s.now) } :=
    .of_regs_eq rfl ⟨rfl, rfl, rfl⟩
  exact ((used.trans (.wr64 (by simp) (by simp) _ _)).trans (.sb (by simp) _ _ _)).trans (.flag (by simp) _ _)

/-! ### RELOCK -/

theorem tickIdle_iff : tickIdle s = true ↔ ∀ n ∈ chans s, modeNow s n = 0 := by simp [tickIdle]

theorem realign_touches : Touches [R.tickStat] s (realign s) :=
  Touches.trans (t := { s with flw := { realign := true } }) (.of_regs_eq rfl ⟨rfl, rfl, rfl⟩) (.sb (by simp) _ _ _)

theorem tickReject_touches : Touches [R.tickStat] s (tickReject s) := .reject (by simp) (by simp) _ _ _ s

theorem relockCmd_of_not_idle (h : tickIdle s = false) : relockCmd s = tickReject s := if_pos (by simp [h])

theorem relockCmd_follower (h : tickIdle s = true) (hr : role s = 2) : relockCmd s = realign s := by
  simp [relockCmd, h, hr]

theorem relockCmd_touches : Touches [R.tickStat] s (relockCmd s) := by
  unfold relockCmd
  split
  · exact tickReject_touches s
  · split
    · exact realign_touches s
    · exact .refl _ s

/-! ### A write of TICK_CTRL -/

/-- What a write of TICK_CTRL does with its ROLE once it stands: a follower starts to lock, and stops. -/
def roleMoved (was : Nat) (s : State) : State :=
  if role s = 2 ∧ was ≠ 2 then realign s else if role s ≠ 2 ∧ was = 2 then sb R.tickStat 0 false { s with flw := {} } else s

/-- TICK_CTRL with the fields of a word that arms a load. -/
def ctrlArmed (w : Word) (s : State) : State :=
  sb R.tickCtrl 9 true (sf R.tickCtrl 0 8 (fld w 0 8)
    { sb R.tickCtrl 8 (bit w 8) s with tickLoad := BitVec.ofNat 64 (rd64 s R.tickLoadLo) })

/-- A channel's registers lie above the blocks of the device. -/
theorem ne_chA {a n off : Nat} (h : a < 0x100000) : a ≠ chA n off := by
  unfold chA
  omega

theorem modeNow_sb_tickCtrl (i : Nat) (b : Bool) (n : Nat) : modeNow (sb R.tickCtrl i b s) n = modeNow s n :=
  gf_sf_of_ne s _ _ _ _ _ (ne_chA (by decide))

theorem tickIdle_sb_tickCtrl (i : Nat) (b : Bool) : tickIdle (sb R.tickCtrl i b s) = tickIdle s := by
  unfold tickIdle
  exact congrArg (fun f => List.all (chans s) f) (funext fun n => by rw [modeNow_sb_tickCtrl])

/-- The write on an idle device whose ARM_LOAD was 0: the fields, then ROLE, then the two commands. -/
theorem tickCtrlWrite_arms {w : Word} (hi : tickIdle s = true) (hw : w.getLsbD 9 = true) (h9 : gb s R.tickCtrl 9 = false) :
    tickCtrlWrite w s = whenB (bit w 11) relockCmd (whenB (bit w 10) tickMark (roleMoved (role s) (ctrlArmed w s))) := by
  have armed : bit w 9 = true := by rw [bit_lsb, hw]
  have free : gb (sb R.tickCtrl 8 (bit w 8) s) R.tickCtrl 9 = false := by rw [gb_sb_of_ne_bit _ _ _ _ _ (by decide) (by decide), h9]
  have words : rd64 (sb R.tickCtrl 8 (bit w 8) s) R.tickLoadLo = rd64 s R.tickLoadLo :=
    rd64_congr (rd_sb_of_ne _ _ _ (by decide)) (rd_sb_of_ne _ _ _ (by decide))
  simp only [tickCtrlWrite, armed, h9, tickIdle_sb_tickCtrl, hi, armLoad, free, words, Bool.bne_false, Bool.or_true, Bool.not_true,
    Bool.not_false, Bool.and_true, Bool.false_eq_true, if_true, if_false]
  rfl

theorem roleMoved_touches (was : Nat) : Touches [R.tickStat] s (roleMoved was s) := by
  unfold roleMoved
  split
  · exact realign_touches s
  · split
    · exact Touches.trans (t := { s with flw := {} }) (.of_regs_eq rfl ⟨rfl, rfl, rfl⟩) (.sb (by simp) _ _ _)
    · exact .refl _ s

theorem roleMoved_tickLoad (was : Nat) : (roleMoved was s).tickLoad = s.tickLoad := by
  unfold roleMoved realign
  split
  · simp
  · split <;> simp

theorem tickMark_tickLoad : (tickMark s).tickLoad = s.tickLoad := by
  unfold tickMark
  split <;> rfl

theorem relockCmd_tickLoad : (relockCmd s).tickLoad = s.tickLoad := by
  unfold relockCmd tickReject realign
  split
  · simp
  · split <;> simp

theorem ctrlArmed_touches (w : Word) : Touches [R.tickCtrl] s (ctrlArmed w s) := by
  have ctl : R.tickCtrl ∈ [R.tickCtrl] := by simp
  have taken : Touches [R.tickCtrl] s { sb R.tickCtrl 8 (bit w 8) s with tickLoad := BitVec.ofNat 64 (rd64 s R.tickLoadLo) } :=
    (Touches.sb ctl 8 (bit w 8) s).trans (.of_regs_eq rfl ⟨rfl, rfl, rfl⟩)
  exact (taken.trans (.sf ctl _ _ _ _)).trans (.sb ctl _ _ _)

theorem armed_ctrlArmed (w : Word) : gb (ctrlArmed w s) R.tickCtrl 9 = true := gb_sb_same _ _ _ _ (by decide)

/-- After the fields, ROLE and the commands leave the armed load and all of TICK_CTRL. -/
theorem afterFields_touches (was : Nat) (m r : Bool) : Touches [R.tickStat] s (whenB r relockCmd (whenB m tickMark (roleMoved was s))) :=
  ((roleMoved_touches s was).trans (.whenB m (tickMark_touches _ _))).trans (.whenB r (relockCmd_touches _))

theorem afterFields_tickLoad (was : Nat) (m r : Bool) :
    (whenB r relockCmd (whenB m tickMark (roleMoved was s))).tickLoad = s.tickLoad := by
  rw [whenB_keeps State.tickLoad (relockCmd_tickLoad _), whenB_keeps State.tickLoad (tickMark_tickLoad _), roleMoved_tickLoad]

theorem blockOf_tickCtrl : blockOf R.tickCtrl = (.device, R.tickCtrl) := (rfl)

/-- TC0 may write TICK_CTRL. -/
theorem writeStatus_tickCtrl (w : Word) : writeStatus s .tc0 R.tickCtrl [w] = 0 := by
  have form : badForm R.tickCtrl 1 = false := rfl
  simp [writeStatus, portRefusal, form, wordAddrs, absentAt, namesAbsent, blockOf_tickCtrl]

theorem writeWord_tickCtrl (w : Word) : writeWord .tc0 R.tickCtrl w s = tickCtrlWrite w s := by
  simp [writeWord, absentAt, blockOf_tickCtrl, deviceWrite]

theorem execRegisterWrite_tickCtrl {s t : State} {l : List Nat} {w : Word} (ho : Operating s) (h : Touches l s t)
    (ht : tickCtrlWrite w s = t) : execRegisterWrite .tc0 R.tickCtrl w s = .next t :=
  h.clocked ho (by rw [if_pos (writeStatus_tickCtrl s w), writeWord_tickCtrl, ht])

/-! ### An edge of TICK_IN -/

theorem nearEdge_iff {e c : Nat} (he : e < 50) (hc : c < 50) :
    nearEdge e c = true ↔ (c = e ∨ c = (e + 1) % 50 ∨ (c + 1) % 50 = e) := by
  simp only [nearEdge, Bool.or_eq_true, decide_eq_true_eq, beq_iff_eq]
  omega

theorem tickIn_realign {cyc : Nat} (hr : role s = 2) (ha : s.flw.realign = true) :
    tickIn cyc s = { s with flw := { expect := some ((50 - inDly s) % 50), seen := true } } := by
  simp [tickIn, hr, ha]

/-- An edge that counts, one cycle ahead of its tick. -/
def edgeAhead (s : State) : State := { s with flw := { goodEdge s.flw.goodRun s.flw with early := true } }

/-- An edge that counts, one cycle behind its tick, after `g` others. -/
def edgeBehind (g : Nat) (s : State) : State :=
  { s with flw := { goodEdge g s.flw with missing := 0, late := none, markDue := false }, marker := s.marker.filter (· != s.now + 1) }

/-- An edge that counts in its own tick, expected in cycle e. -/
def edgeNear (e : Nat) (s : State) : State :=
  { s with flw := { goodEdge s.flw.goodRun s.flw with seen := true }
           marker := if e = 0 then s.marker.filter (· != s.now + 1) else s.marker }

section edges
variable {s : State} {e cyc : Nat} (hr : role s = 2) (ha : s.flw.realign = false) (he : s.flw.expect = some e)
include hr ha he

/-- The edge expected in cycle 0 comes in cycle 49 of the tick before. -/
theorem tickIn_ahead (h0 : e = 0) (h49 : cyc = 49) :
    tickIn cyc s = edgeAhead s := by
  simp [edgeAhead, tickIn, hr, ha, he, h0, h49]

/-- The edge expected in cycle 49 comes in cycle 0 of the tick after, where its absence was noted. -/
theorem tickIn_behind (h49 : e = 49) (h0 : cyc = 0) {g : Nat} (hl : s.flw.late = some g) :
    tickIn cyc s = edgeBehind g s := by
  simp [edgeBehind, tickIn, hr, ha, he, h0, h49, hl]

theorem tickIn_behind_slip (h49 : e = 49) (h0 : cyc = 0) (hl : s.flw.late = none) : tickIn cyc s = badEdge s := by
  simp [tickIn, hr, ha, he, h0, h49, hl]

theorem tickIn_near (hc : cyc < 50) (hn : nearEdge e cyc = true) (hA : ¬ (e = 0 ∧ cyc = 49)) (hB : ¬ (e = 49 ∧ cyc = 0)) :
    tickIn cyc s = edgeNear e s := by
  simp [edgeNear, tickIn, hr, ha, he, hn, hA, hB, Nat.mod_eq_of_lt hc]

theorem tickIn_far (hc : cyc < 50) (hn : nearEdge e cyc = false) (hA : ¬ (e = 0 ∧ cyc = 49)) (hB : ¬ (e = 49 ∧ cyc = 0)) :
    tickIn cyc s = badEdge s := by
  simp [tickIn, hr, ha, he, hn, hA, hB, Nat.mod_eq_of_lt hc]

end edges

/-! ### An edge off its cycle -/

/-- The follower has seen an edge that does not count. -/
def edgeSeen (s : State) : State := { s with flw := { s.flw with seen := true, goodRun := 0 } }

theorem badEdge_eq : badEdge s = if gb s R.tickStat 0 then bump R.tickStat 8 8 (flag R.tickStat 2 (edgeSeen s)) else edgeSeen s := (rfl)

theorem badEdge_flw : (badEdge s).flw = { s.flw with seen := true, goodRun := 0 } := by
  rw [badEdge_eq]
  split <;> simp [edgeSeen]

theorem badEdge_touches : Touches [R.tickStat] s (badEdge s) := by
  have seen : Touches [R.tickStat] s (edgeSeen s) := .of_regs_eq rfl ⟨rfl, rfl, rfl⟩
  rw [badEdge_eq]
  split
  · exact (seen.trans (.flag (by simp) _ _)).trans (.bump (by simp) _ _ _)
  · exact seen

theorem badEdge_slip : gb (badEdge s) R.tickStat 2 = (gb s R.tickStat 2 || gb s R.tickStat 0) := by
  rw [badEdge_eq]
  split
  · next h =>
    rw [h, Bool.or_true, gb_bump_of_disjoint _ (by decide) (by decide), gb_flag_same _ _ _ (by decide)]
  · next h =>
    rw [Bool.eq_false_iff.2 h, Bool.or_false]
    rfl

theorem badEdge_locked : gb (badEdge s) R.tickStat 0 = gb s R.tickStat 0 := by
  rw [badEdge_eq]
  split
  · rw [gb_bump_of_disjoint _ (by decide) (by decide), gb_flag _ (by decide)]
    exact Bool.or_false _
  · rfl

theorem badEdge_count : gf (badEdge s) R.tickStat 8 8 =
    if gb s R.tickStat 0 then min (gf s R.tickStat 8 8 + 1) 255 else gf s R.tickStat 8 8 := by
  rw [badEdge_eq]
  split
  · rw [gf_bump_byte _ (by decide), gf_flag_of_disjoint _ (by decide) (by decide)]
    rfl
  · rfl

/-! ### Lock, markers read and the loss of TICK_IN -/

theorem lockedDue_follower (hr : role s = 2) (h0 : gb s R.tickStat 0 = false) (hg : 16 ≤ s.flw.goodRun) : lockedDue s = true := by
  simp [lockedDue, hr, h0, hg]

theorem marker_read (hr : role s = 2) (h0 : gb s R.tickStat 0 = true)
    (h : s.flw.markDue = true ∨ (s.flw.expect = some 0 ∧ s.flw.seen = false ∧ s.flw.missing = 0 ∧ s.now + 1 ∉ s.marker)) :
    (markerDue s || markerLate s) = true := by
  rcases h with due | ⟨expected, unseen, first, unread⟩
  · simp [markerDue, hr, h0, due]
  · simp [markerLate, hr, h0, expected, unseen, first, unread]

theorem tickLossDue_follower (hr : role s = 2) (h0 : gb s R.tickStat 0 = true) (hm : 4 ≤ s.flw.missing) : tickLossDue s = true := by
  simp [tickLossDue, hr, h0, hm]

/-- The follower's registers after the loss, before it sends TICK_LOSS. -/
def lossShown (s : State) : State := bump R.tickStat 16 8 (sb R.tickStat 0 false (flag R.tickStat 1 { s with flw := {} }))

theorem tickLost_eq : tickLost s = sendMsg 0 0x01 0 (gf (lossShown s) R.tickStat 16 8) (lossShown s) := (rfl)

theorem rd_tickLost (a : Nat) : rd (tickLost s) a = rd (lossShown s) a := (rfl)

theorem tickLost_unlocked : gb (tickLost s) R.tickStat 0 = false := by
  rw [gb_eq_rd _ (rd_tickLost s _), lossShown, gb_bump_of_disjoint _ (by decide) (by decide), gb_sb_same _ _ _ _ (by decide)]

theorem tickLost_flag : gb (tickLost s) R.tickStat 1 = true := by
  rw [gb_eq_rd _ (rd_tickLost s _), lossShown, gb_bump_of_disjoint _ (by decide) (by decide),
    gb_sb_of_ne_bit _ _ _ _ _ (by decide) (by decide), gb_flag_same _ _ _ (by decide)]

theorem tickLost_count : gf (tickLost s) R.tickStat 16 8 = min (gf s R.tickStat 16 8 + 1) 255 := by
  have before : gf (sb R.tickStat 0 false (flag R.tickStat 1 { s with flw := {} })) R.tickStat 16 8 = gf s R.tickStat 16 8 := by
    rw [sb, gf_sf_of_disjoint _ _ _ _ _ _ _ (by decide) (by decide), gf_flag_of_disjoint _ (by decide) (by decide)]
    rfl
  calc gf (tickLost s) R.tickStat 16 8 = gf (lossShown s) R.tickStat 16 8 := by rw [gf, rd_tickLost, gf]
    _ = min (gf s R.tickStat 16 8 + 1) 255 := by rw [lossShown, gf_bump_byte _ (by decide), before]

theorem tickLost_touches : Touches [R.tickStat] s (tickLost s) := by
  have reset : Touches [R.tickStat] s { s with flw := {} } := .of_regs_eq rfl ⟨rfl, rfl, rfl⟩
  rw [tickLost_eq]
  exact (((reset.trans (.flag (by simp) _ _)).trans (.sb (by simp) _ _ _)).trans (.bump (by simp) _ _ _)).trans (.sendMsg _ _ _ _ _)

theorem tickLost_reports : ∃ m ∈ (tickLost s).fc.bus, m.src = 0 ∧ m.kind = 1 ∧ m.tick = s.now := by
  rw [tickLost_eq]
  exact ⟨_, mem_insMsg _ _, rfl, rfl, by simp [lossShown]⟩

/-! ### The statement -/

/-- What an edge on a follower whose phase is placed does, by where it falls. -/
theorem tickIn_cases {e cyc : Nat} (hr : role s = 2) (ha : s.flw.realign = false) (he : s.flw.expect = some e) (he' : e < 50)
    (hc : cyc < 50) :
    let near := cyc = e ∨ cyc = (e + 1) % 50 ∨ (cyc + 1) % 50 = e
    let ahead := e = 0 ∧ cyc = 49
    let behind := e = 49 ∧ cyc = 0
    (ahead ∧ near ∧ ¬ behind ∧ tickIn cyc s = edgeAhead s) ∨
    (behind ∧ near ∧ ¬ ahead ∧ ∃ g, s.flw.late = some g ∧ tickIn cyc s = edgeBehind g s) ∨
    (near ∧ ¬ ahead ∧ ¬ behind ∧ tickIn cyc s = edgeNear e s) ∨
    (((¬ near ∧ ¬ behind) ∨ (behind ∧ s.flw.late = none)) ∧ ¬ ahead ∧ tickIn cyc s = badEdge s) := by
  intro near ahead behind
  by_cases hA : ahead
  · exact .inl ⟨hA, by omega, by omega, tickIn_ahead hr ha he hA.1 hA.2⟩
  by_cases hB : behind
  · cases hl : s.flw.late with
    | none => exact .inr (.inr (.inr ⟨.inr ⟨hB, rfl⟩, hA, tickIn_behind_slip hr ha he hB.1 hB.2 hl⟩))
    | some g => exact .inr (.inl ⟨hB, by omega, hA, g, rfl, tickIn_behind hr ha he hB.1 hB.2 hl⟩)
  by_cases hN : near
  · exact .inr (.inr (.inl ⟨hN, hA, hB, tickIn_near hr ha he hc ((nearEdge_iff he' hc).2 hN) hA hB⟩))
  · have far : nearEdge e cyc = false := Bool.eq_false_iff.2 (fun h => hN ((nearEdge_iff he' hc).1 h))
    exact .inr (.inr (.inr ⟨.inl ⟨hN, hB⟩, hA, tickIn_far hr ha he hc far hA hB⟩))

/-- Settles O15: the operations of the tick unit one by one; an edge by the four places it can fall. -/
theorem sharedTick : Obligations.SharedTick := by
  unfold Obligations.SharedTick
  intro s cyc w ho follower bit_
  have fol : follower → role s = 2 := (role_eq_two s).2
  refine ⟨fun h => ?_, fun due armed => ?_, fun idle hw h9 => ?_, fun hf idle => ?_, fun busy => ?_, fun hf hr => ?_,
    fun hf hr e he he' hc => ?_, fun hf h0 hg => ?_, fun hf h0 hm => ?_, fun hf h0 hm => ?_⟩
  · exact Touches.clocked (l := []) (.of_regs_eq rfl ⟨rfl, rfl, rfl⟩) ho
      (tickMark_of_not_follower s (fun h2 => h ((role_eq_two s).1 h2)))
  · have frame := loadTime_touches s armed
    refine ⟨_, execTicktimeLoad_due ho due frame rfl, ticktime_loadTime s armed, armed_loadTime s armed, loaded_loadTime s armed, ?_,
      frame.onlyRegs⟩
    intro k hk
    rw [marker_loadTime s armed, List.mem_filter, bne_iff_ne] at hk
    exact hk.2
  · have fields := ctrlArmed_touches s w
    have after := afterFields_touches (ctrlArmed w s) (role s) (bit w 10) (bit w 11)
    have frame := (fields.mono (List.cons_subset_cons _ (List.nil_subset [R.tickStat]))).trans (after.mono (List.subset_cons_self _ _))
    refine ⟨_, execRegisterWrite_tickCtrl ho frame (tickCtrlWrite_arms s ((tickIdle_iff s).2 idle) hw h9), ?_, ?_,
      frame.ticktime_eq (by decide) (by decide)⟩
    · rw [afterFields_tickLoad]
      rfl
    · rw [gb_eq_rd _ (after.2 R.tickCtrl (by decide)), armed_ctrlArmed]
  · have frame := realign_touches s
    exact ⟨_, frame.clocked ho (relockCmd_follower s ((tickIdle_iff s).2 idle) (fol hf)), gb_sb_same _ _ _ _ (by decide),
      by simp [realign], frame.onlyRegs⟩
  · have frame := tickReject_touches s
    have notIdle : tickIdle s = false := Bool.eq_false_iff.2 (fun h => by
      obtain ⟨n, hn, hm⟩ := busy
      exact hm ((tickIdle_iff s).1 h n hn))
    refine ⟨_, frame.clocked ho (relockCmd_of_not_idle s notIdle), ?_, ?_, by simp [tickReject], frame.onlyRegs⟩
    · rw [tickReject, reject, gb_bump_of_disjoint _ (by decide) (by decide), gb_flag_same _ _ _ (by decide)]
    · rw [tickReject, reject, gf_bump_byte _ (by decide), gf_flag_of_disjoint _ (by decide) (by decide)]
  · have frame : Touches [] s { s with flw := { expect := some ((50 - inDly s) % 50), seen := true } } := .of_regs_eq rfl ⟨rfl, rfl, rfl⟩
    exact ⟨_, frame.clocked ho (tickIn_realign s (fol hf) hr), rfl, frame.onlyRegs⟩
  · rcases tickIn_cases s (fol hf) hr he he' hc with ⟨hA, hN, hB, ht⟩ | ⟨hB, hN, hA, g, hl, ht⟩ | ⟨hN, hA, hB, ht⟩ | ⟨hF, hA, ht⟩
    · have frame : Touches [] s (edgeAhead s) := .of_regs_eq rfl ⟨rfl, rfl, rfl⟩
      refine ⟨_, frame.clocked ho ht, he, fun _ h => absurd hA h, fun _ => rfl,
        fun h => absurd h hB, fun h => ?_⟩
      exact h.elim (absurd hN) (fun h => absurd h.1 hB)
    · have frame : Touches [] s (edgeBehind g s) := .of_regs_eq rfl ⟨rfl, rfl, rfl⟩
      refine ⟨_, frame.clocked ho ht, he, fun _ _ h => absurd hB h, fun h => absurd h hA, fun _ g' hg' => ?_, fun h => ?_⟩
      · rw [hl, Option.mem_some_iff] at hg'
        subst hg'
        refine ⟨rfl, rfl, rfl, rfl, rfl, fun k hk hne => ?_, fun k hk => ?_, frame.onlyRegs⟩
        · exact List.mem_filter.2 ⟨hk, bne_iff_ne.2 hne⟩
        · exact ⟨(List.mem_filter.1 hk).1, bne_iff_ne.1 (List.mem_filter.1 hk).2⟩
      · exact h.elim (absurd hN) (fun h => absurd (hl.symm.trans h.2) (Option.some_ne_none g))
    · have frame : Touches [] s (edgeNear e s) := .of_regs_eq rfl ⟨rfl, rfl, rfl⟩
      refine ⟨_, frame.clocked ho ht, he, fun _ _ _ => rfl, fun h => absurd h hA,
        fun h => absurd h hB, fun h => ?_⟩
      exact h.elim (absurd hN) (fun h => absurd h.1 hB)
    · have frame := badEdge_touches s
      refine ⟨_, frame.clocked ho ht, by rw [badEdge_flw]; exact he, fun hN _ hB => ?_, fun h => absurd h hA, fun hB g hg => ?_,
        fun _ => ⟨badEdge_flw s, badEdge_slip s, badEdge_locked s, badEdge_count s, frame.onlyRegs⟩⟩
      · exact hF.elim (fun h => absurd hN h.1) (fun h => absurd h.1 hB)
      · exact hF.elim (fun h => absurd hB h.2) (fun h => absurd (h.2.symm.trans hg) (Option.some_ne_none g).symm)
  · have frame : Touches [R.tickStat] s (flag R.tickStat 0 s) := .flag (by simp) _ _
    exact ⟨_, frame.clocked ho (if_pos (lockedDue_follower s (fol hf) h0 hg)), gb_flag_same _ _ _ (by decide), frame.onlyRegs⟩
  · exact Touches.clocked (l := []) (.of_regs_eq rfl ⟨rfl, rfl, rfl⟩) ho (if_pos (marker_read s (fol hf) h0 hm))
  · have frame := tickLost_touches s
    exact ⟨_, frame.clocked ho (if_pos (tickLossDue_follower s (fol hf) h0 hm)), tickLost_unlocked s, tickLost_flag s, tickLost_count s,
      tickLost_reports s, frame.onlyRegs⟩

end Sys2Proof.Machine
end

section
/-! PROOFS. The writes of the DDS (07 R216 to R221), and O33 assembled from them. -/

namespace Sys2Proof.Machine

variable (s : State)

/-! ### A register found by its row -/

/-- The rows that end at or below an offset do not hold it. -/
theorem findRow_eq_none_of_above {rows : List RegRow} {o : Nat} (h : ∀ r ∈ rows, 0 < r.stride ∧ r.base + r.stride * r.count ≤ o) :
    findRow rows o = none := by
  unfold findRow
  rw [List.find?_eq_none]
  intro r hr hin
  obtain ⟨hs, hle⟩ := h r hr
  have inside : (o - r.base) / r.stride < r.count := by simp only [Bool.and_eq_true, decide_eq_true_eq] at hin; exact hin.2
  rw [Nat.div_lt_iff_lt_mul hs, Nat.mul_comm] at inside
  omega

theorem rowAt_chA_beyond_banks {n off : Nat} (hn : n < 32) (ho : off < 0x10000) (hb : 0x3200 ≤ off) :
    rowAt (chA n off) = findRow chanRows off := by
  unfold rowAt
  rw [blockOf_chA hn ho]
  exact if_neg (by omega)

theorem findRow_cons_self {r : RegRow} {rows : List RegRow} {o : Nat} (hb : r.base ≤ o) (hs : (o - r.base) % r.stride = 0)
    (hc : (o - r.base) / r.stride < r.count) : findRow (r :: rows) o = some r :=
  List.find?_cons_of_pos (by simp only [hb, hs, hc, decide_true, beq_self_eq_true, Bool.and_self])

theorem findRow_append {rows rows' : List RegRow} {o : Nat} (h : findRow rows o = none) : findRow (rows ++ rows') o = findRow rows' o := by
  unfold findRow at h ⊢
  rw [List.find?_append, h, Option.none_or]

/-- The rows of a channel below the user table. -/
def rowsBelowTable : List RegRow := chanRows.takeWhile (fun r => r.base != R.ddsTab)

/-- The row of the user table. -/
def tableRow : RegRow := ⟨0xb000, 4, 1024, 0, 0xffffffff, 0⟩

theorem chanRows_table : ∃ rest, chanRows = rowsBelowTable ++ tableRow :: rest := ⟨chanRows.drop (rowsBelowTable.length + 1), by decide +kernel⟩

theorem findRow_table {i : Nat} (hi : i < 1024) : findRow chanRows (R.ddsTab + 4 * i) = some tableRow := by
  obtain ⟨rest, hrows⟩ := chanRows_table
  have below : ∀ r ∈ rowsBelowTable, 0 < r.stride ∧ r.base + r.stride * r.count ≤ R.ddsTab := by decide
  have none_below : findRow rowsBelowTable (R.ddsTab + 4 * i) = none :=
    findRow_eq_none_of_above fun r hr => ⟨(below r hr).1, (below r hr).2.trans (Nat.le_add_right _ _)⟩
  rw [hrows, findRow_append none_below]
  refine findRow_cons_self (Nat.le_add_right _ _) ?_ ?_
  · rw [show R.ddsTab + 4 * i - tableRow.base = 4 * i from Nat.add_sub_cancel_left _ _]
    exact Nat.mul_mod_right 4 i
  · rw [show R.ddsTab + 4 * i - tableRow.base = 4 * i from Nat.add_sub_cancel_left _ _]
    exact (Nat.mul_div_cancel_left i (by decide)).trans_lt hi

theorem rowAt_table {n i : Nat} (hn : n < 32) (hi : i < 1024) : rowAt (chA n (R.ddsTab + 4 * i)) = some tableRow := by
  have hlo : R.ddsTab = 0xb000 := rfl
  rw [rowAt_chA_beyond_banks hn (by omega) (by omega), findRow_table hi]

/-! ### The commands -/

theorem mergeMask_allOnes (old new : Word) : mergeMask (BitVec.allOnes 32) old new = new := by
  unfold mergeMask
  rw [BitVec.not_allOnes, BitVec.and_zero, BitVec.or_zero, BitVec.and_allOnes]

theorem plainWrite_table {n i : Nat} (hn : n < 32) (hi : i < 1024) (w : Word) :
    plainWrite (chA n (R.ddsTab + 4 * i)) w s = wr (chA n (R.ddsTab + 4 * i)) w s := by
  unfold plainWrite
  rw [rowAt_table hn hi]
  have whole : mergeMask tableRow.rw (rd s (chA n (R.ddsTab + 4 * i))) w &&& ~~~(w &&& tableRow.w1c) = w := by
    rw [show tableRow.rw = BitVec.allOnes 32 from rfl, show tableRow.w1c = 0#32 from rfl, mergeMask_allOnes, BitVec.and_zero,
      BitVec.not_zero, BitVec.and_allOnes]
  exact congrArg (fun x => wr _ x s) whole

/-- Settles O33: each command is a write of the latch, of the shadow set or of the entry, and a rejection where the table plays. -/
theorem ddsCommands : Obligations.DdsCommands := by
  unfold Obligations.DdsCommands
  intro s n i w hn hi entry takes inUse
  have n32 := hasChan_lt hn.2
  have port : ∀ f : State → State, whenB (Port.tc0 == Port.tc0) f s = f s := fun _ => rfl
  have index : ∀ f : State → State, whenB (decide (i < 1024)) f s = f s := fun f => by rw [whenB, decide_eq_true hi, if_pos rfl]
  have word : ∀ k, 64 * 0 + k = k := fun k => by omega
  have joins : ∀ f, Accepted n f s (accept n f s) := fun f => by rw [Accepted, Machine.accept, chan_updChan_same]
  have frame : ∀ f, Touches [] s (accept n f s) := fun f => .accept n f s
  refine ⟨?_, ?_, fun free => ?_, fun busy => ?_, ?_, ?_, ?_⟩
  · have latched : Touches [] s (ftwLo 0 n w s) := .of_regs_eq rfl ⟨rfl, rfl, rfl⟩
    refine ⟨_, latched.onChan hn (port _), ?_, latched.onlyRegs⟩
    rw [ftwLo, word, Map.get_put_same]
  · refine ⟨_, (frame _).onChan hn (port _), ?_, (frame _).onlyRegs⟩
    rw [word]
    exact joins _
  · have stored : Touches [entry] s (wr entry w s) := .wr (by simp) w s
    refine ⟨_, stored.onChan hn ?_, rd_wr_same s entry w, stored.onlyRegs⟩
    rw [index, ddsTabWrite, if_neg free, plainWrite_table s n32 hi]
  · have rejected : Touches [chA n R.ddsStat, chA n R.genCnt] s (ddsReject n s) := .reject (by simp) (by simp) _ _ _ s
    refine ⟨_, rejected.onChan hn ?_, ?_, ?_, rejected.onlyRegs⟩
    · rw [index, ddsTabWrite, if_pos busy]
    · rw [ddsReject, reject, gb_eq_rd _ (rd_bump_of_ne _ _ _ (by simp)), gb_flag_same _ _ _ (by decide)]
    · rw [ddsReject, reject, gf_bump_byte _ (by decide), gf_flag_of_ne _ _ _ _ (by simp)]
  · exact ⟨_, (frame _).onChan hn rfl, joins _, (frame _).onlyRegs⟩
  · exact ⟨_, (frame _).onChan hn rfl, joins _, (frame _).onlyRegs⟩
  · exact ⟨_, (frame _).onChan hn rfl, joins _, (frame _).onlyRegs⟩

end Sys2Proof.Machine
end

section
/-! PROOFS. The instructions that write the bound channel (09 R252 to R254): the frame of an instruction that moves on, the writes they
make, what is refused and held (02 R51, R56, R64), and O5 assembled from them. -/

namespace Sys2Proof.Machine

variable (s : State)

/-! ### An instruction that moves on -/

/-- The state on which an instruction acts: its slots are taken. -/
def ran (n x cost : Nat) (s : State) : State := takeSlots n cost (pcOf s x) s

theorem ran_touches (l : List Nat) (n x cost : Nat) : Touches l s (ran n x cost s) :=
  .of_regs_eq rfl ⟨pending_takeSlots s _ _ _, inReset_takeSlots s _ _ _, ddr_takeSlots s _ _ _⟩

@[simp] theorem chan_ran (n x cost m : Nat) : chan (ran n x cost s) m = chan s m := (rfl)

@[simp] theorem opV_ran (n x cost y : Nat) (f : TF) : opV (ran n x cost s) y f = opV s y f := (rfl)

@[simp] theorem modeRefused_ran (n x cost m c : Nat) : modeRefused (ran n x cost s) m c = modeRefused s m c := (rfl)

@[simp] theorem modeBlocked_ran (n x cost m : Nat) : modeBlocked (ran n x cost s) m = modeBlocked s m := (rfl)

@[simp] theorem sweeping_ran (n x cost m : Nat) : sweeping (ran n x cost s) m = sweeping s m := (rfl)

section instruction
variable {s : State} {n x cost : Nat} {f : TF} {ok : Bool} {act : Nat → State → State} {t : State} {l : List Nat}

theorem Touches.advance (h : Touches l s t) : Touches (cxA x R.cxPc :: l) s (advance x f t) :=
  (h.mono (List.subset_cons_self _ _)).trans (.sf List.mem_cons_self _ _ _ _)

/-- An instruction that acts and moves on answers the state it leaves, with the PC moved on. -/
theorem tysel_thenNext (he : Executes n x cost s) (hok : ok = true) (h : Touches l s t) (ht : act x (ran n x cost s) = t) :
    tysel n cost ok (thenNext f act) s = .next (advance x f t) := by
  subst ht
  exact tysel_next he hok h.advance.1

/-- Moving on writes the PC, which the action left alone. -/
theorem movedOn_advance (h : Touches l s t) (hpc : cxA x R.cxPc ∉ l) : MovedOn x f s (advance x f t) := by
  rw [MovedOn, pcOf_advance, pcOf, gf, h.2 _ hpc]
  rfl

@[simp] theorem chan_advance (m : Nat) : chan (advance x f t) m = chan t m := chan_sf t _ _ _ _ m

@[simp] theorem chan_putZ (b : Bool) (m : Nat) : chan (putZ x b t) m = chan t m := chan_sb t _ _ _ m

end instruction

/-! ### A write that joins the shadow set -/

/-- The instruction i completes with the write w in the shadow set; with the flags among what it writes, Z is 0. -/
def Joins (i : Instr) (n x : Nat) (f : TF) (w : FW) (l : List Nat) (s : State) : Prop :=
  ∃ t, exec i s = .next t ∧ Accepted n w s t ∧ (l ≠ [] → flagZ t x = false) ∧ MovedOn x f s t ∧ OnlyRegs (cxA x R.cxPc :: l) s t

theorem cx_pc_ne_flags (x : Nat) : cxA x R.cxPc ≠ cxA x R.cxFlags := cx_ne x _ _ (by decide)

theorem flagZ_advance_putZ (x : Nat) (f : TF) (b : Bool) (t : State) : flagZ (advance x f (putZ x b t)) x = b := by
  rw [flagZ, gb_eq_rd _ (rd_advance_of_ne _ _ _ _ (cx_pc_ne_flags x)), putZ, gb_sb_same _ _ _ _ (by decide)]

theorem Touches.putZ {l : List Nat} {s t : State} (h : Touches l s t) (x : Nat) (b : Bool) :
    Touches (l ++ [cxA x R.cxFlags]) s (putZ x b t) :=
  (h.mono (List.subset_append_left _ _)).trans (.sb (by simp) _ _ _)

section joins
variable {s : State} {i : Instr} {n x cost : Nat} {f : TF} {ok : Bool} {act : Nat → State → State} {w : FW} {t : State}
variable (he : Executes n x cost s) (hok : ok = true) (hi : exec i s = tysel n cost ok (thenNext f act) s)
include he hok hi

/-- An instruction that does not report in Z. -/
theorem joins_plain (ht : act x (ran n x cost s) = t) (h : Touches [] s t) (hw : Accepted n w s t) : Joins i n x f w [] s :=
  ⟨_, hi.trans (tysel_thenNext he hok h ht), by rwa [Accepted, chan_advance], fun h => absurd rfl h,
    movedOn_advance h (by simp), h.advance.onlyRegs⟩

/-- An instruction that reports in Z that it is not refused. -/
theorem joins_withZ (ht : act x (ran n x cost s) = putZ x false t) (h : Touches [] s t) (hw : Accepted n w s t) :
    Joins i n x f w [cxA x R.cxFlags] s := by
  have frame := h.putZ x false
  exact ⟨_, hi.trans (tysel_thenNext he hok frame ht), by rwa [Accepted, chan_advance, chan_putZ], fun _ => flagZ_advance_putZ x f false t,
    movedOn_advance frame (by simp [cx_pc_ne_flags]), frame.advance.onlyRegs⟩

end joins

theorem accepted_accept (n : Nat) (w : FW) {u : State} (h : chan u n = chan s n) : Accepted n w s (accept n w u) := by
  rw [Accepted, accept, chan_updChan_same, h]

theorem ran_accept_touches (n x cost : Nat) (w : FW) : Touches [] s (accept n w (ran n x cost s)) :=
  (ran_touches s [] n x cost).trans (.accept n w _)

/-! ### The writes of a channel's registers -/

theorem putChan_sp (n : Nat) (v : Word) : putChan n R.sp v s = accept n (.sp v) s := (rfl)

/-- The registers of a channel that the instructions write as plain force-side words. -/
def plainForce : List Nat :=
  [R.pulseLvl, R.pulseW, R.pulsePer, R.pulseCnt, R.loadG, R.loadP, R.loadVmin, R.rampRate, R.manCode]

theorem putChan_plainForce (n : Nat) (v : Word) {off : Nat} (h : off ∈ plainForce) :
    putChan n off v s = accept n (.reg off (rwMask (chA n off)) v) s := by
  simp only [plainForce, List.mem_cons, List.not_mem_nil, or_false] at h
  rcases h with rfl | rfl | rfl | rfl | rfl | rfl | rfl | rfl | rfl <;> rfl

theorem putChan_limit (n : Nat) (v : Word) {k : Nat} (hk : k < 4) :
    putChan n (R.vlimHi + 4 * k) v s = accept n (.limit (R.vlimHi + 4 * k) v) s := by
  interval_cases k <;> rfl

/-! ### RANGE -/

/-- A request for slot m, from 0 to 15: those from 8 up are of path I. -/
theorem rangeReq_accepts (n : Nat) {m : Nat} (hm : m < 16) :
    Accepted n (if m < 8 then .rangeV m else .rangeI m) s (rangeReq n (if m < 8 then .v else .i) (m % 8) s) := by
  have slotV : m < 8 → m % 8 % 8 = m := by omega
  have slotI : ¬ m < 8 → 8 + m % 8 % 8 = m := by omega
  unfold rangeReq Accepted accept
  by_cases h : m < 8
  · simp only [h, if_true, slotV h, chan_updChan_same]
    split <;> simp only [chan_updChan_same]
  · simp only [h, if_false, slotI h, chan_updChan_same]
    split <;> simp only [chan_updChan_same]

theorem rangeReq_touches (n : Nat) (p : Path) (k : Nat) : Touches [] s (rangeReq n p k s) := by
  unfold rangeReq
  split
  · exact (Touches.updChan n _ s).trans (.accept n _ _)
  · exact .accept n _ s

/-! ### What is refused and held -/

theorem costOf_eq_macCost (m : Nat) (cfg : Word) : costOf m cfg = macCost m cfg := by
  have ite_count : ∀ (b : Bool) (k : Nat), (if b = true then k else 0) = k * b2n b := by
    intro b k
    cases b <;> simp [b2n]
  simp only [costOf, macCost, isClosed, ite_count, bit_lsb, Bool.and_eq_true, decide_eq_true_eq]

theorem sumWith_eq_macSum (n m : Nat) (cfg : Word) : sumWith s n m cfg = macSum s n m cfg := by
  simp only [sumWith, macSum, costOf_eq_macCost]
  rfl

theorem modeRejected_def (n c : Nat) : modeRejected s n c = decide (8 < c ∨
    (c ≠ 0 ∧ (gf s R.devState 3 2 ≠ 3 ∨ gb s R.chFurled n = true ∨ n ∈ s.fc.released ∨
      gb s R.clrStat 0 = true ∨ s.now < s.clrFree)) ∨
    760 < macSum s n c (cfgAhead s n)) := (rfl)

theorem modeRejected_eq (n c : Nat) : modeRejected s n c = modeRefused s n c := by
  rw [modeRejected_def, modeRefused, sumWith_eq_macSum, Bool.eq_iff_iff]
  simp only [furled, clrLatched, decide_eq_true_eq, Bool.or_eq_true, Bool.and_eq_true, List.contains_iff_mem]
  tauto

theorem modeHolds_eq (n : Nat) : modeHolds s n = (modeBlocked s n || sweeping s n) := by
  rw [modeHolds, modeBlocked, sweeping, Bool.eq_iff_iff]
  simp only [connecting, inHold, Bool.or_eq_true, decide_eq_true_eq, Option.isSome_iff_ne_none, or_assoc]

/-- What a register will hold where no commit reaches it. -/
def plainAhead (s : State) (n o : Nat) : Word :=
  (chan s n).shadow.foldl (fun v x => match x with
    | .reg p m y => if p = o then mergeMask m v y else v
    | .bank p m y => if p = o then mergeMask m v y else v
    | _ => v) (rd s (chA n o))

/-- Commits write the banks and the reef set only. -/
theorem ahead_eq_plainAhead (n : Nat) {o : Nat} (ho : o < 0x1000) : ahead s n o = plainAhead s n o := by
  unfold ahead plainAhead
  congr 1
  funext v w
  cases w with
  | secCommit i k a b c =>
    have above : 0x1000 ≤ commitAt s n i k := by
      unfold commitAt commitOff
      split <;> omega
    simp only
    rw [if_neg (by omega), if_neg (by omega), if_neg (by omega)]
  | _ => rfl

theorem pulseRejected_def (n : Nat) : pulseRejected s n =
    decide ((modeNow s n ≠ 4 ∧ modeNow s n ≠ 5) ∨ (chan s n).train ≠ none ∨ fld (plainAhead s n R.pulseW) 0 24 < 20 ∨
      (plainAhead s n R.pulsePer ≠ 0 ∧ (plainAhead s n R.pulsePer).toNat < fld (plainAhead s n R.pulseW) 0 24 + 20) ∨
      .pulseStop ∈ (chan s n).shadow) := (rfl)

theorem pulseRejected_eq (n : Nat) : pulseRejected s n = pulseRefused s n := by
  have nonzero : ∀ v : Word, v ≠ 0 ↔ v.toNat ≠ 0 := fun v => (BitVec.toNat_inj (x := v) (y := 0#32)).symm.not
  rw [pulseRejected_def, pulseRefused, ahead_eq_plainAhead s n (by decide), ahead_eq_plainAhead s n (by decide), Bool.eq_iff_iff]
  simp only [decide_eq_true_eq, Bool.or_eq_true, Bool.and_eq_true, bne_iff_ne, Option.isSome_iff_ne_none, List.contains_iff_mem,
    nonzero, or_assoc]

theorem pulseRefused_ran (n x cost m : Nat) : pulseRefused (ran n x cost s) m = pulseRefused s m := by
  rw [← pulseRejected_eq, ← pulseRejected_eq, pulseRejected_def, pulseRejected_def]
  rfl

/-! ### A mode write -/

theorem writeMode_refused {n c : Nat} (h : modeRefused s n c = true) : writeMode n c s = chReject n 7 s := if_pos h

/-- A channel that holds a mode write, in place of one accepted before it in its tick. -/
def holdsMode (code : Nat) (c : Chan) : Chan :=
  { c with heldMode := some code, shadow := c.shadow.filter (fun w => match w with | .mode _ => false | _ => true) }

theorem writeMode_held {n c : Nat} (h : modeRefused s n c = false) (h0 : c ≠ 0) (hb : (modeBlocked s n || sweeping s n) = true) :
    writeMode n c s = sb (chA n R.chStat) 8 true (updChan n (holdsMode c) s) := by
  rw [writeMode, h, if_neg Bool.false_ne_true, if_pos ⟨h0, hb⟩]
  rfl

theorem writeMode_accepts {n c : Nat} (h : modeRefused s n c = false) (h0 : c = 0 ∨ (modeBlocked s n || sweeping s n) = false) :
    writeMode n c s = accept n (.mode c) s := by
  rw [writeMode, h, if_neg Bool.false_ne_true, if_neg]
  rintro ⟨hc, hb⟩
  rcases h0 with h0 | h0
  · exact hc h0
  · rw [h0] at hb
    cases hb

/-! ### A refusal -/

theorem chA_ne_cxA {n off : Nat} (hn : n < 32) (ho : off < 0x10000) (x o : Nat) : chA n off ≠ cxA x o := by
  unfold chA cxA
  omega

theorem gb_chReject (n : Nat) {b : Nat} (hb : b < 32) : gb (chReject n b s) (chA n R.chStat) b = true := by
  rw [chReject, reject, gb_eq_rd _ (rd_bump_of_ne _ _ _ (by simp)), gb_flag_same _ _ _ hb]

theorem gf_chReject (n b : Nat) : gf (chReject n b s) (chA n R.chCnt) 16 8 = min (gf s (chA n R.chCnt) 16 8 + 1) 255 := by
  rw [chReject, reject, gf_bump_byte _ (by decide), gf_flag_of_ne _ _ _ _ (by simp)]

theorem chReject_touches (n b : Nat) : Touches [chA n R.chStat, chA n R.chCnt] s (chReject n b s) := .reject (by simp) (by simp) _ _ _ s

/-- After Z and the PC every register of a channel reads as before them. -/
theorem rd_advance_putZ {n off : Nat} (hn : n < 32) (ho : off < 0x10000) (x : Nat) (f : TF) (b : Bool) :
    rd (advance x f (putZ x b s)) (chA n off) = rd s (chA n off) := by
  rw [rd_advance_of_ne _ _ _ _ (chA_ne_cxA hn ho x _).symm, putZ, rd_sb_of_ne _ _ _ (chA_ne_cxA hn ho x _).symm]

section refuses
variable {s : State} {i : Instr} {n x cost : Nat} {f : TF} {ok : Bool} {act : Nat → State → State}

/-- An instruction whose write the channel refuses. -/
theorem refuses_chReject {b : Nat} (he : Executes n x cost s) (hok : ok = true) (hi : exec i s = tysel n cost ok (thenNext f act) s)
    (hb : b < 32) (ht : act x (ran n x cost s) = putZ x true (chReject n b (ran n x cost s))) :
    Refuses i n x f (chA n R.chStat) b [chA n R.chCnt] s := by
  have n32 : n < 32 := hasChan_lt he.1.2
  have frame := ((ran_touches s _ n x cost).trans (chReject_touches (ran n x cost s) n b)).putZ x true
  have pcLeft : cxA x R.cxPc ∉ [chA n R.chStat, chA n R.chCnt] ++ [cxA x R.cxFlags] := by
    have pcNot : ∀ off, off < 0x10000 → cxA x R.cxPc ≠ chA n off := fun off ho => (chA_ne_cxA n32 ho x _).symm
    simp [pcNot R.chStat (by decide), pcNot R.chCnt (by decide), cx_pc_ne_flags]
  refine ⟨_, hi.trans (tysel_thenNext he hok frame ht), flagZ_advance_putZ x f true _, ?_, ?_, ?_, movedOn_advance frame pcLeft, ?_⟩
  · rw [gb_eq_rd _ (rd_advance_putZ _ n32 (by decide) x f true), gb_chReject _ n hb]
  · intro c hc
    obtain rfl := List.mem_singleton.1 hc
    rw [gf, rd_advance_putZ _ n32 (by decide) x f true, ← gf, gf_chReject, ran, gf_takeSlots]
  · rw [chan_advance, chan_putZ, chReject, chan_reject, chan_ran]
  · refine (frame.advance.mono fun a ha => ?_).onlyRegs
    simp only [List.mem_cons, List.cons_append, List.nil_append, List.not_mem_nil, or_false] at ha ⊢
    tauto

end refuses

/-! ### The statement -/

theorem vForm_of {f : TF} {k : Nat} (hd : f.rd = 0) (hb : TF.rb f = 0) (hx : f.x = true → f.ra = 0) (hk : TF.fn f < k) :
    vForm k f = true := by
  have ra : f.x = false ∨ f.ra = 0 := by
    cases h : f.x
    · exact .inl rfl
    · exact .inr (hx h)
  simpa [vForm, vOk, hd, hb, hk] using ra

section fromOperand
variable {s : State} {i : Instr} {n x cost : Nat} {f : TF} {ok : Bool} {act : Nat → State → State} {w : FW}
variable (he : Executes n x cost s) (hok : ok = true) (hi : exec i s = tysel n cost ok (thenNext f act) s)
include he hok hi

/-- An instruction that only joins a write to the shadow set. -/
theorem joins_accept (ht : act x (ran n x cost s) = accept n w (ran n x cost s)) : Joins i n x f w [] s :=
  joins_plain he hok hi ht (ran_accept_touches s n x cost w) (accepted_accept s n w (chan_ran s n x cost n))

/-- The same with Z 0. -/
theorem joins_accept_withZ (ht : act x (ran n x cost s) = putZ x false (accept n w (ran n x cost s))) :
    Joins i n x f w [cxA x R.cxFlags] s :=
  joins_withZ he hok hi ht (ran_accept_touches s n x cost w) (accepted_accept s n w (chan_ran s n x cost n))

end fromOperand

theorem pulseStop_of_not_mem {n : Nat} (h : .pulseGo ∉ (chan s n).shadow) : pulseStop n s = accept n .pulseStop s := by
  rw [pulseStop, if_neg (by simpa using h)]

/-- MODE completes with its write held: it takes the place of a mode accepted before it, and CH_STAT shows it. -/
theorem mode_held {s : State} {n x : Nat} {f : TF} (he : Executes n x 1 s) (hf : immOnly 16 f = true)
    (hr : modeRefused s n (TF.immBits f 0 4) = false) (h0 : TF.immBits f 0 4 ≠ 0) (hb : (modeBlocked s n || sweeping s n) = true) :
    ∃ t, exec (.mode n f) s = .next t ∧ (chan t n).heldMode = some (TF.immBits f 0 4) ∧ gb t (chA n R.chStat) 8 = true ∧
      flagZ t x = false ∧ (chan t n).shadow = (holdsMode (TF.immBits f 0 4) (chan s n)).shadow ∧ MovedOn x f s t ∧
      OnlyRegs [chA n R.chStat, cxA x R.cxPc, cxA x R.cxFlags] s t := by
  have n32 : n < 32 := hasChan_lt he.1.2
  have shown : Touches [chA n R.chStat] s (sb (chA n R.chStat) 8 true (updChan n (holdsMode (TF.immBits f 0 4)) (ran n x 1 s))) :=
    ((ran_touches s _ n x 1).trans (.updChan n _ _)).trans (.sb (by simp) _ _ _)
  have frame := shown.putZ x false
  have pcLeft : cxA x R.cxPc ∉ [chA n R.chStat] ++ [cxA x R.cxFlags] := by
    simp [(chA_ne_cxA n32 (by decide : R.chStat < 0x10000) x R.cxPc).symm, cx_pc_ne_flags]
  refine ⟨_, tysel_thenNext he hf frame ?_, ?_, ?_, flagZ_advance_putZ x f false _, ?_, movedOn_advance frame pcLeft, ?_⟩
  · rw [← writeMode_held (ran n x 1 s) (by rw [modeRefused_ran, hr]) h0 (by rwa [modeBlocked_ran, sweeping_ran]), withZ, modeRefused_ran, hr]
  · rw [chan_advance, chan_putZ, chan_sb, chan_updChan_same]
    rfl
  · rw [gb_eq_rd _ (rd_advance_putZ _ n32 (by decide) x f false), gb_sb_same _ _ _ _ (by decide)]
  · rw [chan_advance, chan_putZ, chan_sb, chan_updChan_same, chan_ran]
  · refine (frame.advance.mono fun a ha => ?_).onlyRegs
    simp only [List.mem_cons, List.cons_append, List.nil_append, List.not_mem_nil, or_false] at ha ⊢
    tauto

/-- Settles O5: each form joins its write to the shadow set, by the rule for instructions that report in Z or the one for those that do
not; the refused ones by the rule for refusals. -/
theorem channelWritesOfInstructions : Obligations.ChannelWritesOfInstructions := by
  unfold Obligations.ChannelWritesOfInstructions
  intro s n x f v m writes
  refine ⟨fun hf he hr hh => ?_, fun hf he hr => ?_, fun hf he hr h0 hh => ?_, fun hf he => ?_, fun hf he => ⟨?_, ?_⟩,
    fun hd hb hx he => ⟨fun h => ?_, fun k hk h => ?_, fun h hr => ?_, fun h hr => ?_, fun h hg => ?_, fun h => ?_, fun h => ?_,
      fun k hk h => ?_, fun h => ?_, fun h => ?_, fun h => ?_⟩⟩
  -- MODE: accepted, refused, held
  · rw [modeRejected_eq] at hr
    rw [modeHolds_eq] at hh
    refine joins_accept_withZ he hf rfl ?_
    rw [← writeMode_accepts (ran n x 1 s) (by rw [modeRefused_ran, hr]) (by rwa [modeBlocked_ran, sweeping_ran]), withZ, modeRefused_ran, hr]
  · rw [modeRejected_eq] at hr
    refine refuses_chReject he hf rfl (by decide) ?_
    rw [← writeMode_refused (ran n x 1 s) (by rw [modeRefused_ran, hr]), withZ, modeRefused_ran, hr]
  · rw [modeRejected_eq] at hr
    rw [modeHolds_eq] at hh
    exact mode_held he hf hr h0 hh
  -- RANGE, LOOP.OPEN, LOOP.CLOSE
  · exact joins_plain he hf rfl rfl ((ran_touches s [] n x 1).trans (rangeReq_touches _ n _ _))
      (rangeReq_accepts (ran n x 1 s) n (Nat.mod_lt _ (by decide)))
  · exact joins_accept he hf rfl rfl
  · exact joins_accept he hf rfl rfl
  -- FORCE, its FN in ascending order
  · exact joins_accept_withZ he (vForm_of hd hb hx (by omega)) rfl (by simp only [h, withZ, opV_ran, putChan_sp]; rfl)
  · simp only [List.mem_cons, List.not_mem_nil, or_false] at hk
    rcases hk with rfl | rfl | rfl | rfl <;>
      exact joins_accept_withZ he (vForm_of hd hb hx (by rw [h]; decide)) rfl
        (by simp only [h, withZ, opV_ran]; rw [putChan_plainForce _ _ _ (by decide)])
  · rw [pulseRejected_eq] at hr
    refine joins_accept_withZ he (vForm_of hd hb hx (by omega)) rfl ?_
    simp only [h, withZ, pulseGo, pulseRefused_ran, hr]
    rfl
  · rw [pulseRejected_eq] at hr
    refine refuses_chReject he (vForm_of hd hb hx (by omega)) rfl (by decide) ?_
    simp only [h, withZ, pulseGo, pulseRefused_ran, hr]
    rfl
  · refine joins_accept_withZ he (vForm_of hd hb hx (by omega)) rfl ?_
    simp only [h, withZ, pulseStop_of_not_mem (ran n x _ s) hg]
  · refine joins_accept_withZ he (vForm_of hd hb hx (by omega)) rfl ?_
    simp only [h, withZ, opV_ran]
    rw [putChan_plainForce _ _ _ (by decide)]
  -- LIMIT: the limits, the load
  · refine joins_accept he (vForm_of hd hb hx (by omega)) rfl ?_
    simp only [h, if_true, opV_ran, putChan_limit _ _ _ h]
    rfl
  · have reg : R.loadG + 4 * (TF.fn f - 4) = k.2 ∧ k.2 ∈ plainForce ∧ ¬ TF.fn f < 4 ∧ TF.fn f < 7 := by
      simp only [List.mem_cons, List.not_mem_nil, or_false] at hk
      rw [h]
      rcases hk with rfl | rfl | rfl <;> decide
    obtain ⟨off, plain, notLimit, inForm⟩ := reg
    refine joins_accept he (vForm_of hd hb hx inForm) rfl ?_
    simp only [opV_ran]
    rw [if_neg notLimit, off, putChan_plainForce _ _ _ plain]
  -- RAMP
  · refine joins_accept he (vForm_of hd hb hx (by omega)) rfl ?_
    simp only [h, opV_ran]
    exact putChan_plainForce _ _ _ (by decide)
  · have n32 : n < 32 := hasChan_lt he.1.2
    have frame : Touches [chA n R.spCfg] s (sb (chA n R.spCfg) 1 (bit v 0) (ran n x (TF.words f) s)) :=
      (ran_touches s _ n x _).trans (.sb (by simp) _ _ _)
    have pcLeft : cxA x R.cxPc ≠ chA n R.spCfg := (chA_ne_cxA n32 (by decide) x _).symm
    refine ⟨_, tysel_thenNext he (vForm_of hd hb hx (by omega)) frame ?_, ?_, movedOn_advance frame (by simpa using pcLeft), ?_⟩
    · simp only [h, opV_ran]
      rfl
    · rw [gb_eq_rd _ (rd_advance_of_ne _ _ _ _ pcLeft), gb_sb_same _ _ _ _ (by decide), bit_lsb]
    · exact (frame.advance.mono (List.Perm.swap _ _ _).subset).onlyRegs
  · refine joins_accept he (vForm_of hd hb hx (by omega)) rfl ?_
    simp only [h, opV_ran, bit_lsb]
    rfl

end Sys2Proof.Machine
end

section
/-! PROOFS. An asserting line on the channels and the output pins, an edge of an input pin and the end of a pulse (01 R36 to R43, 08 R234):
what each step leaves alone, and O16 assembled from them. -/

namespace Sys2Proof.Machine

variable (s : State)

/-! ### What an asserting line does on a channel, in the order of the model -/

/-- A path's aperture takes the line as its trigger. -/
def apSee (e n : Nat) (p : Path) (s : State) : State :=
  if bit (rd s (chA n (apOff p R.apCfg))) 0 && fld (rd s (chA n (apOff p R.apCfg))) 1 6 == e then apTrigger n p s else s

/-- The channel takes the line as that of its line period. -/
def lineSee (e n : Nat) (s : State) : State :=
  if gf s (chA n R.lineCfg) 0 6 = e ∧ (chan s n).mv.lsLast ≠ some s.now then lineAssert n s else s

theorem lineChan_eq (e n : Nat) : lineChan e n s = rcSync e n (lineSee e n (apSee e n .i (apSee e n .v (waitevSee e n s)))) := (rfl)

/-! ### Steps of the measurement and of the repetitive controller -/

/-- The registers of a channel's apertures, line period and repetitive controller that a line can move. -/
def measRegs (n : Nat) : List Nat := [chA n R.apStat, chA n (R.apStat + 0x20), chA n R.linePer, chA n R.rcStat]

/-- A step that moves these registers and the channel's own state only. -/
structure MeasStep (n : Nat) (s t : State) : Prop where
  frame : Touches (measRegs n) s t
  seqs : t.seqs = s.seqs
  evDone : t.evDone = s.evDone
  trig : t.trig = s.trig
  now : t.now = s.now

namespace MeasStep
variable {s : State} {n : Nat} {t u : State}

theorem refl (n : Nat) (s : State) : MeasStep n s s := ⟨.refl _ s, rfl, rfl, rfl, rfl⟩

theorem trans (h : MeasStep n s t) (h' : MeasStep n t u) : MeasStep n s u :=
  ⟨h.frame.trans h'.frame, h'.seqs.trans h.seqs, h'.evDone.trans h.evDone, h'.trig.trans h.trig, h'.now.trans h.now⟩

theorem wr {a : Nat} (ha : a ∈ measRegs n) (w : Word) (s : State) : MeasStep n s (wr a w s) := ⟨.wr ha w s, rfl, rfl, rfl, rfl⟩

theorem sf {a : Nat} (ha : a ∈ measRegs n) (lo len v : Nat) (s : State) : MeasStep n s (sf a lo len v s) := wr ha _ s

theorem sb {a : Nat} (ha : a ∈ measRegs n) (i : Nat) (b : Bool) (s : State) : MeasStep n s (sb a i b s) := wr ha _ s

theorem flag {a : Nat} (ha : a ∈ measRegs n) (i : Nat) (s : State) : MeasStep n s (flag a i s) := wr ha _ s

theorem bump {a : Nat} (ha : a ∈ measRegs n) (lo len : Nat) (s : State) : MeasStep n s (bump a lo len s) := wr ha _ s

theorem updChan (m : Nat) (f : Chan → Chan) (s : State) : MeasStep n s (updChan m f s) := ⟨.updChan m f s, rfl, rfl, rfl, rfl⟩

theorem updMeas (m : Nat) (p : Path) (f : Meas → Meas) (s : State) : MeasStep n s (updMeas m p f s) := updChan m _ s

end MeasStep

theorem apStat_mem (n : Nat) (p : Path) : chA n (apOff p R.apStat) ∈ measRegs n := by cases p <;> simp [measRegs, apOff, pnum]

theorem showAp_step (n : Nat) (p : Path) : MeasStep n s (showAp n p s) :=
  (MeasStep.sb (apStat_mem n p) _ _ s).trans (.sb (apStat_mem n p) _ _ _)

theorem apTrigger_step (n : Nat) (p : Path) : MeasStep n s (apTrigger n p s) := by
  have drops : ∀ f u, MeasStep n u (updMeas n p f (bump (chA n (apOff p R.apStat)) 16 16 (flag (chA n (apOff p R.apStat)) 2 u))) :=
    fun f u => ((MeasStep.flag (apStat_mem n p) 2 u).trans (.bump (apStat_mem n p) 16 16 _)).trans (.updMeas n p f _)
  unfold apTrigger
  dsimp only
  split
  · exact .refl n s
  split
  · exact drops _ s
  split
  · exact .updMeas n p _ s
  split
  · exact drops _ s
  · exact (MeasStep.updMeas n p _ s).trans (showAp_step _ n p)

theorem apSee_step (e n : Nat) (p : Path) : MeasStep n s (apSee e n p s) := by
  unfold apSee
  split
  · exact apTrigger_step s n p
  · exact .refl n s

theorem lineSee_step (e n : Nat) : MeasStep n s (lineSee e n s) := by
  unfold lineSee lineAssert
  split
  · refine MeasStep.trans ?_ ((MeasStep.updMeas n .v _ _).trans (.updMeas n .i _ _))
    split
    · exact .wr (by simp [measRegs]) _ s
    · exact .refl n s
  · exact .refl n s

theorem rcRestart_step (skip : Bool) (n : Nat) : MeasStep n s (rcRestart skip n s) := by
  have rc : chA n R.rcStat ∈ measRegs n := by simp [measRegs]
  unfold rcRestart
  refine MeasStep.trans ?_ ((MeasStep.sf rc 0 13 0 _).trans (.updChan n _ _))
  split
  · exact .bump rc 24 8 s
  · exact .refl n s

theorem rcSync_step (e n : Nat) : MeasStep n s (rcSync e n s) := by
  unfold rcSync
  dsimp only
  split
  · exact rcRestart_step s true n
  · exact .refl n s

/-- All that follows on a channel once its waiting context has seen the line. -/
theorem lineChan_step (e n : Nat) : MeasStep n (waitevSee e n s) (lineChan e n s) := by
  rw [lineChan_eq]
  exact (((apSee_step _ e n .v).trans (apSee_step _ e n .i)).trans (lineSee_step _ e n)).trans (rcSync_step _ e n)

/-! ### Steps of several channels -/

/-- The registers a line can move on a channel. -/
def lineRegs (s : State) (n : Nat) : List Nat :=
  [sqA n R.seqStat, chA n R.apStat, chA n (R.apStat + 0x20), chA n R.linePer, chA n R.rcStat, cxA (gf s (sqA n R.seqStat) 0 12) R.cxFlags]

/-- What the line leaves alone on its way through a list of channels. -/
structure LineSteps (xs : List Nat) (s t : State) : Prop where
  frame : Touches (xs.flatMap (lineRegs s)) s t
  evDone : t.evDone = s.evDone
  trig : t.trig = s.trig
  now : t.now = s.now
  bound : ∀ m, gf t (sqA m R.seqStat) 0 12 = gf s (sqA m R.seqStat) 0 12 ∧ gb t (sqA m R.seqStat) 12 = gb s (sqA m R.seqStat) 12
  seqs : ∀ m, m ∉ xs → seq t m = seq s m
  flags : ∀ x, x < 4096 → (∀ m ∈ xs, boundCtx s m ≠ some x) → rd t (cxA x R.cxFlags) = rd s (cxA x R.cxFlags)

namespace LineSteps
variable {s : State} {t u : State} {xs ys : List Nat}

theorem boundCtx_eq (h : LineSteps xs s t) (m : Nat) : boundCtx t m = boundCtx s m := by
  rw [boundCtx, boundCtx, (h.bound m).1, (h.bound m).2]

theorem lineRegs_eq (h : LineSteps xs s t) (m : Nat) : lineRegs t m = lineRegs s m := by
  rw [lineRegs, lineRegs, (h.bound m).1]

theorem refl (xs : List Nat) (s : State) : LineSteps xs s s :=
  ⟨.refl _ s, rfl, rfl, rfl, fun _ => ⟨rfl, rfl⟩, fun _ _ => rfl, fun _ _ _ => rfl⟩

theorem mono (h : LineSteps xs s t) (hs : xs ⊆ ys) : LineSteps ys s t where
  frame := h.frame.mono fun a ha => by
    obtain ⟨m, hm, ha⟩ := List.mem_flatMap.1 ha
    exact List.mem_flatMap.2 ⟨m, hs hm, ha⟩
  evDone := h.evDone
  trig := h.trig
  now := h.now
  bound := h.bound
  seqs m hm := h.seqs m fun hx => hm (hs hx)
  flags x hx hb := h.flags x hx fun m hm => hb m (hs hm)

theorem append (h : LineSteps xs s t) (h' : LineSteps ys t u) : LineSteps (xs ++ ys) s u where
  frame := by
    rw [List.flatMap_append]
    have later : Touches (ys.flatMap (lineRegs s)) t u := by
      rw [← funext h.lineRegs_eq]
      exact h'.frame
    exact (h.frame.mono (List.subset_append_left _ _)).trans (later.mono (List.subset_append_right _ _))
  evDone := h'.evDone.trans h.evDone
  trig := h'.trig.trans h.trig
  now := h'.now.trans h.now
  bound m := ⟨(h'.bound m).1.trans (h.bound m).1, (h'.bound m).2.trans (h.bound m).2⟩
  seqs m hm := by
    rw [List.mem_append, not_or] at hm
    exact (h'.seqs m hm.2).trans (h.seqs m hm.1)
  flags x hx hb := by
    refine (h'.flags x hx fun m hm => ?_).trans (h.flags x hx fun m hm => hb m (List.mem_append_left _ hm))
    rw [h.boundCtx_eq]
    exact hb m (List.mem_append_right _ hm)

end LineSteps

/-! ### Addresses -/

theorem chA_lt_cxA {n off : Nat} (hn : n < 32) (ho : off < 0x10000) (x o : Nat) : chA n off < cxA x o := by
  unfold chA cxA
  omega

theorem cxA_lt_sqA {x o : Nat} (hx : x < 4096) (ho : o < 0x100) (m : Nat) : cxA x o < sqA m R.seqStat := by
  have base : R.seqStat = 0x3001004 := rfl
  unfold cxA sqA
  omega

theorem measRegs_lt {n : Nat} (hn : n < 32) {a : Nat} (ha : a ∈ measRegs n) (x o : Nat) : a < cxA x o := by
  simp only [measRegs, List.mem_cons, List.not_mem_nil, or_false] at ha
  rcases ha with rfl | rfl | rfl | rfl <;> exact chA_lt_cxA hn (by decide) x o

theorem boundCtx_lt {n x : Nat} (h : boundCtx s n = some x) : x = gf s (sqA n R.seqStat) 0 12 ∧ x < 4096 := by
  unfold boundCtx at h
  split at h
  · obtain rfl := Option.some.inj h
    exact ⟨rfl, fld_lt _ 0 12⟩
  · cases h

theorem MeasStep.flags_eq {s t : State} {n : Nat} (h : MeasStep n s t) (hn : n < 32) (x : Nat) :
    rd t (cxA x R.cxFlags) = rd s (cxA x R.cxFlags) :=
  h.frame.2 _ fun ha => absurd (measRegs_lt hn ha x R.cxFlags) (Nat.lt_irrefl _)

/-- The measurement's registers are none of a sequencer and none of a context. -/
theorem MeasStep.lineSteps {s t : State} {n : Nat} (h : MeasStep n s t) (hn : n < 32) : LineSteps [n] s t where
  frame := h.frame.mono (by
    rw [List.flatMap_singleton]
    intro a ha
    simp only [measRegs, lineRegs, List.mem_cons, List.not_mem_nil, or_false] at ha ⊢
    tauto)
  evDone := h.evDone
  trig := h.trig
  now := h.now
  bound m := by
    have same : rd t (sqA m R.seqStat) = rd s (sqA m R.seqStat) :=
      h.frame.2 _ fun ha => absurd (measRegs_lt hn ha 0 0) (by
        have above := cxA_lt_sqA (by decide : 0 < 4096) (by decide : 0 < 0x100) m
        omega)
    rw [gf, gb, same]
    exact ⟨rfl, rfl⟩
  seqs m _ := by rw [seq, seq, h.seqs]
  flags x _ _ := h.flags_eq hn x

/-! ### The context that waits for the line -/

/-- The context is released: it executes from this tick on, with Z 0. -/
theorem waitevSee_released {e n since : Nat} {m : Option Nat} (hw : (seq s n).wait = .event e m since) (hs : since < s.now) :
    waitevSee e n s = setZ n false (wake n s) := by
  rw [waitevSee, hw]
  exact if_pos ⟨rfl, hs⟩

theorem waitevSee_cases (e n : Nat) : waitevSee e n s = setZ n false (wake n s) ∨ waitevSee e n s = s := by
  unfold waitevSee
  split
  · split
    · exact .inl rfl
    · exact .inr rfl
  · exact .inr rfl

theorem sqA_ne {n m : Nat} (h : n ≠ m) : sqA n R.seqStat ≠ sqA m R.seqStat := by
  unfold sqA
  omega

theorem wake_touches (n : Nat) : Touches [sqA n R.seqStat] s (wake n s) :=
  ((Touches.updSeq n _ s).trans (.sf (by simp) 16 4 _ _)).trans (.updSeq n _ _)

theorem wake_bound (n m : Nat) : gf (wake n s) (sqA m R.seqStat) 0 12 = gf s (sqA m R.seqStat) 0 12 ∧
    gb (wake n s) (sqA m R.seqStat) 12 = gb s (sqA m R.seqStat) 12 := by
  by_cases h : n = m
  · subst h
    exact ⟨gf_sf_of_disjoint (updSeq n (fun q => { q with wait := .none }) s) _ 16 4 _ 0 12 (by decide) (by decide),
      gb_sf_of_disjoint (updSeq n (fun q => { q with wait := .none }) s) _ (by decide) (by decide)⟩
  · have same : rd (wake n s) (sqA m R.seqStat) = rd s (sqA m R.seqStat) :=
      (wake_touches s n).2 _ (by simpa using sqA_ne (Ne.symm h))
    rw [gf, gb, same]
    exact ⟨rfl, rfl⟩

theorem wake_boundCtx (n m : Nat) : boundCtx (wake n s) m = boundCtx s m := by
  rw [boundCtx, boundCtx, (wake_bound s n m).1, (wake_bound s n m).2]

theorem wake_seq_self (n : Nat) : (seq (wake n s) n).wait = .none := by
  rw [wake, seq_updSeq_same, setWait, seq_sf, seq_updSeq_same]

theorem wake_seq_of_ne {n m : Nat} (h : m ≠ n) : seq (wake n s) m = seq s m := by
  rw [wake, seq_updSeq, if_neg (Ne.symm h), setWait, seq_sf, seq_updSeq, if_neg (Ne.symm h)]

theorem setZ_of_bound {n x : Nat} (z : Bool) (h : boundCtx s n = some x) : setZ n z s = sb (cxA x R.cxFlags) 0 z s := by
  rw [setZ, h]

theorem setZ_of_free {n : Nat} (z : Bool) (h : boundCtx s n = none) : setZ n z s = s := by
  rw [setZ, h]

theorem wake_steps (n : Nat) : LineSteps [n] s (wake n s) where
  frame := (wake_touches s n).mono (by simp [lineRegs])
  evDone := by simp [wake, setWait]
  trig := by simp [wake, setWait]
  now := by simp [wake, setWait]
  bound := wake_bound s n
  seqs m hm := wake_seq_of_ne s (by simpa using hm)
  flags x hx _ := (wake_touches s n).2 _ (by
    have above := cxA_lt_sqA hx (by decide : R.cxFlags < 0x100) n
    simp only [List.mem_singleton]
    omega)

theorem setZ_steps (n : Nat) (z : Bool) : LineSteps [n] s (setZ n z s) := by
  cases hb : boundCtx s n with
  | none =>
    rw [setZ_of_free s z hb]
    exact .refl [n] s
  | some x =>
    obtain ⟨hx, hx'⟩ := boundCtx_lt s hb
    rw [setZ_of_bound s z hb]
    refine ⟨.sb (by simp [lineRegs, hx]) 0 z s, rfl, rfl, rfl, fun m => ?_, fun _ _ => rfl, fun y hy hne => ?_⟩
    · have below := cxA_lt_sqA hx' (by decide : R.cxFlags < 0x100) m
      rw [gf, gb, rd_sb_of_ne _ _ _ (by omega)]
      exact ⟨rfl, rfl⟩
    · have other : x ≠ y := fun h => hne n (by simp) (h ▸ hb)
      exact rd_sb_of_ne _ _ _ (by unfold cxA; omega)

theorem waitevSee_steps (e n : Nat) : LineSteps [n] s (waitevSee e n s) := by
  rcases waitevSee_cases s e n with h | h <;> rw [h]
  · exact ((wake_steps s n).append (setZ_steps _ n false)).mono (by simp)
  · exact .refl [n] s

/-! ### The line on one channel and on all -/

theorem lineChan_steps (e : Nat) {n : Nat} (hn : n < 32) : LineSteps [n] s (lineChan e n s) :=
  ((waitevSee_steps s e n).append ((lineChan_step s e n).lineSteps hn)).mono (by simp)

theorem each_lineChan_steps (e : Nat) {xs : List Nat} (hx : ∀ n ∈ xs, n < 32) : LineSteps xs s (each (lineChan e) xs s) := by
  induction xs generalizing s with
  | nil => exact .refl [] s
  | cons n xs ih =>
    exact (lineChan_steps s e (hx n List.mem_cons_self)).append (ih _ fun m hm => hx m (List.mem_cons_of_mem n hm))

/-- The context bound to n waits for line e since an earlier tick. -/
def Awaits (e n x : Nat) (s : State) : Prop := boundCtx s n = some x ∧ ∃ m since, (seq s n).wait = .event e m since ∧ since < s.now

/-- The channel's wait is over, with Z 0 in the context. -/
def Released (n x : Nat) (s : State) : Prop := (seq s n).wait = .none ∧ flagZ s x = false

theorem lineChan_releases {e n x : Nat} (hn : n < 32) (h : Awaits e n x s) : Released n x (lineChan e n s) := by
  obtain ⟨hb, m, since, hw, hs⟩ := h
  have step := lineChan_step s e n
  have seen : waitevSee e n s = sb (cxA x R.cxFlags) 0 false (wake n s) := by
    rw [waitevSee_released s hw hs, setZ_of_bound _ false ((wake_boundCtx s n n).trans hb)]
  rw [seen] at step
  refine ⟨?_, ?_⟩
  · rw [seq, step.seqs]
    exact wake_seq_self s n
  · rw [flagZ, gb_eq_rd _ (step.flags_eq hn x), gb_sb_same _ _ _ _ (by decide)]

/-- The line reaches the channel's turn and releases its context; the channels after it leave it so. -/
theorem each_lineChan_releases {e n x : Nat} {xs : List Nat} (hd : xs.Nodup) (hx : ∀ m ∈ xs, m < 32) (hn : n ∈ xs) (h : Awaits e n x s)
    (honly : ∀ m ∈ xs, m ≠ n → boundCtx s m ≠ some x) : Released n x (each (lineChan e) xs s) := by
  induction xs generalizing s with
  | nil => cases hn
  | cons k xs ih =>
    obtain ⟨hk, hd⟩ := List.nodup_cons.1 hd
    have k32 := hx k List.mem_cons_self
    have rest : ∀ m ∈ xs, m < 32 := fun m hm => hx m (List.mem_cons_of_mem k hm)
    have first := lineChan_steps s e k32
    by_cases hnk : n = k
    · subst hnk
      obtain ⟨wait, z⟩ := lineChan_releases s k32 h
      have after := each_lineChan_steps (lineChan e n s) e rest
      refine ⟨(congrArg Seq.wait (after.seqs n hk)).trans wait, ?_⟩
      rw [flagZ, each, gb_eq_rd _ (after.flags x (boundCtx_lt s h.1).2 fun m hm => ?_)]
      · exact z
      · rw [first.boundCtx_eq]
        exact honly m (List.mem_cons_of_mem n hm) fun hmn => hk (hmn ▸ hm)
    · obtain ⟨hb, m, since, hw, hs⟩ := h
      have same : seq (lineChan e k s) n = seq s n := first.seqs n (by simpa using hnk)
      refine ih _ hd rest (List.mem_of_ne_of_mem hnk hn) ⟨(first.boundCtx_eq n).trans hb, m, since, ?_, ?_⟩ fun j hj hjn => ?_
      · rw [same, hw]
      · rw [first.now]
        exact hs
      · rw [first.boundCtx_eq]
        exact honly j (List.mem_cons_of_mem k hj) hjn

/-! ### The line on the output pins -/

/-- A pin takes the line as its source. -/
def pinSee (e p : Nat) (s : State) : State := if gf s (R.trigCfg + 4 * p) 4 6 = e then beginPin p s else s

/-- The pin gives a pulse for the line: DIR is OUT and SRC names it. -/
def Pulses (e p : Nat) (s : State) : Prop := gf s (R.trigCfg + 4 * p) 0 2 = 2 ∧ gf s (R.trigCfg + 4 * p) 4 6 = e

/-- The pin with the pulse that begins now. -/
def pulsing (p : Nat) (s : State) : TrigPin := { tpin s p with until_ := some (s.now + gf s (R.trigCfg + 4 * p) 16 8) }

theorem pinSee_pulses {e p : Nat} (h : Pulses e p s) : pinSee e p s = updTrig p (fun _ => pulsing p s) s := by
  rw [pinSee, if_pos h.2]
  exact if_pos h.1

theorem pinSee_still {e p : Nat} (h : ¬ Pulses e p s) : pinSee e p s = s := by
  unfold pinSee beginPin
  split
  · next hs => exact if_neg fun hd => h ⟨hd, hs⟩
  · rfl

/-- Only the pins' own state changes. -/
theorem pinSee_eq (e p : Nat) : pinSee e p s = { s with trig := (pinSee e p s).trig } := by
  by_cases h : Pulses e p s
  · rw [pinSee_pulses s h]
    rfl
  · rw [pinSee_still s h]

theorem each_pinSee_eq (e : Nat) (ps : List Nat) : each (pinSee e) ps s = { s with trig := (each (pinSee e) ps s).trig } := by
  induction ps generalizing s with
  | nil => rfl
  | cons p ps ih =>
    rw [each, ih, pinSee_eq s e p]

/-- A pin that gives no pulse for the line stands. -/
theorem tpin_each_still {e p : Nat} (ps : List Nat) (h : ¬ Pulses e p s) : tpin (each (pinSee e) ps s) p = tpin s p := by
  induction ps generalizing s with
  | nil => rfl
  | cons q ps ih =>
    rw [each, ih _ (by rw [pinSee_eq]; exact h)]
    by_cases hq : Pulses e q s
    · rw [pinSee_pulses s hq, tpin_updTrig, if_neg (by rintro rfl; exact h hq)]
    · rw [pinSee_still s hq]

/-- A pin whose turn comes has the pulse of the line. -/
theorem until_each_pulses {e p : Nat} {ps : List Nat} (hp : p ∈ ps ∨ (tpin s p).until_ = (pulsing p s).until_) (h : Pulses e p s) :
    (tpin (each (pinSee e) ps s) p).until_ = (pulsing p s).until_ := by
  induction ps generalizing s with
  | nil => exact hp.resolve_left List.not_mem_nil
  | cons q ps ih =>
    have same : (pulsing p (pinSee e q s)).until_ = (pulsing p s).until_ := by rw [pinSee_eq]; rfl
    rw [each, ← same]
    refine ih _ ?_ (by rw [pinSee_eq]; exact h)
    rw [same]
    by_cases hq : p = q
    · subst hq
      right
      rw [pinSee_pulses s h, tpin_updTrig_same]
    · refine hp.imp (List.mem_of_ne_of_mem hq) fun hu => ?_
      by_cases hqs : Pulses e q s
      · rw [pinSee_pulses s hqs, tpin_updTrig, if_neg (Ne.symm hq), hu]
      · rw [pinSee_still s hqs, hu]

/-! ### The line in the whole -/

theorem chans_lt {n : Nat} (h : n ∈ chans s) : n < 32 := hasChan_lt (by
  rw [hasChan, decide_eq_true_eq]
  exact List.mem_range.1 h)

theorem hasChan_iff_mem_chans (n : Nat) : hasChan s n = true ↔ n ∈ chans s := by
  rw [hasChan, decide_eq_true_eq, chans, List.mem_range]

/-- The line is noted as one that has reached its consumers. -/
def lineNoted (e : Nat) (s : State) : State := { s with evDone := s.evDone ++ [e] }

/-- The line after the channels. -/
def lineOnChans (e : Nat) (s : State) : State := each (lineChan e) (chans s) (lineNoted e s)

theorem lineOnChans_steps (e : Nat) : LineSteps (chans s) (lineNoted e s) (lineOnChans e s) :=
  each_lineChan_steps _ e fun _ hn => chans_lt s hn

theorem lineAsserts_eq (e : Nat) : lineAsserts e s = each (pinSee e) (List.range 8) (lineOnChans e s) := (rfl)

theorem lineAsserts_trig (e : Nat) : lineAsserts e s = { lineOnChans e s with trig := (lineAsserts e s).trig } := by
  rw [lineAsserts_eq]
  exact each_pinSee_eq (lineOnChans e s) e (List.range 8)

theorem lineAsserts_touches (e : Nat) : Touches ((chans s).flatMap (lineRegs s)) s (lineAsserts e s) := by
  have noted : Touches ((chans s).flatMap (lineRegs s)) s (lineNoted e s) := .of_regs_eq rfl ⟨rfl, rfl, rfl⟩
  rw [lineAsserts_trig]
  exact (noted.trans (lineOnChans_steps s e).frame).trans (.of_regs_eq rfl ⟨rfl, rfl, rfl⟩)

theorem mem_evDone_lineAsserts (e : Nat) : e ∈ (lineAsserts e s).evDone := by
  rw [lineAsserts_trig]
  show e ∈ (lineOnChans e s).evDone
  rw [(lineOnChans_steps s e).evDone]
  simp [lineNoted]

theorem lineAsserts_releases {e n x : Nat} (hn : hasChan s n = true) (h : Awaits e n x s)
    (honly : ∀ m ∈ chans s, m ≠ n → boundCtx s m ≠ some x) : Released n x (lineAsserts e s) := by
  rw [lineAsserts_trig]
  exact each_lineChan_releases (lineNoted e s) List.nodup_range (fun _ hm => chans_lt s hm) ((hasChan_iff_mem_chans s n).1 hn) h honly

/-- No channel's part of the line writes a register of the device block. -/
theorem lineOnChans_device (e : Nat) {a : Nat} (ha : a < 0x100000) : rd (lineOnChans e s) a = rd s a := by
  refine (lineOnChans_steps s e).frame.2 a fun hm => ?_
  obtain ⟨n, -, hm⟩ := List.mem_flatMap.1 hm
  have seqBase : R.seqStat = 0x3001004 := rfl
  simp only [lineRegs, chA, cxA, sqA, List.mem_cons, List.not_mem_nil, or_false] at hm
  omega

theorem trigCfg_lt {p : Nat} (hp : p < 8) : R.trigCfg + 4 * p < 0x100000 := by
  have base : R.trigCfg = 0x40 := rfl
  omega

theorem pulses_lineOnChans (e : Nat) {p : Nat} (hp : p < 8) : Pulses e p (lineOnChans e s) ↔ Pulses e p s := by
  rw [Pulses, Pulses, gf, gf, gf, gf, lineOnChans_device s e (trigCfg_lt hp)]

theorem tpin_lineOnChans (e p : Nat) : tpin (lineOnChans e s) p = tpin s p := by
  rw [tpin, (lineOnChans_steps s e).trig]
  rfl

theorem lineAsserts_pulse {e p : Nat} (hp : p < 8) (h : Pulses e p s) :
    (tpin (lineAsserts e s) p).until_ = some (s.now + gf s (R.trigCfg + 4 * p) 16 8) := by
  have now : (lineOnChans e s).now = s.now := (lineOnChans_steps s e).now
  have begun := until_each_pulses (lineOnChans e s) (ps := List.range 8) (.inl (List.mem_range.2 hp)) ((pulses_lineOnChans s e hp).2 h)
  rw [pulsing, now, gf, lineOnChans_device s e (trigCfg_lt hp)] at begun
  rw [lineAsserts_eq]
  exact begun

theorem lineAsserts_no_pulse {e p : Nat} (hp : p < 8) (h : ¬ Pulses e p s) : tpin (lineAsserts e s) p = tpin s p := by
  rw [lineAsserts_eq, tpin_each_still _ _ fun hq => h ((pulses_lineOnChans s e hp).1 hq), tpin_lineOnChans]

theorem lineDue_of {e : Nat} (ha : e ∈ s.asserting) (hd : e ∉ s.evDone) : lineDue s e = true := by
  simp [lineDue, ha, hd]

/-! ### An edge of an input pin -/

/-- LEVEL follows the pin. -/
def levelShown (p : Nat) (level : Bool) (s : State) : State := sb R.trigStat (8 + p) level s

/-- The edge counts, and shows as a second one. -/
def edgeCounted (p : Nat) (s : State) : State :=
  whenB (decide (0 < (tpin s p).edges)) (flag R.trigStat p) (updTrig p (fun t => { t with edges := t.edges + 1 }) s)

theorem trigEdge_recognised {p : Nat} {level : Bool} (hp : p < 8) (hd : gf s (R.trigCfg + 4 * p) 0 2 = 1)
    (hl : level = !gb s (R.trigCfg + 4 * p) 2) : trigEdge p level s = cause (32 + p) (edgeCounted p (levelShown p level s)) := by
  have other : rd (levelShown p level s) (R.trigCfg + 4 * p) = rd s (R.trigCfg + 4 * p) := rd_sb_of_ne s _ _ (by
    have cfg : R.trigCfg = 0x40 := rfl
    have stat : R.trigStat = 0x60 := rfl
    omega)
  have dir : pinDir (levelShown p level s) p = 1 := by rw [pinDir, gf, other, ← gf, hd]
  have edge : level ≠ gb (levelShown p level s) (R.trigCfg + 4 * p) 2 := by
    rw [gb, other, ← gb, hl]
    exact Bool.not_ne_self _
  unfold trigEdge
  exact if_neg (by
    rintro (h | h)
    · exact h dir
    · exact edge h)

theorem edgeCounted_touches (p : Nat) : Touches [R.trigStat] s (edgeCounted p s) :=
  (Touches.updTrig p _ s).trans (.whenB _ (.flag (by simp) p _))

theorem edgeCounted_multi {p : Nat} (hp : p < 32) :
    gb (edgeCounted p s) R.trigStat p = (gb s R.trigStat p || decide (0 < (tpin s p).edges)) := by
  unfold edgeCounted
  cases decide (0 < (tpin s p).edges)
  · exact (Bool.or_false _).symm
  · rw [Bool.or_true]
    exact gb_flag_same _ _ _ hp

theorem edgeCounted_other {p i : Nat} (hp : p < 32) (hi : p ≠ i) : gb (edgeCounted p s) R.trigStat i = gb s R.trigStat i := by
  unfold edgeCounted
  exact whenB_keeps (fun u => gb u R.trigStat i) (gb_sb_of_ne_bit _ _ _ _ _ hp hi) _

theorem tpin_edgeCounted (p : Nat) : tpin (edgeCounted p s) p = { tpin s p with edges := (tpin s p).edges + 1 } := by
  rw [edgeCounted, whenB_keeps (fun u => tpin u p) (tpin_flag _ _ _ _), tpin_updTrig_same]

theorem mem_caused_cause (e : Nat) : e ∈ (cause e s).caused := by
  unfold cause
  split
  · next h => exact List.contains_iff_mem.1 h
  · simp

/-! ### The statement -/

/-- Settles O16: the line passes through the channels and then the pins, each touching what is its own. -/
theorem eventLinesAndPins : Obligations.EventLinesAndPins := by
  unfold Obligations.EventLinesAndPins
  intro s e p n x u m level ho hp
  refine ⟨fun ha hd => ?_, fun hd hl => ?_, fun hu => ?_⟩
  · have frame := lineAsserts_touches s e
    refine ⟨_, frame.clocked ho (if_pos (lineDue_of s ha hd)), mem_evDone_lineAsserts s e, fun hn hb _ hw hu honly => ?_,
      fun hdir hsrc => lineAsserts_pulse s hp ⟨hdir, hsrc⟩, fun hnot => ?_, frame.onlyRegs⟩
    · exact lineAsserts_releases s hn ⟨hb, m, u, hw, hu⟩ honly
    · exact lineAsserts_no_pulse s hp fun h => hnot.elim (fun hne => hne h.1) fun hne => hne h.2
  · have level_frame : Touches [R.trigStat] s (levelShown p level s) := .sb (by simp) _ _ s
    have frame := (level_frame.trans (edgeCounted_touches _ p)).trans (.cause (32 + p) _)
    refine ⟨_, frame.clocked ho ((if_pos hp).trans (trigEdge_recognised s hp hd hl)), ?_, ?_, ?_, ?_, frame.onlyRegs⟩
    · exact mem_caused_cause _ _
    · exact (edgeCounted_other _ (by omega) (by omega)).trans (gb_sb_same s _ _ _ (by omega))
    · exact congrArg TrigPin.edges (tpin_edgeCounted (levelShown p level s) p)
    · have unmoved : gb (levelShown p level s) R.trigStat p = gb s R.trigStat p := gb_sb_of_ne_bit s _ _ _ _ (by omega) (by omega)
      rw [← unmoved]
      exact edgeCounted_multi (levelShown p level s) (by omega)
  · have frame : Touches [] s (pinEnd p s) := .updTrig p _ s
    refine ⟨_, frame.clocked ho (if_pos ?_), by rw [pinEnd, tpin_updTrig_same], frame.onlyRegs⟩
    obtain ⟨v, hv, hlt⟩ := hu
    simp [pinDone, hp, Option.mem_def.1 hv, hlt]

end Sys2Proof.Machine
end

section
/-! PROOFS. Three statements of the family 02 that do not hold. Each refutation gives a state in which a command leaves something else
than the statement says. -/

namespace Sys2Proof.Scope

open Sys2Proof.Machine

/-- CH0 in FV at the end of its entry sequence, with the preset that a close of its loop has queued while it was CONNECTING. -/
def entryOver : State :=
  { awake with
    regs := awake.regs ++ [(chA 0 R.chStat, 0x202)]
    chans := [(0, { entry := some { todo := [], waiting := 0, lastFire := 0, lastAck := 0, settle := 0, measure := false }
                    loop := { presets := [⟨true, false, 0, false, false⟩] } })]
    now := 1 }

/-- Refutes O18: the end of the entry sequence drops the presets queued before it, so that the one from the clear command stands
alone; the statement has it join them. -/
theorem not_modeCommands : ¬ Obligations.ModeCommands := by
  unfold Obligations.ModeCommands
  intro h
  obtain ⟨-, -, -, -, entryEnd, -⟩ := h entryOver 0 0 (by decide)
  obtain ⟨t, ht, -, -, -, -, closed, -⟩ := entryEnd (by decide)
  have alone : leadsTo (.connectingEnd 0) entryOver (fun t => decide ((chan t 0).loop.presets.length = 1)) = true := by decide +kernel
  have one := of_decide_eq_true (holds_of_leadsTo alone ht)
  rw [closed (by decide), List.length_append] at one
  exact absurd one (by decide)

/-- CH0 in OFF, its loop's memory still at the command 0, and DAC_CLR with the clear code 5. -/
def clearCodeMoved : State := { awake with regs := awake.regs ++ [(chA 0 R.dacClr, 5)] }

/-- A channel's inputs of a tick: codes of 0, no retry and no error. -/
def quietInput : LoopIn :=
  let z : SampleIn := ⟨0, false, false, false⟩
  ⟨z, z, z, z, 0, none, false, false, false, false, {}, {}⟩

/-- Refutes O23: a tick in OFF commands the clear code (02 R52, 06 R182), here 5 where the tick before commanded 0; the statement has
a channel whose mode has no loop keep its command. -/
theorem not_loopComputations : ¬ Obligations.LoopComputations := by
  unfold Obligations.LoopComputations
  intro h
  obtain ⟨tick, -⟩ := h clearCodeMoved 0 0 (List.replicate 8 quietInput)
  obtain ⟨t, ht, -, -, keeps, -⟩ := tick (by decide) (by decide) (by decide) (by decide) (by decide) quietInput (by decide)
  have moved : leadsTo (.loopComputation 0 (List.replicate 8 quietInput)) clearCodeMoved (fun t => decide ((chan t 0).loop.cmd = 5)) = true := by
    decide +kernel
  have five := of_decide_eq_true (holds_of_leadsTo moved ht)
  exact absurd (five.symm.trans (keeps (by decide))) (by decide)

/-- CLR_N is recognised in tick 5, in which TRIG0, the line event of CH0, asserts again; it last did in tick 0. -/
def clearOnLine : State :=
  { awake with
    now := 5
    clrLow := true
    clrDue := true
    asserting := [32]
    chans := [(0, { mv := { lsLast := some 0 } })] }

/-- Refutes O29: the line event of a tick comes before the STOP that CLR_N gives the apertures (05 R163, R164), and LINE_PER takes
the ticks since its last assertion; the statement lets the registers AP_STAT alone of the channel change. -/
theorem not_clearPin : ¬ Obligations.ClearPin := by
  unfold Obligations.ClearPin
  intro h
  obtain ⟨-, awake⟩ := h clearOnLine 0 0
  obtain ⟨-, -, recognised, -⟩ := awake (by decide)
  obtain ⟨t, ht, -, -, -, -, -, -, -, -, -, only⟩ := recognised (by decide) (by decide)
  have period : leadsTo .clrNRecognised clearOnLine (fun t => decide (rd t (chA 0 R.linePer) = 5)) = true := by decide +kernel
  have five := of_decide_eq_true (holds_of_leadsTo period ht)
  rw [only.1 (chA 0 R.linePer) (by decide)] at five
  exact absurd five (by decide)

end Sys2Proof.Scope
end

section
/-! PROOFS. Pulse trains, limits and counters of a channel (02 R49, R57, R63, R64): O19 assembled from what accepts, refuses, begins and
ends. -/

namespace Sys2Proof.Machine

variable {s : State} {n : Nat}

theorem chRejected_chReject (s : State) (n : Nat) {i : Nat} (hi : i < 32) : ChRejected n i s (chReject n i s) :=
  ⟨gb_chReject s n hi, gf_chReject s n i, (chReject_touches s n i).onlyRegs⟩

/-- A rejection is what the registers show. -/
theorem ChRejected.of_regs_eq {t u : State} {i : Nat} (h : ChRejected n i s t) (hr : ∀ a, rd u a = rd t a) (hd : u.ddr = t.ddr) :
    ChRejected n i s u := by
  simpa only [ChRejected, OnlyRegs, RegsExcept, gb, gf, hr, hd] using h

/-- A command of a channel that joins a write to the shadow set and does nothing else. -/
theorem onChan_accepts (hn : ChanIn n s) {w : FW} {f : State → State} (hf : f s = accept n w s) :
    ∃ t, onChan n s f = .next t ∧ Accepted n w s t ∧ OnlyRegs [] s t := by
  have frame : Touches [] s (accept n w s) := .accept n w s
  exact ⟨_, frame.onChan hn hf, accepted_accept s n w rfl, frame.onlyRegs⟩

theorem pulseGo_of_refused (h : pulseRefused s n = true) : pulseGo n s = chReject n 15 s := if_pos h

theorem pulseGo_of_taken (h : pulseRefused s n = false) : pulseGo n s = accept n .pulseGo s := if_neg (Bool.eq_false_iff.1 h)

/-- A channel without the PULSE_GO of its tick. -/
def withoutGo (c : Chan) : Chan := { c with shadow := c.shadow.filter (· != .pulseGo) }

theorem pulseStop_of_mem (h : .pulseGo ∈ (chan s n).shadow) :
    pulseStop n s = accept n .pulseStop (updChan n withoutGo (chReject n 15 s)) := by
  rw [pulseStop, if_pos (by simpa using h)]
  rfl

/-- A train whose pulse begins in this tick: level, width and period are those the registers hold (R63). -/
def pulseBegun (s : State) (n : Nat) (q : Train) : Train :=
  let w := gf s (chA n R.pulseW) 0 24
  let per := (rd s (chA n R.pulsePer)).toNat
  { q with lvl := (rd s (chA n R.pulseLvl)).toInt, w, per, next := q.next + per, last := some (s.now + w - 1)
           left := if per = 0 then some 0 else q.left.map (· - 1) }

theorem train_beginPulse {q : Train} (hq : (chan s n).train = some q) : (chan (beginPulse n s) n).train = some (pulseBegun s n q) := by
  rw [beginPulse, chan_updChan_same, hq]
  rfl

theorem pulseBeginDue_of {q : Train} (hq : (chan s n).train = some q) (hnext : q.next = s.now) (hlast : q.last = none)
    (hstop : q.stop = false) (hleft : q.left ≠ some 0) : pulseBeginDue s n = true := by
  simp [pulseBeginDue, hq, hnext, hlast, hstop, hleft]

theorem train_endPulse {q : Train} (hq : (chan s n).train = some q) :
    (chan (endPulse n s) n).train = if q.stop = true ∨ q.left = some 0 then none else some { q with last := none } := by
  rw [endPulse, chan_updChan_same, hq]
  simp

theorem pulseEndDue_of {q : Train} {l : Nat} (hq : (chan s n).train = some q) (hl : q.last = some l) (hlt : l < s.now) :
    pulseEndDue s n = true := by
  simp [pulseEndDue, hq, hl, hlt]

theorem isLimit_of_mem {off : Nat} (h : off ∈ [R.vlimHi, R.vlimLo, R.ilimHi, R.ilimLo]) : isLimit off = true := by
  simpa [isLimit, or_assoc] using h

/-- Settles O19: PULSE_GO by what R64 refuses, PULSE_STOP by whether it beats a PULSE_GO of its tick, a pulse by the train it finds. -/
theorem pulsesLimitsAndCounters : Obligations.PulsesLimitsAndCounters := by
  unfold Obligations.PulsesLimitsAndCounters
  intro s n off w hn
  simp only [pulseRejected_eq]
  refine ⟨fun taken => ?_, fun refused => ?_, fun alone => ?_, fun beaten => ?_, ?_, fun q hq next last stop left => ?_,
    fun q hq l hl ended => ?_, fun limit => ?_⟩
  · exact onChan_accepts hn (pulseGo_of_taken taken)
  · have same : (chan (chReject n 15 s) n).shadow = (chan s n).shadow := by rw [chReject, chan_reject]
    exact ⟨_, (chReject_touches s n 15).onChan hn (pulseGo_of_refused refused), chRejected_chReject s n (by decide), same⟩
  · exact onChan_accepts hn (pulseStop_of_not_mem s alone)
  · have frame : Touches [chA n R.chStat, chA n R.chCnt] s (accept n .pulseStop (updChan n withoutGo (chReject n 15 s))) :=
      ((chReject_touches s n 15).trans (.updChan n _ _)).trans (.accept n _ _)
    have rejected : ChRejected n 15 s (chReject n 15 s) := chRejected_chReject s n (by decide)
    refine ⟨_, frame.onChan hn (pulseStop_of_mem beaten), rejected.of_regs_eq (fun a => ?_) ?_, ?_⟩
    · rw [accept, rd_updChan, rd_updChan]
    · rw [accept, updChan_ddr, updChan_ddr]
    · rw [accept, chan_updChan_same, chan_updChan_same, chReject, chan_reject]
      rfl
  · have frame : Touches [chA n R.chCnt] s (clearChCnt n s) := .wr (by simp) 0 s
    exact ⟨_, frame.onChan hn rfl, rd_wr_same s _ 0, frame.onlyRegs⟩
  · have train : (chan s n).train = some q := hq
    have frame : Touches [] s (beginPulse n s) := .updChan n _ s
    exact ⟨_, frame.whenDue (due := (pulseBeginDue · n)) hn (pulseBeginDue_of train next last stop left) rfl, frame.onlyRegs, train_beginPulse train⟩
  · have train : (chan s n).train = some q := hq
    have frame : Touches [] s (endPulse n s) := .updChan n _ s
    exact ⟨_, frame.whenDue (due := (pulseEndDue · n)) hn (pulseEndDue_of train hl ended) rfl, frame.onlyRegs, train_endPulse train⟩
  · refine onChan_accepts hn ?_
    rw [isLimit_of_mem limit]
    rfl

end Sys2Proof.Machine
end

section
/-! PROOFS. The Range Control Bus (02 R79 to R88): frames in the lists of a bus, what a firing does, errors and acknowledgements, and
O21 assembled from them. -/

namespace Sys2Proof.Machine

variable {s t u : State} {g n : Nat} {fr x : Frame}

/-! ### Lists of frames -/

theorem mem_of_pickFrame {f : Frame → Bool} {l : List Frame} (h : pickFrame f l = some fr) : fr ∈ l := by
  induction l with
  | nil => cases h
  | cons y l ih =>
    unfold pickFrame at h
    split at h
    · split at h
      · exact Option.some.inj h ▸ List.mem_cons_self
      · cases h
    · next m hm =>
      split at h
      · exact Option.some.inj h ▸ List.mem_cons_self
      · exact List.mem_cons_of_mem y (ih (hm.trans h))

theorem mem_replaceFrame {l : List Frame} (h : fr ∈ l) (x : Frame) : x ∈ replaceFrame fr x l := by
  induction l with
  | nil => cases h
  | cons y l ih =>
    unfold replaceFrame
    split
    · exact List.mem_cons_self
    · next hne => exact List.mem_cons_of_mem y (ih ((List.mem_cons.1 h).resolve_left (Ne.symm hne)))

theorem frames_setFrame (hg : fr.ch / 8 = g) (x : Frame) (s : State) :
    (rcb (setFrame fr x s) g).frames = replaceFrame fr x (rcb s g).frames := by
  subst hg
  rw [setFrame, rcb_updRcb_same]

theorem mem_setFrame (hg : fr.ch / 8 = g) (h : fr ∈ (rcb s g).frames) (x : Frame) : x ∈ (rcb (setFrame fr x s) g).frames := by
  rw [frames_setFrame hg]
  exact mem_replaceFrame h x

theorem frames_delFrame (hg : fr.ch / 8 = g) (s : State) : (rcb (delFrame fr s) g).frames = removeFrame fr (rcb s g).frames := by
  subst hg
  rw [delFrame, rcb_updRcb_same]

theorem mem_of_nextShift (h : nextShift s g = some fr) : fr ∈ (rcb s g).frames := by
  unfold nextShift at h
  split at h
  · exact mem_of_pickFrame h
  · cases h

theorem mem_of_nextLatch (h : nextLatch s g = some fr) : fr ∈ (rcb s g).frames := by
  unfold nextLatch at h
  split at h
  · exact mem_of_pickFrame h
  · cases h

theorem mem_of_firing (h : firing s g = some fr) : fr ∈ (rcb s g).frames := List.mem_of_find?_eq_some h

/-- A fold that keeps what it has or takes the item before it finds an item of the list, or what it began with. -/
theorem mem_of_foldl_choice {α : Type} {choose : Option α → α → Option α} (hc : ∀ r x y, choose r x = some y → y = x ∨ r = some y)
    {l : List α} {r : Option α} {y : α} (h : l.foldl choose r = some y) : y ∈ l ∨ r = some y := by
  induction l generalizing r with
  | nil => exact .inr h
  | cons x l ih =>
    rcases ih h with hy | hy
    · exact .inl (List.mem_cons_of_mem x hy)
    · exact (hc r x y hy).imp (fun e => List.mem_cons.2 (.inl e)) id

theorem mem_of_awaiting {e : Frame × Nat} (h : awaiting s g = some e) : e.1 ∈ (rcb s g).frames := by
  have found := (mem_of_foldl_choice (fun r x y hy => ?_) h).resolve_right (by simp)
  · obtain ⟨fr, hfr, he⟩ := List.mem_filterMap.1 found
    split at he
    · exact Option.some.inj he ▸ hfr
    · cases he
  · cases r with
    | none => exact .inl (Option.some.inj hy).symm
    | some z =>
      dsimp only at hy
      split at hy
      · exact .inl (Option.some.inj hy).symm
      · exact .inr hy

/-! ### What touches no register -/

theorem Touches.updRcb (l : List Nat) (g : Nat) (f : Rcb → Rcb) (s : State) : Touches l s (updRcb g f s) :=
  .of_regs_eq rfl ⟨rfl, rfl, rfl⟩

theorem Touches.whenGroup {l : List Nat} {due : State → Bool} {f : State → State} (h : Touches l s t) (hg : GroupIn g s)
    (hd : due s = true) (hf : f s = t) : whenGroup g due s f = .next t := by
  subst hf
  exact whenGroup_next hg hd h.1

theorem touches_setFrame (l : List Nat) (x : Frame) (s : State) : Touches l s (setFrame fr x s) := .updRcb l _ _ s

theorem touches_delFrame (l : List Nat) (s : State) : Touches l s (delFrame fr s) := .updRcb l _ _ s

@[simp] theorem rd_setFrame (x : Frame) (s : State) (a : Nat) : rd (setFrame fr x s) a = rd s a := rd_updRcb s _ _ a

@[simp] theorem rd_delFrame (s : State) (a : Nat) : rd (delFrame fr s) a = rd s a := rd_updRcb s _ _ a

/-! ### Shifting and latching (R79 to R81, R85) -/

/-- The frame as it starts to shift. -/
def shifting (s : State) (g : Nat) (fr : Frame) : Frame :=
  { fr with seq := Map.get 0 (rcb s g).seqs (2 * fr.ch + pnum fr.path), swcode := shiftCode s fr, st := .shifting (s.now + 4)
            shiftTo := s.now + 4 }

/-- What a frame that starts to shift leaves of its bus: five ticks taken, its SEQ taken, and the frame on RCB_DO. -/
theorem startShift_leaves (hg : fr.ch / 8 = g) (h : fr ∈ (rcb s g).frames) :
    (rcb (startShift g fr s) g).busFree = s.now + 5 ∧
      Map.get 0 (rcb (startShift g fr s) g).seqs (2 * fr.ch + pnum fr.path) =
        (Map.get 0 (rcb s g).seqs (2 * fr.ch + pnum fr.path) + 1) % 16 ∧
      shifting s g fr ∈ (rcb (startShift g fr s) g).frames := by
  have eff : startShift g fr s = updRcb g (fun b => { b with
      busFree := s.now + 5
      seqs := Map.put 0 b.seqs (2 * fr.ch + pnum fr.path) ((Map.get 0 (rcb s g).seqs (2 * fr.ch + pnum fr.path) + 1) % 16) })
      (setFrame fr (shifting s g fr) s) := rfl
  rw [eff, rcb_updRcb_same]
  exact ⟨rfl, Map.get_put_same _ _ _ _, mem_setFrame hg h _⟩

theorem touches_startShift : Touches [] s (startShift g fr s) := (touches_setFrame [] _ s).trans (.updRcb _ g _ _)

theorem sendLatch_leaves (hg : fr.ch / 8 = g) (h : fr ∈ (rcb s g).frames) :
    (rcb (sendLatch g fr s) g).latchFree = s.now + 5 ∧ { fr with st := .latched (s.now + 1) } ∈ (rcb (sendLatch g fr s) g).frames := by
  rw [sendLatch, rcb_updRcb_same]
  exact ⟨rfl, mem_setFrame hg h _⟩

theorem touches_sendLatch : Touches [] s (sendLatch g fr s) := (touches_setFrame [] _ s).trans (.updRcb _ g _ _)

/-! ### Errors (R84) -/

/-- The next attempt of a frame, or the frame failed for good. -/
def again (fr : Frame) (f fe now : Nat) : Frame :=
  if fr.attempt < 3 then
    { fr with attempt := fr.attempt + 1, cls := if fr.cls = 1 then 1 else 2, ord := now, feStatus := fe, live := true, st := .queued (f + 8) }
  else { fr with feStatus := fe, st := .failed (f + 8) }

/-- RCB_ERR and RETRY_CNT. -/
def errorShown (fr : Frame) (s : State) : State := flag (chA fr.ch R.chStat) 14 s |> bump (chA fr.ch R.chCnt) 24 8

/-- What a range change that counted from the frame's firing forgets of it (R78). -/
def unfire (fr : Frame) (f : Nat) (c : Chan) : Chan :=
  { c with chg := c.chg.map (fun x => if x.countsFrom fr && x.fire == some f then { x with fire := none, acked := false } else x) }

theorem rcbError_eq (fr : Frame) (f fe : Nat) (s : State) : rcbError fr f fe s =
    if fr.void && fr.attempt < 3 then delFrame fr (errorShown fr s)
    else if ¬ fr.void ∧ (fr.role = .make ∨ fr.role = .switch) then
      updChan fr.ch (unfire fr f) (setFrame fr (again fr f fe (errorShown fr s).now) (errorShown fr s))
    else setFrame fr (again fr f fe (errorShown fr s).now) (errorShown fr s) := rfl

theorem rd_rcbError (fr : Frame) (f fe : Nat) (s : State) (a : Nat) : rd (rcbError fr f fe s) a = rd (errorShown fr s) a := by
  rw [rcbError_eq]
  split
  · exact rd_delFrame _ a
  · split
    · rw [rd_updChan, rd_setFrame]
    · exact rd_setFrame _ _ a

theorem touches_rcbError (fr : Frame) (f fe : Nat) (s : State) :
    Touches [chA fr.ch R.chStat, chA fr.ch R.chCnt] s (rcbError fr f fe s) := by
  have shown : Touches [chA fr.ch R.chStat, chA fr.ch R.chCnt] s (errorShown fr s) := .reject (by simp) (by simp) _ _ _ s
  rw [rcbError_eq]
  split
  · exact shown.trans (touches_delFrame _ _)
  · split
    · exact (shown.trans (touches_setFrame _ _ _)).trans (.updChan _ _ _)
    · exact shown.trans (touches_setFrame _ _ _)

/-- The next attempt is queued, unless the frame is discarded; a third attempt stays as failed. -/
theorem again_mem_rcbError (hg : fr.ch / 8 = g) (h : fr ∈ (rcb s g).frames) (f fe : Nat) (hv : fr.void = false ∨ 3 ≤ fr.attempt) :
    again fr f fe s.now ∈ (rcb (rcbError fr f fe s) g).frames := by
  have kept : ¬ (fr.void && fr.attempt < 3) = true := by
    rcases hv with hv | hv
    · simp [hv]
    · simp [Nat.not_lt.2 hv]
  have stands : again fr f fe s.now ∈ (rcb (setFrame fr (again fr f fe s.now) (errorShown fr s)) g).frames :=
    mem_setFrame hg (by rwa [errorShown, rcb_bump, rcb_flag]) _
  rw [rcbError_eq, if_neg kept, show (errorShown fr s).now = s.now by simp [errorShown]]
  split
  · rwa [rcb_updChan]
  · exact stands

/-- What an error of the frame fired at f leaves (R84). -/
def FrameFails (g : Nat) (fr : Frame) (f fe : Nat) (s t : State) : Prop :=
  gb t (chA fr.ch R.chStat) 14 = true ∧ gf t (chA fr.ch R.chCnt) 24 8 = min (gf s (chA fr.ch R.chCnt) 24 8 + 1) 255 ∧
  (fr.void = false → fr.attempt < 3 →
    { fr with attempt := fr.attempt + 1, cls := if fr.cls = 1 then 1 else 2, ord := s.now, feStatus := fe, live := true, st := .queued (f + 8) } ∈
      (rcb t g).frames) ∧
  (3 ≤ fr.attempt → { fr with feStatus := fe, st := .failed (f + 8) } ∈ (rcb t g).frames) ∧
  OnlyRegs [chA fr.ch R.chStat, chA fr.ch R.chCnt, chA fr.ch R.rcbLast] s t

/-- An error leaves the same whether RCB_LAST has taken a status frame before it or not. -/
theorem rcbError_fails (hg : fr.ch / 8 = g) (h : fr ∈ (rcb s g).frames) (f fe : Nat) (hu : Touches [chA fr.ch R.rcbLast] s u)
    (hf : rcb u g = rcb s g) (hnow : u.now = s.now) : FrameFails g fr f fe s (rcbError fr f fe u) := by
  have mem : fr.void = false ∨ 3 ≤ fr.attempt → again fr f fe s.now ∈ (rcb (rcbError fr f fe u) g).frames := by
    rw [← hnow]
    exact again_mem_rcbError hg (hf ▸ h) f fe
  have frame : Touches [chA fr.ch R.chStat, chA fr.ch R.chCnt, chA fr.ch R.rcbLast] s (rcbError fr f fe u) :=
    (hu.mono (by simp)).trans ((touches_rcbError fr f fe u).mono (by simp))
  have count : gf u (chA fr.ch R.chCnt) 24 8 = gf s (chA fr.ch R.chCnt) 24 8 := by rw [gf, hu.2 _ (by simp), gf]
  refine ⟨?_, ?_, fun hv ha => ?_, fun ha => ?_, frame.onlyRegs⟩
  · rw [gb_eq_rd _ (rd_rcbError fr f fe u _), errorShown, gb_eq_rd _ (rd_bump_of_ne _ _ _ (by simp)), gb_flag_same _ _ _ (by decide)]
  · rw [gf, rd_rcbError, ← gf, errorShown, gf_bump_byte _ (by decide), gf_flag_of_ne _ _ _ _ (by simp), count]
  · have next := mem (.inl hv)
    rwa [again, if_pos ha] at next
  · have next := mem (.inr ha)
    rwa [again, if_neg (Nat.not_lt.2 ha)] at next

/-! ### Acknowledgements (R83) -/

/-- What RCB_LAST takes of a status frame. -/
def statusWord (bits : Nat) : Word := BitVec.ofNat 32 (bits / 2 ^ 16 % 2 ^ 16 + bits / 2 ^ 32 % 16 * 2 ^ 16)

/-- RCB_LAST shows a status frame. -/
def statusShown (fr : Frame) (bits : Nat) (s : State) : State := wr (chA fr.ch R.rcbLast) (statusWord bits) s

theorem touches_statusShown (fr : Frame) (bits : Nat) (s : State) : Touches [chA fr.ch R.rcbLast] s (statusShown fr bits s) :=
  .wr (by simp) _ s

theorem touches_acked (l : List Nat) (fr : Frame) (f a : Nat) (s : State) : Touches l s (acked fr f a s) := by
  unfold acked
  split
  · exact .updChan _ _ s
  · exact .updChan _ _ s
  · exact .updChan _ _ s
  · exact .refl l s

theorem rcb_acked (fr : Frame) (f a : Nat) (s : State) (g : Nat) : rcb (acked fr f a s) g = rcb s g := by
  unfold acked
  split <;> rfl

/-- The frame acknowledged leaves the bus. -/
def ackTaken (fr : Frame) (bits : Nat) (s : State) : State := delFrame fr (statusShown fr bits s)

/-- An acknowledgement in time and valid: what waits for the frame goes on, unless the frame is discarded. -/
theorem takeStatus_valid {bits f : Nat} (ha : awaiting s g = some (fr, f)) (hv : ackValid fr bits = true) (hr : fr.rel = false) :
    takeStatus g false bits s =
      if fr.void then ackTaken fr bits s else acked fr f (ackTaken fr bits s).now (ackTaken fr bits s) := by
  rw [takeStatus, ha]
  simp only [hv, hr, Bool.false_eq_true, if_false, if_true]
  rfl

theorem takeStatus_valid_leaves {bits f : Nat} (hg : fr.ch / 8 = g) (ha : awaiting s g = some (fr, f)) (hv : ackValid fr bits = true)
    (hr : fr.rel = false) : Touches [chA fr.ch R.rcbLast] s (takeStatus g false bits s) ∧
      rd (takeStatus g false bits s) (chA fr.ch R.rcbLast) = statusWord bits ∧
      (rcb (takeStatus g false bits s) g).frames = removeFrame fr (rcb s g).frames := by
  have taken : Touches [chA fr.ch R.rcbLast] s (ackTaken fr bits s) := (touches_statusShown fr bits s).trans (touches_delFrame _ _)
  have shown : rd (ackTaken fr bits s) (chA fr.ch R.rcbLast) = statusWord bits := by
    rw [ackTaken, rd_delFrame, statusShown, rd_wr_same]
  have gone : (rcb (ackTaken fr bits s) g).frames = removeFrame fr (rcb s g).frames := by
    rw [ackTaken, frames_delFrame hg, statusShown, rcb_wr]
  rw [takeStatus_valid ha hv hr]
  split
  · exact ⟨taken, shown, gone⟩
  · have more := touches_acked [] fr f (ackTaken fr bits s).now (ackTaken fr bits s)
    exact ⟨taken.trans (more.mono (List.nil_subset _)), (more.2 _ (by simp)).trans shown, by rw [rcb_acked, gone]⟩

theorem takeStatus_late {bits f : Nat} (ha : awaiting s g = some (fr, f)) :
    takeStatus g true bits s = rcbError fr f (bits / 2 ^ 16 % 2 ^ 16) s := by
  rw [takeStatus, ha]
  rfl

theorem takeStatus_invalid {bits f : Nat} (ha : awaiting s g = some (fr, f)) (hv : ackValid fr bits = false) :
    takeStatus g false bits s = rcbError fr f (bits / 2 ^ 16 % 2 ^ 16) (statusShown fr bits s) := by
  rw [takeStatus, ha]
  simp only [hv, Bool.false_eq_true, if_false]
  rfl

/-- A status frame that is late or invalid is an error of its frame; one in time is shown before it. -/
theorem takeStatus_error {bits f : Nat} {late : Bool} (ha : awaiting s g = some (fr, f)) (hb : late = true ∨ ackValid fr bits = false) :
    ∃ u, takeStatus g late bits s = rcbError fr f (bits / 2 ^ 16 % 2 ^ 16) u ∧ Touches [chA fr.ch R.rcbLast] s u ∧
      rcb u g = rcb s g ∧ u.now = s.now := by
  cases late with
  | true => exact ⟨s, takeStatus_late ha, .refl _ s, rfl, rfl⟩
  | false => exact ⟨_, takeStatus_invalid ha (hb.resolve_left Bool.false_ne_true), touches_statusShown fr bits s, rcb_wr _ _ _ g, wr_now _ _ _⟩

/-! ### Frames that failed for good (R84) -/

/-- The channel of a frame that failed for good, unless a DISCONNECT has discarded it. -/
def heldFor (fr : Frame) (s : State) : State :=
  if fr.void then s
  else whenB (modeNow s fr.ch != 0) (sb (chA fr.ch R.chStat) 10 true)
    (updChan fr.ch (fun c => { c with holdFrames := c.holdFrames.filter (fun x => !x.same fr) ++ [fr] }) s)

theorem noAck_eq (fr : Frame) (s : State) :
    noAck fr s = sendMsg (srcChan fr.ch) 0x08 (fr.body / 2 ^ 24 % 2 ^ 16) fr.feStatus (heldFor fr (delFrame fr s)) := rfl

theorem heldFor_touches (fr : Frame) (s : State) : Touches [chA fr.ch R.chStat] s (heldFor fr s) := by
  unfold heldFor
  split
  · exact .refl _ s
  · exact (Touches.updChan _ _ s).trans (.whenB _ (.sb (by simp) _ _ _))

theorem rcb_heldFor (fr : Frame) (s : State) (g : Nat) : rcb (heldFor fr s) g = rcb s g := by
  unfold heldFor
  split
  · rfl
  · exact whenB_keeps (rcb · g) (rcb_sb _ _ _ _ g) _

theorem holdFrames_heldFor (hv : fr.void = false) (s : State) : fr ∈ (chan (heldFor fr s) fr.ch).holdFrames := by
  rw [heldFor, if_neg (by simp [hv]), whenB_keeps (chan · fr.ch) (chan_sb _ _ _ _ _) _, chan_updChan_same]
  exact List.mem_append_right _ (List.mem_singleton.2 rfl)

theorem inHold_heldFor (hv : fr.void = false) (hm : modeNow s fr.ch ≠ 0) : inHold (heldFor fr s) fr.ch = true := by
  rw [heldFor, if_neg (by simp [hv]), bne_iff_ne.2 hm]
  exact gb_sb_same _ _ _ _ (by decide)

theorem touches_noAck (fr : Frame) (s : State) : Touches [chA fr.ch R.chStat] s (noAck fr s) :=
  ((touches_delFrame _ s).trans (heldFor_touches fr _)).trans (.sendMsg _ _ _ _ _)

theorem frames_noAck (hg : fr.ch / 8 = g) (s : State) : (rcb (noAck fr s) g).frames = removeFrame fr (rcb s g).frames := by
  rw [noAck_eq, sendMsg, rcb_sendRaw, rcb_heldFor, frames_delFrame hg]

theorem noAck_holds (hv : fr.void = false) (s : State) :
    fr ∈ (chan (noAck fr s) fr.ch).holdFrames ∧ (modeNow s fr.ch ≠ 0 → inHold (noAck fr s) fr.ch = true) := by
  rw [noAck_eq, sendMsg, chan_sendRaw]
  refine ⟨holdFrames_heldFor hv _, fun hm => ?_⟩
  rw [inHold, gb_sendRaw]
  exact inHold_heldFor hv (by rwa [modeNow, delFrame, gf_updRcb])

theorem noAck_reports (fr : Frame) (s : State) : Reports (0x20 + fr.ch) 0x08 (noAck fr s) := by
  rw [noAck_eq]
  exact ⟨_, mem_insMsg _ _, rfl, rfl, rfl⟩

/-! ### Firing (R53, R74, R77, R80; 05 R448) -/

/-- A step of a firing that leaves alone whether the channel is disconnected and what the front end has presented. -/
structure FireStep (n : Nat) (s t : State) : Prop where
  touches : Touches [chA n R.rngStat] s t
  connected : (chan t n).disconnected = (chan s n).disconnected
  sensed : ∀ p, ((chan t n).path p).sensed = ((chan s n).path p).sensed

namespace FireStep

theorem refl (n : Nat) (s : State) : FireStep n s s := ⟨.refl _ s, rfl, fun _ => rfl⟩

theorem trans (h : FireStep n s t) (h' : FireStep n t u) : FireStep n s u :=
  ⟨h.touches.trans h'.touches, h'.connected.trans h.connected, fun p => (h'.sensed p).trans (h.sensed p)⟩

theorem updChan (f : Chan → Chan) (s : State)
    (keeps : ∀ c, (f c).disconnected = c.disconnected ∧ (f c).mv.sensed = c.mv.sensed ∧ (f c).mi.sensed = c.mi.sensed := by
      exact fun _ => ⟨rfl, rfl, rfl⟩) : FireStep n s (updChan n f s) := by
  obtain ⟨hd, hv, hi⟩ := keeps (chan s n)
  refine ⟨.updChan n f s, by rw [chan_updChan_same, hd], fun p => ?_⟩
  rw [chan_updChan_same]
  cases p
  · exact hv
  · exact hi

theorem updRcb (g : Nat) (f : Rcb → Rcb) (s : State) : FireStep n s (updRcb g f s) :=
  ⟨.updRcb _ g f s, by rw [chan_updRcb], fun p => by rw [chan_updRcb]⟩

theorem queueFrame (x : Frame) (s : State) : FireStep n s (queueFrame x s) := updRcb _ _ s

theorem sf (lo len v : Nat) (s : State) : FireStep n s (sf (chA n R.rngStat) lo len v s) :=
  ⟨.sf (by simp) lo len v s, by rw [chan_sf], fun p => by rw [chan_sf]⟩

theorem count (ev q : Nat) (s : State) : FireStep n s (count ev q s) :=
  ⟨.of_regs_eq rfl ⟨rfl, rfl, rfl⟩, by rw [Machine.count, chan_countBy], fun p => by rw [Machine.count, chan_countBy]⟩

theorem updChg (f : Change → Change) (s : State) : FireStep n s (updChg n f s) := updChan _ s

theorem chgDone (s : State) : FireStep n s (chgDone n s) := ((sf _ _ _ s).trans (count 0x05 n _)).trans (updChan _ _)

end FireStep

theorem nextEntry_step (n : Nat) (s : State) : FireStep n s (nextEntry n s) := by
  unfold nextEntry
  split
  · split
    · exact (FireStep.updChan _ s).trans (.queueFrame _ _)
    · exact .refl n s
  · exact .refl n s

theorem queueBreak_step (n : Nat) (c : Change) (s : State) : FireStep n s (queueBreak n c s) :=
  (FireStep.updRcb _ _ s).trans (.queueFrame _ _)

/-- What a frame presents by its OPC from its firing on: a slot (1), a connected channel (4), or no slot of its own (5; 02 R82). -/
def presented (fr : Frame) (f : Nat) (s : State) : State :=
  let s := if fr.opc = 1 then pushSensed fr.ch fr.path fr.slot f s else s
  let s := if fr.opc = 4 then updChan fr.ch (fun c => { c with disconnected := false }) s else s
  if fr.opc = 5 then pushUnsensed fr.ch f s else s

/-- A frame with OPC 0 presents nothing, so that its firing is what the role of the frame makes of it. -/
theorem fired_eq (fr : Frame) (f : Nat) (s : State) : fired fr f s = fired { fr with opc := 0 } f (presented fr f s) := rfl

/-- What the role of a frame makes of its firing: steps, and for the BREAK of a tack at last a slot that is presented. -/
theorem fired_role (h : fr.opc = 0) (f : Nat) (s : State) :
    ∃ u, FireStep fr.ch s u ∧ (fired fr f s = u ∨ ∃ slot, fired fr f s = pushSensed fr.ch fr.path slot f u) := by
  have alone {t : State} (step : FireStep fr.ch s t) :
      ∃ u, FireStep fr.ch s u ∧ (t = u ∨ ∃ slot, t = pushSensed fr.ch fr.path slot f u) := ⟨t, step, .inl rfl⟩
  simp only [fired, h, if_false, OfNat.zero_ne_ofNat, zero_ne_one]
  split
  · exact alone (.refl _ s)
  cases fr.role with
  | entry =>
    dsimp only
    split
    · exact alone (nextEntry_step _ s)
    · exact alone (.refl _ s)
  | forceEn => exact alone (.updChan _ s)
  | switch => exact alone (.updChg _ s)
  | make =>
    dsimp only
    split
    · split
      · exact alone ((FireStep.updChg _ s).trans (queueBreak_step _ _ _))
      · exact alone (.refl _ s)
    · exact alone (.refl _ s)
  | break_ =>
    dsimp only
    split
    · next c _ =>
      split
      · have shown := ((FireStep.updChg (n := fr.ch) (fun c => { c with phase := .break_, breakFire := some f }) s).trans
          (.sf 8 3 5 _)).trans (.chgDone _)
        have mixing : FireStep fr.ch s (updMeas fr.ch fr.path (fun m => { m with splitTo := some (s.now + 2) })
            (chgDone fr.ch (setPhase fr.ch 5 (updChg fr.ch (fun c => { c with phase := .break_, breakFire := some f }) s)))) :=
          shown.trans (.updChan _ _ fun c => by cases fr.path <;> exact ⟨rfl, rfl, rfl⟩)
        exact ⟨_, mixing, .inr ⟨c.target, rfl⟩⟩
      · exact alone (.refl _ s)
    · exact alone (.refl _ s)
  | _ => exact alone (.refl _ s)

theorem touches_pushSensed (l : List Nat) (n : Nat) (p : Path) (slot f : Nat) (s : State) : Touches l s (pushSensed n p slot f s) :=
  .updChan n _ s

theorem connected_pushSensed (n : Nat) (p : Path) (slot f : Nat) (s : State) :
    (chan (pushSensed n p slot f s) n).disconnected = (chan s n).disconnected := by
  rw [pushSensed, updMeas, chan_updChan_same]
  cases p <;> rfl

theorem sensed_pushSensed (n : Nat) (p : Path) (slot f : Nat) (s : State) :
    ((chan (pushSensed n p slot f s) n).path p).sensed = ((f, some slot) :: ((chan s n).path p).sensed).take 8 := by
  rw [pushSensed, updMeas, chan_updChan_same]
  cases p <;> rfl

theorem presented_keeps {β : Type} (q : State → β) (hq : ∀ h u, q (updChan fr.ch h u) = q u) (f : Nat) (s : State) :
    q (presented fr f s) = q s := by
  have whenOpc (k : Nat) {a : State → State} (ha : ∀ u, q (a u) = q u) (u : State) : q (if fr.opc = k then a u else u) = q u := by
    split
    · exact ha u
    · rfl
  have slot (u : State) : q (pushSensed fr.ch fr.path fr.slot f u) = q u := by
    rw [pushSensed, updMeas, hq]
  have unsensed (u : State) : q (pushUnsensed fr.ch f u) = q u := by
    rw [pushUnsensed, updMeas, updMeas, hq, hq]
  exact ((whenOpc 5 unsensed _).trans (whenOpc 4 (hq _) _)).trans (whenOpc 1 slot s)

theorem touches_presented (l : List Nat) (fr : Frame) (f : Nat) (s : State) : Touches l s (presented fr f s) :=
  .of_regs_eq (presented_keeps (·.regs) (fun h u => updChan_regs u _ h) f s)
    ⟨presented_keeps (·.pending) (fun h u => updChan_pending u _ h) f s,
      presented_keeps (·.inReset) (fun h u => updChan_inReset u _ h) f s, presented_keeps (·.ddr) (fun h u => updChan_ddr u _ h) f s⟩

theorem rcb_presented (fr : Frame) (f : Nat) (s : State) (g : Nat) : rcb (presented fr f s) g = rcb s g :=
  presented_keeps (rcb · g) (fun h u => rcb_updChan u _ h g) f s

theorem presented_connect (h : fr.opc = 4) (f : Nat) (s : State) :
    presented fr f s = updChan fr.ch (fun c => { c with disconnected := false }) s := by simp [presented, h]

theorem presented_slot (h : fr.opc = 1) (f : Nat) (s : State) : presented fr f s = pushSensed fr.ch fr.path fr.slot f s := by
  simp [presented, h]

theorem fired_touches (fr : Frame) (f : Nat) (s : State) : Touches [chA fr.ch R.rngStat] s (fired fr f s) := by
  obtain ⟨u, step, done⟩ := fired_role (fr := { fr with opc := 0 }) rfl f (presented fr f s)
  rw [fired_eq]
  have reached := (touches_presented _ fr f s).trans step.touches
  rcases done with done | ⟨slot, done⟩
  · rwa [done]
  · rw [done]
    exact reached.trans (touches_pushSensed _ _ _ _ _ u)

theorem fired_connects (h : fr.opc = 4) (f : Nat) (s : State) : (chan (fired fr f s) fr.ch).disconnected = false := by
  obtain ⟨u, step, done⟩ := fired_role (fr := { fr with opc := 0 }) rfl f (presented fr f s)
  have connected : (chan u fr.ch).disconnected = false := by rw [step.connected, presented_connect h, chan_updChan_same]
  rw [fired_eq]
  rcases done with done | ⟨slot, done⟩
  · rwa [done]
  · rwa [done, connected_pushSensed]

theorem fired_presents (h : fr.opc = 1) (f : Nat) (s : State) : (f, some fr.slot) ∈ ((chan (fired fr f s) fr.ch).path fr.path).sensed := by
  obtain ⟨u, step, done⟩ := fired_role (fr := { fr with opc := 0 }) rfl f (presented fr f s)
  have first : ((chan u fr.ch).path fr.path).sensed = ((f, some fr.slot) :: ((chan s fr.ch).path fr.path).sensed).take 8 := by
    rw [step.sensed, presented_slot h, sensed_pushSensed]
  rw [fired_eq]
  rcases done with done | ⟨slot, done⟩
  · rw [done, first]
    simp
  · rw [done, sensed_pushSensed, first]
    simp

theorem frames_queueFrame (x : Frame) (s : State) (g : Nat) : (rcb s g).frames ⊆ (rcb (queueFrame x s) g).frames := by
  rw [queueFrame, rcb_updRcb]
  split
  · next e => exact e ▸ List.subset_append_left _ _
  · exact List.Subset.refl _

theorem frames_nextEntry (n : Nat) (s : State) (g : Nat) : (rcb s g).frames ⊆ (rcb (nextEntry n s) g).frames := by
  unfold nextEntry
  split
  · split
    · exact frames_queueFrame _ (updChan n _ s) g
    · exact List.Subset.refl _
  · exact List.Subset.refl _

/-- A firing leaves the frames of the bus, but for those that the firing of a MAKE discards. -/
theorem frames_fired (h : fr.role ≠ .make) (f : Nat) (s : State) (g : Nat) : (rcb s g).frames ⊆ (rcb (fired fr f s) g).frames := by
  have role (u : State) : (rcb u g).frames ⊆ (rcb (fired { fr with opc := 0 } f u) g).frames := by
    simp only [fired, if_false, OfNat.zero_ne_ofNat, zero_ne_one]
    split
    · exact List.Subset.refl _
    cases hr : fr.role with
    | entry =>
      dsimp only
      split
      · exact frames_nextEntry fr.ch u g
      · exact List.Subset.refl _
    | make => exact absurd hr h
    | break_ =>
      dsimp only
      split
      · split
        · simp only [pushSensed, updMeas, chgDone, Machine.count, setPhase, updChg, rcb_updChan, rcb_sf, rcb_bump, rcb_countBy]
          exact List.Subset.refl _
        · exact List.Subset.refl _
      · exact List.Subset.refl _
    | _ => exact List.Subset.refl _
  rw [fired_eq, ← rcb_presented fr f s g]
  exact role _

/-- The frame fires (R80). -/
theorem fireFrame_of_firing (h : firing s g = some fr) (hr : fr.rel = false) :
    fireFrame g s = fired fr s.now (setFrame fr { fr with st := .fired s.now } s) := by
  rw [fireFrame, h]
  exact if_neg (by simp [hr])

theorem touches_fire (fr : Frame) (s : State) :
    Touches [chA fr.ch R.rngStat] s (fired fr s.now (setFrame fr { fr with st := .fired s.now } s)) :=
  (touches_setFrame _ _ s).trans (fired_touches fr s.now _)

/-! ### The answers of the commands -/

section answers
variable (hg : GroupIn g s)
include hg

theorem frameShift_next (h : nextShift s g = some fr) : exec (.frameShift g) s = .next (startShift g fr s) := by
  show execFrameShift g s = _
  exact touches_startShift.whenGroup hg (by rw [h]; rfl) (by rw [h])

theorem latchWord_next (h : nextLatch s g = some fr) : exec (.latchWord g) s = .next (sendLatch g fr s) := by
  show execLatchWord g s = _
  exact touches_sendLatch.whenGroup hg (by rw [h]; rfl) (by rw [h])

theorem frameFire_next (h : firing s g = some fr) (hr : fr.rel = false) :
    exec (.frameFire g) s = .next (fired fr s.now (setFrame fr { fr with st := .fired s.now } s)) := by
  show execFrameFire g s = _
  exact (touches_fire fr s).whenGroup hg (by rw [h]; rfl) (fireFrame_of_firing h hr)

theorem statusFrame_next {l : List Nat} {late : Bool} {bits : BitVec 48} {e : Frame × Nat} (h : awaiting s g = some e)
    (ht : Touches l s (takeStatus g late bits.toNat s)) : exec (.statusFrame g late bits) s = .next (takeStatus g late bits.toNat s) := by
  show execStatusFrame g late bits s = _
  exact ht.whenGroup hg (by rw [h]; rfl) rfl

theorem ackTimeout_next {e : Frame × Nat} (h : awaiting s g = some e) (hl : e.2 + 3 ≤ s.now) :
    exec (.ackTimeout g) s = .next (rcbError e.1 e.2 0xFFFF s) := by
  show execAckTimeout g s = _
  refine (touches_rcbError e.1 e.2 0xFFFF s).whenGroup hg ?_ ?_
  · simp [ackLate, h, hl]
  · rw [ackMissing, h]

theorem rcbNoack_next (h : failedDue s g = some fr) : exec (.rcbNoack g) s = .next (noAck fr s) := by
  show execRcbNoack g s = _
  exact (touches_noAck fr s).whenGroup hg (by rw [h]; rfl) (by rw [h])

end answers

theorem rcbClockRestart_next (ho : Operating s) {u : Nat} (h : s.rcbStop = some u) (hu : u ≤ s.now) :
    exec .rcbClockRestart s = .next { s with rcbStop := none } := by
  have frame : Touches [] s { s with rcbStop := none } := .of_regs_eq rfl ⟨rfl, rfl, rfl⟩
  refine frame.clocked (f := fun t => whenB (rcbRestartDue t) rcbRestart t) ho ?_
  rw [rcbRestartDue, h]
  exact if_pos (by simpa using hu)

/-! ### The statement -/

/-- Settles O21: each command by the rule for the frame that it finds first in its state. -/
theorem rangeControlBusCommands : Obligations.RangeControlBusCommands := by
  unfold Obligations.RangeControlBusCommands
  intro s g late bits hg
  refine ⟨fun fr (next : nextShift s g = some fr) hc => ?_, fun fr (next : nextLatch s g = some fr) hc => ?_,
    fun fr (now : firing s g = some fr) hc hr => ?_,
    fun e (waits : awaiting s g = some (e.1, e.2)) hc => ⟨fun hl hv hr => ?_, fun hb => ?_, fun ht => ?_⟩,
    fun fr (due : failedDue s g = some fr) hc => ?_, fun u (stopped : s.rcbStop = some u) ended => ?_⟩
  · obtain ⟨busy, taken, shifts⟩ := startShift_leaves hc (mem_of_nextShift next)
    exact ⟨_, frameShift_next hg next, busy, taken, ⟨_, shifts, rfl, rfl, rfl, rfl, rfl, rfl⟩, touches_startShift.onlyRegs⟩
  · obtain ⟨busy, latched⟩ := sendLatch_leaves hc (mem_of_nextLatch next)
    exact ⟨_, latchWord_next hg next, busy, latched, touches_sendLatch.onlyRegs⟩
  · have shown : { fr with st := .fired s.now } ∈ (rcb (setFrame fr { fr with st := .fired s.now } s) g).frames :=
      mem_setFrame hc (mem_of_firing now) _
    exact ⟨_, frameFire_next hg now hr, fun role => frames_fired role _ _ g shown, fun opc => fired_connects opc _ _,
      fun opc => List.contains_iff_mem.2 (fired_presents opc _ _), (touches_fire fr s).onlyRegs⟩
  · subst hl
    obtain ⟨frame, last, gone⟩ := takeStatus_valid_leaves hc waits hv hr
    exact ⟨_, statusFrame_next hg waits frame, gone, last, frame.onlyRegs⟩
  · obtain ⟨u, error, shown, same, now⟩ := takeStatus_error waits hb
    have frame : Touches [chA e.1.ch R.rcbLast, chA e.1.ch R.chStat, chA e.1.ch R.chCnt] s (takeStatus g late bits.toNat s) := by
      rw [error]
      exact (shown.mono (by simp)).trans ((touches_rcbError _ _ _ u).mono (by simp))
    refine ⟨_, statusFrame_next hg waits frame, ?_⟩
    rw [error]
    exact rcbError_fails hc (mem_of_awaiting waits) _ _ shown same now
  · exact ⟨_, ackTimeout_next hg waits ht, rcbError_fails hc (mem_of_awaiting waits) _ _ (.refl _ s) rfl rfl⟩
  · exact ⟨_, rcbNoack_next hg due, frames_noAck hc s, fun hv => noAck_holds hv s, noAck_reports fr s, (touches_noAck fr s).onlyRegs⟩
  · exact rcbClockRestart_next hg.1 stopped ended

end Sys2Proof.Machine
end

section
/-! PROOFS. COEF (09 R255): what the instruction stages (03 R114), commits, has accepted of the repetitive controller (04 R130, R131) and of
the reef set (04 R139), and O6 assembled from them. -/

namespace Sys2Proof.Machine

variable (s : State)

/-! ### The state an instruction acts on -/

@[simp] theorem rd_ran (n x cost a : Nat) : rd (ran n x cost s) a = rd s a := rd_takeSlots s n cost _ a

@[simp] theorem hasRc_ran (n x cost : Nat) : hasRc (ran n x cost s) = hasRc s := (rfl)

@[simp] theorem reefAhead_ran (n x cost m : Nat) : reefAhead (ran n x cost s) m = reefAhead s m := (rfl)

@[simp] theorem reefRefused_ran (n x cost m : Nat) : reefRefused (ran n x cost s) m = reefRefused s m := (rfl)

theorem chA_add (n o d : Nat) : chA n (o + d) = chA n o + d := (Nat.add_assoc _ o d).symm

section instruction
variable {s : State} {n x cost : Nat} {f : TF} {ok : Bool}

/-- Only what a body makes of the state with the slots taken counts. -/
theorem tysel_congr {body body' : Nat → State → State} (he : Executes n x cost s)
    (h : body x (ran n x cost s) = body' x (ran n x cost s)) : tysel n cost ok body s = tysel n cost ok body' s := by
  obtain ⟨-, -, bound, -⟩ := he
  have runs : runInstr n cost ok body s = runInstr n cost ok body' s := by
    unfold ran at h
    simp only [runInstr, bound, h]
  simp only [tysel, whenDue, onChan, clocked, live, runs]

variable {i : Instr} {act : Nat → State → State}

/-- An instruction that makes the state u by writing one register of a channel, and reports b in Z. -/
theorem leaves_reg_withZ {off : Nat} {b : Bool} {u : State} (he : Executes n x cost s) (hok : ok = true)
    (hi : exec i s = tysel n cost ok (thenNext f act) s) (ho : off < 0x10000) (ht : act x (ran n x cost s) = putZ x b u)
    (hu : Touches [chA n off] (ran n x cost s) u) :
    ∃ t, exec i s = .next t ∧ rd t (chA n off) = rd u (chA n off) ∧ flagZ t x = b ∧ chan t n = chan u n ∧ MovedOn x f s t ∧
      OnlyRegs [chA n off, cxA x R.cxPc, cxA x R.cxFlags] s t := by
  have n32 : n < 32 := hasChan_lt he.1.2
  have frame := ((ran_touches s _ n x cost).trans hu).putZ x b
  have pcLeft : cxA x R.cxPc ∉ [chA n off] ++ [cxA x R.cxFlags] := by
    simp [(chA_ne_cxA n32 ho x R.cxPc).symm, cx_pc_ne_flags]
  exact ⟨_, hi.trans (tysel_thenNext he hok frame ht), rd_advance_putZ _ n32 ho x f b, flagZ_advance_putZ x f b u,
    (chan_advance n).trans (chan_putZ b n), movedOn_advance frame pcLeft, (frame.advance.mono (List.Perm.swap _ _ _).subset).onlyRegs⟩

/-- An instruction whose write a unit turns away with a flag of one register alone, which counts nothing. -/
theorem refuses_flag {off b : Nat} (he : Executes n x cost s) (hok : ok = true) (hi : exec i s = tysel n cost ok (thenNext f act) s)
    (ho : off < 0x10000) (hb : b < 32) (ht : act x (ran n x cost s) = putZ x true (flag (chA n off) b (ran n x cost s))) :
    Refuses i n x f (chA n off) b [] s := by
  obtain ⟨t, next, reads, z, same, moved, frame⟩ := leaves_reg_withZ he hok hi ho ht (.flag (by simp) b _)
  refine ⟨t, next, z, ?_, by simp, ?_, moved, frame⟩
  · rw [gb_eq_rd _ reads, gb_flag_same _ _ _ hb]
  · rw [same, chan_flag, chan_ran]

/-- A write that joins, as an instruction that reports in Z says it. -/
theorem Joins.withZ {w : FW} (h : Joins i n x f w [cxA x R.cxFlags] s) :
    ∃ t, exec i s = .next t ∧ Accepted n w s t ∧ flagZ t x = false ∧ MovedOn x f s t ∧
      OnlyRegs [cxA x R.cxPc, cxA x R.cxFlags] s t := by
  obtain ⟨t, next, accepted, z, moved, frame⟩ := h
  exact ⟨t, next, accepted, z (List.cons_ne_nil _ _), moved, frame⟩

end instruction

/-! ### Form -/

theorem coefForm_of {f : TF} {op fns : Nat} (hb : TF.rb f = 0) (hx : f.x = true → f.ra = 0) (hop : TF.fn f / 256 = op)
    (hk : TF.fn f % 256 < fns) (hd : f.rd.toNat < 8) : coefForm op fns f = true := by
  have ra : f.x = false ∨ f.ra = 0 := (Bool.eq_false_or_eq_true f.x).symm.imp_right hx
  simpa [coefForm, vOk, hop, hk, hd, hb] using ra

/-- The form of an operation without an operand and of no section, in terms of its FN. -/
theorem coefForm_of_fn {f : TF} {op k fns : Nat} (hb : TF.rb f = 0) (hx : f.x = false) (hra : f.ra = 0) (hd : f.rd = 0)
    (hfn : TF.fn f = 256 * op + k) (hk : k < fns) (hfns : fns ≤ 256) :
    (coefForm op fns f && !f.x && f.ra == 0 && f.rd == 0) = true := by
  have form : coefForm op fns f = true := coefForm_of hb (fun _ => hra) (by omega) (by omega) (by simp [hd])
  simp [form, hx, hra, hd]

/-! ### STAGE -/

/-- The field k of a staging set, in its word at a, takes its bits of v (03 R114). -/
def stageField (a k : Nat) (v : Word) : State → State := if k = 5 then sf a 16 2 (fld v 0 2) else sf a (16 * (k % 2)) 16 (fld v 0 16)

theorem stageField_touches (a k : Nat) (v : Word) : Touches [a] s (stageField a k v s) := by
  unfold stageField
  split
  · exact .sf (by simp) _ _ _ _
  · exact .sf (by simp) _ _ _ _

theorem gf_stageField_coefficient (a : Nat) {k : Nat} (v : Word) (hk : k < 5) :
    gf (stageField a k v s) a (16 * (k % 2)) 16 = fld v 0 16 := by
  rw [stageField, if_neg (by omega), gf_sf_same _ _ _ _ _ (by omega), Nat.mod_eq_of_lt (fld_lt v 0 16)]

theorem gf_stageField_shift (a : Nat) (v : Word) : gf (stageField a 5 v s) a 16 2 = fld v 0 2 := by
  rw [stageField, if_pos rfl, gf_sf_same _ _ _ _ _ (by decide), Nat.mod_eq_of_lt (fld_lt v 0 2)]

/-- STAGE writes its field of the staging set at once. -/
theorem coefStage_leaves {s : State} {n x : Nat} {f : TF} (hb : TF.rb f = 0) (hfn : TF.fn f < 6) (hd : f.rd.toNat < 8)
    (hx : f.x = true → f.ra = 0) (he : Executes n x (TF.words f) s) :
    let a := chA n (R.stg + 16 * f.rd.toNat + 4 * (TF.fn f % 256 / 2))
    ∃ t, exec (.coefStage n f) s = .next t ∧ rd t a = rd (stageField a (TF.fn f % 256) (opV s x f) (ran n x (TF.words f) s)) a ∧
      flagZ t x = false ∧ MovedOn x f s t ∧ OnlyRegs [a, cxA x R.cxPc, cxA x R.cxFlags] s t := by
  have form : coefForm 0 6 f = true := coefForm_of hb hx (by omega) (by omega) hd
  obtain ⟨t, next, reads, z, -, moved, frame⟩ := leaves_reg_withZ (i := .coefStage n f) he form rfl
    (by simp only [R.stg]; omega) rfl (stageField_touches _ _ _ _)
  exact ⟨t, next, reads, z, moved, frame⟩

/-! ### RC -/

/-- The write that the operation k of RC has accepted: LEARN 0, LEARN 1, CLEAR. -/
def rcWrite (k : Nat) : FW := match k with | 0 => .reg R.rcCtrl 1 0 | 1 => .reg R.rcCtrl 1 1 | _ => .rcClear

/-- RC where the repetitive controller is present. -/
theorem exec_coefRc {s : State} {n x : Nat} {f : TF} (he : Executes n x 1 s) (hrc : hasRc s = true) :
    exec (.coefRc n f) s = tysel n 1 (coefForm 2 3 f && !f.x && f.ra == 0 && f.rd == 0)
      (thenNext f (fun x s => withZ x false (accept n (rcWrite (TF.fn f % 256))) s)) s := by
  refine tysel_congr he ?_
  simp only [hasRc_ran, hrc, Bool.not_true, Bool.false_eq_true, if_false, thenNext, withZ]
  congr 2
  rcases TF.fn f % 256 with _ | _ | k
  · rfl
  · rfl
  · exact if_pos hrc

/-- RC has its write accepted. -/
theorem coefRc_joins {s : State} {n x k : Nat} {f : TF} (hb : TF.rb f = 0) (hx : f.x = false) (hra : f.ra = 0) (hd : f.rd = 0)
    (hfn : TF.fn f = 256 * 2 + k) (hk : k < 3) (he : Executes n x 1 s) (hrc : hasRc s = true) :
    Joins (.coefRc n f) n x f (rcWrite k) [cxA x R.cxFlags] s := by
  have op : TF.fn f % 256 = k := by omega
  exact joins_accept_withZ he (coefForm_of_fn hb hx hra hd hfn hk (by decide)) (exec_coefRc he hrc) (by rw [op]; rfl)

/-! ### REEF -/

theorem reefRefused_iff (n : Nat) : reefRefused s n = true ↔
    gb s (chA n 0x3000) 8 = false ∨ reefAhead s n = true ∨ (isClosed (modeNow s n) = false ∧ modeNow s n ≠ 8) := by
  unfold reefRefused gb
  simp [or_assoc]

/-- The operation of REEF_SET and REEF_REL as the instruction runs it: Z reports the refusal. -/
theorem withZ_reefSet_refused {n : Nat} (x : Nat) (h : reefRefused s n = true) :
    withZ x (reefRefused s n) (reefSet n) s = putZ x true (flag (chA n R.luffStat) 3 s) := by
  simp only [withZ, reefSet, reefReject, h, if_true]

theorem withZ_reefSet_accepted {n : Nat} (x : Nat) (h : reefRefused s n = false) :
    withZ x (reefRefused s n) (reefSet n) s = putZ x false (accept n (.reef true) s) := by
  simp only [withZ, reefSet, h, Bool.false_eq_true, if_false]

theorem withZ_reefRel_refused {n : Nat} (x : Nat) (h : reefAhead s n = false) :
    withZ x (!reefAhead s n) (reefRel n) s = putZ x true (flag (chA n R.luffStat) 3 s) := by
  simp only [withZ, reefRel, reefReject, h, Bool.false_eq_true, if_false, Bool.not_false]

theorem withZ_reefRel_accepted {n : Nat} (x : Nat) (h : reefAhead s n = true) :
    withZ x (!reefAhead s n) (reefRel n) s = putZ x false (accept n (.reef false) s) := by
  simp only [withZ, reefRel, h, if_true, Bool.not_true]

/-! ### The statement -/

/-- Settles O6: STAGE writes one register of its channel and reports in Z; COMMIT, RC and an accepted REEF join one write to the shadow
set; a refused REEF leaves its flag of LUFF_STAT. -/
theorem coefficientInstructions : Obligations.CoefficientInstructions := by
  unfold Obligations.CoefficientInstructions
  intro s n x f k v stg writes hb
  refine ⟨fun hfn hd hx he => ?_, fun hx hra he => ⟨fun hop hk hd => ?_, fun hrc hd => ⟨fun h => ?_, fun h => ?_, fun h => ?_⟩,
    fun hd => ⟨fun h valid idle mode => ?_, fun h hr => ?_, fun h engaged => ?_, fun h idle => ?_⟩⟩⟩
  -- STAGE
  · obtain ⟨t, next, reads, z, moved, frame⟩ := coefStage_leaves hb hfn hd hx he
    rw [chA_add] at reads frame
    refine ⟨t, next, fun hk => ?_, fun hk => ?_, z, moved, frame⟩
    · rw [gf, reads]
      exact gf_stageField_coefficient _ _ v hk
    · change TF.fn f % 256 = 5 at hk
      rw [hk] at reads
      rw [gf, reads]
      exact gf_stageField_shift _ _ v
  -- COMMIT
  · have form : (coefForm 1 16 f && !f.x && f.ra == 0) = true := by
      rw [coefForm_of hb (fun _ => hra) hop hk hd, hx, hra]
      rfl
    exact (joins_accept_withZ he form rfl (by simp only [withZ, secCommit, rd_ran]; rfl)).withZ
  -- RC: LEARN 0, LEARN 1, CLEAR
  · exact (coefRc_joins (k := 0) hb hx hra hd h (by decide) he hrc).withZ
  · exact (coefRc_joins (k := 1) hb hx hra hd h (by decide) he hrc).withZ
  · exact (coefRc_joins (k := 2) hb hx hra hd h (by decide) he hrc).withZ
  -- REEF_SET accepted and refused, REEF_REL accepted and refused
  · have accepted : reefRefused s n = false := by
      rw [← Bool.not_eq_true, reefRefused_iff, valid, idle]
      rcases mode with closed | manual
      · simp [closed]
      · simp [manual]
    refine (joins_accept_withZ he (coefForm_of_fn (k := 0) hb hx hra hd h (by decide) (by decide)) rfl ?_).withZ
    simp only [h]
    exact withZ_reefSet_accepted _ x accepted
  · refine refuses_flag he (coefForm_of_fn (k := 0) hb hx hra hd h (by decide) (by decide)) rfl (by decide) (by decide) ?_
    simp only [h]
    exact withZ_reefSet_refused _ x ((reefRefused_iff s n).2 hr)
  · refine (joins_accept_withZ he (coefForm_of_fn (k := 1) hb hx hra hd h (by decide) (by decide)) rfl ?_).withZ
    simp only [h]
    exact withZ_reefRel_accepted _ x engaged
  · refine refuses_flag he (coefForm_of_fn (k := 1) hb hx hra hd h (by decide) (by decide)) rfl (by decide) (by decide) ?_
    simp only [h]
    exact withZ_reefRel_refused _ x idle

end Sys2Proof.Machine
end

section
/-! PROOFS. The two statements on loop supervision that do not hold (04 R137, R145). Each refutation gives a state in which a command
writes a register outside those that the statement lets change. -/

namespace Sys2Proof.Scope

open Sys2Proof.Machine

/-- The detector of CH0 is to assert with REACT FURL, in a tick in which the host has released CH0's furl (13 R362). -/
def luffAfterRelease : State :=
  { awake with
    regs := awake.regs ++ [(chA 0 R.luffCfg, 3)]
    chans := [(0, { luff := { assertDue := true } })]
    fc := { awake.fc with released := [0] } }

/-- Refutes O25: a furl decided in the tick in which the host writes 1 to its latch leaves the latch set (13 R363), so that this
assertion sets CH_FURLED again; the statement, which ranges over every state, lets LUFF_STAT alone change. -/
theorem not_luffAndReef : ¬ Obligations.LuffAndReef := by
  unfold Obligations.LuffAndReef
  intro h
  obtain ⟨-, asserts, -⟩ := h luffAfterRelease 0 (by decide)
  obtain ⟨t, ht, -, -, -, -, only⟩ := asserts (by decide)
  have latched : leadsTo (.loopLuff 0) luffAfterRelease (fun t => gb t R.chFurled 0) = true := by decide +kernel
  have same : gb t R.chFurled 0 = gb luffAfterRelease R.chFurled 0 := gb_eq_rd _ (only.1 R.chFurled (by decide))
  rw [holds_of_leadsTo latched ht] at same
  exact absurd same (by decide)

/-- An injection of one tick into capture stream 0 that has ended after its N ticks, with its header and its tick record written. -/
def endedInjection : Inj where
  first := 0
  last := 0
  chip := false
  prbs0 := 0
  written := 1
  dropped := 0
  cmpTicks := 0
  missed := 0
  rngTicks := 0
  stop := false
  ended := some 0
  headerDone := true
  startTime := 0
  stream := 0
  amp := 0x100
  n := 1
  cfg := 0x01000002

/-- Context 1, bound to CH0, has released capture stream 0 (resource 8, HELD bit 8) while the injection still wrote into it, so that the
release waits for the trailer. -/
def releaseWaits : State :=
  { awake with
    now := 1
    regs := awake.regs ++ [(stA 32 R.strCfg, 1), (cxA 1 R.cxHeldLo, 0x100)]
    res := [(8, { holders := [.ctx 1 0], deferred := true })]
    chans := [(0, { inj := some endedInjection })] }

/-- Refutes O26: a release that waits for the capture takes effect once the trailer is written (08 R239, 04 R145), and clears HELD of
the context that held the stream; the statement lets the registers of the capture stream alone change. -/
theorem not_injections : ¬ Obligations.Injections := by
  unfold Obligations.Injections
  intro h
  obtain ⟨-, -, -, -, -, records⟩ := h releaseWaits 0 (by decide)
  obtain ⟨-, trailer⟩ := records endedInjection (by decide) (by decide)
  obtain ⟨t, ht, -, -, only⟩ := trailer (by decide) 0 (by decide) (by decide)
  have released : leadsTo (.captureTrailerWrite 0) releaseWaits (fun t => !holds t 1 8) = true := by decide +kernel
  have same : holds t 1 8 = holds releaseWaits 1 8 := gb_eq_rd _ (only.1 (cxA 1 R.cxHeldLo) (by decide))
  have dropped := holds_of_leadsTo released ht
  rw [same] at dropped
  exact absurd dropped (by decide)

end Sys2Proof.Scope
end

section
/-! PROOFS. Three statements on the measurement path that do not hold (05 R163, R164, R168; 08 R239). Each refutation gives a state in
which a command writes a register outside those that the statement lets change. -/

namespace Sys2Proof.Scope

open Sys2Proof.Machine

/-- TRIG0, the line event of CH0, asserts in tick 5; it last did in tick 0. Context 0 is bound to CH0 and executes. -/
def lineAgain : State :=
  { awake with
    regs := awake.regs ++ [(cxA 0 R.cxState, 2), (sqA 0 R.seqStat, 0x1000)]
    now := 5
    asserting := [32]
    chans := [(0, { mv := { lsLast := some 0 } })] }

/-- Refutes O8: the line event of a tick comes before the STOP of MEAS (05 R163, R164), and LINE_PER takes the ticks since its last
assertion; the statement lets AP_STAT and the PC alone change. -/
theorem not_measurementInstructions : ¬ Obligations.MeasurementInstructions := by
  unfold Obligations.MeasurementInstructions
  intro h
  obtain ⟨-, stop, -⟩ := h lineAgain 0 0 ⟨0, 0, false, 5, 0⟩
  obtain ⟨t, ht, -, only, -⟩ := stop (by decide) (by decide) (by decide)
  have period : leadsTo (.measStop 0 ⟨0, 0, false, 5, 0⟩) lineAgain (fun t => decide (rd t (chA 0 R.linePer) = 5)) = true := by
    decide +kernel
  have five := of_decide_eq_true (holds_of_leadsTo period ht)
  rw [only.1 (chA 0 R.linePer) (by decide)] at five
  exact absurd five (by decide)

/-- Refutes O27: the line event of a tick comes before AP_CTRL.STOP too, whatever the order in which they arrive (05 R163, R164), and
LINE_PER takes the new period; the statement lets AP_STAT alone change. -/
theorem not_apertures : ¬ Obligations.Apertures := by
  unfold Obligations.Apertures
  intro h
  obtain ⟨-, -, -, -, stop, -⟩ := h lineAgain 0 .v (newAp 0 0) (by decide)
  obtain ⟨t, ht, -, -, -, -, -, -, -, only⟩ := stop
  have period : leadsTo (.apCtrlStop 0 .v) lineAgain (fun t => decide (rd t (chA 0 R.linePer) = 5)) = true := by decide +kernel
  have five := of_decide_eq_true (holds_of_leadsTo period ht)
  rw [only.1 (chA 0 R.linePer) (by decide)] at five
  exact absurd five (by decide)

/-- CH0's capture of tick 0 into capture stream 0 is over; context 1, bound to CH0, has released the stream (resource 8, HELD bit 8) while
the capture still wrote into it, so that the release waits. -/
def captureOver : State :=
  { awake with
    now := 1
    regs := awake.regs ++ [(chA 0 R.rawCfg, 5), (stA 32 R.strCfg, 1), (cxA 1 R.cxHeldLo, 0x100)]
    res := [(8, { holders := [.ctx 1 0], deferred := true })]
    chans := [(0, { raw := some { first := 0, last := 0, blkV := [], blkI := [], tV := 0, tI := 0, dropV := 0, dropI := 0, dst := 32 } })] }

/-- Refutes O28: a release that waits for the capture takes effect as it ends (08 R239), and clears HELD of the context that held the
stream; the statement lets RAW_STAT and the stream's registers alone change. -/
theorem not_capturesCorrectionsAndTables : ¬ Obligations.CapturesCorrectionsAndTables := by
  unfold Obligations.CapturesCorrectionsAndTables
  intro h
  obtain ⟨-, -, -, running, -⟩ := h captureOver 0 0 .v ⟨0, 0, 0, false, 0, 0, 0⟩ 0 (by decide) (by decide)
  obtain ⟨-, -, ends⟩ := running _ rfl
  obtain ⟨t, ht, -, -, only⟩ := ends (by decide)
  have released : leadsTo (.rawCaptureEnd 0) captureOver (fun t => !holds t 1 8) = true := by decide +kernel
  have same : holds t 1 8 = holds captureOver 1 8 := gb_eq_rd _ (only.1 (cxA 1 R.cxHeldLo) (by decide))
  have dropped := holds_of_leadsTo released ht
  rw [same] at dropped
  exact absurd dropped (by decide)

end Sys2Proof.Scope
end

section
/-! PROOFS. The stages of a stream (11 R301 to R303): an offered item, a spill burst and a refill burst, and O41 assembled from them. -/

namespace Sys2Proof.Machine

/-! ### Lists of items -/

theorem headToTail_append (l tail : List (List Byte)) : (headToTail l tail).2 ++ (headToTail l tail).1 = tail ++ l := by
  induction l generalizing tail with
  | nil => simp [headToTail]
  | cons it l ih =>
    unfold headToTail
    split
    · rw [ih, List.append_assoc, List.singleton_append]
    · rfl

theorem spillItems_append (cred : Nat) (l : List (List Byte)) : (spillItems cred l).2.1 ++ (spillItems cred l).2.2 = l := by
  induction l generalizing cred with
  | nil => rfl
  | cons it l ih =>
    unfold spillItems
    split
    · exact congrArg (it :: ·) (ih _)
    · rfl

theorem ringEnds_items (pos : Nat) (l : List (List Byte)) : (ringEnds pos l).map (·.2.2) = l := by
  induction l generalizing pos with
  | nil => rfl
  | cons it l ih => rw [ringEnds, List.map_cons, ih]

/-- The end of an item in the ring is its place and its length. -/
theorem ringEnds_end {pos : Nat} {l : List (List Byte)} {x : Nat × Nat × List Byte} (h : x ∈ ringEnds pos l) :
    x.2.1 = x.1 + x.2.2.length := by
  induction l generalizing pos with
  | nil => cases h
  | cons it l ih =>
    rcases List.mem_cons.1 h with rfl | h
    · rfl
    · exact ih h

/-- The items of the ring that end by a place lie within the bytes before it. -/
theorem ringEnds_before (pos e : Nat) (l : List (List Byte)) :
    (((ringEnds pos l).takeWhile (fun x => decide (x.2.1 ≤ e))).map (·.2.2)).flatten.length ≤ e - pos := by
  induction l generalizing pos with
  | nil => exact Nat.zero_le _
  | cons it l ih =>
    rw [ringEnds, List.takeWhile_cons]
    split
    · next h =>
      have h : pos + it.length ≤ e := of_decide_eq_true h
      have rest := ih (pos + it.length)
      rw [List.map_cons, List.flatten_cons, List.length_append]
      change it.length + _ ≤ _
      omega
    · exact Nat.zero_le _

/-- Items cut out of bytes that begin with their own are the items themselves. -/
theorem cutOut_flatten_append (l : List (List Byte)) (r : List Byte) : cutOut (l.flatten ++ r) l = (l, r) := by
  induction l with
  | nil => rfl
  | cons it l ih =>
    rw [List.flatten_cons, List.append_assoc, cutOut, List.drop_left, List.take_left, ih]

/-! ### Registers of streams and channels -/

@[simp] theorem stA_inj {k a b : Nat} : stA k a = stA k b ↔ a = b := by unfold stA; omega

theorem chA_lt_stA {n off : Nat} (hn : n < 32) (ho : off < 0x10000) (k o : Nat) : chA n off < stA k o := by
  unfold chA stA
  omega

theorem gf_whole (s : State) (a : Nat) : gf s a 0 32 = (rd s a).toNat := by
  unfold gf fld
  rw [pow_zero, Nat.div_one, Nat.mod_eq_of_lt (rd s a).isLt]

/-- A count of 32 bits stops at its largest value. -/
theorem toNat_rd_bump_word (s : State) (a : Nat) : (rd (bump a 0 32 s) a).toNat = min ((rd s a).toNat + 1) (2 ^ 32 - 1) := by
  rw [← gf_whole, gf_bump_same s a 0 32 (by decide), gf_whole]

/-- A count of 16 bits stops at 65535. -/
theorem gf_bump_half (s : State) {a lo : Nat} (h : lo + 16 ≤ 32) : gf (bump a lo 16 s) a lo 16 = min (gf s a lo 16 + 1) 65535 :=
  gf_bump_same s a lo 16 h

/-! ### Operations that keep the items of a stream -/

/-- From s to t stream k keeps its items in their order, the channels' own states stand, and only registers of the list change. -/
structure KeepsItems (k : Nat) (l : List Nat) (s t : State) : Prop where
  frame : Touches l s t
  items : strItems (strm t k) = strItems (strm s k)
  chans : t.chans = s.chans

namespace KeepsItems
variable {k : Nat} {l : List Nat} {s t u : State}

theorem refl (k : Nat) (l : List Nat) (s : State) : KeepsItems k l s s := ⟨.refl l s, rfl, rfl⟩

theorem trans (h : KeepsItems k l s t) (h' : KeepsItems k l t u) : KeepsItems k l s u :=
  ⟨h.frame.trans h'.frame, h'.items.trans h.items, h'.chans.trans h.chans⟩

theorem mono {l' : List Nat} (h : KeepsItems k l s t) (hl : l ⊆ l') : KeepsItems k l' s t := ⟨h.frame.mono hl, h.items, h.chans⟩

theorem wr {a : Nat} (ha : a ∈ l) (w : Word) (s : State) : KeepsItems k l s (wr a w s) := ⟨.wr ha w s, rfl, rfl⟩

theorem count (ev q : Nat) (s : State) : KeepsItems k l s (count ev q s) := ⟨.of_regs_eq rfl ⟨rfl, rfl, rfl⟩, rfl, rfl⟩

theorem updStrm {f : Stream → Stream} (h : strItems (f (strm s k)) = strItems (strm s k)) : KeepsItems k l s (updStrm k f s) :=
  ⟨.of_regs_eq rfl ⟨rfl, rfl, rfl⟩, by rw [strm_updStrm_same, h], rfl⟩

theorem recs_eq (h : KeepsItems k l s t) (n : Nat) : (chan t n).recs = (chan s n).recs := by rw [chan, h.chans, ← chan]

end KeepsItems

variable (s : State) (k : Nat)

theorem readHead_keeps (l : List Nat) : KeepsItems k l s (readHead k s) := by
  unfold readHead
  refine .updStrm ?_
  split <;> rfl

theorem rd_readHead (a : Nat) : rd (readHead k s) a = rd s a := (rfl)

theorem gf_readHead (a lo len : Nat) : gf (readHead k s) a lo len = gf s a lo len := (rfl)

theorem flowStream_of_ring {s : State} {k : Nat} (h : (strm s k).ring ≠ []) : flowStream k s = s :=
  if_pos (by simp [h])

theorem flowStream_keeps (l : List Nat) : KeepsItems k l s (flowStream k s) := by
  unfold flowStream
  dsimp only
  split
  · exact .refl k l s
  · next h =>
    have empty : (strm s k).ring = [] := by simp_all
    refine ⟨.of_regs_eq rfl ⟨rfl, rfl, rfl⟩, ?_, rfl⟩
    rw [strm_updStrm_same]
    change (headToTail (strm s k).head (strm s k).tail).2 ++ (strm s k).ring ++ (headToTail (strm s k).head (strm s k).tail).1 = _
    rw [strItems, empty, List.append_nil, List.append_nil, headToTail_append]

theorem flowStream_wpos : (strm (flowStream k s) k).wpos = (strm s k).wpos := by
  unfold flowStream
  dsimp only
  split
  · rfl
  · rw [strm_updStrm_same]
    rfl

/-! ### Requests that a stream posts -/

/-- A port whose queue does not empty keeps its AGE. -/
theorem enq_arb (r : Req) : enq r s = { s with arb := (enq r s).arb } := by
  unfold enq
  split
  · have filled : (portQ s r.port ++ [r]).isEmpty = false := by simp
    simp only [setPortQ, filled, Bool.false_and, Bool.false_eq_true, if_false]
  · rfl

theorem postSpills_arb (fuel : Nat) : postSpills k fuel s = { s with arb := (postSpills k fuel s).arb } := by
  induction fuel generalizing s with
  | zero => rfl
  | succ fuel ih =>
    unfold postSpills
    split
    · rw [ih, enq_arb]
    · rfl

theorem postRefills_arb (fuel : Nat) : postRefills k fuel s = { s with arb := (postRefills k fuel s).arb } := by
  induction fuel generalizing s with
  | zero => rfl
  | succ fuel ih =>
    unfold postRefills
    dsimp only
    split
    · rw [ih, enq_arb]
    · rfl

theorem postStream_arb : postStream k s = { s with arb := (postStream k s).arb } := by
  unfold postStream
  rw [postRefills_arb, postSpills_arb]

theorem strm_postStream (j : Nat) : strm (postStream k s) j = strm s j := by
  rw [postStream_arb]
  rfl

theorem postStream_keeps (l : List Nat) : KeepsItems k l s (postStream k s) := by
  rw [postStream_arb]
  exact ⟨.of_regs_eq rfl ⟨rfl, rfl, rfl⟩, rfl, rfl⟩

theorem dropInbox_keeps (l : List Nat) (e : Req × Option (List Byte)) : KeepsItems k l s (dropInbox e s) :=
  ⟨.of_regs_eq rfl ⟨rfl, rfl, rfl⟩, rfl, rfl⟩

/-! ### Items discarded and counted -/

theorem strDropItem_keeps : KeepsItems k [stA k R.strStat, stA k R.strDrop] s (strDropItem k s) :=
  ((KeepsItems.wr (by simp) _ s).trans (.wr (by simp) _ _)).trans (.count 0x1A k _)

theorem gb_strDropItem (i : Nat) :
    gb (strDropItem k s) (stA k R.strStat) i = (gb s (stA k R.strStat) i || decide (3 = i)) := by
  have other : stA k R.strDrop ≠ stA k R.strStat := by simp
  rw [strDropItem, Machine.count, gb_countBy, gb_eq_rd _ (rd_bump_of_ne _ _ _ other), gb_flag s (by decide)]

theorem toNat_rd_strDropItem :
    (rd (strDropItem k s) (stA k R.strDrop)).toNat = min ((rd s (stA k R.strDrop)).toNat + 1) (2 ^ 32 - 1) := by
  have other : stA k R.strStat ≠ stA k R.strDrop := by simp
  rw [strDropItem, Machine.count, rd_countBy, toNat_rd_bump_word, rd_flag_of_ne _ _ other]

/-- From s to t an item of stream k has been discarded, counted and shown (R302). -/
structure Discards (k : Nat) (s t : State) : Prop where
  keeps : KeepsItems k [stA k R.strStat, stA k R.strDrop] s t
  shown : gb t (stA k R.strStat) 3 = true
  counted : (rd t (stA k R.strDrop)).toNat = min ((rd s (stA k R.strDrop)).toNat + 1) (2 ^ 32 - 1)

/-- One after operations that leave the registers and the items. -/
theorem strDropItem_discards {s t : State} {k : Nat} (h : KeepsItems k [] s t) : Discards k s (strDropItem k t) where
  keeps := (h.mono (List.nil_subset _)).trans (strDropItem_keeps t k)
  shown := by rw [gb_strDropItem]; exact Bool.or_true _
  counted := by rw [toNat_rd_strDropItem, h.frame.2 _ List.not_mem_nil]

/-- Items discarded one after another count together. -/
theorem toNat_rd_each_strDropItem {α : Type} (xs : List α) :
    (rd (each (fun _ u => strDropItem k u) xs s) (stA k R.strDrop)).toNat =
      min ((rd s (stA k R.strDrop)).toNat + xs.length) (2 ^ 32 - 1) := by
  induction xs generalizing s with
  | nil =>
    have := (rd s (stA k R.strDrop)).isLt
    rw [each, List.length_nil]
    omega
  | cons x xs ih =>
    rw [each, ih, toNat_rd_strDropItem, List.length_cons]
    omega

theorem each_strDropItem_keeps {α : Type} (xs : List α) :
    KeepsItems k [stA k R.strStat, stA k R.strDrop] s (each (fun _ u => strDropItem k u) xs s) := by
  induction xs generalizing s with
  | nil => exact .refl k _ s
  | cons x xs ih =>
    rw [each]
    exact (strDropItem_keeps s k).trans (ih _)

/-- A flag of STR_STAT stands while items are discarded. -/
theorem gb_each_strDropItem {α : Type} (xs : List α) {i : Nat} (h : gb s (stA k R.strStat) i = true) :
    gb (each (fun _ u => strDropItem k u) xs s) (stA k R.strStat) i = true := by
  induction xs generalizing s with
  | nil => exact h
  | cons x xs ih =>
    rw [each]
    exact ih _ (by rw [gb_strDropItem, h, Bool.true_or])

/-! ### What the head makes of an offered item (R302) -/

variable (it : List Byte)

/-- The head takes the item. -/
def headTakes (k : Nat) (it : List Byte) (s : State) : State :=
  updStrm k (fun t => { t with head := t.head ++ [it] }) s |> countBy 0x18 k it.length |> flowStream k |> readHead k

/-- The head refuses an item. -/
def headRefuses (k : Nat) (never : Bool) (s : State) : State :=
  let u := updStrm k (fun t => { t with fullNow := true }) s
  if strDropNew s k then strDropItem k u else whenB never (count 0x1A k) u

theorem headTakes_items : strItems (strm (headTakes k it s) k) = strItems (strm s k) ++ [it] := by
  unfold headTakes
  rw [(readHead_keeps _ k []).items, (flowStream_keeps _ k []).items, strm_countBy, strm_updStrm_same]
  exact (List.append_assoc _ _ _).symm

theorem headTakes_touches : Touches [] s (headTakes k it s) := by
  have joined : Touches [] s (countBy 0x18 k it.length (updStrm k (fun t => { t with head := t.head ++ [it] }) s)) :=
    .of_regs_eq rfl ⟨rfl, rfl, rfl⟩
  exact (joined.trans (flowStream_keeps _ k []).frame).trans (readHead_keeps _ k []).frame

theorem headTakes_chans : (headTakes k it s).chans = s.chans := by
  unfold headTakes
  rw [(readHead_keeps _ k []).chans, (flowStream_keeps _ k []).chans]
  rfl

section refuses
variable {s k}

theorem fullNow_keeps (l : List Nat) : KeepsItems k l s (updStrm k (fun t => { t with fullNow := true }) s) := .updStrm rfl

theorem headRefuses_discards (h : strDropNew s k = true) (never : Bool) : Discards k s (headRefuses k never s) := by
  rw [headRefuses, if_pos h]
  exact strDropItem_discards (fullNow_keeps [])

/-- Under DROP_NEW it makes no difference whether the producer would wait. -/
theorem headRefuses_drop_new (h : strDropNew s k = true) (never : Bool) : headRefuses k never s = headRefuses k false s := by
  rw [headRefuses, headRefuses, if_pos h, if_pos h]

theorem headRefuses_keeps_block (h : strDropNew s k = false) (never : Bool) : KeepsItems k [] s (headRefuses k never s) := by
  rw [headRefuses, if_neg (by simp [h])]
  cases never
  · exact fullNow_keeps []
  · exact (fullNow_keeps []).trans (.count 0x1A k _)

/-- STR_STAT and STR_DROP move under DROP_NEW only. -/
theorem headRefuses_keeps (never : Bool) :
    KeepsItems k (if strDropNew s k = true then [stA k R.strStat, stA k R.strDrop] else []) s (headRefuses k never s) := by
  by_cases h : strDropNew s k = true
  · rw [if_pos h]
    exact (headRefuses_discards h never).keeps
  · rw [if_neg h]
    exact headRefuses_keeps_block (Bool.eq_false_iff.2 h) never

/-- A raw block of channel n that the head refuses is counted in RAW_STAT of its channel, whatever the policy (R169). -/
def blockLost (n k : Nat) (s : State) : State := bump (chA n R.rawStat) 16 16 (headRefuses k true s)

theorem blockLost_keeps (n : Nat) :
    KeepsItems k (chA n R.rawStat :: if strDropNew s k = true then [stA k R.strStat, stA k R.strDrop] else []) s (blockLost n k s) :=
  ((headRefuses_keeps true).mono (List.subset_cons_self _ _)).trans (.wr List.mem_cons_self _ _)

section block
variable {n : Nat} (hn : n < 32)
include hn

theorem rawStat_ne_stA (o : Nat) : chA n R.rawStat ≠ stA k o := (chA_lt_stA hn (by decide) k o).ne

theorem blockLost_counted : gf (blockLost n k s) (chA n R.rawStat) 16 16 = min (gf s (chA n R.rawStat) 16 16 + 1) 65535 := by
  have unmoved : rd (headRefuses k true s) (chA n R.rawStat) = rd s (chA n R.rawStat) :=
    (headRefuses_keeps true).frame.2 _ (by split <;> simp [rawStat_ne_stA hn])
  rw [blockLost, gf_bump_half _ (by decide), gf, unmoved, ← gf]

theorem blockLost_discards (hd : strDropNew s k = true) :
    (rd (blockLost n k s) (stA k R.strDrop)).toNat = min ((rd s (stA k R.strDrop)).toNat + 1) (2 ^ 32 - 1) := by
  rw [blockLost, rd_bump_of_ne _ 16 16 (rawStat_ne_stA hn _), (headRefuses_discards hd true).counted]

end block

end refuses

section offer
variable {s k it}

theorem offer_of_disabled (h : strEn s k = false) (never : Bool) : offer k never it s = (true, strDropItem k s) :=
  if_pos (by simp [h])

theorem offer_of_room (he : strEn s k = true) (hr : headRoom s k it.length = true) (never : Bool) :
    offer k never it s = (true, headTakes k it s) := by
  rw [offer, if_neg (by simp [he]), if_pos hr]
  rfl

theorem offer_of_full (he : strEn s k = true) (hr : ¬ headRoom s k it.length = true) (never : Bool) :
    offer k never it s = (strDropNew s k && !never, headRefuses k never s) := by
  rw [offer, if_neg (by simp [he]), if_neg hr, headRefuses]
  change (if strDropNew s k = true then _ else _) = _
  cases strDropNew s k <;> rfl

theorem offer_of_full_drop (he : strEn s k = true) (hr : ¬ headRoom s k it.length = true) (hd : strDropNew s k = true) (never : Bool) :
    offer k never it s = (!never, headRefuses k false s) := by
  rw [offer_of_full he hr, hd, headRefuses_drop_new hd, Bool.true_and]

end offer

/-! ### What becomes of an offered item (R165, R167 to R169, R302) -/

/-- The channel that an item names. -/
def itemChan (it : List Byte) : Nat := (it.getD 6 0).toNat % 32

/-- An offered item by its producer: a raw block, a record of a channel, or a record of a capture. -/
def offered (k : Nat) (it : List Byte) (s : State) : State :=
  if isRawBlock it && hasChan s (itemChan it) then (rawOffer (itemChan it) k it s).2
  else if k < 32 && !isRawBlock it then putRecord k it s
  else (offer k true it s).2

/-- The record waits behind others for the head of its channel's stream. -/
def WaitsBehind (k : Nat) (it : List Byte) (s : State) : Prop := k < 32 ∧ ¬ isRawBlock it = true ∧ (chan s k).recs ≠ []

/-- A record joins those that wait. -/
def recordWaits (k : Nat) (it : List Byte) (s : State) : State := updChan k (fun c => { c with recs := c.recs ++ [it] }) s

section offered
variable {s k it} {u : State}

theorem offered_of_record (hk : k < 32) (hr : ¬ isRawBlock it = true) : offered k it s = putRecord k it s := by
  rw [offered, if_neg (by simp [hr]), if_pos (by simp [hr, hk])]

theorem offered_of_capture (hk : 32 ≤ k) (hr : ¬ isRawBlock it = true) : offered k it s = (offer k true it s).2 := by
  rw [offered, if_neg (by simp [hr]), if_neg (by simp [Nat.not_lt.2 hk])]

theorem offered_of_block (hr : isRawBlock it = true) (hm : hasChan s (itemChan it) = true) :
    offered k it s = (rawOffer (itemChan it) k it s).2 := by
  rw [offered, if_pos (by simp [hr, hm])]

theorem putRecord_behind (he : strEn s k = true) (hw : (chan s k).recs ≠ []) : putRecord k it s = recordWaits k it s := by
  rw [putRecord, if_pos (by simp [he, hw])]
  rfl

theorem putRecord_first (h : strEn s k = true → (chan s k).recs = []) : putRecord k it s =
    (if (offer k false it s).1 then (offer k false it s).2 else recordWaits k it (offer k false it s).2) := by
  rw [putRecord, if_neg (by simpa using h)]
  rfl

/-- A record that the head refuses under BLOCK waits. -/
theorem offered_of_blocked (hk : k < 32) (hb : ¬ isRawBlock it = true) (hw : ¬ WaitsBehind k it s) (he : strEn s k = true)
    (hr : ¬ headRoom s k it.length = true) (hd : strDropNew s k = false) :
    offered k it s = recordWaits k it (headRefuses k false s) := by
  have first : (chan s k).recs = [] := by_contra fun hne => hw ⟨hk, hb, hne⟩
  rw [offered_of_record hk hb, putRecord_first fun _ => first, offer_of_full he hr, hd]
  rfl

theorem offered_of_block_full (hb : isRawBlock it = true) (hm : hasChan s (itemChan it) = true) (he : strEn s k = true)
    (hr : ¬ headRoom s k it.length = true) :
    offered k it s = blockLost (itemChan it) k s := by
  rw [offered_of_block hb hm, rawOffer, offer_of_full he hr, Bool.not_true, Bool.and_false]
  rfl

/-- The stream has done with the item at once, whoever offers it. -/
theorem offered_of_done (hw : strEn s k = true → ¬ WaitsBehind k it s) (h : ∀ never, offer k never it s = (true, u)) :
    offered k it s = u := by
  by_cases hr : isRawBlock it = true
  · unfold offered
    rw [hr, rawOffer, h, Bool.not_true, Bool.and_false, if_neg Bool.false_ne_true]
    split <;> rfl
  · by_cases hk : k < 32
    · have first : strEn s k = true → (chan s k).recs = [] := fun he => by_contra fun hne => hw he ⟨hk, hr, hne⟩
      rw [offered_of_record hk hr, putRecord_first first, h, if_pos rfl]
    · rw [offered_of_capture (Nat.not_lt.1 hk) hr, h]

/-- A record that the head refuses under DROP_NEW. -/
theorem offered_of_refused (hr : ¬ isRawBlock it = true) (hw : ¬ WaitsBehind k it s) (h : ∀ never, offer k never it s = (!never, u)) :
    offered k it s = u := by
  by_cases hk : k < 32
  · have first : (chan s k).recs = [] := by_contra fun hne => hw ⟨hk, hr, hne⟩
    rw [offered_of_record hk hr, putRecord_first fun _ => first, h]
    rfl
  · rw [offered_of_capture (Nat.not_lt.1 hk) hr, h]

/-- The command leaves what becomes of the item, and the oldest read counts from now where it finds one. -/
theorem streamItemOffer_answers {l : List Nat} (ho : Operating s) (hs : hasStream s k = true) (h : offered k it s = u)
    (hf : Touches l s u) : exec (.streamItemOffer k it) s = .next (readHead k u) ∧ OnlyRegs l s (readHead k u) := by
  have frame := hf.trans (readHead_keeps u k l).frame
  refine ⟨frame.clocked ho ((if_pos hs).trans ?_), frame.onlyRegs⟩
  rw [← h]
  rfl

end offered

/-! ### A spill burst (R301) -/

theorem spillItems_rest (cred : Nat) (l : List (List Byte)) : (spillItems cred l).2.2 = l.drop (spillItems cred l).2.1.length :=
  List.drop_left.symm.trans (congrArg (List.drop _) (spillItems_append cred l))

/-- The stream once a spill burst has written a number of bytes, before items flow on. -/
def spillMoves (len : Nat) (z : Stream) : Stream :=
  let r := spillItems (z.scred + len) z.head
  { z with head := r.2.2, ring := z.ring ++ r.2.1, wpos := z.wpos + itemBytes r.2.1, scred := r.1 }

theorem spill_eq (len : Nat) : spill k len s = flowStream k (updStrm k (spillMoves len) s) := by
  unfold spill updStrm spillMoves
  rfl

theorem spillMoves_items (len : Nat) (z : Stream) : strItems (spillMoves len z) = strItems z := by
  have whole := spillItems_append (z.scred + len) z.head
  calc z.tail ++ (z.ring ++ (spillItems (z.scred + len) z.head).2.1) ++ (spillItems (z.scred + len) z.head).2.2
      = z.tail ++ z.ring ++ ((spillItems (z.scred + len) z.head).2.1 ++ (spillItems (z.scred + len) z.head).2.2) := by
        simp only [List.append_assoc]
    _ = z.tail ++ z.ring ++ z.head := by rw [whole]

theorem spill_keeps (l : List Nat) (len : Nat) : KeepsItems k l s (spill k len s) := by
  rw [spill_eq]
  exact (KeepsItems.updStrm (spillMoves_items len _)).trans (flowStream_keeps _ k l)

theorem spill_wpos (len : Nat) :
    (strm (spill k len s) k).wpos = (strm s k).wpos + itemBytes (spillItems ((strm s k).scred + len) (strm s k).head).2.1 := by
  rw [spill_eq, flowStream_wpos, strm_updStrm_same]
  rfl

/-- Where the ring has items after the burst, nothing passes it by. -/
theorem strm_spill_of_ring {len : Nat} (h : (spillMoves len (strm s k)).ring ≠ []) :
    strm (spill k len s) k = spillMoves len (strm s k) := by
  have same : strm (updStrm k (spillMoves len) s) k = spillMoves len (strm s k) := strm_updStrm_same s k _
  rw [spill_eq, flowStream_of_ring (by rwa [same]), same]

/-- The command moves the items of the first spill burst that has been written. -/
theorem streamSpill_answers {s : State} {k : Nat} {r : Req} {bs : List Byte} (ho : Operating s) (hs : hasStream s k = true)
    (he : fromInbox s 2 (fun w => w == .spill k) = some (r, some bs)) :
    exec (.streamSpill k none) s = .next (postStream k (spill k bs.length (dropInbox (r, some bs) s))) := by
  have keeps := ((dropInbox_keeps s k [] (r, some bs)).trans (spill_keeps _ k [] bs.length)).trans (postStream_keeps _ k [])
  refine keeps.frame.clocked ho ((if_pos hs).trans ?_)
  simp only [strUpset, he]

/-! ### A refill burst (R301, R303) -/

theorem fromInbox_turn {s : State} {k : Nat} {e : Req × Option (List Byte)} (h : fromInbox s 3 (refillTurn s k) = some e) :
    ∃ b, e.1.who = .refill k b := by
  unfold fromInbox at h
  have turn := List.find?_some h
  rw [Bool.and_eq_true] at turn
  cases hw : e.1.who with
  | refill j b =>
    have named := turn.2
    rw [hw, refillTurn, Bool.and_eq_true, beq_iff_eq] at named
    exact ⟨b, by rw [named.1]⟩
  | _ => simp [hw, refillTurn] at turn

theorem refillArrive_due {s : State} {k : Nat} {e : Req × Option (List Byte)} (h : e.1.who = .refill k ((strm s k).fpos / 64)) :
    refillArrive k e s = postStream k (readHead k (refill k e.2 (dropInbox e s))) := by
  unfold refillArrive
  simp only [h, decide_true, if_true]

theorem refillArrive_early {s : State} {k b : Nat} {e : Req × Option (List Byte)} (h : e.1.who = .refill k b)
    (hb : (strm s k).fpos / 64 ≠ b) : refillArrive k e s = postStream k (dropInbox e s) := by
  unfold refillArrive
  simp only [h, decide_eq_false hb, Bool.false_eq_true, if_false]

/-- The command takes the refill burst whose turn it is. -/
theorem streamRefill_answers {s : State} {k : Nat} {e : Req × Option (List Byte)} {l : List Nat} (ho : Operating s)
    (hs : hasStream s k = true) (he : fromInbox s 3 (refillTurn s k) = some e) (hf : Touches l s (refillArrive k e s)) :
    exec (.streamRefill k .clean) s = .next (refillArrive k e s) := by
  refine hf.clocked ho ((if_pos hs).trans ?_)
  simp only [he]

/-- The items of a list that a refill up to a place completes. -/
def completed (e : Nat) (l : List (Nat × Nat × List Byte)) : List (List Byte) :=
  (l.takeWhile (fun x => decide (x.2.1 ≤ e))).map (·.2.2)

/-- The items that it leaves. -/
def uncompleted (e : Nat) (l : List (Nat × Nat × List Byte)) : List (List Byte) :=
  (l.drop (l.takeWhile (fun x => decide (x.2.1 ≤ e))).length).map (·.2.2)

theorem completed_append (e : Nat) (l : List (Nat × Nat × List Byte)) : completed e l ++ uncompleted e l = l.map (·.2.2) := by
  rw [completed, uncompleted, ← List.map_append, ← List.prefix_append_drop (List.takeWhile_prefix _)]

/-- The ring's own bytes up to a place give back the items that end there. -/
theorem cutOut_ring (pos e : Nat) (l : List (List Byte)) :
    (cutOut (l.flatten.take (e - pos)) (completed e (ringEnds pos l))).1 = completed e (ringEnds pos l) := by
  have parts : l = completed e (ringEnds pos l) ++ uncompleted e (ringEnds pos l) := by rw [completed_append, ringEnds_items]
  have fits : (completed e (ringEnds pos l)).flatten.length ≤ e - pos := ringEnds_before pos e l
  have bytes : ∃ r, l.flatten.take (e - pos) = (completed e (ringEnds pos l)).flatten ++ r := by
    refine ⟨(uncompleted e (ringEnds pos l)).flatten.take (e - pos - (completed e (ringEnds pos l)).flatten.length), ?_⟩
    conv_lhs => rw [parts]
    rw [List.flatten_append, List.take_append, List.take_of_length_le fits]
  obtain ⟨r, hr⟩ := bytes
  rw [hr, cutOut_flatten_append]

/-- A burst whose bytes are those of the ring leaves every item as it is. -/
theorem refill_keeps (l : List Nat) {bs : List Byte}
    (h : (strm s k).fbuf ++ bs.drop ((strm s k).fpos % 64) =
      (strm s k).ring.flatten.take ((strm s k).fpos / 64 * 64 + bs.length - (strm s k).rpos)) :
    KeepsItems k l s (refill k (some bs) s) := by
  have within : (strm s k).fpos - (strm s k).fpos / 64 * 64 = (strm s k).fpos % 64 := by omega
  unfold refill
  simp only [Option.isSome_some, if_true, within, h, List.contains_nil, Bool.not_false, List.filter_true]
  refine (KeepsItems.updStrm ?_).trans (flowStream_keeps _ k l)
  generalize strm s k = z
  let e := z.fpos / 64 * 64 + bs.length
  let items := ringEnds z.rpos z.ring
  calc z.tail ++ (cutOut (z.ring.flatten.take (e - z.rpos)) (completed e items)).1 ++ uncompleted e items ++ z.head
      = z.tail ++ (completed e items ++ uncompleted e items) ++ z.head := by rw [cutOut_ring, List.append_assoc z.tail]
    _ = z.tail ++ z.ring ++ z.head := by rw [completed_append, ringEnds_items]

/-- The item at its place in the ring touches the burst at the refill position. -/
def burstHits (z : Stream) (x : Nat × Nat × List Byte) : Bool :=
  decide (x.1 < min ((z.fpos / 64 + 1) * 64) z.wpos) && decide (z.fpos < x.2.1)

/-- The ring's items that a failing burst at the refill position touches. -/
def ringHit (z : Stream) : List (Nat × Nat × List Byte) := (ringEnds z.rpos z.ring).filter (burstHits z)

/-- The others. -/
def ringMissed (z : Stream) : List (Nat × Nat × List Byte) := (ringEnds z.rpos z.ring).filter (fun x => !burstHits z x)

theorem ringMissed_eq (z : Stream) : (ringEnds z.rpos z.ring).filter (fun x => !(ringHit z).contains x) = ringMissed z := by
  refine List.filter_congr fun x hx => ?_
  congr 1
  rw [Bool.eq_iff_iff, List.contains_iff_mem, ringHit, List.mem_filter]
  exact and_iff_right hx

/-- An item that a failing burst does not touch and that ends by the burst's end has no bytes, where every item of the ring ends beyond
the refill position. -/
theorem completed_missed_flatten {z : Stream} (hz : ∀ x ∈ ringEnds z.rpos z.ring, z.fpos < x.2.1) :
    (completed (min ((z.fpos / 64 + 1) * 64) z.wpos) (ringMissed z)).flatten = [] := by
  rw [List.flatten_eq_nil_iff]
  intro it hit
  obtain ⟨x, hx, rfl⟩ := List.mem_map.1 hit
  have ends := List.mem_takeWhile_imp hx
  rw [decide_eq_true_eq] at ends
  obtain ⟨ring, missed⟩ := List.mem_filter.1 ((List.takeWhile_prefix _).subset hx)
  have beyond := hz x ring
  have length := ringEnds_end ring
  simp only [burstHits, beyond, decide_true, Bool.and_true, Bool.not_eq_true', decide_eq_false_iff_not] at missed
  exact List.eq_nil_of_length_eq_zero (by omega)

/-- What a failing burst at the refill position makes of the stream: the items that touch it are discarded one by one, the others
stay. -/
theorem refill_fails (hz : ∀ x ∈ ringEnds (strm s k).rpos (strm s k).ring, (strm s k).fpos < x.2.1) :
    ∃ f : Stream → Stream, strItems (f (strm s k)) = (strm s k).tail ++ (ringMissed (strm s k)).map (·.2.2) ++ (strm s k).head ∧
      refill k none s =
        flowStream k (each (fun _ u => strDropItem k u) (ringHit (strm s k)) (flag (stA k R.strStat) 6 (updStrm k f s))) := by
  have line : (strm s k).fpos / 64 * 64 + 64 = ((strm s k).fpos / 64 + 1) * 64 := (Nat.succ_mul _ _).symm
  unfold refill
  simp only [Option.isSome_none, Bool.false_eq_true, if_false, line]
  refine ⟨_, ?_, rfl⟩
  generalize strm s k = z at hz ⊢
  let e := min ((z.fpos / 64 + 1) * 64) z.wpos
  let kept := (ringEnds z.rpos z.ring).filter (fun x => !(ringHit z).contains x)
  have missed : kept = ringMissed z := ringMissed_eq z
  have given : (cutOut [] (completed e kept)).1 = completed e kept := by
    have none := cutOut_flatten_append (completed e kept) []
    rw [missed] at none ⊢
    rw [completed_missed_flatten hz, List.append_nil] at none
    rw [none]
  calc z.tail ++ (cutOut [] (completed e kept)).1 ++ uncompleted e kept ++ z.head
      = z.tail ++ (completed e kept ++ uncompleted e kept) ++ z.head := by rw [given, List.append_assoc z.tail]
    _ = z.tail ++ (ringMissed z).map (·.2.2) ++ z.head := by rw [completed_append, missed]

/-- A failing burst at the refill position discards exactly the items that touch it, counts them and sets MEM_ERR. -/
theorem refill_discards (hz : ∀ x ∈ ringEnds (strm s k).rpos (strm s k).ring, (strm s k).fpos < x.2.1) :
    Touches [stA k R.strStat, stA k R.strDrop] s (refill k none s) ∧
      strItems (strm (refill k none s) k) = (strm s k).tail ++ (ringMissed (strm s k)).map (·.2.2) ++ (strm s k).head ∧
      gb (refill k none s) (stA k R.strStat) 6 = true ∧
      (rd (refill k none s) (stA k R.strDrop)).toNat =
        min ((rd s (stA k R.strDrop)).toNat + (ringHit (strm s k)).length) (2 ^ 32 - 1) := by
  obtain ⟨f, items, form⟩ := refill_fails s k hz
  have shown : Touches [stA k R.strStat, stA k R.strDrop] s (flag (stA k R.strStat) 6 (updStrm k f s)) :=
    (Touches.of_regs_eq rfl ⟨rfl, rfl, rfl⟩).trans (.flag (by simp) 6 (updStrm k f s))
  have counted := each_strDropItem_keeps (flag (stA k R.strStat) 6 (updStrm k f s)) k (ringHit (strm s k))
  have flows := flowStream_keeps (each (fun _ u => strDropItem k u) (ringHit (strm s k)) (flag (stA k R.strStat) 6 (updStrm k f s))) k []
  have other : stA k R.strStat ≠ stA k R.strDrop := by simp
  rw [form]
  refine ⟨(shown.trans counted.frame).trans (flows.frame.mono (List.nil_subset _)), ?_, ?_, ?_⟩
  · rw [flows.items, counted.items, strm_flag, strm_updStrm_same, items]
  · rw [gb_eq_rd _ (flows.frame.2 _ List.not_mem_nil)]
    exact gb_each_strDropItem _ k _ (gb_flag_same _ _ _ (by decide))
  · rw [flows.frame.2 _ List.not_mem_nil, toNat_rd_each_strDropItem, rd_flag_of_ne _ _ other, rd_updStrm]

/-- A burst of items that are gone, or one that gives back the ring's bytes, leaves every item as it is. -/
theorem refillArrive_keeps {e : Req × Option (List Byte)} (turn : ∃ b, e.1.who = .refill k b)
    (h : ¬ e.1.who = .refill k ((strm s k).fpos / 64) ∨ ∃ bs ∈ e.2, (strm s k).fbuf ++ bs.drop ((strm s k).fpos % 64) =
      (strm s k).ring.flatten.take ((strm s k).fpos / 64 * 64 + bs.length - (strm s k).rpos)) :
    KeepsItems k [] s (refillArrive k e s) := by
  have dropped := dropInbox_keeps s k [] e
  by_cases due : e.1.who = .refill k ((strm s k).fpos / 64)
  · obtain ⟨bs, hbs, bytes⟩ := h.resolve_left (not_not_intro due)
    rw [refillArrive_due due, hbs]
    exact ((dropped.trans (refill_keeps _ k [] bytes)).trans (readHead_keeps _ k [])).trans (postStream_keeps _ k [])
  · obtain ⟨b, who⟩ := turn
    have other : (strm s k).fpos / 64 ≠ b := fun hb => due (hb ▸ who)
    rw [refillArrive_early who other]
    exact dropped.trans (postStream_keeps _ k [])

/-! ### The statement -/

/-- Settles O41: the offered item by what the head makes of it and what its producer then does; the spill burst and the refill burst by
the items that they move or discard. That a raw block or a capture's record refused under BLOCK leaves STR_DROP and STR_STAT alone is the
model's choice (log entry 135). -/
theorem streamStages : Obligations.StreamStages := by
  unfold Obligations.StreamStages
  intro s k it ho hs raw m st cnt z dropped recs held room ends burst hit given
  refine ⟨fun hw he => ?_, fun he => ?_, fun hw he hr => ?_, fun hw hb he hr hd => ?_, fun hb he hr hk hd => ?_, fun hb hm he hr => ?_,
    fun hw hb he hr hk hd => ?_, fun e he bs hbs => ?_, fun e he => ⟨fun h => ?_, fun due hbs hz => ?_⟩⟩
  -- a record behind others; a disabled stream; room in the head
  · obtain ⟨hk, hb, hne⟩ := hw
    obtain ⟨next, only⟩ := streamItemOffer_answers ho hs ((offered_of_record hk hb).trans (putRecord_behind he hne)) (.updChan k _ s)
    exact ⟨_, next, (readHead_keeps _ k []).recs_eq k |>.trans (congrArg Chan.recs (chan_updChan_same s k _)), only⟩
  · have lost := strDropItem_discards (KeepsItems.refl k [] s)
    have waits : strEn s k = true → ¬ WaitsBehind k it s := fun h => absurd h (by simp [he])
    obtain ⟨next, only⟩ := streamItemOffer_answers ho hs (offered_of_done waits (offer_of_disabled he)) lost.keeps.frame
    have after := lost.keeps.trans (readHead_keeps _ k _)
    exact ⟨_, next, after.recs_eq k, lost.shown, lost.counted, after.items, only⟩
  · have taken := offered_of_done (fun _ => hw) (offer_of_room he hr)
    obtain ⟨next, only⟩ := streamItemOffer_answers ho hs taken (headTakes_touches s k it)
    have after := readHead_keeps (headTakes k it s) k []
    have records : recs (headTakes k it s) = recs s := by
      change (chan _ k).recs = _
      rw [chan, headTakes_chans, ← chan]
    exact ⟨_, next, after.items.trans (headTakes_items s k it), (after.recs_eq k).trans records, only⟩
  -- no room: a record under DROP_NEW, a capture's record under BLOCK, a raw block, a record under BLOCK
  · have lost := headRefuses_discards hd false
    obtain ⟨next, only⟩ := streamItemOffer_answers ho hs (offered_of_refused hb hw (offer_of_full_drop he hr hd)) lost.keeps.frame
    exact ⟨_, next, lost.shown, lost.counted, (lost.keeps.trans (readHead_keeps _ k _)).items, only⟩
  · have refused := headRefuses_keeps_block hd true
    have lost : offered k it s = headRefuses k true s := by rw [offered_of_capture hk hb, offer_of_full he hr]
    obtain ⟨next, only⟩ := streamItemOffer_answers ho hs lost refused.frame
    exact ⟨_, next, (refused.trans (readHead_keeps _ k _)).items, only⟩
  · have m32 : itemChan it < 32 := Nat.mod_lt _ (by decide)
    have lost := blockLost_keeps (s := s) (k := k) (itemChan it)
    have after := lost.trans (readHead_keeps _ k _)
    obtain ⟨next, only⟩ := streamItemOffer_answers ho hs (offered_of_block_full hb hm he hr) lost.frame
    refine ⟨_, next, after.items, after.recs_eq k, ?_, fun hd => ?_, only⟩
    · rw [gf_readHead]
      exact blockLost_counted m32
    · rw [rd_readHead]
      exact blockLost_discards m32 hd
  · have refused := headRefuses_keeps_block hd false
    obtain ⟨next, only⟩ := streamItemOffer_answers ho hs (offered_of_blocked hk hb hw he hr hd) (refused.frame.trans (.updChan k _ _))
    have records : recs (recordWaits k it (headRefuses k false s)) = recs s ++ [it] := by
      change (chan _ k).recs = _
      rw [recordWaits, chan_updChan_same, refused.recs_eq]
    have after := readHead_keeps (recordWaits k it (headRefuses k false s)) k []
    exact ⟨_, next, (after.recs_eq k).trans records, after.items.trans refused.items, only⟩
  -- a spill burst
  · intro moved
    obtain ⟨r, data⟩ := e
    obtain rfl : data = some bs := hbs
    have keeps := ((dropInbox_keeps s k [] (r, some bs)).trans (spill_keeps _ k [] bs.length)).trans (postStream_keeps _ k [])
    refine ⟨_, streamSpill_answers ho hs he, keeps.items, ?_, fun hne _ => ?_, keeps.frame.onlyRegs⟩
    · rw [strm_postStream, spill_wpos]
      rfl
    · have stays : (spillMoves bs.length (strm (dropInbox (r, some bs) s) k)).ring ≠ [] := by
        change z.ring ++ moved ≠ []
        rwa [ne_eq, List.append_eq_nil_iff, not_and_or]
      rw [strm_postStream, strm_spill_of_ring _ _ stays]
      exact ⟨rfl, spillItems_rest _ _⟩
  -- a refill burst that gives the items back, and one that fails
  · have keeps := refillArrive_keeps s k (fromInbox_turn he) h
    exact ⟨_, streamRefill_answers ho hs he keeps.frame, keeps.items, keeps.frame.onlyRegs⟩
  · have arrives : refillArrive k e s = postStream k (readHead k (refill k none (dropInbox e s))) := by rw [refillArrive_due due, hbs]
    obtain ⟨frame, items, shown, counted⟩ := refill_discards (dropInbox e s) k hz
    have after := (readHead_keeps (refill k none (dropInbox e s)) k []).trans (postStream_keeps _ k [])
    have total : Touches [st, cnt] s (refillArrive k e s) := by
      rw [arrives]
      exact ((dropInbox_keeps s k _ e).frame.trans frame).trans (after.frame.mono (List.nil_subset _))
    refine ⟨_, streamRefill_answers ho hs he total, ?_, ?_, ?_, total.onlyRegs⟩
    · rw [arrives, after.items, items]
      rfl
    · rw [arrives, gb_eq_rd _ (after.frame.2 _ List.not_mem_nil)]
      exact shown
    · rw [arrives, after.frame.2 _ List.not_mem_nil]
      exact counted

end Sys2Proof.Machine
end

section
/-! PROOFS. The state after reset (06 R180; 13 R355 to R357; 14 R381, R390; 15 R407): O56. -/

namespace Sys2Proof.Machine

/-- Nothing has been stored yet: a register reads its reset value. -/
theorem rd_reset (a : Nat) : rd State.reset a = resetWord a := (rfl)

theorem classOf_reset (k : Nat) : classOf State.reset k = fld (resetWord (R.kindMap0 + 4 * (k / 16))) (2 * (k % 16)) 2 := (rfl)

theorem channels_reset : ∀ n, n < 32 → modeNow State.reset n = 0 ∧ gf State.reset (chA n R.dacCode) 0 20 = 0 ∧ furled State.reset n = false := by
  decide

/-- Settles O56: the queue, DDR5 and the collector's lists begin empty, and every register reads as the register map resets it. -/
theorem resetState : Obligations.ResetState := by
  unfold Obligations.ResetState
  refine ⟨rfl, Memory.wf_nil, channels_reset, ?_⟩
  simp only [rd_reset, classOf_reset]
  decide

end Sys2Proof.Machine
end

section
/-! PROOFS. The statement on fault reactions does not hold (06 R174, R179, R182): a state in which a furl moves the force slot. -/

namespace Sys2Proof.Scope

open Sys2Proof.Machine

/-- CH0 in FI, whose force slot is the active current slot, uncorrected. The force entry of its active voltage slot at code 0 has an OFS
of 160, that is 10 LSB. A furl of CH0 is due. -/
def furlMovesSlot : State :=
  { awake with
    regs := awake.regs ++ [(chA 0 R.chStat, 3), (calA (calIndex 0 0 0 256), 160)]
    fc := { awake.fc with reacts := [{ at_ := 0, targets := [0], act := .furl, idx := none }] } }

/-- Refutes O48: OFF brings the force slot back to the voltage slot (06 R174), and the clear latch is recomputed for it before the furl
switches it onto the DAC (06 R179, R182): the code 10. The statement has the DAC take the latch of the state before, which is 0. -/
theorem not_faultReactions : ¬ Obligations.FaultReactions := by
  unfold Obligations.FaultReactions
  intro h
  obtain ⟨-, t, ht, -, -, -, -, furls, -⟩ := h furlMovesSlot 0 0 (by decide) (by decide)
  obtain ⟨-, latch, -⟩ := furls (by decide) (by decide)
  have corrected : leadsTo (.faultReaction []) furlMovesSlot (fun t => gf t (chA 0 R.dacCode) 0 20 == 10) = true := by decide +kernel
  have ten : gf t (chA 0 R.dacCode) 0 20 = 10 := eq_of_beq (holds_of_leadsTo corrected ht)
  exact absurd (ten.symm.trans latch) (by decide)

end Sys2Proof.Scope
end

section
/-! PROOFS. The monitor converters (06 R188 to R197): requests, CAL, slot boundaries, results and the end of a calibration, and O30
assembled from them. -/

namespace Sys2Proof.Machine

variable {s : State} {g : Nat}

/-! ### The registers of a monitor converter -/

@[simp] theorem maA_inj {a b : Nat} : maA g a = maA g b ↔ a = b := by unfold maA; omega

theorem maA_lt_chA (hg : hasGroup s g = true) {off : Nat} (ho : off < 0x1000) (n o : Nat) : maA g off < chA n o := by
  have four : 8 * g < 32 := (of_decide_eq_true hg).trans_le (by unfold nChans; split <;> decide)
  unfold maA chA
  omega

/-- MA_STAT lies below every result of a request. -/
theorem reqRes_ne_maStat (k : Nat) : maA g (reqRes k) ≠ maA g R.maStat := by
  rw [ne_eq, maA_inj, reqRes, R.maStat, R.fpRes, R.injRes]
  split <;> omega

theorem gf_eq_rd {t : State} {a : Nat} (h : rd t a = rd s a) (lo len : Nat) : gf t a lo len = gf s a lo len := by rw [gf, h, ← gf]

theorem maA_reqRes (k : Nat) : maA g (reqRes k) = if k = 4 then maA g R.fpRes else maA g (R.injRes + 4 * k) := apply_ite ..

theorem Touches.updMon (l : List Nat) (g : Nat) (f : Mon → Mon) (s : State) : Touches l s (updMon g f s) :=
  .of_regs_eq rfl ⟨rfl, rfl, rfl⟩

theorem Touches.sendMsgAux (l : List Nat) (src kind addr info aux : Nat) (s : State) : Touches l s (sendMsgAux src kind addr info aux s) :=
  .of_regs_eq rfl ⟨rfl, rfl, rfl⟩

/-- A flag of MA_STAT is all that a refusal by the converter leaves (R192 to R195). -/
theorem flag_answers {i : Nat} (hi : i < 32) {f : State → State} {due : State → Bool} (hg : GroupIn g s) (hd : due s = true)
    (hf : f s = flag (maA g R.maStat) i s) :
    ∃ t, whenGroup g due s f = .next t ∧ gb t (maA g R.maStat) i = true ∧ mon t g = mon s g ∧ OnlyRegs [maA g R.maStat] s t := by
  have frame : Touches [maA g R.maStat] s (flag (maA g R.maStat) i s) := .flag (by simp) i s
  exact ⟨_, frame.whenGroup hg hd hf, gb_flag_same s _ i hi, mon_flag s _ _ g, frame.onlyRegs⟩

/-! ### Requests (R192 to R194, R196) -/

theorem calNow_eq (s : State) (g : Nat) : calNow s g = decide ((mon s g).calWait = true ∧ (mon s g).calAt = s.now) := by
  rw [calNow, Bool.decide_and, Bool.decide_eq_true, Bool.beq_eq_decide_eq]

section request
variable (g) (r : MonReq) (s : State)

theorem monRequest_touches : Touches [maA g (reqRes r.src), maA g R.maStat] s (monRequest g r s) :=
  ((Touches.updMon _ g _ s).trans (.sf (by simp) 24 2 0 _)).trans (.whenB _ (.flag (by simp) 1 _))

theorem mon_monRequest : mon (monRequest g r s) g =
    { mon s g with pend := (mon s g).pend ++ [r], calAfter := if calNow s g then (mon s g).calAfter + 1 else (mon s g).calAfter } := by
  rw [monRequest, whenB_keeps (mon · g) (mon_flag _ _ _ g), mon_sf, mon_updMon_same]

theorem status_monRequest : gf (monRequest g r s) (maA g (reqRes r.src)) 24 2 = 0 := by
  rw [monRequest, whenB_keeps (gf · (maA g (reqRes r.src)) 24 2) (gf_flag_of_ne _ _ _ _ (reqRes_ne_maStat r.src).symm),
    gf_sf_same _ _ _ _ _ (by decide), Nat.zero_mod]

end request

theorem gb_whenB_flag (b : Bool) (a i : Nat) (s : State) (hi : i < 32) : gb (whenB b (flag a i) s) a i = (gb s a i || b) := by
  cases b
  · exact (Bool.or_false _).symm
  · rw [Bool.or_true]
    exact gb_flag_same s a i hi

theorem deferred_monRequest (g : Nat) (r : MonReq) (s : State) :
    gb (monRequest g r s) (maA g R.maStat) 1 = (gb s (maA g R.maStat) 1 || calNow s g) := by
  rw [monRequest, gb_whenB_flag _ _ _ _ (by decide), gb_sf_of_ne _ _ _ _ _ (reqRes_ne_maStat r.src), gb_updMon]

/-- The host's request with the code w through slot k. -/
def hostReq (s : State) (k : Nat) (w : Word) : MonReq :=
  { input := fld w 0 6, chk := w.getLsbD 6, limset := fld w 8 3, src := k, entry := 0, at_ := s.now }

/-- What the host's request is refused for (R192, R193). -/
def reqRefused (s : State) (g k : Nat) (w : Word) : Prop :=
  hostHolds s (20 + 4 * g + k) = false ∨ reqPending s g k = true ∨ monInput s g (fld w 0 6) = false

theorem hostInjReq_refused {k : Nat} {w : Word} (h : reqRefused s g k w) : hostInjReq g k w s = flag (maA g R.maStat) 4 s := by
  unfold hostInjReq injReqWrite
  obtain held | pending | input := h
  · rw [if_neg (by simp [held])]
  · simp [pending]
  · simp [input]

theorem hostInjReq_taken {k : Nat} {w : Word} (h : ¬ reqRefused s g k w) : hostInjReq g k w s = monRequest g (hostReq s k w) s := by
  simp only [reqRefused, not_or, Bool.not_eq_true, Bool.not_eq_false] at h
  obtain ⟨held, free, input⟩ := h
  rw [hostInjReq, if_pos held, injReqWrite, if_neg (by simp [free, input]), bit_lsb]
  rfl

/-! ### CAL (R195, R196) -/

theorem monCalCmd_busy (h : gb s (maA g R.maStat) 0 = true) : monCalCmd g s = flag (maA g R.maStat) 3 s := if_pos h

theorem monCalCmd_again (h : gb s (maA g R.maStat) 0 = false) (hw : (mon s g).calWait = true) : monCalCmd g s = s := by
  rw [monCalCmd, if_neg (by simp [h]), if_pos hw]

/-- A CAL waits for its turn behind the requests that are pending. -/
def calWaits (g : Nat) (s : State) : State :=
  updMon g (fun m => { m with calWait := true, calAfter := (mon s g).pend.length, calAt := s.now }) s

theorem monCalCmd_first (h : gb s (maA g R.maStat) 0 = false) (hw : (mon s g).calWait = false) : monCalCmd g s =
    whenB (decide (0 < (mon s g).pend.length) || reqRuns s g) (flag (maA g R.maStat) 1) (calWaits g s) := by
  rw [monCalCmd, if_neg (by simp [h]), if_neg (by simp [hw])]
  rfl

/-! ### Slot boundaries (R190, R193) -/

/-- The converter after a boundary, before the next conversion begins. -/
def slotOver (g : Nat) (s : State) : State :=
  monLand g (updMon g (fun m => { m with next := s.now + 1, fin := m.conv.map (fun c => (c.1, s.now + 1, c.2.2)), conv := none }) s)

/-- With nothing to land only the converter's own state moves. -/
theorem monLand_empty (h : (mon s g).writes = []) : monLand g s = updMon g (fun m => { m with writes := [] }) s := by
  rw [monLand, h]
  exact if_neg (not_not_intro (gf_updMon s g _ _ _ _))

theorem slotOver_eq (h : (mon s g).writes = []) : slotOver g s = updMon g (fun m => { m with writes := [] })
    (updMon g (fun m => { m with next := s.now + 1, fin := m.conv.map (fun c => (c.1, s.now + 1, c.2.2)), conv := none }) s) :=
  monLand_empty (by rw [mon_updMon_same]; exact h)

theorem mon_slotOver (h : (mon s g).writes = []) : mon (slotOver g s) g =
    { mon s g with next := s.now + 1, fin := (mon s g).conv.map (fun c => (c.1, s.now + 1, c.2.2)), conv := none, writes := [] } := by
  rw [slotOver_eq h, mon_updMon_same, mon_updMon_same]

theorem slotOver_touches (h : (mon s g).writes = []) (l : List Nat) : Touches l s (slotOver g s) := by
  rw [slotOver_eq h]
  exact (Touches.updMon l g _ s).trans (.updMon l g _ _)

theorem rd_slotOver (h : (mon s g).writes = []) (a : Nat) : rd (slotOver g s) a = rd s a := (slotOver_touches h []).2 a List.not_mem_nil

theorem now_slotOver (h : (mon s g).writes = []) : (slotOver g s).now = s.now := by rw [slotOver_eq h]; rfl

/-- No earlier tick's request comes from source k. -/
theorem find_source_eq_none {l : List MonReq} {now k : Nat} (h : ∀ x ∈ l, x.at_ < now → x.src ≠ k) :
    l.find? (fun r => r.src == k && decide (r.at_ < now)) = none := by
  rw [List.find?_eq_none]
  intro x hx taken
  simp only [Bool.and_eq_true, beq_iff_eq, decide_eq_true_eq] at taken
  exact h x hx taken.2 taken.1

/-- The converter takes a request of the first source that has one of an earlier tick. -/
theorem pickReq_first {l : List MonReq} {now k : Nat} {q : MonReq} {before after : List Nat} (order : [4, 0, 1, 2, 3] = before ++ k :: after)
    (none_before : ∀ j ∈ before, ∀ x ∈ l, x.at_ < now → x.src ≠ j) (hq : q ∈ l) (hk : q.src = k) (ht : q.at_ < now) :
    ∃ r ∈ l, r.src = k ∧ pickReq now l = some r := by
  have found : (l.find? (fun r => r.src == k && decide (r.at_ < now))).isSome := List.find?_isSome.2 ⟨q, hq, by simp [hk, ht]⟩
  obtain ⟨r, hr⟩ := Option.isSome_iff_exists.1 found
  have source := List.find?_some hr
  simp only [Bool.and_eq_true, beq_iff_eq] at source
  refine ⟨r, List.mem_of_find?_eq_some hr, source.1, ?_⟩
  rw [pickReq, order, List.findSome?_append, List.findSome?_eq_none_iff.2 fun j hj => find_source_eq_none (none_before j hj), Option.none_or,
    List.findSome?_cons, hr]

theorem pickReq_force {l : List MonReq} {now : Nat} {q : MonReq} (hq : q ∈ l) (hk : q.src = 4) (ht : q.at_ < now) :
    ∃ r ∈ l, r.src = 4 ∧ pickReq now l = some r :=
  pickReq_first (before := []) (after := [0, 1, 2, 3]) rfl (by simp) hq hk ht

theorem pickReq_host {l : List MonReq} {now : Nat} {q : MonReq} (hq : q ∈ l) (hk : q.src < 4) (ht : q.at_ < now)
    (first : ∀ x ∈ l, x.at_ < now → q.src ≤ x.src ∧ x.src ≠ 4) : ∃ r ∈ l, r.src = q.src ∧ pickReq now l = some r := by
  have order : ∀ k, k < 4 → [4, 0, 1, 2, 3] = (4 :: List.range k) ++ k :: [4, 0, 1, 2, 3].drop (k + 2) := by decide
  refine pickReq_first (order q.src hk) (fun j hj x hx hx' => ?_) hq rfl ht
  obtain ⟨le, ne⟩ := first x hx hx'
  obtain rfl | below := List.mem_cons.1 hj
  · exact ne
  · exact (Nat.lt_of_lt_of_le (List.mem_range.1 below) le).ne'

theorem pickReq_none {l : List MonReq} {now : Nat} (h : ∀ x ∈ l, ¬ x.at_ < now) : pickReq now l = none :=
  List.findSome?_eq_none_iff.2 fun _ _ => find_source_eq_none fun x hx before => absurd before (h x hx)

theorem mon_monTake (r : MonReq) (u : State) :
    mon (monTake g r u) g = { mon u g with pend := (mon u g).pend.erase r, conv := some (r, u.now, 0) } := by
  rw [monTake, monBegin, mon_updMon_same, mon_updMon_same]
  rfl

theorem monTake_touches (l : List Nat) (r : MonReq) (u : State) : Touches l u (monTake g r u) :=
  (Touches.updMon l g _ u).trans (.updMon l g _ _)

/-- The scan entry that is due. -/
def scanPtr (s : State) (g : Nat) : Nat := gf s (maA g R.maStat) 8 5 % scanLen s g

/-- The scan entry i as a request of this tick. -/
def scanReq (s : State) (g i : Nat) : MonReq :=
  let w := rd s (maA g (R.scan + 4 * i))
  { input := fld w 0 6, chk := w.getLsbD 6, limset := fld w 8 3, src := 5, entry := i, at_ := s.now }

theorem monScan_eq (u : State) : monScan g u = if gb u (maA g R.maCfg) 6 && decide (0 < scanLen u g) then
    sf (maA g R.maStat) 8 5 ((scanPtr u g + 1) % scanLen u g) (monBegin g (scanReq u g (scanPtr u g)) u) else u := by
  rw [scanReq, ← bit_lsb]
  rfl

theorem monScan_touches (u : State) : Touches [maA g R.maStat] u (monScan g u) := by
  rw [monScan_eq]
  split
  · exact (Touches.updMon _ g _ u).trans (.sf (by simp) 8 5 _ _)
  · exact .refl _ u

theorem monScan_scans {u : State} (he : gb u (maA g R.maCfg) 6 = true) (hl : 0 < scanLen u g) : monScan g u =
    sf (maA g R.maStat) 8 5 ((scanPtr u g + 1) % scanLen u g) (monBegin g (scanReq u g (scanPtr u g)) u) := by
  rw [monScan_eq, if_pos (by simp [he, hl])]

theorem fin_monScan (u : State) : (mon (monScan g u) g).fin = (mon u g).fin := by
  rw [monScan_eq]
  split
  · rw [mon_sf, monBegin, mon_updMon_same]
  · rfl

/-- Neither a calibration nor a write that is to land takes part in the boundary. -/
structure BoundaryFree (s : State) (g : Nat) : Prop where
  uncalibrated : (mon s g).calSlots = none
  unclaimed : (mon s g).calWait = false
  unwritten : (mon s g).writes = []

section free
variable (h : BoundaryFree s g)
include h

theorem slotBoundary_eq : slotBoundary g s = match pickReq s.now (mon s g).pend with
    | some r => monTake g r (slotOver g s)
    | none => monScan g (slotOver g s) := by
  obtain ⟨uncalibrated, unclaimed, empty⟩ := h
  have next : monNext (slotOver g s) g = pickReq s.now (mon s g).pend := by
    rw [monNext, mon_slotOver empty, now_slotOver empty]
    simp [uncalibrated, unclaimed]
  unfold slotBoundary
  dsimp only
  rw [← slotOver, next, mon_slotOver empty]
  simp only [uncalibrated, unclaimed]
  cases pickReq s.now (mon s g).pend <;> simp [whenB]

/-- A request taken is converted from this tick on, and SCAN_PTR stays. -/
theorem slotBoundary_takes {r : MonReq} (pick : pickReq s.now (mon s g).pend = some r) :
    (mon (slotBoundary g s) g).conv = some (r, s.now, 0) ∧ gf (slotBoundary g s) (maA g R.maStat) 8 5 = gf s (maA g R.maStat) 8 5 := by
  have taken : slotBoundary g s = monTake g r (slotOver g s) := by rw [slotBoundary_eq h, pick]
  rw [taken, mon_monTake, now_slotOver h.unwritten, gf_eq_rd ((monTake_touches [] r _).2 _ List.not_mem_nil),
    gf_eq_rd (rd_slotOver h.unwritten _)]
  exact ⟨rfl, rfl⟩

/-- With no request of an earlier tick the scan entry that is due is converted, and SCAN_PTR moves on. -/
theorem slotBoundary_scans (idle : pickReq s.now (mon s g).pend = none) (he : gb s (maA g R.maCfg) 6 = true) (hl : 0 < scanLen s g) :
    (mon (slotBoundary g s) g).conv = some (scanReq s g (scanPtr s g), s.now, 0) ∧
      gf (slotBoundary g s) (maA g R.maStat) 8 5 = (scanPtr s g + 1) % scanLen s g := by
  have same := rd_slotOver h.unwritten
  have length : scanLen (slotOver g s) g = scanLen s g := by rw [scanLen, gf_eq_rd (same _), ← scanLen]
  have pointer : scanPtr (slotOver g s) g = scanPtr s g := by rw [scanPtr, length, gf_eq_rd (same _), ← scanPtr]
  have request : ∀ i, scanReq (slotOver g s) g i = scanReq s g i := fun i => by rw [scanReq, same, now_slotOver h.unwritten, ← scanReq]
  have short : (scanPtr s g + 1) % scanLen s g < 2 ^ 5 := (Nat.mod_lt _ hl).trans_le (Nat.min_le_left 32 _)
  have scanned : slotBoundary g s = monScan g (slotOver g s) := by rw [slotBoundary_eq h, idle]
  rw [scanned, monScan_scans (by rw [gb_eq_rd _ (same _)]; exact he) (by rw [length]; exact hl), mon_sf, monBegin, mon_updMon_same, length,
    pointer, request, now_slotOver h.unwritten, gf_sf_same _ _ _ _ _ (by decide), Nat.mod_eq_of_lt short]
  exact ⟨rfl, rfl⟩

theorem slotBoundary_touches : Touches [maA g R.maStat] s (slotBoundary g s) := by
  refine (slotOver_touches h.unwritten _).trans ?_
  rw [slotBoundary_eq h]
  split
  · exact monTake_touches _ _ _
  · exact monScan_touches _

/-- A conversion that ends with the boundary has its result in the next tick. -/
theorem fin_slotBoundary : (mon (slotBoundary g s) g).fin = (mon s g).conv.map (fun c => (c.1, s.now + 1, c.2.2)) := by
  rw [slotBoundary_eq h]
  split
  · rw [mon_monTake, mon_slotOver h.unwritten]
  · rw [fin_monScan, mon_slotOver h.unwritten]

end free

/-! ### Results (R188, R191, R194) -/

theorem sat24_eq {x : Int} (lo : -(2 ^ 23) ≤ x) (hi : x < 2 ^ 23) : sat 24 x = x := by
  unfold sat
  norm_num at lo hi ⊢
  omega

/-- The check of a conversion fails: the window of a channel's read-back, or the limit pair of another input. -/
def resultOut (s : State) (g : Nat) (q : MonReq) (res sum : Int) : Bool :=
  q.chk && (if q.input < 8 then decide (gf s (maA g R.rbWin) 0 16 < (res - rneDiv sum 80).natAbs)
    else decide (res < sfld (rd s (maA g (R.limLo + 4 * q.limset))) 0 24) || decide (sfld (rd s (maA g (R.limHi + 4 * q.limset))) 0 24 < res))

/-- The result register of a conversion. -/
def resultReg (g : Nat) (q : MonReq) : Nat := if q.src = 5 then maA g (R.res + 4 * q.entry) else maA g (reqRes q.src)

/-- The word of a result: the code, VALID or DONE, and OUT. -/
def resultWord (q : MonReq) (res : Int) (out : Bool) : Word :=
  BitVec.ofNat 32 (pat 24 res + 2 ^ 24 + (if out = true then (if q.src = 5 then 2 ^ 25 else 2 ^ 26) else 0))

/-- A result without what a failed check adds: the read-back of a channel, then the result register. -/
def resultKept (g : Nat) (q : MonReq) (res : Int) (out : Bool) (s : State) : State :=
  let s := updMon g (fun m => { m with fin := none }) s
  wr (resultReg g q) (resultWord q res out)
    (if q.input < 8 then wr (chA (8 * g + q.input) R.dacRb) (BitVec.ofNat 32 (pat 24 res + 2 ^ 24)) s else s)

theorem monResult_eq {q : MonReq} {res sum : Int} {a : Nat} (hf : (mon s g).fin = some (q, a, sum)) (lo : -(2 ^ 23) ≤ res)
    (hi : res < 2 ^ 23) : monResult g res s = whenB (q.src == 4) (fpResult g q.input res (resultOut s g q res sum))
      (whenB (resultOut s g q res sum) (monOut g q (res - rneDiv sum 80).natAbs) (resultKept g q res (resultOut s g q res sum) s)) := by
  rw [monResult, hf]
  simp only [sat24_eq lo hi]
  rw [← resultOut]
  generalize resultOut s g q res sum = out
  unfold resultKept resultReg resultWord
  cases out <;> by_cases h : q.src = 5 <;> simp [h]

/-- A result register is none of the converter's status, and no register of a channel. -/
theorem resultReg_ne {q : MonReq} (hsrc : q.src ≤ 5) (he : q.entry < 32) (hg : hasGroup s g = true) :
    resultReg g q ≠ maA g R.maStat ∧ ∀ n o, resultReg g q ≠ chA n o := by
  obtain ⟨off, above, below, reg⟩ : ∃ off, R.maStat < off ∧ off < 0x1000 ∧ resultReg g q = maA g off := by
    unfold resultReg reqRes
    split
    · refine ⟨_, ?_, ?_, rfl⟩ <;> simp only [R.maStat, R.res] <;> omega
    · refine ⟨_, ?_, ?_, rfl⟩ <;> simp only [R.maStat, R.fpRes, R.injRes] <;> split <;> omega
  rw [reg]
  exact ⟨fun h => above.ne' (maA_inj.1 h), fun n o => (maA_lt_chA hg below n o).ne⟩

/-- The registers of a channel that a conversion of its input writes. -/
def inputRegs (g : Nat) (q : MonReq) : List Nat :=
  if q.input < 8 then [chA (8 * g + q.input) R.dacRb, chA (8 * g + q.input) R.dacStat] else []

section result
variable (q : MonReq) (res : Int) (out : Bool)

theorem resultKept_touches : Touches (resultReg g q :: inputRegs g q) s (resultKept g q res out s) := by
  refine .trans ?_ (.wr (by simp) _ _)
  split
  · next h => exact (Touches.updMon _ g _ s).trans (.wr (by simp [inputRegs, h]) _ _)
  · exact .updMon _ g _ s

theorem rd_resultKept : rd (resultKept g q res out s) (resultReg g q) = resultWord q res out := rd_wr_same _ _ _

theorem readback_resultKept (h : q.input < 8) (hne : ∀ n o, resultReg g q ≠ chA n o) :
    rd (resultKept g q res out s) (chA (8 * g + q.input) R.dacRb) = BitVec.ofNat 32 (pat 24 res + 2 ^ 24) := by
  rw [resultKept, rd_wr_of_ne _ _ (hne _ _), if_pos h, rd_wr_same]

theorem fin_resultKept : (mon (resultKept g q res out s) g).fin = none := by
  rw [resultKept, mon_wr]
  split
  · rw [mon_wr, mon_updMon_same]
  · rw [mon_updMon_same]

theorem status_resultKept (channel : ∀ n o, maA g R.maStat ≠ chA n o) (hne : resultReg g q ≠ maA g R.maStat) :
    rd (resultKept g q res out s) (maA g R.maStat) = rd s (maA g R.maStat) := by
  refine (resultKept_touches q res out).2 _ ?_
  rw [List.mem_cons, inputRegs, not_or]
  refine ⟨hne.symm, ?_⟩
  split <;> simp [channel]

end result

/-! ### A failed check (R191) -/

/-- The register of a channel that a failed check of its input writes. -/
def checkRegs (g : Nat) (q : MonReq) : List Nat := if q.input < 8 then [chA (8 * g + q.input) R.dacStat] else []

theorem checkRegs_subset (g : Nat) (q : MonReq) : checkRegs g q ⊆ inputRegs g q := by
  unfold checkRegs inputRegs
  split <;> simp

section check
variable (s) (g) (q : MonReq) (dev : Nat)

theorem monOut_channel (h : q.input < 8) : monOut g q dev s = sendMsg (8 + g) 0x12 (8 * g + q.input) (min dev 65535)
    (flag (maA g R.maStat) 5 (bump (chA (8 * g + q.input) R.dacStat) 16 16 (flag (chA (8 * g + q.input) R.dacStat) 2
      (bump (maA g R.maStat) 16 8 s)))) := if_pos h

theorem monOut_other (h : 8 ≤ q.input) : monOut g q dev s =
    sendMsgAux (8 + g) 0x13 (g * 256 + if q.src = 5 then q.entry else 0x80 + q.src) q.input q.limset
      (flag (maA g R.maStat) 6 (bump (maA g R.maStat) 16 8 s)) := if_neg (Nat.not_lt.2 h)

theorem monOut_touches : Touches (maA g R.maStat :: checkRegs g q) s (monOut g q dev s) := by
  rcases Nat.lt_or_ge q.input 8 with h | h
  · rw [monOut_channel s g q dev h, checkRegs, if_pos h]
    exact ((((Touches.bump (by simp) 16 8 s).trans (.flag (by simp) 2 _)).trans (.bump (by simp) 16 16 _)).trans
      (.flag (by simp) 5 _)).trans (.sendMsg _ _ _ _ _)
  · rw [monOut_other s g q dev h]
    exact ((Touches.bump (by simp) 16 8 s).trans (.flag (by simp) 6 _)).trans (.sendMsgAux _ _ _ _ _ _ _)

theorem mon_monOut (m : Nat) : mon (monOut g q dev s) m = mon s m := by
  rcases Nat.lt_or_ge q.input 8 with h | h
  · rw [monOut_channel s g q dev h, sendMsg, mon_sendRaw, mon_flag, mon_bump, mon_flag, mon_bump]
  · rw [monOut_other s g q dev h, sendMsgAux, mon_sendRaw, mon_flag, mon_bump]

/-- What a failed check of either kind shows: the count, and the flags and the message of its input. -/
theorem monOut_shows (channel : ∀ n o, maA g R.maStat ≠ chA n o) :
    gf (monOut g q dev s) (maA g R.maStat) 16 8 = min (gf s (maA g R.maStat) 16 8 + 1) 255 ∧
    (q.input < 8 → gb (monOut g q dev s) (maA g R.maStat) 5 = true ∧ gb (monOut g q dev s) (chA (8 * g + q.input) R.dacStat) 2 = true ∧
      Reports (8 + g) 0x12 (monOut g q dev s)) ∧
    (8 ≤ q.input → gb (monOut g q dev s) (maA g R.maStat) 6 = true ∧ Reports (8 + g) 0x13 (monOut g q dev s)) := by
  rcases Nat.lt_or_ge q.input 8 with h | h
  · rw [monOut_channel s g q dev h]
    refine ⟨?_, fun _ => ⟨?_, ?_, _, mem_insMsg _ _, rfl, rfl, rfl⟩, fun h' => absurd h (Nat.not_lt.2 h')⟩
    · rw [sendMsg, gf_sendRaw, gf_flag_of_disjoint _ (by decide) (by decide), bump, bumpBy, gf_sf_of_ne _ _ _ _ _ _ (channel _ _).symm,
        gf_flag_of_ne _ _ _ _ (channel _ _).symm, gf_bump_byte _ (by decide)]
    · rw [sendMsg, gb_sendRaw, gb_flag_same _ _ _ (by decide)]
    · rw [sendMsg, gb_sendRaw, gb_eq_rd _ (rd_flag_of_ne _ _ (channel _ _)), gb_bump_of_disjoint _ (by decide) (by decide),
        gb_flag_same _ _ _ (by decide)]
  · rw [monOut_other s g q dev h]
    refine ⟨?_, fun h' => absurd h' (Nat.not_lt.2 h), fun _ => ⟨?_, _, mem_insMsg _ _, rfl, rfl, rfl⟩⟩
    · rw [sendMsgAux, gf_sendRaw, gf_flag_of_disjoint _ (by decide) (by decide), gf_bump_byte _ (by decide)]
    · rw [sendMsgAux, gb_sendRaw, gb_flag_same _ _ _ (by decide)]

end check

/-! ### A result in the whole -/

section whole
variable {q : MonReq} {res sum : Int} {a : Nat}

/-- A result with what a failed check adds. -/
def resultChecked (g : Nat) (q : MonReq) (res sum : Int) (s : State) : State :=
  whenB (resultOut s g q res sum) (monOut g q (res - rneDiv sum 80).natAbs) (resultKept g q res (resultOut s g q res sum) s)

theorem resultChecked_touches : Touches (resultReg g q :: (if resultOut s g q res sum = true then [maA g R.maStat] else []) ++ inputRegs g q) s
    (resultChecked g q res sum s) := by
  rw [resultChecked, whenB]
  split
  · refine ((resultKept_touches q res _).mono ?_).trans ((monOut_touches _ g q _).mono ?_)
    · simp
    · have input : checkRegs g q ⊆ resultReg g q :: ([maA g R.maStat] ++ inputRegs g q) := fun b hb => by simp [checkRegs_subset g q hb]
      exact List.cons_subset.2 ⟨by simp, input⟩
  · exact resultKept_touches q res _

theorem fin_resultChecked : (mon (resultChecked g q res sum s) g).fin = none := by
  rw [resultChecked, whenB_keeps (mon · g) (mon_monOut _ g q _ g), fin_resultKept]

theorem not_mem_checkRegs {b : Nat} (h : b ≠ chA (8 * g + q.input) R.dacStat) : b ∉ checkRegs g q := by
  unfold checkRegs
  split <;> simp [h]

/-- What a failed check writes is neither the result register nor the read-back of a channel. -/
theorem rd_resultChecked {b : Nat} (status : b ≠ maA g R.maStat) (check : b ≠ chA (8 * g + q.input) R.dacStat) :
    rd (resultChecked g q res sum s) b = rd (resultKept g q res (resultOut s g q res sum) s) b := by
  have other : b ∉ maA g R.maStat :: checkRegs g q := fun h => (List.mem_cons.1 h).elim status (not_mem_checkRegs check)
  exact whenB_keeps (rd · b) ((monOut_touches _ g q _).2 b other) _

variable (hf : (mon s g).fin = some (q, a, sum)) (lo : -(2 ^ 23) ≤ res) (hi : res < 2 ^ 23)
include hf lo hi

/-- A self-test that asked for the conversion learns of it; no register moves, and no message of the collector. -/
theorem monResult_shows : ∃ tests, monResult g res s =
    { resultChecked g q res sum s with fc := { (resultChecked g q res sum s).fc with tests } } := by
  rw [monResult_eq hf lo hi]
  unfold whenB
  split
  · exact ⟨_, rfl⟩
  · exact ⟨_, rfl⟩

theorem monResult_touches :
    Touches (resultReg g q :: (if resultOut s g q res sum = true then [maA g R.maStat] else []) ++ inputRegs g q) s (monResult g res s) := by
  obtain ⟨tests, shown⟩ := monResult_shows hf lo hi
  rw [shown]
  exact resultChecked_touches.trans (.of_regs_eq rfl ⟨rfl, rfl, rfl⟩)

theorem rd_monResult (b : Nat) : rd (monResult g res s) b = rd (resultChecked g q res sum s) b := by
  obtain ⟨tests, shown⟩ := monResult_shows hf lo hi
  rw [shown]
  rfl

theorem fin_monResult : (mon (monResult g res s) g).fin = none := by
  obtain ⟨tests, shown⟩ := monResult_shows hf lo hi
  rw [shown]
  exact fin_resultChecked

theorem reports_monResult {src kind : Nat} (h : Reports src kind (resultChecked g q res sum s)) : Reports src kind (monResult g res s) := by
  obtain ⟨tests, shown⟩ := monResult_shows hf lo hi
  rw [shown]
  exact h

/-- The count, the flags and the message of a failed check. -/
theorem monResult_failed (channel : ∀ n o, maA g R.maStat ≠ chA n o) (hne : resultReg g q ≠ maA g R.maStat)
    (failed : resultOut s g q res sum = true) :
    gf (monResult g res s) (maA g R.maStat) 16 8 = min (gf s (maA g R.maStat) 16 8 + 1) 255 ∧
    (q.input < 8 → gb (monResult g res s) (maA g R.maStat) 5 = true ∧ gb (monResult g res s) (chA (8 * g + q.input) R.dacStat) 2 = true ∧
      Reports (8 + g) 0x12 (monResult g res s)) ∧
    (8 ≤ q.input → gb (monResult g res s) (maA g R.maStat) 6 = true ∧ Reports (8 + g) 0x13 (monResult g res s)) := by
  have same := rd_monResult hf lo hi
  obtain ⟨count, readback, other⟩ :=
    monOut_shows (resultKept g q res (resultOut s g q res sum) s) g q (res - rneDiv sum 80).natAbs channel
  have checked : resultChecked g q res sum s = monOut g q _ _ := if_pos failed
  rw [← checked] at count readback other
  refine ⟨?_, fun input => ?_, fun input => ?_⟩
  · rw [gf_eq_rd (same _), count, gf_eq_rd (status_resultKept q res _ channel hne)]
  · obtain ⟨window, flag, message⟩ := readback input
    exact ⟨(gb_eq_rd _ (same _)).trans window, (gb_eq_rd _ (same _)).trans flag, reports_monResult hf lo hi message⟩
  · obtain ⟨limits, message⟩ := other input
    exact ⟨(gb_eq_rd _ (same _)).trans limits, reports_monResult hf lo hi message⟩

end whole

/-! ### The end of a calibration (R197) -/

theorem each_keeps {α β : Type} (p : State → β) (f : α → State → State) (h : ∀ y u, p (f y u) = p u) (xs : List α) (s : State) :
    p (each f xs s) = p s := by
  induction xs generalizing s with
  | nil => rfl
  | cons _ _ ih => rw [each, ih, h]

theorem calComplete_touches (g : Nat) (s : State) : Touches [maA g R.maStat] s (calComplete g s) :=
  (Touches.updMon _ g _ s).trans (.sb (by simp) 0 false _)

theorem mon_calComplete (g : Nat) (s : State) : mon (calComplete g s) g = { mon s g with calSlots := none } := by
  rw [calComplete, mon_sb, mon_updMon_same]

/-- A held request is answered NOT_AVAILABLE. -/
def notAvailable (g : Nat) (r : MonReq) (s : State) : State := sf (maA g (reqRes r.src)) 24 2 2 s

theorem each_notAvailable_touches (g : Nat) (xs : List MonReq) (s : State) :
    Touches (xs.map (fun x => maA g (reqRes x.src))) s (each (notAvailable g) xs s) :=
  .each (fun _ hx u => .sf (List.mem_map_of_mem hx) 24 2 2 u) s

theorem gf_notAvailable (r : MonReq) (a : Nat) (s : State) :
    gf (notAvailable g r s) a 24 2 = if maA g (reqRes r.src) = a then 2 else gf s a 24 2 := by
  split
  · next h => rw [← h, notAvailable, gf_sf_same _ _ _ _ _ (by decide), Nat.mod_eq_of_lt (by decide)]
  · next h => exact gf_sf_of_ne _ _ _ _ _ _ h

theorem gf_each_notAvailable {x : MonReq} {xs : List MonReq} (s : State)
    (h : x ∈ xs ∨ gf s (maA g (reqRes x.src)) 24 2 = 2) : gf (each (notAvailable g) xs s) (maA g (reqRes x.src)) 24 2 = 2 := by
  induction xs generalizing s with
  | nil => exact h.resolve_left List.not_mem_nil
  | cons y ys ih =>
    rw [each]
    refine ih _ ?_
    rw [gf_notAvailable]
    rw [List.mem_cons] at h
    obtain (rfl | later) | before := h
    · exact .inr (if_pos rfl)
    · exact .inl later
    · exact .inr (by rw [before, ite_self])

/-- What a timeout shows, before the converter forgets its requests. -/
def timeoutShown (g : Nat) (s : State) : State := sendMsg (8 + g) 0x14 0 0 (flag (maA g R.maStat) 2 (calComplete g s))

theorem timeoutShown_touches (g : Nat) (s : State) : Touches [maA g R.maStat] s (timeoutShown g s) :=
  ((calComplete_touches g s).trans (.flag (by simp) 2 _)).trans (.sendMsg _ _ _ _ _)

/-- After a timeout the requests are answered, and the converter forgets them. -/
def timeoutOver (g : Nat) (s : State) : State :=
  updMon g (fun m => { m with pend := [] }) (each (notAvailable g) (mon s g).pend (timeoutShown g s))

/-- Besides, the self-tests that asked for a request ask for one less. -/
theorem calTimeout_eq (g : Nat) (s : State) :
    ∃ tests, calTimeout g s = { timeoutOver g s with fc := { (timeoutOver g s).fc with tests } } := ⟨_, rfl⟩

theorem rd_calTimeout (g : Nat) (s : State) (a : Nat) :
    rd (calTimeout g s) a = rd (each (notAvailable g) (mon s g).pend (timeoutShown g s)) a := by
  obtain ⟨tests, ht⟩ := calTimeout_eq g s
  rw [ht]
  rfl

theorem mon_calTimeout (g : Nat) (s : State) : mon (calTimeout g s) g = { mon s g with calSlots := none, pend := [] } := by
  obtain ⟨tests, ht⟩ := calTimeout_eq g s
  have answered : mon (each (notAvailable g) (mon s g).pend (timeoutShown g s)) g = { mon s g with calSlots := none } := by
    rw [each_keeps (mon · g) (notAvailable g) (fun _ _ => mon_sf _ _ _ _ _ g), timeoutShown, sendMsg, mon_sendRaw, mon_flag, mon_calComplete]
  rw [ht]
  change mon (timeoutOver g s) g = _
  rw [timeoutOver, mon_updMon_same, answered]

theorem reports_calTimeout (g : Nat) (s : State) : Reports (8 + g) 0x14 (calTimeout g s) := by
  obtain ⟨tests, ht⟩ := calTimeout_eq g s
  have bus : (timeoutOver g s).fc = (timeoutShown g s).fc := each_keeps State.fc (notAvailable g) (fun _ _ => sf_fc _ _ _ _ _) _ _
  have now : (timeoutOver g s).now = (timeoutShown g s).now := each_keeps State.now (notAvailable g) (fun _ _ => sf_now _ _ _ _ _) _ _
  rw [ht, Reports, now, bus]
  exact ⟨_, mem_insMsg _ _, rfl, rfl, rfl⟩

theorem calTimeout_touches (g : Nat) (s : State) :
    Touches (maA g R.maStat :: (mon s g).pend.map (fun x => maA g (reqRes x.src))) s (calTimeout g s) := by
  have shown := (timeoutShown_touches g s).mono (List.cons_subset_cons _ (List.nil_subset ((mon s g).pend.map (fun x => maA g (reqRes x.src)))))
  have answered := (each_notAvailable_touches g (mon s g).pend (timeoutShown g s)).mono (List.subset_cons_self (maA g R.maStat) _)
  obtain ⟨tests, ht⟩ := calTimeout_eq g s
  rw [ht]
  exact (shown.trans answered).trans (.of_regs_eq rfl ⟨rfl, rfl, rfl⟩)

theorem rd_calTimeout_status (g : Nat) (s : State) : rd (calTimeout g s) (maA g R.maStat) = rd (timeoutShown g s) (maA g R.maStat) := by
  refine (rd_calTimeout g s _).trans ((each_notAvailable_touches g _ _).2 _ fun h => ?_)
  obtain ⟨x, -, hx⟩ := List.mem_map.1 h
  exact reqRes_ne_maStat _ hx

theorem gb_calTimeout (g : Nat) (s : State) :
    gb (calTimeout g s) (maA g R.maStat) 0 = false ∧ gb (calTimeout g s) (maA g R.maStat) 2 = true := by
  simp only [gb_eq_rd _ (rd_calTimeout_status g s)]
  rw [timeoutShown, sendMsg, gb_sendRaw, gb_sendRaw, gb_flag_same _ _ _ (by decide), gb_flag _ (by decide), calComplete,
    gb_sb_same _ _ _ _ (by decide)]
  exact ⟨rfl, rfl⟩

/-! ### The statement -/

/-- Settles O30: a request and CAL by what refuses them, a boundary by the request it finds, a result by its input and its check, and
the timeout by the requests it answers. -/
theorem monitorConverters : Obligations.MonitorConverters := by
  unfold Obligations.MonitorConverters
  intro s g k q res sum w hg st m resReg bad calSame earlier
  have reg : ∀ j, resReg j = maA g (reqRes j) := fun j => (maA_reqRes j).symm
  have deferred : decide calSame = calNow s g := (calNow_eq s g).symm
  have channel : ∀ n o, st ≠ chA n o := fun n o => (maA_lt_chA hg.2 (by decide) n o).ne
  refine ⟨fun hk taken => ?_, fun hk refused => ?_, fun busy => ?_, fun idle first => ?_, fun idle again => ?_,
    fun slot next free alone empty => ?_, fun fin src entry _ lo hi => ?_, fun done => ?_, fun late => ?_⟩
  -- a request of the host, taken and refused
  · have frame := monRequest_touches g (hostReq s k w) s
    refine ⟨_, frame.whenGroup (due := fun _ => decide (k < 4)) hg (decide_eq_true hk) (hostInjReq_taken taken), ?_, ?_, ?_, ?_, ?_⟩
    · rw [reg]
      exact status_monRequest g (hostReq s k w) s
    · rw [mon_monRequest]
      rfl
    · rw [mon_monRequest, ← deferred]
      by_cases h : calSame <;> simp [h, m]
    · rw [deferred]
      exact deferred_monRequest g _ s
    · rw [reg]
      exact frame.onlyRegs
  · exact flag_answers (due := fun _ => decide (k < 4)) (by decide) hg (decide_eq_true hk) (hostInjReq_refused refused)
  -- CAL while one runs, the first and a second one that waits
  · exact flag_answers (due := fun _ => true) (by decide) hg rfl (monCalCmd_busy busy)
  · have frame : Touches [st] s (whenB (decide (0 < m.pend.length) || reqRuns s g) (flag st 1) (calWaits g s)) :=
      (Touches.updMon _ g _ s).trans (.whenB _ (.flag (by simp) 1 _))
    have waits : mon (whenB (decide (0 < m.pend.length) || reqRuns s g) (flag st 1) (calWaits g s)) g =
        { m with calWait := true, calAfter := m.pend.length, calAt := s.now } := by
      rw [whenB_keeps (mon · g) (mon_flag _ _ _ g), calWaits, mon_updMon_same]
    refine ⟨_, frame.whenGroup (due := fun _ => true) hg rfl (monCalCmd_first idle first), by rw [waits], by rw [waits], by rw [waits], ?_,
      frame.onlyRegs⟩
    · rw [gb_whenB_flag _ _ _ _ (by decide), calWaits, gb_updMon, ← Bool.or_assoc]
      simp only [List.length_pos_iff]
  · exact (Touches.refl [] s).whenGroup (due := fun _ => true) hg rfl (monCalCmd_again idle again)
  -- a slot boundary
  · have boundary : BoundaryFree s g := ⟨free, alone, empty⟩
    have frame := slotBoundary_touches boundary
    have taken : ∀ j, (∃ r ∈ m.pend, r.src = j ∧ pickReq s.now m.pend = some r) → ∃ c ∈ (mon (slotBoundary g s) g).conv,
        c.1.src = j ∧ c.1 ∈ m.pend ∧ c.2 = (s.now, 0) ∧ gf (slotBoundary g s) st 8 5 = gf s st 8 5 := by
      rintro j ⟨r, hr, hj, pick⟩
      obtain ⟨conv, stays⟩ := slotBoundary_takes boundary pick
      exact ⟨_, conv, hj, hr, rfl, stays⟩
    refine ⟨_, frame.whenGroup (due := (slotDue · g)) hg (by simp [slotDue, slot, next, m]) rfl, fin_slotBoundary boundary,
      fun hq before hsrc => ?_, fun hq before hsrc order => ?_, fun quiet scans long => ?_, frame.onlyRegs⟩
    · exact taken 4 (pickReq_force hq hsrc before)
    · exact taken q.src (pickReq_host hq hsrc before order)
    · exact slotBoundary_scans boundary (pickReq_none fun x hx before => quiet x hx ⟨hx, before⟩) scans long
  -- a result
  · intro out dst ch
    have dstReg : dst = resultReg g q := by simp only [dst, resultReg, reg]
    obtain ⟨notStatus, notChannel⟩ := resultReg_ne src entry hg.2
    have result : (mon s g).fin = some (q, s.now, sum) := fin
    have frame := monResult_touches result lo hi
    have same := rd_monResult result lo hi
    refine ⟨_, frame.whenGroup (due := (resultDue · g)) hg (by simp [resultDue, result]) rfl, fin_monResult result lo hi, ?_, fun input => ?_,
      monResult_failed result lo hi channel notStatus, ?_⟩
    · rw [same, dstReg, rd_resultChecked notStatus (notChannel _ _), rd_resultKept]
      rfl
    · rw [same, rd_resultChecked (channel _ _).symm (mt chA_inj.1 (by decide)), readback_resultKept q res _ input notChannel]
    · rw [dstReg]
      exact frame.onlyRegs
  -- a calibration ends, and it times out
  · have frame := calComplete_touches g s
    refine ⟨_, frame.whenGroup (due := (calDone · g)) hg ?_ rfl, ?_, ?_, ?_, frame.onlyRegs⟩
    · simpa [calDone, Option.any_eq_true] using done
    · rw [mon_calComplete]
    · exact gb_sb_same _ _ _ _ (by decide)
    · rw [mon_calComplete]
  · have frame := calTimeout_touches g s
    obtain ⟨ended, shown⟩ := gb_calTimeout g s
    refine ⟨_, frame.whenGroup (due := (calTmoDue · g)) hg ?_ rfl, ?_, ended, shown, reports_calTimeout g s, ?_,
      fun x hx _ => ?_, frame.onlyRegs⟩
    · simpa [calTmoDue, calTmo, Option.any_eq_true] using late
    · rw [mon_calTimeout]
    · rw [mon_calTimeout]
    · rw [reg, gf_eq_rd (rd_calTimeout g s _)]
      exact gf_each_notAvailable _ (.inl hx)

end Sys2Proof.Machine
end

section
/-! PROOFS. The segment player's commands and descriptor writes (07 R201 to R204, R209 to R213): what is refused, what is accepted or
stored, and O31 assembled from it. -/

namespace Sys2Proof.Machine

/-! ### What is refused -/

variable (s : State) (n : Nat)

/-- A write that will start the player. -/
def startsPlayer : FW → Bool
  | .genStart _ => true
  | _ => false

/-- A write that will set the mark. -/
def setsMark : FW → Bool
  | .genMark _ => true
  | _ => false

theorem runAhead_iff : runAhead s n = true ↔ (chan s n).gen.run = true ∨ ∃ e ∈ (chan s n).shadow, startsPlayer e = true := by
  unfold runAhead
  rw [Bool.or_eq_true, List.any_eq_true]
  rfl

theorem startRefused_iff (d : Nat) : startRefused s n d = true ↔ ¬ gdValid s n d = true ∨ runAhead s n = true := by
  simp [startRefused]

theorem jumpRefused_iff (d : Nat) : jumpRefused s n d = true ↔ ¬ gdValid s n d = true ∨ ¬ runAhead s n = true := by
  simp [jumpRefused]

/-- A replay runs until its position is the sample due of a player that has still to play. -/
theorem replaying_iff : replaying s n = true ↔
    ∃ p ∈ (chan s n).gen.replay, (chan s n).gen.run = false ∨ (chan s n).gen.done = true ∨ p ≠ (chan s n).gen.r := by
  unfold replaying replayDue
  cases h : (chan s n).gen.replay with
  | none => simp
  | some p => simp [or_assoc, h]

theorem markRefused_iff : markRefused s n = true ↔ ¬ runAhead s n = true ∨ replaying s n = true := by
  simp [markRefused]

theorem rewindRefused_iff : rewindRefused s n = true ↔
    ¬ ((chan s n).gen.mark ≠ none ∨ ∃ e ∈ (chan s n).shadow, setsMark e = true) := by
  have eq : rewindRefused s n = ((chan s n).gen.mark.isNone && (chan s n).shadow.all (fun w => !setsMark w)) := by
    unfold rewindRefused
    congr 2
    funext w
    cases w <;> rfl
  simp [eq]

/-- The check of a descriptor's words (R202). -/
theorem gdCheck_iff (d : Nat) : gdCheck s n d = false ↔
    gdLen s n d < 4 ∨ 2 ^ 24 < gdLen s n d ∨ memSize s < gdAddr s n d + 64 * gdLen s n d := by
  unfold gdCheck
  simp only [Bool.and_eq_false_iff, decide_eq_false_iff_not, not_le, or_assoc]

/-! ### Commands accepted and refused -/

/-- A refusal of the generator with one of its flags (R204, R221). -/
def genRefusal (n b : Nat) (s : State) : State := reject (chA n R.genStat) b (chA n R.genCnt) 16 8 s

theorem genAccept_taken {r : Bool} (hr : r = false) (f : FW) : genAccept n r f s = accept n f s := by
  subst hr
  rfl

theorem genAccept_refused {r : Bool} (hr : r = true) (f : FW) : genAccept n r f s = genRefusal n 13 s := by
  subst hr
  rfl

theorem genRefusal_touches (b : Nat) : Touches [chA n R.genStat, chA n R.genCnt] s (genRefusal n b s) := .reject (by simp) (by simp) _ _ _ s

@[simp] theorem chan_genRefusal (b m : Nat) : chan (genRefusal n b s) m = chan s m := chan_reject s _ _ _ _ _ m

theorem gb_genRefusal {b : Nat} (hb : b < 32) : gb (genRefusal n b s) (chA n R.genStat) b = true := by
  rw [genRefusal, reject, gb_eq_rd _ (rd_bump_of_ne _ _ _ (by simp)), gb_flag_same _ _ _ hb]

theorem gf_genRefusal (b : Nat) : gf (genRefusal n b s) (chA n R.genCnt) 16 8 = min (gf s (chA n R.genCnt) 16 8 + 1) 255 := by
  rw [genRefusal, reject, gf_bump_byte _ (by decide), gf_flag_of_ne _ _ _ _ (by simp)]

section command
variable {s n} {c : Instr} {g : State → State} (hn : ChanIn n s) (hc : exec c s = onChan n s g)
include hn hc

/-- A command whose write joins the shadow set. -/
theorem command_takes {f : FW} (hg : g s = accept n f s) : ∃ t, exec c s = .next t ∧ Accepted n f s t ∧ OnlyRegs [] s t := by
  have frame : Touches [] s (accept n f s) := .accept n f s
  exact ⟨_, hc.trans (frame.onChan hn hg), accepted_accept s n f rfl, frame.onlyRegs⟩

/-- A command that the generator refuses: its flag, the count, and nothing else. -/
theorem command_refused {b : Nat} (hb : b < 32) (hg : g s = genRefusal n b s) :
    ∃ t, exec c s = .next t ∧ gb t (chA n R.genStat) b = true ∧
      gf t (chA n R.genCnt) 16 8 = min (gf s (chA n R.genCnt) 16 8 + 1) 255 ∧ chan t n = chan s n ∧
      OnlyRegs [chA n R.genStat, chA n R.genCnt] s t := by
  have frame := genRefusal_touches s n b
  exact ⟨_, hc.trans (frame.onChan hn hg), gb_genRefusal s n hb, gf_genRefusal s n b, chan_genRefusal s n b n, frame.onlyRegs⟩

end command

/-! ### A write of a descriptor's word (R202 to R204) -/

/-- The bits of a descriptor's word that are stored (R201). -/
def gdMask (off : Nat) : Word := if off = 0 then 0xFFFFFFC0 else if off = 4 then 0xF else if off = 8 then 0x1FFFFFF else 0xB3FFFFFF

theorem gdMask_word {k : Nat} (hk : k < 4) :
    gdMask (4 * k) = if k = 0 then 0xFFFFFFC0 else if k = 1 then 0xF else if k = 2 then 0x1FFFFFF else 0xB3FFFFFF := by
  interval_cases k <;> rfl

section descriptor
variable {s n} {d off : Nat} {w : Word}

theorem gdWrite_held (h : gdHeld s n d off w = true) : gdWrite n d off w s = genRefusal n 9 s := if_pos h

theorem gdWrite_unfit (h : gdHeld s n d off w = false) (ho : off = 12) (hw : w.getLsbD 31 = true) (hc : gdCheck s n d = false) :
    gdWrite n d off w s = genRefusal n 13 s := by
  unfold gdWrite
  rw [if_neg (by simp [h]), if_pos ⟨ho, by rwa [bit_lsb], by simp [hc]⟩]
  rfl

theorem gdWrite_stores (h : gdHeld s n d off w = false) (hc : off = 12 → w.getLsbD 31 = true → gdCheck s n d = true) :
    gdWrite n d off w s = wr (gdA n d off) (w &&& gdMask off) s := by
  unfold gdWrite
  rw [if_neg (by simp [h]), if_neg]
  · rfl
  · rintro ⟨ho, hw, bad⟩
    rw [bit_lsb] at hw
    exact bad (hc ho hw)

/-! What an instruction shows of the write in Z. -/

theorem gdRefuses_of_stores (h : gdHeld s n d off w = false) (hc : off = 12 → w.getLsbD 31 = true → gdCheck s n d = true) :
    gdRefuses s n d off w = false := by
  unfold gdRefuses
  rw [h, Bool.false_or, bit_lsb]
  by_cases ho : off = 12
  · cases hw : w.getLsbD 31
    · simp
    · simp [hc ho hw]
  · simp [ho]

theorem gdRefuses_of_unfit (ho : off = 12) (hw : w.getLsbD 31 = true) (hc : gdCheck s n d = false) : gdRefuses s n d off w = true := by
  simp [gdRefuses, ho, bit_lsb, hw, hc]

theorem gdRefuses_of_held (h : gdHeld s n d off w = true) : gdRefuses s n d off w = true := by
  simp [gdRefuses, h]

end descriptor

/-! ### Active descriptors (R203) -/

section settled
variable {s n} (played : playPending s n = false)
include played

/-- A player that has no sample to play in this tick has nothing to turn to. -/
theorem tickTurns_of_played : tickTurns n s = s := by
  unfold playPending at played
  have noReplay : replayDue s n = false := by simp only [replayDue, played, Bool.false_and]
  have noBoundary : boundaryDue s n = false := by simp only [boundaryDue, played, Bool.false_and]
  simp only [tickTurns, noReplay, noBoundary, Bool.false_eq_true, if_false]

theorem ensurePlayed_of_played : ensurePlayed n s = s := by
  have idle : ((chan s n).gen.done || !(chan s n).gen.run) = true := by
    rw [playPending, Bool.and_eq_false_iff, Bool.not_eq_false'] at played
    rcases played with h | h <;> simp [h]
  simp only [ensurePlayed, tickTurns_of_played played, idle, if_true]

/-- Once the tick's sample has played and no commit waits, the active descriptors are held, and no others. -/
theorem gdHeld_of_settled (committed : (chan s n).gen.commitDue = false) (d off : Nat) (w : Word) :
    gdHeld s n d off w = (activeDescs s n).contains d := by
  simp only [gdHeld, liveDescs, genView, ensurePlayed_of_played played, committed, Bool.false_eq_true, if_false, Bool.and_false,
    Bool.false_and, Bool.or_false]

end settled

/-! ### The host's commands -/

/-- The offset of a descriptor's word names the descriptor and the word. -/
theorem exec_genDescriptorWrite {d k : Nat} (w : Word) (hd : d < 1024) (hk : k < 4) :
    exec (.genDescriptorWrite n (R.gd + 16 * d + 4 * k) w) s = onChan n s (gdWrite n d (4 * k) w) := by
  have inside : (decide (R.gd ≤ R.gd + 16 * d + 4 * k) && decide (R.gd + 16 * d + 4 * k < 0x10000)) = true := by
    simp only [R.gd, Bool.and_eq_true, decide_eq_true_eq]
    omega
  have desc : (R.gd + 16 * d + 4 * k - R.gd) / 16 = d := by omega
  have word : (R.gd + 16 * d + 4 * k - R.gd) % 16 / 4 * 4 = 4 * k := by omega
  change onChan n s (whenB _ (gdWrite n _ _ w)) = _
  rw [inside, desc, word]
  rfl

/-- Settles O31: each command by whether the player refuses it, a descriptor's word by what holds it and by its check. -/
theorem generatorCommands : Obligations.GeneratorCommands := by
  unfold Obligations.GeneratorCommands
  intro s n d k w hn hd st cnt g runs valid marked takes refused word active len start bad kept
  have small : d % 1024 = d := Nat.mod_eq_of_lt hd
  have runs_iff : runAhead s n = true ↔ runs := runAhead_iff s n
  have start_iff : startRefused s n d = true ↔ ¬ valid ∨ runs := by rw [← runs_iff]; exact startRefused_iff s n d
  have jump_iff : jumpRefused s n d = true ↔ ¬ valid ∨ ¬ runs := by rw [← runs_iff]; exact jumpRefused_iff s n d
  have rewind_iff : rewindRefused s n = true ↔ ¬ marked := rewindRefused_iff s n
  have check_iff : gdCheck s n d = false ↔ bad := gdCheck_iff s n d
  refine ⟨fun hv hr => ?_, fun h => ?_, fun hv hr => ?_, fun h => ?_, ?_⟩
  -- PRIME and START, JUMP and JUMP_NOW: accepted, refused
  · have free : startRefused s n d = false := Bool.eq_false_iff.2 fun h => (start_iff.1 h).elim (· hv) hr
    exact ⟨command_takes hn rfl (by rw [small]; exact genAccept_taken s n free _),
      command_takes hn rfl (by rw [small]; exact genAccept_taken s n free _)⟩
  · have turned := start_iff.2 h
    exact ⟨command_refused hn rfl (by decide) (by rw [small]; exact genAccept_refused s n turned _),
      command_refused hn rfl (by decide) (by rw [small]; exact genAccept_refused s n turned _)⟩
  · have free : jumpRefused s n d = false := Bool.eq_false_iff.2 fun h => (jump_iff.1 h).elim (· hv) (· hr)
    exact ⟨command_takes hn rfl (by rw [small]; exact genAccept_taken s n free _),
      command_takes hn rfl (by rw [small]; exact genAccept_taken s n free _)⟩
  · have turned := jump_iff.2 h
    exact ⟨command_refused hn rfl (by decide) (by rw [small]; exact genAccept_refused s n turned _),
      command_refused hn rfl (by decide) (by rw [small]; exact genAccept_refused s n turned _)⟩
  intro replays
  have mark_iff : markRefused s n = true ↔ ¬ runs ∨ replays := by
    rw [← runs_iff, markRefused_iff]
    exact or_congr_right (replaying_iff s n)
  have small' : d % 16384 = d := Nat.mod_eq_of_lt (by omega)
  refine ⟨fun hr hp => ?_, fun h => ?_, fun h => ?_, fun h => ?_, ?_, ?_, fun hk free fits => ?_, fun hk held => ?_,
    fun played committed _ _ => ?_, fun free hw unfit => ?_⟩
  -- MARK and REWIND accepted and refused, STOP, UNMARK
  · have free : markRefused s n = false := Bool.eq_false_iff.2 fun h => (mark_iff.1 h).elim (· hr) hp
    exact command_takes hn rfl (by rw [small']; exact genAccept_taken s n free _)
  · exact command_refused hn rfl (by decide) (by rw [small']; exact genAccept_refused s n (mark_iff.2 h) _)
  · have free : rewindRefused s n = false := Bool.eq_false_iff.2 fun h' => rewind_iff.1 h' h
    exact command_takes hn rfl (genAccept_taken s n free _)
  · exact command_refused hn rfl (by decide) (genAccept_refused s n (rewind_iff.2 h) _)
  · exact command_takes hn rfl rfl
  · exact command_takes hn rfl rfl
  -- a descriptor's word: stored, held, active, unfit
  · have fit : 4 * k = 12 → w.getLsbD 31 = true → gdCheck s n d = true := by
      intro h12 hw
      by_contra unfit
      exact fits ⟨by omega, hw, check_iff.1 (Bool.eq_false_iff.2 unfit)⟩
    have stored : Touches [chA n (word k)] s (wr (gdA n d (4 * k)) (w &&& gdMask (4 * k)) s) := .wr (by simp [word, gdA]) _ s
    refine ⟨_, (exec_genDescriptorWrite s n w hd hk).trans (stored.onChan hn (gdWrite_stores (Bool.eq_false_iff.2 free) fit)), ?_,
      stored.onlyRegs⟩
    exact (rd_wr_same s _ _).trans (congrArg (w &&& ·) (gdMask_word hk))
  · exact command_refused hn (exec_genDescriptorWrite s n w hd hk) (by decide) (gdWrite_held held)
  · change _ ↔ gdHeld s n d (4 * k) w = true
    rw [gdHeld_of_settled played committed, List.contains_iff_mem]
  · exact command_refused hn (exec_genDescriptorWrite s n w hd (k := 3) (by decide)) (by decide)
      (gdWrite_unfit free rfl hw (check_iff.2 unfit))

end Sys2Proof.Machine
end

section
/-! PROOFS. GEN, MARK, REWIND, JUMP, SEG and DDS (09 R258): the player's commands and descriptor writes as an instruction makes them, the
writes of the DDS (07 R216 to R219), and O9 assembled from them. -/

namespace Sys2Proof.Machine

/-! ### What an active descriptor depends on -/

/-- The registers, the channels' states and the tick are the same in two states. -/
structure SameChannels (s t : State) : Prop where
  regs : t.regs = s.regs
  chans : t.chans = s.chans
  now : t.now = s.now

namespace SameChannels
variable {s t : State} (h : SameChannels s t)
include h

theorem rd (a : Nat) : rd t a = rd s a := congrArg (fun m => Map.get (resetWord a) m a) h.regs

theorem chan (n : Nat) : chan t n = chan s n := congrArg (fun m => Map.get ({} : Chan) m n) h.chans

theorem gf (a lo len : Nat) : gf t a lo len = gf s a lo len := congrArg (fld · lo len) (h.rd a)

theorem gb (a i : Nat) : gb t a i = gb s a i := congrArg (bit · i) (h.rd a)

theorem playLen (n d : Nat) : playLen t n d = playLen s n d := congrArg (16 * ·) (h.gf _ _ _)

theorem playSample (n : Nat) : playSample t n = playSample s n := by
  funext g
  simp only [Machine.playSample, h.playLen, dueFailed, h.now]

theorem updGen (n : Nat) (f : Player → Player) : SameChannels (updGen n f s) (updGen n f t) := by
  refine ⟨h.regs, ?_, h.now⟩
  simp only [Machine.updGen, updChan, h.chan, h.chans]

theorem flag (a i : Nat) : SameChannels (flag a i s) (flag a i t) := by
  refine ⟨?_, h.chans, h.now⟩
  simp only [Machine.flag, sb, sf, wr, h.rd, h.regs]

theorem counted (ev q : Nat) : SameChannels (count ev q s) (count ev q t) := ⟨h.regs, h.chans, h.now⟩

theorem ite {u v : State} (h' : SameChannels u v) (c : Prop) [Decidable c] :
    SameChannels (if c then s else u) (if c then t else v) := by
  split
  · exact h
  · exact h'

theorem replayDue (n : Nat) : replayDue t n = replayDue s n := by simp only [Machine.replayDue, h.chan]

theorem boundaryDue (n : Nat) : boundaryDue t n = boundaryDue s n := by simp only [Machine.boundaryDue, h.chan, h.now]

theorem nextDesc (n : Nat) : nextDesc t n = nextDesc s n := by simp only [Machine.nextDesc, h.chan, h.rd]

theorem gdCheck (n d : Nat) : gdCheck t n d = gdCheck s n d := by
  have len : gdLen t n d = gdLen s n d := h.gf _ _ _
  have addr : gdAddr t n d = gdAddr s n d := by rw [gdAddr, h.gf, h.gf, ← gdAddr]
  have size : memSize t = memSize s := by rw [memSize, h.gf, ← memSize]
  rw [Machine.gdCheck, len, addr, size, ← Machine.gdCheck]

theorem tickTurns (n : Nat) : SameChannels (tickTurns n s) (tickTurns n t) := by
  have turned : SameChannels (if Machine.replayDue s n = true then replayOver n s else s)
      (if Machine.replayDue s n = true then replayOver n t else t) := (h.updGen n _).ite h _
  unfold Machine.tickTurns
  rw [h.replayDue]
  dsimp only
  rw [turned.boundaryDue]
  exact (turned.updGen n _).ite turned _

theorem ensurePlayed (n : Nat) : SameChannels (ensurePlayed n s) (ensurePlayed n t) := by
  have turned := h.tickTurns n
  unfold Machine.ensurePlayed
  dsimp only
  rw [turned.chan, turned.playSample]
  have played := turned.updGen n (Machine.playSample (Machine.tickTurns n s) n)
  rw [played.chan]
  exact turned.ite (SameChannels.ite (played.counted 0x0C n) played _) _

theorem commitNext (n : Nat) : SameChannels (commitNext n s) (commitNext n t) := by
  unfold Machine.commitNext
  rw [h.nextDesc]
  split
  · exact h.updGen n _
  · rw [show gdValid t n _ = gdValid s n _ from h.gb _ _]
    exact (h.updGen n _).ite ((h.updGen n _).flag _ _) _

theorem liveDescs (n : Nat) : liveDescs t n = liveDescs s n := by
  have played := h.ensurePlayed n
  have view : SameChannels (genView n s) (genView n t) := by
    unfold genView
    dsimp only
    rw [played.chan]
    exact (played.commitNext n).ite played _
  simp only [Machine.liveDescs, activeDescs, view.chan]

theorem gdHeld (n d off : Nat) (w : Word) : gdHeld t n d off w = gdHeld s n d off w := by
  have played := h.ensurePlayed n
  simp only [Machine.gdHeld, h.liveDescs, h.gdCheck, played.chan, played.nextDesc]

end SameChannels

variable (s : State)

/-- The slots of an instruction are no part of what a player or a descriptor is. -/
theorem ran_sameChannels (n x cost : Nat) : SameChannels s (ran n x cost s) := ⟨rfl, rfl, rfl⟩

/-! ### An instruction whose command the generator takes or refuses -/

section instruction
variable {s : State} {i : Instr} {n x cost : Nat} {f : TF} {ok : Bool} {act : Nat → State → State}
variable (he : Executes n x cost s) (hok : ok = true) (hi : exec i s = tysel n cost ok (thenNext f act) s)
include he hok hi

/-- An instruction that the generator refuses with one of its flags. -/
theorem refuses_genRefusal {b : Nat} (hb : b < 32) (ht : act x (ran n x cost s) = putZ x true (genRefusal n b (ran n x cost s))) :
    Refuses i n x f (chA n R.genStat) b [chA n R.genCnt] s := by
  have n32 : n < 32 := hasChan_lt he.1.2
  have frame := ((ran_touches s _ n x cost).trans (genRefusal_touches (ran n x cost s) n b)).putZ x true
  have pcLeft : cxA x R.cxPc ∉ [chA n R.genStat, chA n R.genCnt] ++ [cxA x R.cxFlags] := by
    have pcNot : ∀ off, off < 0x10000 → cxA x R.cxPc ≠ chA n off := fun off ho => (chA_ne_cxA n32 ho x _).symm
    simp [pcNot R.genStat (by decide), pcNot R.genCnt (by decide), cx_pc_ne_flags]
  refine ⟨_, hi.trans (tysel_thenNext he hok frame ht), flagZ_advance_putZ x f true _, ?_, ?_, ?_, movedOn_advance frame pcLeft, ?_⟩
  · rw [gb_eq_rd _ (rd_advance_putZ _ n32 (by decide) x f true), gb_genRefusal _ n hb]
  · intro c hc
    obtain rfl := List.mem_singleton.1 hc
    rw [gf, rd_advance_putZ _ n32 (by decide) x f true, ← gf, gf_genRefusal, gf, rd_ran, ← gf]
  · rw [chan_advance, chan_putZ, chan_genRefusal, chan_ran]
  · refine (frame.advance.mono fun a ha => ?_).onlyRegs
    simp only [List.mem_cons, List.cons_append, List.nil_append, List.not_mem_nil, or_false] at ha ⊢
    tauto

section command
variable {r : Bool} {w : FW} (ht : act x (ran n x cost s) = withZ x r (genAccept n r w) (ran n x cost s))
include ht

/-- A command that the generator takes joins the shadow set, and Z is 0. -/
theorem instruction_takes (hr : r = false) :
    ∃ t, exec i s = .next t ∧ Accepted n w s t ∧ flagZ t x = false ∧ MovedOn x f s t ∧
      OnlyRegs [cxA x R.cxPc, cxA x R.cxFlags] s t :=
  (joins_accept_withZ he hok hi (by rw [ht, withZ, genAccept_taken _ n hr, hr])).withZ

/-- One that it refuses sets CMD_REJ. -/
theorem instruction_refused (hr : r = true) : Refuses i n x f (chA n R.genStat) 13 [chA n R.genCnt] s :=
  refuses_genRefusal he hok hi (by decide) (by rw [ht, withZ, genAccept_refused _ n hr, hr])

end command

end instruction

/-! ### Form -/

theorem genForm_of {f : TF} {k : Nat} (hd : f.rd = 0) (hb : TF.rb f = 0) (hx : f.x = true → f.ra = 0) (h : TF.fn f = k) (hk : k < 4) :
    genForm k f = true := by
  simp [genForm, vForm_of hd hb hx (h ▸ hk), h]

theorem segForm_of {f : TF} (hd : f.rd = 0) (hx : f.x = true → f.ra = 0) (h : TF.fn f < 4) :
    (f.rd == 0 && (!f.x || f.ra == 0) && decide (TF.fn f < 4)) = true := by
  have ra : f.x = false ∨ f.ra = 0 := (Bool.eq_false_or_eq_true f.x).symm.imp_right hx
  simpa [hd, h] using ra

/-! ### The instructions -/

theorem Joins.plain {s : State} {i : Instr} {n x : Nat} {f : TF} {w : FW} (h : Joins i n x f w [] s) :
    ∃ t, exec i s = .next t ∧ Accepted n w s t ∧ MovedOn x f s t ∧ OnlyRegs [cxA x R.cxPc] s t := by
  obtain ⟨t, next, accepted, -, moved, frame⟩ := h
  exact ⟨t, next, accepted, moved, frame⟩

/-- SEG with its descriptor's word held, unfit or stored (R202, R204). -/
theorem seg_leaves {s : State} {n x : Nat} {f : TF} (hd : f.rd = 0) (hx : f.x = true → f.ra = 0) (hfn : TF.fn f < 4)
    (he : Executes n x (TF.words f) s) :
    let v := opV s x f
    let e := fld (gReg s x (TF.rb f)) 0 10
    let off := 4 * TF.fn f
    (gdHeld s n e off v = true → Refuses (.seg n f) n x f (chA n R.genStat) 9 [chA n R.genCnt] s) ∧
    (gdHeld s n e off v = false → off = 12 → v.getLsbD 31 = true → gdCheck s n e = false →
      Refuses (.seg n f) n x f (chA n R.genStat) 13 [chA n R.genCnt] s) ∧
    (gdHeld s n e off v = false → (off = 12 → v.getLsbD 31 = true → gdCheck s n e = true) →
      ∃ t, exec (.seg n f) s = .next t ∧ flagZ t x = false ∧ MovedOn x f s t ∧ rd t (gdA n e off) = v &&& gdMask off ∧
        OnlyRegs [gdA n e off, cxA x R.cxPc, cxA x R.cxFlags] s t) := by
  intro v e off
  let u := ran n x (TF.words f) s
  have same : SameChannels s u := ran_sameChannels s n x (TF.words f)
  have index : gReg u x (TF.rb f) = gReg s x (TF.rb f) := by simp only [gReg, same.rd]
  have form := segForm_of hd hx hfn
  have acts : exec (.seg n f) s = tysel n (TF.words f) (f.rd == 0 && (!f.x || f.ra == 0) && decide (TF.fn f < 4))
      (thenNext f fun _ => withZ x (gdRefuses u n e off v) (gdWrite n e off v)) s := by
    refine tysel_congr he ?_
    change thenNext f _ x u = thenNext f _ x u
    simp only [thenNext, index]
    rfl
  refine ⟨fun held => ?_, fun free ho hw unfit => ?_, fun free fits => ?_⟩
  · rw [← same.gdHeld] at held
    exact refuses_genRefusal he form acts (by decide) (by rw [withZ, gdRefuses_of_held held, gdWrite_held held])
  · rw [← same.gdHeld] at free
    rw [← same.gdCheck] at unfit
    exact refuses_genRefusal he form acts (by decide) (by rw [withZ, gdRefuses_of_unfit ho hw unfit, gdWrite_unfit free ho hw unfit])
  · rw [← same.gdHeld] at free
    rw [← same.gdCheck] at fits
    have e10 : e < 1024 := fld_lt _ 0 10
    obtain ⟨t, next, reads, z, -, moved, frame⟩ := leaves_reg_withZ he form acts (off := R.gd + 16 * e + off)
      (by simp only [R.gd, off]; omega) (by rw [withZ, gdRefuses_of_stores free fits, gdWrite_stores free fits]) (.wr (by simp [gdA]) _ _)
    exact ⟨t, next, z, moved, reads.trans (rd_wr_same _ _ _), frame⟩

/-- The write that the FN of JUMP has accepted. -/
def jumpWrite (fn d : Nat) : FW := if fn = 0 then .genJump d else .genJumpNow d

theorem jumpCommand_eq (n fn d : Nat) :
    (if fn = 0 then jumpCmd n d else jumpNowCmd n d) s = genAccept n (jumpRefused s n d) (jumpWrite fn d) s := by
  unfold jumpWrite
  split
  · rfl
  · rfl

section jump
variable {s : State} {n x : Nat} {f : TF} (he : Executes n x (TF.words f) s) (form : vForm 2 f = true)
include he form

theorem jump_takes {w : FW} (hw : jumpWrite (TF.fn f) (fld (opV s x f) 0 10) = w) (hr : jumpRefused s n (fld (opV s x f) 0 10) = false) :
    ∃ t, exec (.jump n f) s = .next t ∧ Accepted n w s t ∧ flagZ t x = false ∧ MovedOn x f s t ∧
      OnlyRegs [cxA x R.cxPc, cxA x R.cxFlags] s t := by
  subst hw
  exact instruction_takes he form rfl (congrArg (putZ x _) (jumpCommand_eq (ran n x _ s) n _ _)) hr

theorem jump_refused (hr : jumpRefused s n (fld (opV s x f) 0 10) = true) :
    Refuses (.jump n f) n x f (chA n R.genStat) 13 [chA n R.genCnt] s :=
  instruction_refused he form rfl (congrArg (putZ x _) (jumpCommand_eq (ran n x _ s) n _ _)) hr

end jump

/-- DDS with FN 0 writes the latch of the channel's sequencer (R219; 17 R436). -/
theorem dds_latches {s : State} {n x : Nat} {f : TF} (he : Executes n x (TF.words f) s) (form : vForm 9 f = true) (h : TF.fn f = 0) :
    ∃ t, exec (.dds n f) s = .next t ∧ Map.get 0 t.latches (64 * 3 + n) = opV s x f ∧ MovedOn x f s t ∧ OnlyRegs [cxA x R.cxPc] s t := by
  have latched : Touches [] s (ftwLo seqPort n (opV s x f) (ran n x (TF.words f) s)) :=
    (ran_touches s [] n x (TF.words f)).trans (.of_regs_eq rfl ⟨rfl, rfl, rfl⟩)
  refine ⟨_, tysel_thenNext he form latched ?_, Map.get_put_same _ _ _ _, movedOn_advance latched (by simp), latched.advance.onlyRegs⟩
  simp only [h, opV_ran]

/-- The write that the FN of DDS joins, other than that of the latch: of FTW_HI with the latch, of a register, of TABLE, and the commands. -/
def ddsJoined (s : State) (n : Nat) (v : Word) : Nat → FW
  | 1 => .ddsFtw (Map.get 0 s.latches (64 * 3 + n)) (v &&& 0xFFFF)
  | 2 => .reg R.ddsPhase0 (rwMask (chA n R.ddsPhase0)) v
  | 3 => .reg R.ddsAmp (rwMask (chA n R.ddsAmp)) v
  | 4 => .reg R.ddsOfs (rwMask (chA n R.ddsOfs)) v
  | 5 => .ddsTable (fld v 0 2)
  | 6 => .ddsGo
  | 7 => .ddsHalt
  | _ => .ddsPhase

theorem dds_joins {s : State} {n x k : Nat} {f : TF} (he : Executes n x (TF.words f) s) (form : vForm 9 f = true) (h : TF.fn f = k)
    (h1 : 1 ≤ k) (h8 : k ≤ 8) :
    ∃ t, exec (.dds n f) s = .next t ∧ Accepted n (ddsJoined s n (opV s x f) k) s t ∧ MovedOn x f s t ∧ OnlyRegs [cxA x R.cxPc] s t := by
  interval_cases k <;> exact (joins_accept he form rfl (by simp only [h]; rfl)).plain

/-- Settles O9: each command by the rule for commands that the generator takes or refuses, SEG by what becomes of its word, each FN of
DDS by the write that it joins. -/
theorem generatorInstructions : Obligations.GeneratorInstructions := by
  unfold Obligations.GeneratorInstructions
  intro s n x f v d fn writes rejected dds
  refine ⟨fun hd hb hx he => ?_, fun hd hb hx he => ?_, fun hf hr he => ?_, fun hf hr he => ?_, fun hd hx hfn he => ?_⟩
  · refine ⟨fun h hr => ?_, fun h hr => ?_, fun h => ?_, fun h => ?_, fun h hr => ?_, fun h hr => ?_, fun h hr => ?_,
      fun h => ?_, fun h => ?_, fun k hk h => ?_, fun h => ?_, fun h => ?_, fun h => ?_, fun h => ?_⟩
    -- GEN: PRIME, START, STOP, UNMARK
    · exact instruction_takes he (genForm_of hd hb hx h (by decide)) rfl rfl hr
    · exact instruction_takes he (genForm_of hd hb hx h (by decide)) rfl rfl hr
    · exact (joins_accept_withZ he (genForm_of hd hb hx h (by decide)) rfl rfl).withZ
    · exact (joins_accept_withZ he (genForm_of hd hb hx h (by decide)) rfl rfl).withZ
    -- MARK, JUMP, JUMP_NOW
    · exact instruction_takes he (vForm_of hd hb hx (h.trans_lt (by decide))) rfl rfl hr
    · exact jump_takes he (vForm_of hd hb hx (h.trans_lt (by decide))) (if_pos h) hr
    · exact jump_takes he (vForm_of hd hb hx (h.trans_lt (by decide))) (if_neg fun h0 => one_ne_zero (h.symm.trans h0)) hr
    -- DDS, its FN in ascending order
    · exact dds_latches he (vForm_of hd hb hx (h.trans_lt (by decide))) h
    · exact dds_joins he (vForm_of hd hb hx (h.trans_lt (by decide))) h (by decide) (by decide)
    · simp only [List.mem_cons, List.not_mem_nil, or_false] at hk
      rcases hk with rfl | rfl | rfl <;>
        exact dds_joins he (vForm_of hd hb hx (h.trans_lt (by decide))) h (by decide) (by decide)
    · exact dds_joins he (vForm_of hd hb hx (h.trans_lt (by decide))) h (by decide) (by decide)
    · exact dds_joins he (vForm_of hd hb hx (h.trans_lt (by decide))) h (by decide) (by decide)
    · exact dds_joins he (vForm_of hd hb hx (h.trans_lt (by decide))) h (by decide) (by decide)
    · exact dds_joins he (vForm_of hd hb hx (h.trans_lt (by decide))) h (by decide) (by decide)
  -- what the generator refuses
  · refine ⟨fun h hr => ?_, fun h hr => ?_, fun h hr => ?_, fun h hr => ?_⟩
    · exact instruction_refused he (genForm_of hd hb hx h (by decide)) rfl rfl hr
    · exact instruction_refused he (genForm_of hd hb hx h (by decide)) rfl rfl hr
    · exact instruction_refused he (vForm_of hd hb hx (h.trans_lt (by decide))) rfl rfl hr
    · exact jump_refused he (vForm_of hd hb hx h) hr
  -- REWIND and SEG
  · exact instruction_refused he hf rfl rfl hr
  · exact instruction_takes he hf rfl rfl hr
  · obtain ⟨held, unfit, stores⟩ := seg_leaves hd hx hfn he
    refine ⟨held, fun free h3 hw bad => unfit free (by omega) hw bad, fun free fits => ?_⟩
    obtain ⟨t, next, z, moved, reads, frame⟩ := stores free fun h12 => fits (by omega)
    exact ⟨t, next, z, moved, reads.trans (congrArg (v &&& ·) (gdMask_word hfn)), frame⟩

end Sys2Proof.Machine
end

section
/-! PROOFS. Two statements that a furl latch kept set refutes (13 R363): of the generator's events and of the host's requests. -/

namespace Sys2Proof.Scope

open Sys2Proof.Machine

/-- An underrun of CH0 is due, with GEN_CFG.UNDR = STOP and SEQ_CFG asking for a furl at an exception of context 1, which runs on CH0; the
host has released CH0's furl in this tick (13 R362). -/
def underrunAfterRelease : State :=
  { awake with
    regs := awake.regs ++ [(chA 0 R.genCfg, 0x100), (sqA 0 R.seqStat, 0x1001), (sqA 0 R.seqCfg, 3), (cxA 1 R.cxState, 2)]
    chans := [(0, { gen := { underDue := true } })]
    fc := { awake.fc with released := [0] } }

/-- Refutes O32: the exception of the underrun decides a furl (08 R243), and in the tick in which the host writes 1 to its latch a furl
leaves the latch set (13 R363), so that CH_FURLED is set again; the statement, which ranges over every state, has it stand. -/
theorem not_generatorEvents : ¬ Obligations.GeneratorEvents := by
  unfold Obligations.GeneratorEvents
  intro h
  obtain ⟨-, -, -, -, -, -, underruns, -⟩ := h underrunAfterRelease 0 0 0 (some 1) (by decide) (by decide)
  obtain ⟨t, ht, -, -, -, -, stops⟩ := underruns (by decide)
  obtain ⟨-, -, raises⟩ := stops (.inr (by decide))
  obtain ⟨-, -, only⟩ := raises 1 (by decide) (by decide) (by decide) (by decide) (by decide)
  have latched : leadsTo (.genUnderrun 0) underrunAfterRelease (fun t => gb t R.chFurled 0) = true := by decide +kernel
  have same : gb t R.chFurled 0 = gb underrunAfterRelease R.chFurled 0 := gb_eq_rd _ (only.1 R.chFurled (by decide))
  rw [holds_of_leadsTo latched ht] at same
  exact absurd same (by decide)

/-- The host has released CH0's furl in this tick (13 R362). -/
def furlReleased : State := { awake with fc := { awake.fc with released := [0] } }

/-- Refutes O45: an ABORT FURL of CH0 in the tick in which the host writes 1 to its furl's latch leaves the latch set (13 R363), so that
CH_FURLED is set again; the statement, which ranges over every state, has an ABORT change no register. -/
theorem not_hostRequests : ¬ Obligations.HostRequests := by
  unfold Obligations.HostRequests
  intro h
  obtain ⟨-, -, -, -, -, -, -, -, -, -, -, -, furls, -⟩ := h furlReleased .tc0 0 0 0 0 0 0 1 [] (by decide)
  obtain ⟨t, ht, -, -, only, -⟩ := furls
  have latched : leadsTo (.abortFurl 0 1) furlReleased (fun t => gb t R.chFurled 0) = true := by decide +kernel
  have same : gb t R.chFurled 0 = gb furlReleased R.chFurled 0 := gb_eq_rd _ (only.1 R.chFurled (by decide))
  rw [holds_of_leadsTo latched ht] at same
  exact absurd same (by decide)

end Sys2Proof.Scope
end

section
/-! PROOFS. The instructions that compute, move and branch (09 R249 to R251): what a result, a move and a jump leave, and O1 to O4
assembled from it. -/

namespace Sys2Proof.Machine

variable {s t : State} {i : Instr} {n x cost : Nat} {f : TF} {ok : Bool} {l : List Nat}

/-! ### A write of gd -/

theorem setG_touches (x : Nat) (f : TF) (w : Word) (s : State) : Touches (gdReg x f) s (setG x f.rd.toNat w s) := by
  unfold gdReg setG
  by_cases h : f.rd = 0
  · simp only [h, if_true]
    exact .refl _ s
  · have nonzero : f.rd.toNat ≠ 0 := fun e => h (BitVec.eq_of_toNat_eq e)
    rw [if_neg h, if_neg nonzero]
    exact .wr (by simp) w s

theorem gdTakes_setG (x : Nat) (f : TF) (w : Word) (s : State) : GdTakes x f w (setG x f.rd.toNat w s) := by
  unfold GdTakes gReg setG
  by_cases h : f.rd = 0
  · simp [h]
  · have nonzero : f.rd.toNat ≠ 0 := fun e => h (BitVec.eq_of_toNat_eq e)
    rw [if_neg nonzero, if_neg h, if_neg nonzero, rd_wr_same]

/-- gd lies among the general registers of its context, beyond the flags and the PC. -/
theorem not_mem_gdReg (x : Nat) (f : TF) {o : Nat} (h : o < R.cxG0) : cxA x o ∉ gdReg x f := by
  unfold gdReg
  split
  · simp
  · simpa using cx_ne x o (R.cxG0 + 4 * f.rd.toNat) (by omega)

theorem gdTakes_advance {w : Word} (h : GdTakes x f w t) : GdTakes x f w (advance x f t) := by
  unfold GdTakes gReg at *
  rwa [rd_advance_of_ne t x _ f (cx_ne x _ _ (by simp only [R.cxPc, R.cxG0]; omega))]

/-! ### An instruction with a result (R251) -/

theorem putFlags_touches (x : Nat) (o : Alu) (s : State) : Touches [cxA x R.cxFlags] s (putFlags x o s) :=
  ⟨⟨pending_putFlags s x o, inReset_putFlags s x o, ddr_putFlags s x o⟩,
    fun a ha => rd_putFlags_of_ne s x a o (fun e => ha (by simp [e]))⟩

theorem putAlu_touches (x : Nat) (f : TF) (o : Alu) (s : State) : Touches (gdReg x f ++ [cxA x R.cxFlags]) s (putAlu x f o s) :=
  ((setG_touches x f o.r s).mono (List.subset_append_left _ _)).trans
    ((putFlags_touches x o _).mono (List.subset_append_right _ _))

/-- The flags of a result, on a state u that reads as s: those the operation leaves alone keep their value. -/
theorem aluFlags_putFlags {u : State} (hu : rd u (cxA x R.cxFlags) = rd s (cxA x R.cxFlags)) (f : TF) (o : Alu) :
    AluFlags x o.r (o.c.getD (flagC s x)) (o.ovf.getD (flagOvf s x)) s (advance x f (putFlags x o u)) := by
  have flags := flags_of_rd (flags_putFlags u x o) hu.symm (rd_advance_of_ne (putFlags x o u) x _ f (cx_pc_ne_flags x))
  rwa [flagC, flagOvf, gb_eq_rd _ hu, gb_eq_rd _ hu] at flags

/-- An instruction that takes a result and moves on. -/
theorem leaves_alu {act : Nat → State → State} (o : Alu) (he : Executes n x cost s) (hok : ok = true)
    (hi : exec i s = tysel n cost ok (thenNext f act) s) (ht : act x (ran n x cost s) = putAlu x f o (ran n x cost s)) :
    ∃ t, exec i s = .next t ∧ AluLeaves x f o.r (o.c.getD (flagC s x)) (o.ovf.getD (flagOvf s x)) s t := by
  have frame := (ran_touches s _ n x cost).trans (putAlu_touches x f o (ran n x cost s))
  have flagsLeft := (setG_touches x f o.r (ran n x cost s)).2 _ (not_mem_gdReg x f (by decide : R.cxFlags < R.cxG0))
  have pcLeft : cxA x R.cxPc ∉ gdReg x f ++ [cxA x R.cxFlags] := by
    simp [not_mem_gdReg x f (by decide : R.cxPc < R.cxG0), cx_pc_ne_flags]
  refine ⟨_, hi.trans (tysel_thenNext he hok frame ht), gd_alu _ x f o, aluFlags_putFlags flagsLeft f o, movedOn_advance frame pcLeft, ?_⟩
  exact (frame.advance.mono fun a ha => by simp only [List.mem_cons, List.mem_append] at ha ⊢; tauto).onlyRegs

theorem bOk_of (hb : f.x = true → TF.rb f = 0) : bOk f = true := by
  cases hx : f.x
  · simp [bOk, hx]
  · simp [bOk, hb hx]

/-- An ALU instruction of register form completes with what its operation makes of the operands. -/
theorem alu_completes {op : Word → Word → Alu} {k fns : Nat} {c ovf : Bool} (he : Executes n x cost s)
    (slots : k + (TF.words f - 1) = cost) (hb : f.x = true → TF.rb f = 0) (hfn : TF.fn f < fns) (hi : exec i s = alu n k fns f op s)
    (hc : (op (opA s x f) (opB s x f)).c.getD (flagC s x) = c) (ho : (op (opA s x f) (opB s x f)).ovf.getD (flagOvf s x) = ovf) :
    ∃ t, exec i s = .next t ∧ AluLeaves x f (op (opA s x f) (opB s x f)).r c ovf s t := by
  subst slots hc ho
  exact leaves_alu _ he (by simp [bOk_of hb, hfn]) hi rfl

theorem words_slots (f : TF) : 1 + (TF.words f - 1) = TF.words f := by
  unfold TF.words
  split <;> rfl

theorem bne_eq_decide {α : Type} [DecidableEq α] (a b : α) : (a != b) = decide (a ≠ b) := by
  by_cases h : a = b <;> simp [h]

/-- The overflow of a product: beyond 32 bits. -/
theorem sat32_bne_eq (p : Int) : (sat32 p != p) = decide (p < -2 ^ 31 ∨ 2 ^ 31 ≤ p) := by
  rw [sat32_bne]
  exact decide_eq_decide.2 (or_congr_right (by omega))

/-- CMP: the flags of SUB, and no result. -/
theorem cmp_completes (he : Executes n x (TF.words f) s) (hb : f.x = true → TF.rb f = 0) (hfn : TF.fn f = 0) (hd : f.rd = 0) :
    ∃ t, exec (.cmp n f) s = .next t ∧
      AluFlags x (opA s x f - opB s x f) (decide ((opA s x f).toNat < (opB s x f).toNat))
        ((opA s x f - opB s x f).toInt != (opA s x f).toInt - (opB s x f).toInt) s t ∧
      MovedOn x f s t ∧ OnlyRegs [cxA x R.cxFlags, cxA x R.cxPc] s t := by
  have form : (f.rd == 0 && bOk f && TF.fn f == 0) = true := by simp [bOk_of hb, hd, hfn]
  have frame := (ran_touches s _ n x (TF.words f)).trans (putFlags_touches x (aluSub (opA s x f) (opB s x f)) (ran n x (TF.words f) s))
  exact ⟨_, tysel_thenNext he form frame rfl, aluFlags_putFlags (rd_ran s n x _ _) f (aluSub (opA s x f) (opB s x f)),
    movedOn_advance frame (by simp [cx_pc_ne_flags]), (frame.advance.mono (List.Perm.swap _ _ _).subset).onlyRegs⟩

/-- Settles O1: each instruction by the rule for results, with the carry and the overflow its operation gives. -/
theorem aluSumsAndProducts : Obligations.AluSumsAndProducts := by
  unfold Obligations.AluSumsAndProducts
  intro s n x f hb a b p q
  have mulSlots : 2 + (TF.words f - 1) = 1 + TF.words f := by rw [← words_slots f]; omega
  refine ⟨fun hf he => ?_, fun hf he => ?_, fun hf hd he => ?_, fun hf he => ?_, fun hf he => ?_⟩
  · exact alu_completes (op := aluAdd) he (words_slots f) hb (hf ▸ Nat.one_pos) rfl rfl (bne_eq_decide _ _)
  · exact alu_completes (op := aluSub) he (words_slots f) hb (hf ▸ Nat.one_pos) rfl rfl (bne_eq_decide _ _)
  · simpa only [bne_eq_decide] using cmp_completes he hb hf hd
  · have op : exec (.mul n f) s = alu n 2 2 f aluMul s := congrArg (alu n 2 2 f · s) (if_pos hf)
    exact alu_completes he mulSlots hb (by omega) op rfl (sat32_bne_eq p)
  · have op : exec (.mul n f) s = alu n 2 2 f aluMulQ s := congrArg (alu n 2 2 f · s) (if_neg (by omega))
    have result : (aluMulQ a b).r = BitVec.ofInt 32 (max (-2 ^ 31) (min q (2 ^ 31 - 1))) := congrArg (BitVec.ofInt 32) (sat32_eq q)
    rw [← result]
    exact alu_completes he mulSlots hb (by omega) op rfl (sat32_bne_eq q)

/-- The last bit shifted out at a distance that a shift of the word reaches. -/
theorem shifted_out (k j : Nat) (w : Word) :
    (decide (1 ≤ k) && decide (k ≤ 32) && bit w j) = (decide (1 ≤ k ∧ k ≤ 32) && w.getLsbD j) := by
  rw [bit_lsb, Bool.decide_and]

theorem exec_shr_logical (n : Nat) (s : State) (h : TF.fn f = 0) :
    exec (.shr n f) s = alu n 1 2 f (fun a b => aluShr a (fld b 0 6)) s := by
  change execShr n f s = _
  simp only [execShr, h, if_true]

theorem exec_shr_arithmetic (n : Nat) (s : State) (h : TF.fn f = 1) :
    exec (.shr n f) s = alu n 1 2 f (fun a b => aluSar a (fld b 0 6)) s := by
  change execShr n f s = _
  simp only [execShr, h, Nat.one_ne_zero, if_false]

/-- Settles O2: each instruction by the rule for results; the bitwise ones leave C and OVF, the shifts OVF. -/
theorem shiftsAndBitwiseOperations : Obligations.ShiftsAndBitwiseOperations := by
  unfold Obligations.ShiftsAndBitwiseOperations
  intro s n x f hb he a b k
  refine ⟨fun hf => ?_, fun hf => ?_, fun hf => ?_, fun hf => ?_, fun hf => ?_, fun hf => ?_⟩
  · exact alu_completes (op := fun a b => aluShl a (fld b 0 6)) he (words_slots f) hb (hf ▸ Nat.one_pos) rfl (shifted_out k _ a) rfl
  · exact alu_completes he (words_slots f) hb (by omega) (exec_shr_logical n s hf) (shifted_out k _ a) rfl
  · exact alu_completes he (words_slots f) hb (by omega) (exec_shr_arithmetic n s hf) (congrArg (decide (1 ≤ k) && ·) (bit_lsb a _)) rfl
  · exact alu_completes (op := fun a b => aluLogic (a &&& b)) he (words_slots f) hb (hf ▸ Nat.one_pos) rfl rfl rfl
  · exact alu_completes (op := fun a b => aluLogic (a ||| b)) he (words_slots f) hb (hf ▸ Nat.one_pos) rfl rfl rfl
  · exact alu_completes (op := fun a b => aluLogic (a ^^^ b)) he (words_slots f) hb (hf ▸ Nat.one_pos) rfl rfl rfl

/-! ### Moves (R250, R251) -/

/-- An instruction that writes gd and moves on. -/
theorem move_completes {act : Nat → State → State} (he : Executes n x cost s) (hok : ok = true)
    (hi : exec i s = tysel n cost ok (thenNext f act) s) (w : Word) (ht : act x (ran n x cost s) = setG x f.rd.toNat w (ran n x cost s)) :
    ∃ t, exec i s = .next t ∧ MoveLeaves x f w s t := by
  have frame := (ran_touches s _ n x cost).trans (setG_touches x f w (ran n x cost s))
  refine ⟨_, hi.trans (tysel_thenNext he hok frame ht), gdTakes_advance (gdTakes_setG x f w _),
    movedOn_advance frame (not_mem_gdReg x f (by decide)), ?_⟩
  exact (frame.advance.mono fun a ha => by simpa [or_comm] using ha).onlyRegs

/-- TICKTIME[31:0] is the low word of its pair (01 R22). -/
theorem ofNat_ticktime (s : State) : BitVec.ofNat 32 (ticktime s) = rd s R.ticktimeLo := by
  apply BitVec.eq_of_toNat_eq
  rw [BitVec.toNat_ofNat, ticktime, rd64, Nat.add_mul_mod_self_right]
  exact Nat.mod_eq_of_lt (rd s R.ticktimeLo).isLt

theorem lcA_ne_pc (x j : Nat) : lcA x j ≠ cxA x R.cxPc := cx_ne x _ _ (by simp only [R.cxLc, R.cxPc]; omega)

/-- Settles O3: NOP writes nothing, MOV FN 1 a loop counter, the others gd. -/
theorem movesAndImmediates : Obligations.MovesAndImmediates := by
  unfold Obligations.MovesAndImmediates
  intro s n x f
  refine ⟨fun hf he => ?_, fun hra hx he => ?_, fun hx hb he => ⟨fun hf => ?_, fun hf hrd => ?_, fun hf hra => ?_, fun hf hra => ?_⟩⟩
  · have frame := ran_touches s [] n x 1
    exact ⟨_, tysel_thenNext he hf frame rfl, movedOn_advance frame (by simp), frame.advance.onlyRegs⟩
  · have form : (f.ra == 0 && (!f.x || f.imm == 0)) = true := by
      cases h : f.x
      · simp [hra]
      · simp [hra, hx h]
    exact move_completes he form rfl _ rfl
  · exact move_completes he (by simp [hx, hb, hf]) rfl _ (by simp only [hf]; rfl)
  · have frame : Touches [lcA x f.rd.toNat] s (sf (lcA x f.rd.toNat) 0 24 (fld (gReg s x f.ra.toNat) 0 24) (ran n x 1 s)) :=
      (ran_touches s _ n x 1).trans (.sf (by simp) _ _ _ _)
    refine ⟨_, tysel_thenNext he (by simp [hx, hb, hf, hrd]) frame (by simp only [hf]; rfl), ?_,
      movedOn_advance frame (by simpa using (lcA_ne_pc x _).symm), (frame.advance.mono (List.Perm.swap _ _ _).subset).onlyRegs⟩
    rw [advance, gf_sf_of_ne _ _ _ _ _ _ (lcA_ne_pc x _).symm, gf_sf_same _ _ _ _ _ (by decide), Nat.mod_eq_of_lt (fld_lt _ 0 24)]
  · exact move_completes he (by simp [hx, hb, hf, hra]) rfl _ (by simp only [hf]; rfl)
  · exact move_completes he (by simp [hx, hb, hf, hra]) rfl _ (by simp only [hf, ← ofNat_ticktime s]; rfl)

/-! ### Jumps (R249, R250) -/

theorem opTarget_lt (pc : Nat) (f : TF) : opTarget pc f < 2 ^ 20 := by
  unfold opTarget
  split
  · exact fld_lt f.ext 0 20
  · omega

theorem Touches.branch (h : Touches l s t) (x : Nat) (hpc : cxA x R.cxPc ∈ l) (n target : Nat) : Touches l s (branch n x target t) :=
  (h.trans (.sf hpc _ _ _ _)).trans (.updSeq n _ _)

theorem pcOf_branch (n x : Nat) {target : Nat} (h : target < 2 ^ 20) (s : State) : pcOf (branch n x target s) x = target := by
  rw [pcOf, branch, gf_updSeq, jumpTo, gf_sf_same _ _ _ _ _ (by decide), Nat.mod_eq_of_lt h]

theorem gf_branch_of_ne {a : Nat} (h : cxA x R.cxPc ≠ a) (n target lo len : Nat) (s : State) :
    gf (branch n x target s) a lo len = gf s a lo len := by
  rw [branch, gf_updSeq, jumpTo, gf_sf_of_ne _ _ _ _ _ _ h]

/-- An instruction whose body makes the state t answers it. -/
theorem tysel_leaves {body : Nat → State → State} (he : Executes n x cost s) (hok : ok = true) (h : Touches l s t)
    (ht : body x (ran n x cost s) = t) : tysel n cost ok body s = .next t := by
  subst ht
  exact tysel_next he hok h.1

/-- The state with a return address on the context's stack (08 R223). -/
def pushed (x a : Nat) (s : State) : State :=
  wr (cxA x (R.cxStk + 4 * stackDepth s x)) (BitVec.ofNat 32 a) s |> sf (cxA x R.cxDepth) 0 4 (stackDepth s x + 1)

/-- The stack ends where DEPTH stands. -/
theorem stk_ne_depth (x : Nat) {d : Nat} (h : d < 8) : cxA x (R.cxStk + 4 * d) ≠ cxA x R.cxDepth :=
  cx_ne x _ _ (by simp only [R.cxStk, R.cxDepth]; omega)

theorem stackDepth_pushed (x a : Nat) (h : stackDepth s x < 8) : stackDepth (pushed x a s) x = stackDepth s x + 1 :=
  (gf_sf_same _ _ 0 4 _ (by decide)).trans (Nat.mod_eq_of_lt (by omega))

theorem gf_pushed (x : Nat) {a : Nat} (ha : a < 2 ^ 20) (h : stackDepth s x < 8) :
    gf (pushed x a s) (cxA x (R.cxStk + 4 * stackDepth s x)) 0 20 = a := by
  rw [pushed, gf_sf_of_ne _ _ _ _ _ _ (stk_ne_depth x h).symm, gf, rd_wr_same, fld, BitVec.toNat_ofNat]
  omega

/-- CALL pushes the PC of the next instruction. -/
theorem call_completes (he : Executes n x (TF.words f) s) (hok : (f.rd == 0 && f.ra == 0 && targetOk f) = true)
    (hd : stackDepth s x < 8) :
    ∃ t, exec (.call n f) s = .next t ∧ pcOf t x = opTarget (pcOf s x) f ∧ stackDepth t x = stackDepth s x + 1 ∧
      gf t (cxA x (R.cxStk + 4 * stackDepth s x)) 0 20 = (pcOf s x + TF.words f) % 2 ^ 20 ∧
      OnlyRegs [cxA x (R.cxStk + 4 * stackDepth s x), cxA x R.cxDepth, cxA x R.cxPc] s t := by
  have depth : stackDepth (ran n x (TF.words f) s) x = stackDepth s x := rfl
  have frame : Touches [cxA x (R.cxStk + 4 * stackDepth s x), cxA x R.cxDepth, cxA x R.cxPc] s
      (pushed x ((pcOf s x + TF.words f) % 2 ^ 20) (ran n x (TF.words f) s)) :=
    ((ran_touches s _ n x _).trans (.wr (by simp [depth]) _ _)).trans (.sf (by simp) _ _ _ _)
  have jumps := frame.branch x (by simp) n (opTarget (pcOf s x) f)
  refine ⟨_, tysel_leaves he hok jumps ?_, pcOf_branch n x (opTarget_lt _ f) _, ?_, ?_, jumps.onlyRegs⟩
  · simp only [depth, if_neg (Nat.not_le.2 hd)]
    rfl
  · rw [stackDepth, gf_branch_of_ne (cx_ne x _ _ (by decide)), ← stackDepth]
    exact stackDepth_pushed x _ hd
  · rw [gf_branch_of_ne (cx_ne x _ _ (by simp only [R.cxStk, R.cxPc]; omega))]
    exact gf_pushed x (Nat.mod_lt _ (by decide)) hd

/-- RET takes the PC from the stack. -/
theorem ret_completes (he : Executes n x 1 s) (hf : noFields f = true) (hd : 0 < stackDepth s x) :
    ∃ t, exec (.ret n f) s = .next t ∧ pcOf t x = gf s (cxA x (R.cxStk + 4 * (stackDepth s x - 1))) 0 20 ∧
      stackDepth t x = stackDepth s x - 1 ∧ OnlyRegs [cxA x R.cxDepth, cxA x R.cxPc] s t := by
  have frame : Touches [cxA x R.cxDepth, cxA x R.cxPc] s (sf (cxA x R.cxDepth) 0 4 (stackDepth s x - 1) (ran n x 1 s)) :=
    (ran_touches s _ n x 1).trans (.sf (by simp) _ _ _ _)
  have depth : stackDepth (ran n x 1 s) x = stackDepth s x := rfl
  have inField : stackDepth s x < 2 ^ 4 := fld_lt _ 0 4
  have returns := frame.branch x (by simp) n (gf s (cxA x (R.cxStk + 4 * (stackDepth s x - 1))) 0 20)
  refine ⟨_, tysel_leaves he hf returns ?_, pcOf_branch n x (fld_lt _ 0 20) _, ?_, returns.onlyRegs⟩
  · simp only [depth, if_neg hd.ne']
    rfl
  · rw [stackDepth, gf_branch_of_ne (cx_ne x _ _ (by decide)), gf_sf_same _ _ _ _ _ (by decide)]
    exact Nat.mod_eq_of_lt (by omega)

/-- A loop counter, one less modulo 2^24. -/
def counted (s : State) (x j : Nat) : Nat := (gf s (lcA x j) 0 24 + (2 ^ 24 - 1)) % 2 ^ 24

/-- LOOP takes the branch while its counter does not reach 0. -/
theorem loop_completes (he : Executes n x (TF.words f) s) (hok : (decide (f.rd.toNat < 4) && f.ra == 0 && targetOk f) = true) :
    ∃ t, exec (.loop n f) s = .next t ∧ gf t (lcA x f.rd.toNat) 0 24 = counted s x f.rd.toNat ∧
      pcOf t x = (if counted s x f.rd.toNat = 0 then (pcOf s x + TF.words f) % 2 ^ 20 else opTarget (pcOf s x) f) ∧
      OnlyRegs [lcA x f.rd.toNat, cxA x R.cxPc] s t := by
  have frame : Touches [lcA x f.rd.toNat] s (sf (lcA x f.rd.toNat) 0 24 (counted s x f.rd.toNat) (ran n x (TF.words f) s)) :=
    (ran_touches s _ n x _).trans (.sf (by simp) _ _ _ _)
  have counter : gf (sf (lcA x f.rd.toNat) 0 24 (counted s x f.rd.toNat) (ran n x (TF.words f) s)) (lcA x f.rd.toNat) 0 24 =
      counted s x f.rd.toNat := (gf_sf_same _ _ _ _ _ (by decide)).trans (Nat.mod_mod _ _)
  have pcApart := (lcA_ne_pc x f.rd.toNat).symm
  by_cases done : counted s x f.rd.toNat = 0
  · refine ⟨_, tysel_leaves he hok frame.advance (if_pos done), (gf_sf_of_ne _ _ _ _ _ _ pcApart).trans counter, ?_,
      (frame.advance.mono (List.Perm.swap _ _ _).subset).onlyRegs⟩
    rw [if_pos done]
    exact movedOn_advance frame (by simpa using pcApart)
  · have jumps := (frame.mono (List.subset_append_left _ [cxA x R.cxPc])).branch x (by simp) n (opTarget (pcOf s x) f)
    refine ⟨_, tysel_leaves he hok jumps ?_, (gf_branch_of_ne pcApart n _ _ _ _).trans counter, ?_, jumps.onlyRegs⟩
    · refine (if_neg done).trans ?_
      rfl
    · rw [if_neg done]
      exact pcOf_branch n x (opTarget_lt _ f) _

/-- Where the condition holds BR.cc branches, else the PC moves on. -/
theorem brCc_completes (he : Executes n x (TF.words f) s) (hok : (f.rd != 15 && f.ra == 0 && targetOk f) = true) :
    ∃ t, exec (.brCc n f) s = .next t ∧
      pcOf t x = (if condition s x f.rd.toNat then opTarget (pcOf s x) f else (pcOf s x + TF.words f) % 2 ^ 20) ∧
      OnlyRegs [cxA x R.cxPc] s t := by
  by_cases taken : condition s x f.rd.toNat = true
  · have jumps := (ran_touches s [cxA x R.cxPc] n x (TF.words f)).branch x (by simp) n (opTarget (pcOf s x) f)
    refine ⟨_, tysel_leaves he hok jumps (if_pos taken), ?_, jumps.onlyRegs⟩
    rw [if_pos taken, pcOf_branch n x (opTarget_lt _ f)]
  · have frame := ran_touches s [] n x (TF.words f)
    refine ⟨_, tysel_leaves he hok frame.advance (if_neg taken), ?_, frame.advance.onlyRegs⟩
    rw [if_neg taken]
    exact movedOn_advance frame (by simp)

/-- Settles O4: a branch is taken or the PC moves on; CALL, RET and LOOP by what they do to the stack and the counter before. -/
theorem branchesCallsAndLoops : Obligations.BranchesCallsAndLoops := by
  unfold Obligations.BranchesCallsAndLoops
  intro s n x f pc target z lt holds_ hra hx he
  have tgt : targetOk f = true := by
    cases h : f.x
    · simp [targetOk, h]
    · simp [targetOk, (hx h).1, (hx h).2]
  refine ⟨fun hd => ?_, fun hd => ?_, fun hd depth => ?_, fun hd hX himm depth => ?_, fun hd => ?_⟩
  · have jumps := (ran_touches s [cxA x R.cxPc] n x (TF.words f)).branch x (by simp) n target
    exact ⟨_, tysel_leaves he (by simp [hd, hra, tgt]) jumps rfl, pcOf_branch n x (opTarget_lt pc f) _, jumps.onlyRegs⟩
  · have cc : ∀ k, k < 15 → holds_ k = condition s x k := by
      intro k hk
      interval_cases k <;> rfl
    have below : f.rd.toNat < 15 := by
      have apart : f.rd.toNat ≠ 15 := fun e => hd (BitVec.eq_of_toNat_eq e)
      have := f.rd.isLt
      omega
    rw [cc _ below]
    exact brCc_completes he (by rw [bne_iff_ne.2 hd, hra, tgt]; rfl)
  · exact call_completes he (by simp [hd, hra, tgt]) depth
  · have form : noFields f = true := by simp [noFields, hd, hra, hX, himm]
    have one : TF.words f = 1 := by simp [TF.words, hX]
    exact ret_completes (one ▸ he) form depth
  · exact loop_completes he (by simp [hd, hra, tgt])

end Sys2Proof.Machine
end

section
/-! PROOFS. Four statements on contexts that do not hold: three that a capture still written refutes (08 R239), one that a furl latch kept
set refutes (13 R363). Each refutation gives a state in which one command leads to something else than the statement says. -/

namespace Sys2Proof.Scope

open Sys2Proof.Machine

/-- Context 0 executes on CH0 and holds capture stream 0 (resource 8, HELD bit 8), into which an injection whose GO is accepted on CH0
is to write. -/
def captureHeldByContext : State :=
  { awake with
    regs := awake.regs ++ [(cxA 0 R.cxState, 2), (cxA 0 R.cxHeldLo, 0x100), (sqA 0 R.seqStat, 0x1000)]
    res := [(8, { holders := [.ctx 0 0] })]
    chans := [(0, { shadow := [.injGo] })] }

/-- Refutes O7: HALT gives up a capture stream that is still written only later (08 R239), so that HELD shows it after the HALT; the
statement has HELD empty then in every case. -/
theorem not_waitsAndHalts : ¬ Obligations.WaitsAndHalts := by
  unfold Obligations.WaitsAndHalts
  intro h
  obtain ⟨-, ends, -⟩ := h captureHeldByContext 0 0 ⟨0, 0, false, 0, 0⟩
  obtain ⟨-, halts⟩ := ends (by decide) (by decide)
  obtain ⟨t, ht, -, -, -, gone, -⟩ := halts (by decide)
  have held : leadsTo (.halt 0 ⟨0, 0, false, 0, 0⟩) captureHeldByContext (fun t => holds t 0 8) = true := by decide +kernel
  exact absurd ((holds_of_leadsTo held ht).symm.trans (gone 8 (by decide))) (by decide)

/-- Refutes O11: REL of a capture stream that is still written takes effect later (08 R239), so that HELD shows the stream after the REL;
the statement says so of the holders, and yet has HELD without it in every case. -/
theorem not_eventAndResourceInstructions : ¬ Obligations.EventAndResourceInstructions := by
  unfold Obligations.EventAndResourceInstructions
  intro h
  obtain ⟨-, -, resource, -⟩ := h captureHeldByContext 0 0 ⟨0, 0, false, 8, 0⟩ (by decide) (by decide)
  obtain ⟨-, release⟩ := resource (by decide) (by decide) (by decide) (by decide)
  obtain ⟨t, ht, gone, -⟩ := release (by decide) (by decide)
  have held : leadsTo (.rel 0 ⟨0, 0, false, 8, 0⟩) captureHeldByContext (fun t => holds t 0 8) = true := by decide +kernel
  exact absurd ((holds_of_leadsTo held ht).symm.trans gone) (by decide)

/-- Refutes O12: an exception gives up a capture stream that is still written only later (08 R239), so that HELD shows it after an
undefined opcode; the statement has HELD empty after every exception. -/
theorem not_contextExceptions : ¬ Obligations.ContextExceptions := by
  unfold Obligations.ContextExceptions
  intro h
  obtain ⟨illegal, -⟩ := h captureHeldByContext 0 0 ⟨0, 0, false, 0, 0⟩ (by decide) (by decide) (by decide)
  obtain ⟨t, ht, -, -, -, -, -, -, -, gone, -⟩ := illegal
  have held : leadsTo (.illegal 0 ⟨0, 0, false, 0, 0⟩) captureHeldByContext (fun t => holds t 0 8) = true := by decide +kernel
  exact absurd ((holds_of_leadsTo held ht).symm.trans (gone 8 (by decide))) (by decide)

/-- The burst that context 0 of CH0 has asked for line 0 of DDR5 with. -/
def fetchOfLine : Req := { port := 6, offset := 0, who := .fetch 0, write := false }

/-- The fetch that context 0 waits for on CH0 has failed, with SEQ_CFG asking for a furl at an exception; the host has released CH0's
furl in this tick (13 R362). -/
def fetchFailedAfterRelease : State :=
  { awake with
    regs := awake.regs ++ [(cxA 0 R.cxState, 2), (sqA 0 R.seqStat, 0x61000), (sqA 0 R.seqCfg, 3)]
    seqs := [(0, { wait := .fetch 0 })]
    arb := { awake.arb with inbox := [(fetchOfLine, none)] }
    fc := { awake.fc with released := [0] } }

/-- Refutes O35: the exception of the failed fetch decides a furl (08 R243), and in the tick in which the host writes 1 to its latch a
furl leaves the latch set (13 R363), so that CH_FURLED is set again; the statement, which ranges over every state, has it stand. -/
theorem not_sequencerEvents : ¬ Obligations.SequencerEvents := by
  unfold Obligations.SequencerEvents
  intro h
  obtain ⟨-, -, -, -, -, fills⟩ := h fetchFailedAfterRelease 0 0 0 0 0 0 0 0 none [] (by decide) (by decide)
  obtain ⟨-, fails⟩ := fills (fetchOfLine, none) (by decide)
  obtain ⟨t, ht, -, -, only⟩ := fails rfl (by decide)
  have latched : leadsTo (.cacheFill 0 none none) fetchFailedAfterRelease (fun t => gb t R.chFurled 0) = true := by decide +kernel
  have same : gb t R.chFurled 0 = gb fetchFailedAfterRelease R.chFurled 0 := gb_eq_rd _ (only.1 R.chFurled (by decide))
  rw [holds_of_leadsTo latched ht] at same
  exact absurd same (by decide)

end Sys2Proof.Scope
end

section
/-! PROOFS. The statement on the list unit does not hold (09 R263; 11 R294, R296): a request that LIST.LD withdraws refutes it. -/

namespace Sys2Proof.Scope

open Sys2Proof.Machine

/-- Context 0 executes on CH0 with g1 = 1. A burst of CH0's list waits in the queue of its arbiter port, P5, alone, after three lost draws
(AGE, 11 R294). -/
def listRequestWaits : State :=
  { awake with
    regs := awake.regs ++ [(R.arbStat + 4 * 5, 3), (cxA 0 R.cxState, 2), (cxA 0 (R.cxG0 + 4), 1), (sqA 0 R.seqStat, 0x1000)]
    arb := { awake.arb with queues := [(5, [{ port := 5, offset := 0, who := .list 0 0 0, write := false }])] } }

/-- Refutes O10: LIST.LD of a new list withdraws the requests of the old one (11 R296), and AGE of P5 returns to 0 when its queue empties
(11 R294); the statement has LIST.LD change no register but those of the list and of the context. -/
theorem not_listInstructions : ¬ Obligations.ListInstructions := by
  unfold Obligations.ListInstructions
  intro h
  obtain ⟨loads, -⟩ := h listRequestWaits 0 0 0 ⟨0, 0, false, 0x1000, 0⟩
  obtain ⟨t, ht, -, -, -, -, -, -, -, -, -, -, only⟩ := loads (by decide) (by decide) (by decide) (by decide) (by decide)
  have emptied : leadsTo (.listLd 0 ⟨0, 0, false, 0x1000, 0⟩) listRequestWaits (fun t => gf t (R.arbStat + 4 * 5) 0 6 == 0) = true := by
    decide +kernel
  have zero : (gf t (R.arbStat + 4 * 5) 0 6 == 0) = true := holds_of_leadsTo emptied ht
  have same : gf t (R.arbStat + 4 * 5) 0 6 = gf listRequestWaits (R.arbStat + 4 * 5) 0 6 := gf_eq_rd (only.1 _ (by decide)) 0 6
  rw [beq_iff_eq.1 zero] at same
  exact absurd same (by decide)

end Sys2Proof.Scope
end

section
/-! PROOFS. The words of Tysel instructions (09 R247, R248, R253): the fields of a word, the rows that share an opcode, and O60
assembled from them. -/

namespace Sys2Proof

/-! ### The fields of an instruction word (09 R247) -/

section fields
variable (opc : Nat) (f : TF)

theorem opcField_encodeWord : BitVec.extractLsb' 25 7 (encodeWord opc f) = BitVec.ofNat 7 opc :=
  (BitVec.extractLsb'_append_eq_of_le (by decide)).trans <| (BitVec.extractLsb'_append_eq_of_le (by decide)).trans <|
    (BitVec.extractLsb'_append_eq_of_le (by decide)).trans BitVec.extractLsb'_append_eq_left

theorem rdField_encodeWord : BitVec.extractLsb' 21 4 (encodeWord opc f) = f.rd :=
  (BitVec.extractLsb'_append_eq_of_le (by decide)).trans <| (BitVec.extractLsb'_append_eq_of_le (by decide)).trans <|
    (BitVec.extractLsb'_append_eq_of_le (by decide)).trans BitVec.extractLsb'_append_eq_right

theorem raField_encodeWord : BitVec.extractLsb' 17 4 (encodeWord opc f) = f.ra :=
  (BitVec.extractLsb'_append_eq_of_le (by decide)).trans <|
    (BitVec.extractLsb'_append_eq_of_le (by decide)).trans BitVec.extractLsb'_append_eq_right

theorem xBit_encodeWord : (encodeWord opc f).getLsbD 16 = f.x := by
  rw [encodeWord, BitVec.getLsbD_append, if_neg (by decide), BitVec.getLsbD_append, if_pos (by decide)]
  simp

theorem immField_encodeWord : BitVec.extractLsb' 0 16 (encodeWord opc f) = f.imm := BitVec.extractLsb'_append_eq_right

end fields

theorem tyselOpc_encodeWord {opc : Nat} (h : opc < 128) (f : TF) : tyselOpc (encodeWord opc f) = opc := by
  rw [tyselOpc, opcField_encodeWord, BitVec.toNat_ofNat, Nat.mod_eq_of_lt h]

/-- Fields whose extension word stands only behind X = 1 are read back. -/
theorem tyselFields_encodeWord (opc : Nat) {f : TF} (hx : (f.x || f.ext == 0) = true) : tyselFields (encodeWord opc f) f.ext = f := by
  have kept : (if f.x = true then f.ext else 0) = f.ext := by
    rw [Bool.or_eq_true, beq_iff_eq] at hx
    split
    · rfl
    · next h => exact (hx.resolve_left h).symm
  simp only [tyselFields, rdField_encodeWord, raField_encodeWord, xBit_encodeWord, immField_encodeWord, kept]

/-- The fields of a word leave no bit of it out. -/
theorem encodeWord_fields (w ext : Word) : encodeWord (tyselOpc w) (tyselFields w ext) = w := by
  have one : BitVec.ofBool (w.getLsbD 16) = w.extractLsb' 16 1 := by
    ext i hi
    obtain rfl : i = 0 := by omega
    simp
  simp only [encodeWord, tyselOpc, tyselFields, BitVec.ofNat_toNat, BitVec.setWidth_eq, one]
  rw [BitVec.extractLsb'_append_extractLsb'_eq_extractLsb' (start₂ := 25) rfl,
    BitVec.extractLsb'_append_extractLsb'_eq_extractLsb' (start₂ := 21) rfl,
    BitVec.extractLsb'_append_extractLsb'_eq_extractLsb' (start₂ := 17) rfl,
    BitVec.extractLsb'_append_extractLsb'_eq_extractLsb' (start₂ := 16) rfl]
  exact BitVec.extractLsb'_eq_self

theorem ext_tyselFields (w ext : Word) : ((tyselFields w ext).x || (tyselFields w ext).ext == 0) = true := by
  unfold tyselFields
  cases w.getLsbD 16 <;> simp

/-! ### The rows that share an opcode (log entry 13) -/

/-- COEF by FN[11:8]: STAGE, COMMIT, RC, and REEF from 3 up (09 R255). -/
theorem tyselInstr_coef_cases (n : Nat) (f : TF) :
    let fn := f.imm.toNat % 4096
    (fn < 0x100 ∧ tyselInstr n 0x27 f = .coefStage n f) ∨ (0x100 ≤ fn ∧ fn < 0x200 ∧ tyselInstr n 0x27 f = .coefCommit n f) ∨
      (0x200 ≤ fn ∧ fn < 0x300 ∧ tyselInstr n 0x27 f = .coefRc n f) ∨ (0x300 ≤ fn ∧ tyselInstr n 0x27 f = .coefReef n f) := by
  intro fn
  simp only [tyselInstr]
  split
  · exact .inl ⟨by omega, rfl⟩
  · exact .inr (.inl ⟨by omega, by omega, rfl⟩)
  · exact .inr (.inr (.inl ⟨by omega, by omega, rfl⟩))
  · next h0 h1 h2 =>
    have beyond : fn / 256 ≠ 0 ∧ fn / 256 ≠ 1 ∧ fn / 256 ≠ 2 := ⟨h0, h1, h2⟩
    exact .inr (.inr (.inr ⟨by omega, rfl⟩))

/-- GEN by FN: PRIME, START, STOP, and UNMARK from 3 up (09 R258). -/
theorem tyselInstr_gen_cases (n : Nat) (f : TF) :
    let fn := f.imm.toNat % 4096
    (fn = 0 ∧ tyselInstr n 0x38 f = .genPrime n f) ∨ (fn = 1 ∧ tyselInstr n 0x38 f = .genStart n f) ∨
      (fn = 2 ∧ tyselInstr n 0x38 f = .genStop n f) ∨ (3 ≤ fn ∧ tyselInstr n 0x38 f = .genUnmark n f) := by
  intro fn
  simp only [tyselInstr]
  split
  · next h => exact .inl ⟨h, rfl⟩
  · next h => exact .inr (.inl ⟨h, rfl⟩)
  · next h => exact .inr (.inr (.inl ⟨h, rfl⟩))
  · next h0 h1 h2 =>
    have beyond : fn ≠ 0 ∧ fn ≠ 1 ∧ fn ≠ 2 := ⟨h0, h1, h2⟩
    exact .inr (.inr (.inr ⟨by omega, rfl⟩))

/-! ### Rows and decoding -/

theorem opc_lt_of_tyselParts {i : Instr} {n opc : Nat} {f : TF} (parts : tyselParts i = some (n, opc, f)) : opc < 128 := by
  cases i
  all_goals cases parts
  all_goals decide

/-- What a listed opcode decodes to has the channel, the opcode and the fields it was decoded from. -/
theorem tyselParts_tyselInstr {n opc : Nat} {f : TF} (listed : tyselParts (tyselInstr n opc f) ≠ none) :
    tyselParts (tyselInstr n opc f) = some (n, opc, f) := by
  revert listed
  unfold tyselInstr
  dsimp only
  split
  -- COEF, MEAS, GEN and TRIG, whose rows share an opcode
  case h_26 | h_27 | h_30 | h_40 => split <;> exact fun _ => rfl
  -- the unlisted opcodes
  case h_49 => exact fun listed => absurd rfl listed
  all_goals exact fun _ => rfl

/-- The fields of an instruction are those of its own row exactly where its opcode decodes to it. -/
theorem tyselOwn_iff_tyselInstr {i : Instr} {n opc : Nat} {f : TF} (parts : tyselParts i = some (n, opc, f))
    (hx : (f.x || f.ext == 0) = true) : tyselOwn i = true ↔ tyselInstr n opc f = i := by
  cases i
  case coefStage | coefCommit | coefRc | coefReef =>
    cases parts
    simp only [tyselOwn, tyselParts, hx, Bool.true_and]
    rcases tyselInstr_coef_cases n f with ⟨h, e⟩ | ⟨h, h', e⟩ | ⟨h, h', e⟩ | ⟨h, e⟩ <;> simp [e] <;> omega
  case genPrime | genStart | genStop | genUnmark =>
    cases parts
    simp only [tyselOwn, tyselParts, hx, Bool.true_and]
    rcases tyselInstr_gen_cases n f with ⟨h, e⟩ | ⟨h, e⟩ | ⟨h, e⟩ | ⟨h, e⟩ <;> simp [e] <;> omega
  case meas | measStop =>
    cases parts
    simp only [tyselOwn, tyselParts, hx, Bool.true_and, tyselInstr]
    cases f.imm.getLsbD 2 <;> simp
  case trig | trigPin =>
    cases parts
    simp only [tyselOwn, tyselParts, hx, Bool.true_and, tyselInstr]
    cases f.imm.getLsbD 15 <;> simp
  -- no other row shares its opcode, and a command that is no Tysel instruction has no parts
  all_goals cases parts
  all_goals exact iff_of_true ((Bool.and_true _).trans hx) rfl

theorem tyselParts_of_tyselOwn {i : Instr} (own : tyselOwn i = true) :
    ∃ n opc f, tyselParts i = some (n, opc, f) ∧ (f.x || f.ext == 0) = true := by
  unfold tyselOwn at own
  rw [Bool.and_eq_true] at own
  obtain ⟨stands, -⟩ := own
  cases parts : tyselParts i with
  | none => simp [parts] at stands
  | some p => exact ⟨p.1, p.2.1, p.2.2, rfl, by simpa only [parts] using stands⟩

end Sys2Proof

namespace Sys2Proof.Machine

/-- Settles O60: both directions by the fields of the word, and by the row that the opcode and the fields decode to. -/
theorem instructionWordsRoundTrip : Obligations.InstructionWordsRoundTrip := by
  unfold Obligations.InstructionWordsRoundTrip
  intro c n w ext
  refine ⟨fun own => ?_, fun listed => ?_⟩
  · obtain ⟨m, opc, f, parts, hx⟩ := tyselParts_of_tyselOwn own
    have word : encodeTysel c = some (encodeWord opc f, f.ext) := by rw [encodeTysel, parts, Option.map_some]
    refine ⟨_, parts, _, word, ?_⟩
    rw [decodeTysel, tyselOpc_encodeWord (opc_lt_of_tyselParts parts), tyselFields_encodeWord opc hx]
    exact (tyselOwn_iff_tyselInstr parts hx).1 own
  · have parts := tyselParts_tyselInstr listed
    refine ⟨(tyselOwn_iff_tyselInstr parts (ext_tyselFields w ext)).2 rfl, ?_⟩
    rw [decodeTysel, encodeTysel, parts, Option.map_some, encodeWord_fields, tyselFields]

end Sys2Proof.Machine
end

section
/-! PROOFS. The two statements of the family 10 do not hold: a unit that bears the mark of a later release refutes the one on the edge
timer units (10 R267, R272; 08 R239), a reserved bit that reads 1 the one on the time base (10 R282, R284). -/

namespace Sys2Proof.Scope

open Sys2Proof.Machine

/-- The host holds edge timer unit 0, and the unit bears the mark of a release that takes effect later. -/
def heldUnitMarked : State := { awake with res := [(0, { holders := [.host], deferred := true })] }

/-- Refutes O36: only the release of a capture stream ever waits (08 R239), so the host's command of a unit asks who holds the unit and
not whether a release of it waits, and here ARM is accepted. The statement ranges over every state, also those no run reaches in which
a unit bears that mark, and has ARM refused there. -/
theorem not_edgeTimerUnits : ¬ Obligations.EdgeTimerUnits := by
  unfold Obligations.EdgeTimerUnits
  intro h
  obtain ⟨-, refuses, -⟩ := h heldUnitMarked 0 0 0 0 false ⟨0, 0, false, 0, 0⟩ ⟨0, 0, false, 0, 0⟩ (by decide) (by decide)
  obtain ⟨⟨t, ht, -, same, -⟩, -⟩ := refuses (by decide)
  have accepted : leadsTo (.etCtrlArm 0) heldUnitMarked (fun t => (etu t 0).armReq == some false) = true := by decide +kernel
  have asked : (etu t 0).armReq = some false := eq_of_beq (holds_of_leadsTo accepted ht)
  rw [same] at asked
  exact absurd asked (by decide)

/-- TB_CFG holds its reset value with the reserved bit 28 set. -/
def reservedBitSet : State := { awake with regs := awake.regs ++ [(R.tbCfg, 0x19896800)] }

/-- Refutes O37: a write of TB_CFG leaves the reserved bits as they stand (00 R4), here bit 28. The statement ranges over every state,
also those no run reaches in which a reserved bit reads 1, and has bits 31 to 28 read 0 after a write. -/
theorem not_timeBase : ¬ Obligations.TimeBase := by
  unfold Obligations.TimeBase
  intro h
  obtain ⟨-, writes, -⟩ := h reservedBitSet 0 0 0 0 false 0 0 false none (by decide) (by decide) rfl
  obtain ⟨t, ht, stored, -⟩ := writes (by decide)
  have kept : leadsTo (.tbCfgWrite 0) reservedBitSet (fun t => decide (rd t R.tbCfg ≠ 0)) = true := by decide +kernel
  have nonzero := of_decide_eq_true (holds_of_leadsTo kept ht)
  exact nonzero (stored.trans (by decide))

end Sys2Proof.Scope
end

section
/-! PROOFS. What every command keeps: the queue, the reset and DDR5's canonical form; and commands that find their unit held. -/

open Sys2Proof Sys2Proof.Machine

namespace Sys2Proof.Machine

-- One proof at a time: the whole text is compiled within a bound on memory.
set_option Elab.async false

variable {s t : State}

/-- The commands whose answer is not of the form `live`: a change of a pin's level, a burst, and the reset events. -/
def hasOwnForm : Instr → Bool
  | .clrNAssert | .clrNDeassert | .ocxoRdyChange _ | .burstIssue | .resetNAssert | .supplyTrip | .resetEnd => true
  | _ => false

/-- What a parity failure adds to taking a message. -/
def takeParity (par : Option (Nat × Bool)) (s : State) : State :=
  match par with
  | some (off, all) => parityFault off all s
  | none => s

/-- Every other command acts while the internal reset is not asserted, and then on neither the queue nor DDR5. -/
theorem exec_eq_live {c : Instr} (h : hasOwnForm c = false) (s : State) : ∃ f : State → State, exec c s = live s f := by
  cases c with
  | clrNAssert | clrNDeassert | ocxoRdyChange _ | burstIssue | resetNAssert | supplyTrip | resetEnd => cases h
  | lanyardMessage par => exact ⟨fun t => takeParity par (if (takable t).isSome then takeMsg t else t), by cases par <;> rfl⟩
  | _ => exact ⟨_, rfl⟩

/-! ### What a command leaves alone -/

/-- The queue, the reset and DDR5 are as they were. -/
def KeepsFrame (s t : State) : Prop := t.pending = s.pending ∧ t.inReset = s.inReset ∧ t.ddr = s.ddr

/-- A change of a pin's level is kept under reset; else it acts as the other commands do. -/
theorem exec_level (level : Bool) (s : State) : ∀ c ∈ [Instr.clrNAssert, .clrNDeassert, .ocxoRdyChange level],
    ∃ (u : State) (f : State → State), KeepsFrame s u ∧ exec c s = if s.inReset then .next u else live s f := by
  simp only [List.forall_mem_cons, List.not_mem_nil, false_imp_iff, implies_true, and_true]
  exact ⟨⟨{ s with clrLow := true }, clrFall, ⟨rfl, rfl, rfl⟩, rfl⟩, ⟨{ s with clrLow := false }, clrRise, ⟨rfl, rfl, rfl⟩, rfl⟩,
    ⟨{ s with ocxo := level }, fun t => if hasEdge t then ocxoRdy level { t with ocxo := level } else { t with ocxo := level },
      ⟨rfl, rfl, rfl⟩, rfl⟩⟩

/-- A level's answer keeps the frame in both of its branches. -/
theorem keepsFrame_of_level {c : Instr} {level : Bool} (hc : c ∈ [Instr.clrNAssert, .clrNDeassert, .ocxoRdyChange level])
    (h : exec c s = .next t) : KeepsFrame s t := by
  obtain ⟨u, f, hu, he⟩ := exec_level level s c hc
  rw [he] at h
  split at h
  · injection h with h
    exact h ▸ hu
  · exact live_frame h

theorem exec_burstIssue (s : State) : ∃ k, exec .burstIssue s = liveMem s k := by
  show ∃ k, execBurstIssue s = liveMem s k
  unfold execBurstIssue clockedMem
  exact ⟨_, rfl⟩

/-- Every command but a burst and the reset events keeps the frame. -/
theorem exec_keepsFrame {c : Instr} (h1 : c ≠ .resetNAssert) (h2 : c ≠ .supplyTrip) (h3 : c ≠ .resetEnd) (h4 : c ≠ .burstIssue)
    (h : exec c s = .next t) : KeepsFrame s t := by
  by_cases ho : hasOwnForm c = true
  · cases c with
    | clrNAssert | clrNDeassert => exact keepsFrame_of_level (level := true) (by simp) h
    | ocxoRdyChange level => exact keepsFrame_of_level (level := level) (by simp) h
    | burstIssue | resetNAssert | supplyTrip | resetEnd => contradiction
    | _ => cases ho
  · obtain ⟨f, hf⟩ := exec_eq_live (by simpa using ho) s
    exact live_frame (hf ▸ h)

theorem answers_of_level {c : Instr} {level : Bool} (hc : c ∈ [Instr.clrNAssert, .clrNDeassert, .ocxoRdyChange level])
    (s : State) : ∃ t, exec c s = .next t := by
  obtain ⟨u, f, -, he⟩ := exec_level level s c hc
  rw [he]
  split <;> exact ⟨_, rfl⟩

/-- Every command answers a next state. -/
theorem exec_next (c : Instr) (s : State) : ∃ t, exec c s = .next t := by
  by_cases ho : hasOwnForm c = true
  · cases c with
    | clrNAssert | clrNDeassert => exact answers_of_level (level := true) (by simp) s
    | ocxoRdyChange level => exact answers_of_level (level := level) (by simp) s
    | burstIssue | resetNAssert | supplyTrip | resetEnd => exact ⟨_, rfl⟩
    | _ => cases ho
  · obtain ⟨f, hf⟩ := exec_eq_live (by simpa using ho) s
    exact ⟨_, hf⟩

/-! ### Resets -/

theorem resetBlocks_frame (s : State) :
    (resetBlocks s).pending = s.pending ∧ (Memory.wf s.ddr → Memory.wf (resetBlocks s).ddr) :=
  ⟨rfl, fun h => Memory.writes_wf _ h⟩

theorem assertReset_frame (k : Nat) (s : State) :
    (assertReset k s).pending = s.pending ∧ (assertReset k s).inReset = true ∧
      (Memory.wf s.ddr → Memory.wf (assertReset k s).ddr) := by
  unfold assertReset
  simp only
  split
  · exact ⟨rfl, rfl, (resetBlocks_frame _).2⟩
  · exact ⟨rfl, rfl, id⟩

theorem endReset_frame (s : State) :
    (endReset s).pending = s.pending ∧ (endReset s).inReset = false ∧ (Memory.wf s.ddr → Memory.wf (endReset s).ddr) := by
  unfold endReset
  by_cases hr : s.inReset = true
  · rw [if_neg (by simp [hr])]
    by_cases hs : s.resetting = true
    · simp only [hs, if_true]
      split <;> exact ⟨rfl, rfl, (resetBlocks_frame s).2⟩
    · simp only [hs, Bool.false_eq_true, if_false]
      split <;> exact ⟨rfl, rfl, id⟩
  · rw [if_pos (by simpa using hr)]
    exact ⟨rfl, by simpa using hr, id⟩

/-- Every command keeps the queue and DDR5's canonical form. -/
theorem exec_keeps {c : Instr} (h : exec c s = .next t) : t.pending = s.pending ∧ (Memory.wf s.ddr → Memory.wf t.ddr) := by
  by_cases h1 : c = .resetNAssert
  · subst h1
    injection h with h
    subst h
    exact ⟨(assertReset_frame 1 s).1, (assertReset_frame 1 s).2.2⟩
  by_cases h2 : c = .supplyTrip
  · subst h2
    injection h with h
    subst h
    exact ⟨(assertReset_frame 0 s).1, (assertReset_frame 0 s).2.2⟩
  by_cases h3 : c = .resetEnd
  · subst h3
    injection h with h
    subst h
    exact ⟨(endReset_frame s).1, (endReset_frame s).2.2⟩
  by_cases h4 : c = .burstIssue
  · subst h4
    obtain ⟨k, hk⟩ := exec_burstIssue s
    obtain ⟨hp, -, hm⟩ := liveMem_frame (hk ▸ h)
    exact ⟨hp, hm⟩
  · obtain ⟨hp, -, hd⟩ := exec_keepsFrame h1 h2 h3 h4 h
    exact ⟨hp, fun hw => hd ▸ hw⟩

/-- What the device does while no command waits keeps DDR5's canonical form. -/
theorem idleStep_wf (h : Memory.wf s.ddr) : Memory.wf (idleStep s).ddr := by
  unfold idleStep
  split
  · split
    · exact Memory.writes_wf _ h
    · exact h
  · exact h

/-- Settles O59: the front command answers and keeps the form, and so does an idle step. -/
theorem memoryKeepsItsForm : Obligations.MemoryKeepsItsForm := by
  unfold Obligations.MemoryKeepsItsForm
  intro s
  unfold step
  split
  · next c rest hp =>
    obtain ⟨t, ht⟩ := exec_next c { s with pending := rest }
    exact ⟨t, ht, (exec_keeps ht).2⟩
  · exact ⟨_, rfl, idleStep_wf⟩

/-- Settles O58: `exec_keeps` for the queue, and the frame of the commands that are neither a burst nor a reset event. -/
theorem whatCommandsMayTouch : Obligations.WhatCommandsMayTouch := by
  unfold Obligations.WhatCommandsMayTouch
  intro s c
  obtain ⟨t, ht⟩ := exec_next c s
  refine ⟨t, ht, (exec_keeps ht).1, ?_, ?_, ?_, ?_⟩
  · rintro (rfl | rfl) <;> injection ht with ht <;> subst ht
    · exact (assertReset_frame 1 s).2.1
    · exact (assertReset_frame 0 s).2.1
  · rintro rfl
    injection ht with ht
    exact ht ▸ (endReset_frame s).2.1
  · intro h1 h2 h3
    by_cases h4 : c = .burstIssue
    · subst h4
      obtain ⟨k, hk⟩ := exec_burstIssue s
      exact (liveMem_frame (hk ▸ ht)).2.1
    · exact (exec_keepsFrame h1 h2 h3 h4 ht).2.1
  · intro h1 h2 h3 h4
    exact (exec_keepsFrame h1 h2 h3 h4 ht).2.2

/-! ### Commands that find their unit held -/

theorem exec_of_inReset {c : Instr} (hr : s.inReset = true) (h1 : c ≠ .resetNAssert) (h2 : c ≠ .supplyTrip) (h3 : c ≠ .resetEnd)
    (h4 : c ≠ .clrNAssert) (h5 : c ≠ .clrNDeassert) (h6 : ∀ level, c ≠ .ocxoRdyChange level) : exec c s = .next s := by
  by_cases ho : hasOwnForm c = true
  · cases c with
    | burstIssue =>
      obtain ⟨k, hk⟩ := exec_burstIssue s
      rw [hk, liveMem_of_inReset hr]
    | ocxoRdyChange level => exact absurd rfl (h6 level)
    | clrNAssert | clrNDeassert | resetNAssert | supplyTrip | resetEnd => contradiction
    | _ => cases ho
  · obtain ⟨f, hf⟩ := exec_eq_live (by simpa using ho) s
    rw [hf, live_of_inReset hr]

/-- An event changes nothing where the device does not run, its channel is absent, or it is not due. -/
theorem whenDue_idle {n : Nat} {due : State → Bool} (h : s.inReset = true ∨ running s = false ∨ hasChan s n = false ∨ due s = false)
    (f : State → State) : whenDue n due s f = .next s := by
  unfold whenDue onChan clocked
  by_cases hr : s.inReset = true
  · exact live_of_inReset hr _
  have hr : s.inReset = false := by simpa using hr
  rw [live_of_awake hr]
  have hs : (if running s then if hasChan s n then if due s then f s else s else s else s) = s := by
    rcases h with h | h | h | h
    · simp [hr] at h
    all_goals simp [h]
  rw [hs, restore_self hr]

/-- Every Tysel instruction is an event of its channel that is due where its context is ready. -/
theorem exec_tysel {c : Instr} {p : Nat × Nat × TF} (h : tyselParts c = some p) (s : State) :
    ∃ f : State → State, exec c s = whenDue p.1 (fun t => seqReady t p.1) s f := by
  cases c <;> simp only [tyselParts, Option.some.injEq, reduceCtorEq] at h
  all_goals
    subst h
    exact ⟨_, rfl⟩

/-- Settles O57: a command under reset, a level under reset, and an event that is not due. -/
theorem noEffectWhileHeld : Obligations.NoEffectWhileHeld := by
  unfold Obligations.NoEffectWhileHeld
  intro s c
  refine ⟨fun hr h1 h2 h3 h4 h5 h6 => exec_of_inReset hr h1 h2 h3 h4 h5 h6, fun hr => ?_, fun p hp h => ?_⟩
  · refine ⟨?_, ?_, fun level => ?_⟩
    · show execClrNAssert s = _
      rw [execClrNAssert, if_pos hr]
    · show execClrNDeassert s = _
      rw [execClrNDeassert, if_pos hr]
    · show execOcxoRdyChange level s = _
      rw [execOcxoRdyChange, if_pos hr]
  · obtain ⟨f, hf⟩ := exec_tysel hp s
    rw [hf, whenDue_idle h]

end Sys2Proof.Machine
end

section
/-! PROOFS. Counterexamples of the fault collector and the reset. -/

namespace Sys2Proof.Scope

-- One proof at a time: the whole text is compiled within a bound on memory.
set_option Elab.async false

open Sys2Proof.Machine

/-- The message of a lost clock (14 R388). -/
def lostClock : Msg :=
  { src := 0, kind := 3, inj := false, addr := 0, info := 0, tick := 0, time := 0, cyc := 0, forceFurl := true }

/-- A furled device whose FAULT_N bit reads 0 (DEV_STAT = 1), with the message of a lost clock on the lanyard bus. -/
def furledLostClock : State :=
  { awake with
    regs := awake.regs ++ [(R.devStat, 1)]
    now := 1
    fc := { awake.fc with bus := [lostClock] } }

/-- Refutes O47: on a device that is furled already nothing further happens (13 R360, R363), so the message of a lost clock leaves
DEV_STAT as it is, while the statement asks for both of its furl bits, whatever they were. -/
theorem not_lanyardMessages : ¬ Obligations.LanyardMessages := by
  unfold Obligations.LanyardMessages
  intro h
  obtain ⟨taking, -⟩ := h furledLostClock 0 0 0 false (by decide)
  obtain ⟨-, -, -, furls⟩ := taking lostClock (by decide)
  obtain ⟨t, ht, both, -⟩ := furls (by decide)
  have kept : leadsTo (.lanyardMessage none) furledLostClock (fun t => gf t R.devStat 0 2 == 1) = true := by decide +kernel
  have one : gf t R.devStat 0 2 = 1 := eq_of_beq (holds_of_leadsTo kept ht)
  exact absurd (one.symm.trans both) (by decide)

/-- A device furl stands: DEV_FURL and FAULT_N. -/
def furledDevice : State := { awake with regs := awake.regs ++ [(R.devStat, 3)] }

/-- Refutes O51: a reset makes FAULT_N high-impedance at once (16 R421), so that DEV_STAT changes with its first step; the statement
lets RST_CAUSE and the DACs' codes alone change. -/
theorem not_resetAndBoot : ¬ Obligations.ResetAndBoot := by
  unfold Obligations.ResetAndBoot
  intro h
  obtain ⟨⟨t, ht, -, -, -, -, -, awake_⟩, -⟩ := h furledDevice 0 0 0 false
  obtain ⟨-, ⟨only, -⟩, -⟩ := awake_ (by decide)
  have released : leadsTo .resetNAssert furledDevice (fun t => rd t R.devStat == 1) = true := by decide +kernel
  have one : rd t R.devStat = 1 := eq_of_beq (holds_of_leadsTo released ht)
  exact absurd (one.symm.trans (only R.devStat (by decide))) (by decide)

/-- On a furled device a further device furl has been decided in this tick. -/
def furlComesAgain : State :=
  { furledDevice with fc := { furledDevice.fc with reacts := [{ at_ := 1, targets := [], act := .dev, idx := none }] } }

/-- Refutes O50: a release of DEV_FURL that is lost to a device furl decided in its tick is counted as one more furl (13 R363, R374), in
bits 15:8 of DEV_STAT; the statement has no register change where the release has no effect. -/
theorem not_holdsFurlsAndInjection : ¬ Obligations.HoldsFurlsAndInjection := by
  unfold Obligations.HoldsFurlsAndInjection
  intro h
  obtain ⟨-, -, -, lost, -⟩ := h furlComesAgain 0 0 (by decide)
  obtain ⟨t, ht, only, -⟩ := lost (by decide)
  have counted : leadsTo .devFurlRelease furlComesAgain (fun t => rd t R.devStat == 0x103) = true := by decide +kernel
  have more : rd t R.devStat = 0x103 := eq_of_beq (holds_of_leadsTo counted ht)
  exact absurd (more.symm.trans (only R.devStat (by decide))) (by decide)

/-- The heartbeat's count has reached KA_PER, its reaction is a furl of the device, and the host has released DEV_FURL in this tick. -/
def heartbeatAfterRelease : State :=
  { awake with
    regs := awake.regs ++ [(R.hbCfg, 5), (R.hbStat, 1)]
    now := 200
    fc := { awake.fc with devReleased := true } }

/-- Refutes O46: a heartbeat loss that furls the device in the tick in which the host writes 1 to DEV_FURL leaves DEV_FURL and FAULT_N set and
counts (13 R363, R374), so that DEV_STAT changes; the statement, which ranges over every state, lets HB_STAT alone change. -/
theorem not_heartbeatAndManagementPort : ¬ Obligations.HeartbeatAndManagementPort := by
  unfold Obligations.HeartbeatAndManagementPort
  intro h
  obtain ⟨lost, -⟩ := h heartbeatAfterRelease 0 0 0 0 0 0 (by decide)
  obtain ⟨t, ht, -, -, -, -, -, -, only, -⟩ := lost (by decide) (by decide) (by decide) (by decide)
  have kept : leadsTo .linkHb heartbeatAfterRelease (fun t => rd t R.devStat == 0x107) = true := by decide +kernel
  have both : rd t R.devStat = 0x107 := eq_of_beq (holds_of_leadsTo kept ht)
  exact absurd (both.symm.trans (only R.devStat (by decide))) (by decide)

/-- A read-back test of CH0's DAC that waits for its start. -/
def sweepTest : Test :=
  { idx := 0, cls := 1, kind := 0x12, src := 8, addr := 0, info := 0, aux := 0, block := (3, 0), start := 5 }

/-- The read-back test of CH0's DAC may start in the tick in which MA_CTRL.CAL of its group was accepted. -/
def sweepAfterCal : State :=
  { awake with
    now := 5
    mons := [(0, { calWait := true, calAt := 5 })]
    fc := { awake.fc with tests := [sweepTest] } }

/-- Refutes O49: the first conversion of a test that starts in the tick of a CAL counts as pending before it (06 R196), and MA_STAT shows
that the calibration waits; the statement lets FP_RES alone change in the monitors. -/
theorem not_selfTestsAndMirror : ¬ Obligations.SelfTestsAndMirror := by
  unfold Obligations.SelfTestsAndMirror
  intro h
  obtain ⟨starts, -⟩ := h sweepAfterCal 0 false (by decide)
  obtain ⟨-, begins⟩ := starts sweepTest (by decide)
  obtain ⟨t, ht, -, -, -, -, only, -⟩ := begins (by decide)
  have waits : leadsTo (.selfTestStart 0) sweepAfterCal (fun t => rd t (maA 0 R.maStat) == 2) = true := by decide +kernel
  have two : rd t (maA 0 R.maStat) = 2 := eq_of_beq (holds_of_leadsTo waits ht)
  exact absurd (two.symm.trans (only (maA 0 R.maStat) (by decide))) (by decide)

end Sys2Proof.Scope
end

section
/-! PROOFS. More reading rules: other registers and other fields, messages and walks. -/

namespace Sys2Proof.Machine

-- One proof at a time: the whole text is compiled within a bound on memory.
set_option Elab.async false

/-! ### Other registers -/

section
variable (s : State) {a b : Nat}

theorem gf_wr_of_ne (w : Word) (lo len : Nat) (h : a ≠ b) : gf (wr a w s) b lo len = gf s b lo len := by
  unfold gf
  rw [rd_wr_of_ne s w h]

theorem gb_wr_of_ne (w : Word) (i : Nat) (h : a ≠ b) : gb (wr a w s) b i = gb s b i := gb_eq_rd _ (rd_wr_of_ne s w h)

theorem gf_wr_same (a : Nat) (w : Word) (lo len : Nat) : gf (wr a w s) a lo len = fld w lo len := by
  unfold gf
  rw [rd_wr_same]

theorem gb_flag_of_ne (i j : Nat) (h : a ≠ b) : gb (flag a i s) b j = gb s b j := gb_wr_of_ne s _ j h

theorem gb_sb_of_ne (i j : Nat) (v : Bool) (h : a ≠ b) : gb (sb a i v s) b j = gb s b j := gb_wr_of_ne s _ j h

theorem gf_sb_of_ne (i lo len : Nat) (v : Bool) (h : a ≠ b) : gf (sb a i v s) b lo len = gf s b lo len := gf_wr_of_ne s _ lo len h

theorem gb_bumpBy_of_ne (lo len k j : Nat) (h : a ≠ b) : gb (bumpBy a lo len k s) b j = gb s b j := gb_wr_of_ne s _ j h

theorem gf_bumpBy_of_ne (lo len k l i : Nat) (h : a ≠ b) : gf (bumpBy a lo len k s) b l i = gf s b l i := gf_wr_of_ne s _ l i h

theorem gb_bump_of_ne (lo len j : Nat) (h : a ≠ b) : gb (bump a lo len s) b j = gb s b j := gb_wr_of_ne s _ j h

theorem gf_bump_of_ne (lo len l i : Nat) (h : a ≠ b) : gf (bump a lo len s) b l i = gf s b l i := gf_wr_of_ne s _ l i h

theorem rd_wr64_of_ne (v : Nat) (h : a ≠ b) (h' : a + 4 ≠ b) : rd (wr64 a v s) b = rd s b :=
  (rd_wr_of_ne _ _ h').trans (rd_wr_of_ne s _ h)

theorem gb_wr64_of_ne (v i : Nat) (h : a ≠ b) (h' : a + 4 ≠ b) : gb (wr64 a v s) b i = gb s b i := gb_eq_rd _ (rd_wr64_of_ne s v h h')

theorem gf_wr64_of_ne (v lo len : Nat) (h : a ≠ b) (h' : a + 4 ≠ b) : gf (wr64 a v s) b lo len = gf s b lo len := by
  unfold gf
  rw [rd_wr64_of_ne s v h h']

/-- What leaves the registers leaves their fields. -/
theorem gf_of_regs {s t : State} (h : t.regs = s.regs) (a lo len : Nat) : gf t a lo len = gf s a lo len :=
  congrArg (fun m => fld (Map.get (resetWord a) m a) lo len) h

theorem gb_of_regs {s t : State} (h : t.regs = s.regs) (a i : Nat) : gb t a i = gb s a i :=
  congrArg (fun m => bit (Map.get (resetWord a) m a) i) h

/-! ### Other fields of a register -/

theorem gf_sb_of_disjoint (a : Nat) {i lo len : Nat} (v : Bool) (hi : i < 32) (hd : i + 1 ≤ lo ∨ lo + len ≤ i) :
    gf (sb a i v s) a lo len = gf s a lo len := gf_sf_of_disjoint s a i 1 _ lo len hi hd

theorem gf_bump_of_disjoint (a : Nat) {lo len l i : Nat} (h : lo + len ≤ 32) (hd : lo + len ≤ l ∨ l + i ≤ lo) :
    gf (bump a lo len s) a l i = gf s a l i := gf_sf_of_disjoint s a lo len _ l i h hd

theorem gf_bumpBy_same (a lo len k : Nat) (h : lo + len ≤ 32) :
    gf (bumpBy a lo len k s) a lo len = min (gf s a lo len + k) (2 ^ len - 1) := by
  unfold bumpBy
  rw [gf_sf_same s a lo len _ h, Nat.mod_eq_of_lt]
  have := Nat.two_pow_pos len
  omega

end

/-! ### Messages and walks -/

theorem Touches.updCls {l : List Nat} (c : Nat) (f : Cls → Cls) (s : State) : Touches l s (updCls c f s) := .of_regs_eq rfl ⟨rfl, rfl, rfl⟩

theorem Touches.sendPacket {l : List Nat} (p : Pkt) (s : State) : Touches l s (sendPacket p s) := .updCls p.cls _ s

section
variable (src kind addr info aux : Nat) (s : State) (a i j : Nat)
@[simp] theorem rd_sendMsg : rd (sendMsg src kind addr info s) a = rd s a := (rfl)
@[simp] theorem gb_sendMsg : gb (sendMsg src kind addr info s) a i = gb s a i := (rfl)
@[simp] theorem gf_sendMsg : gf (sendMsg src kind addr info s) a i j = gf s a i j := (rfl)
@[simp] theorem rd_sendMsgAux : rd (sendMsgAux src kind addr info aux s) a = rd s a := (rfl)
@[simp] theorem gb_sendMsgAux : gb (sendMsgAux src kind addr info aux s) a i = gb s a i := (rfl)
@[simp] theorem gf_sendMsgAux : gf (sendMsgAux src kind addr info aux s) a i j = gf s a i j := (rfl)
@[simp] theorem rd64_sendMsgAux : rd64 (sendMsgAux src kind addr info aux s) a = rd64 s a := (rfl)
end

/-- A block's message stands on the bus. -/
theorem reports_sendMsgAux (src kind addr info aux : Nat) (s : State) : Reports src kind (sendMsgAux src kind addr info aux s) :=
  ⟨_, mem_insMsg _ _, rfl, rfl, rfl⟩

theorem reports_sendMsg (src kind addr info : Nat) (s : State) : Reports src kind (sendMsg src kind addr info s) :=
  ⟨_, mem_insMsg _ _, rfl, rfl, rfl⟩

/-- What leaves the bus and the tick leaves a message. -/
theorem reports_of_eq {src kind : Nat} {s t : State} (hf : t.fc = s.fc) (hn : t.now = s.now) (h : Reports src kind s) : Reports src kind t := by
  unfold Reports
  rw [hf, hn]
  exact h

theorem mem_insMsg_of_mem {m m' : Msg} {l : List Msg} (h : m' ∈ l) : m' ∈ insMsg m l := by
  induction l with
  | nil => cases h
  | cons x xs ih =>
    unfold insMsg
    split
    · exact List.mem_cons_of_mem m h
    · rcases List.mem_cons.1 h with rfl | h
      · exact List.mem_cons_self
      · exact List.mem_cons_of_mem x (ih h)

/-- A further message leaves those on the bus. -/
theorem reports_mono {src' kind' : Nat} (src kind addr info : Nat) (s : State) (h : Reports src' kind' s) :
    Reports src' kind' (sendMsg src kind addr info s) := by
  obtain ⟨m, hm, hs⟩ := h
  exact ⟨m, mem_insMsg_of_mem hm, hs⟩

/-- A walk whose actions all leave a state leaves it. -/
theorem each_id {α : Type} {f : α → State → State} {s : State} {xs : List α} (h : ∀ x ∈ xs, f x s = s) : each f xs s = s := by
  induction xs with
  | nil => rfl
  | cons x xs ih => rw [each, h x List.mem_cons_self, ih fun y hy => h y (List.mem_cons_of_mem x hy)]

/-- A command of the core clock that leaves the state answers it. -/
theorem clocked_self {s : State} {f : State → State} (ho : Operating s) (hf : f s = s) : clocked s f = .next s := by
  rw [clocked_next ho (by rw [hf]; exact ⟨rfl, rfl, rfl⟩), hf]

/-- A field of a word merged under a mask that covers it is the new word's. -/
theorem fld_mergeMask {m old new : Word} {lo len : Nat} (h : ∀ i, i < len → m.getLsbD (lo + i) = true) :
    fld (mergeMask m old new) lo len = fld new lo len := by
  refine Nat.eq_of_testBit_eq fun i => ?_
  rw [testBit_fld, testBit_fld]
  by_cases hi : i < len
  · simp only [mergeMask, BitVec.getLsbD_or, BitVec.getLsbD_and, BitVec.getLsbD_not, h i hi]
    simp
  · simp [hi]

end Sys2Proof.Machine
end

section
/-! PROOFS. The DDR5 controller (11 R286 to R295): training, tickets, bursts that return, and O38 assembled from it. -/

namespace Sys2Proof.Machine

-- One proof at a time: the whole text is compiled within a bound on memory.
set_option Elab.async false

variable {s : State} {r : Req} {x : Flight} {res : BurstResult}

/-! ### INIT, training, tickets and the seed (R287, R292, R295) -/

/-- What a rejection of the MEM block leaves. -/
theorem memReject_answers {f : State → State} (ho : Operating s) (hf : f s = memReject s) :
    ∃ t, clocked s f = .next t ∧ gb t R.memStat 5 = true ∧ t.training = s.training ∧ OnlyRegs [R.memStat] s t := by
  have touches : Touches [R.memStat] s (memReject s) := Touches.flag (by simp) 5 s
  exact ⟨_, touches.clocked ho hf, gb_flag_same s _ 5 (by decide), rfl, touches.onlyRegs⟩

theorem memInit_answers (ho : Operating s) (hr : gb s R.memStat 0 = false) (ht : s.training = false) :
    ∃ t, exec .memCtrlInit s = .next t ∧ t.training = true ∧ OnlyRegs [] s t := by
  have eff : memInit s = { s with training := true } := by
    unfold memInit memReady
    simp [hr, ht]
  have touches : Touches [] s { s with training := true } := .of_regs_eq rfl ⟨rfl, rfl, rfl⟩
  exact ⟨_, touches.clocked ho eff, rfl, touches.onlyRegs⟩

theorem memInit_rejected (ho : Operating s) (h : gb s R.memStat 0 = true ∨ s.training = true) :
    ∃ t, exec .memCtrlInit s = .next t ∧ gb t R.memStat 5 = true ∧ t.training = s.training ∧ OnlyRegs [R.memStat] s t := by
  refine memReject_answers ho ?_
  unfold memInit memReady
  rcases h with h | h <;> simp [h]

theorem trained_answers (ho : Operating s) (ht : s.training = true) (ok : Bool) :
    ∃ t, exec (.trainingDone ok) s = .next t ∧ t.training = false ∧ (ok = true → gb t R.memStat 0 = true) ∧
      (ok = false → gb t R.memStat 1 = true ∧ gb t R.memStat 0 = gb s R.memStat 0 ∧ Reports 3 0x20 t) ∧ OnlyRegs [R.memStat] s t := by
  have ends : Touches [R.memStat] s { s with training := false } := .of_regs_eq rfl ⟨rfl, rfl, rfl⟩
  cases ok with
  | true =>
    have eff : trained true s = flag R.memStat 0 { s with training := false } := by simp [trained, ht]
    have touches := ends.trans (Touches.flag (a := R.memStat) (by simp) 0 _)
    exact ⟨_, touches.clocked ho eff, by simp, fun _ => gb_flag_same _ _ 0 (by decide), by simp, touches.onlyRegs⟩
  | false =>
    have eff : trained false s = sendMsg 3 0x20 0 0 (flag R.memStat 1 { s with training := false }) := by simp [trained, ht]
    have touches := (ends.trans (Touches.flag (a := R.memStat) (by simp) 1 _)).trans (Touches.sendMsg 3 0x20 0 0 _)
    refine ⟨_, touches.clocked ho eff, by simp [sendMsg],  by simp, fun _ => ⟨?_, ?_, reports_sendMsg _ _ _ _ _⟩, touches.onlyRegs⟩
    · rw [gb_sendMsg, gb_flag_same _ _ 1 (by decide)]
    · rw [gb_sendMsg]
      exact gb_sb_of_ne_bit { s with training := false } _ 1 0 true (by decide) (by decide)

/-- A write of a port's ticket word stores its ten fields. -/
theorem memWrite_tkt {p : Nat} (hp : p < 12) (w : Word) (s : State) :
    memWrite (0x100 + 4 * p) w s = wr (R.arbTkt0 + 4 * p) (mergeMask 0x7ff (rd s (R.arbTkt0 + 4 * p)) w &&& ~~~(w &&& 0)) s := by
  interval_cases p <;> rfl

theorem arbTkt_answers (ho : Operating s) {p : Nat} (hp : p < 12) (w : Word) :
    ∃ t, exec (.arbTktWrite p w) s = .next t ∧ gf t (R.arbTkt0 + 4 * p) 0 8 = fld w 0 8 ∧ gf t (R.arbTkt0 + 4 * p) 8 3 = fld w 8 3 ∧
      t.arb.grant = s.arb.grant ∧ t.arb.queues = s.arb.queues ∧ OnlyRegs [R.arbTkt0 + 4 * p] s t := by
  have eff : (if p < 12 then memWrite (0x100 + 4 * p) w s else s) = wr (R.arbTkt0 + 4 * p) (mergeMask 0x7ff (rd s (R.arbTkt0 + 4 * p)) w) s := by
    rw [if_pos hp, memWrite_tkt hp, show ~~~(w &&& 0) = BitVec.allOnes 32 by bv_normalize, BitVec.and_allOnes]
  have touches : Touches [R.arbTkt0 + 4 * p] s (wr (R.arbTkt0 + 4 * p) (mergeMask 0x7ff (rd s (R.arbTkt0 + 4 * p)) w) s) :=
    Touches.wr (by simp) _ s
  refine ⟨_, touches.clocked ho eff, ?_, ?_, rfl, rfl, touches.onlyRegs⟩
  · rw [gf_wr_same, fld_mergeMask (by decide)]
  · rw [gf_wr_same, fld_mergeMask (by decide)]

theorem seedWrite_answers (ho : Operating s) {w : Word} (hw : w ≠ 0) :
    ∃ t, exec (.arbSeedWrite w) s = .next t ∧ rd t R.arbSeed = w ∧ t.arb.seedNew = true ∧ OnlyRegs [R.arbSeed] s t := by
  have touches : Touches [R.arbSeed] s (wr R.arbSeed w { s with arb := { s.arb with seedNew := true } }) :=
    (Touches.of_regs_eq rfl ⟨rfl, rfl, rfl⟩ : Touches [R.arbSeed] s { s with arb := { s.arb with seedNew := true } }).trans
      (Touches.wr (by simp) w _)
  exact ⟨_, touches.clocked ho (if_neg hw), rd_wr_same _ _ w, rfl, touches.onlyRegs⟩

/-! ### Errors of a read (R288) -/

/-- A corrected error: MEM_STAT, its count and its message. -/
theorem ecc1_spec (r : Req) (s : State) :
    Touches [R.memStat, R.memEcc] s (ecc1 r s) ∧ gb (ecc1 r s) R.memStat 2 = true ∧
      gf (ecc1 r s) R.memEcc 0 16 = min (gf s R.memEcc 0 16 + 1) 65535 ∧ Reports 3 0x21 (ecc1 r s) ∧ (ecc1 r s).arb = s.arb := by
  unfold ecc1
  refine ⟨((Touches.flag (by simp) 2 s).trans (Touches.bump (by simp) 0 16 _)).trans (Touches.sendMsgAux _ _ _ _ _ _ _), ?_, ?_,
    reports_sendMsgAux _ _ _ _ _ _, by simp [sendMsgAux]⟩
  · rw [gb_sendMsgAux, gb_bump_of_ne _ _ _ _ (by decide), gb_flag_same _ _ _ (by decide)]
  · rw [gf_sendMsgAux, gf_bump_half _ (by decide), gf_flag_of_ne _ _ _ _ (by decide)]

/-- The flag of MEM_STAT and the place in MEM_ECC of an error that spoils a read. -/
def eccFlag (addr : Bool) : Nat := if addr then 4 else 3
def eccPlace (addr : Bool) : Nat := if addr then 24 else 16

theorem ecc2_eq (r : Req) (addr : Bool) (s : State) :
    ecc2 r addr s = sendMsgAux 3 0x22 (r.offset / 4096) (eccInfo r addr) r.offset
      (wr64 R.memErrAddrLo (r.offset / 64 * 64) (bump R.memEcc (eccPlace addr) 8 (flag R.memStat (eccFlag addr) s))) := by
  cases addr <;> rfl

/-- An error that spoils a read: MEM_STAT, its count, the burst's offset and its message. -/
theorem ecc2_spec (r : Req) (addr : Bool) (s : State) (hr : r.offset < 2 ^ 36) :
    Touches [R.memStat, R.memEcc, R.memErrAddrLo, R.memErrAddrLo + 4] s (ecc2 r addr s) ∧
      gb (ecc2 r addr s) R.memStat (eccFlag addr) = true ∧
      gf (ecc2 r addr s) R.memEcc (eccPlace addr) 8 = min (gf s R.memEcc (eccPlace addr) 8 + 1) 255 ∧
      rd64 (ecc2 r addr s) R.memErrAddrLo = r.offset / 64 * 64 ∧ Reports 3 0x22 (ecc2 r addr s) ∧
      (ecc2 r addr s).arb = s.arb ∧ (ecc2 r addr s).badBursts = s.badBursts := by
  rw [ecc2_eq]
  have place : eccPlace addr + 8 ≤ 32 := by cases addr <;> decide
  have small : eccFlag addr < 32 := by cases addr <;> decide
  have stores (u : State) : Touches [R.memStat, R.memEcc, R.memErrAddrLo, R.memErrAddrLo + 4] u (wr64 R.memErrAddrLo (r.offset / 64 * 64) u) :=
    (Touches.wr (by simp) _ u).trans (Touches.wr (by simp) _ _)
  refine ⟨(((Touches.flag (by simp) _ s).trans (Touches.bump (by simp) _ 8 _)).trans (stores _)).trans (Touches.sendMsgAux _ _ _ _ _ _ _),
    ?_, ?_, ?_, reports_sendMsgAux _ _ _ _ _ _, by simp [sendMsgAux], by simp [sendMsgAux]⟩
  · rw [gb_sendMsgAux, gb_wr64_of_ne _ _ _ (by decide) (by decide), gb_bump_of_ne _ _ _ _ (by decide), gb_flag_same s _ _ small]
  · rw [gf_sendMsgAux, gf_wr64_of_ne _ _ _ _ (by decide) (by decide), gf_bump_byte _ place, gf_flag_of_ne s _ _ 8 (by decide)]
  · rw [rd64_sendMsgAux, rd64_wr64_same _ _ (by omega)]

/-! ### A read that returns (R288) -/

/-- A returned burst that waits for its requester's own command is not routed. -/
theorem routeOne_of_waits {e : Req × Option (List Byte)} (h : TakesAtOnce e.1.who = false) (s : State) : routeOne e s = s := by
  cases hw : e.1.who <;> simp [routeOne, hw, TakesAtOnce] at h ⊢

theorem route_of_waits {s : State} (h : ∀ e ∈ s.arb.inbox, TakesAtOnce e.1.who = false) : route s = s :=
  each_id fun e he => routeOne_of_waits (h e he) s

/-- The state without the flight that ends. -/
def landFlight (x : Flight) (s : State) : State := { s with arb := { s.arb with issued := s.arb.issued.erase x } }

/-- What the requester finds in its inbox, unless its request has been withdrawn. -/
def fillInbox (x : Flight) (d : Option (List Byte)) (s : State) : State :=
  if x.dead then s else { s with arb := { s.arb with inbox := s.arb.inbox ++ [(x.req, d)] } }

section
variable (d : Option (List Byte)) (u : State) (a i j : Nat)

theorem touches_fillInbox (l : List Nat) (x : Flight) : Touches l u (fillInbox x d u) := by
  unfold fillInbox
  split <;> exact .of_regs_eq rfl ⟨rfl, rfl, rfl⟩

theorem fillInbox_regs : (fillInbox x d u).regs = u.regs := by
  unfold fillInbox
  split <;> rfl

@[simp] theorem rd_fillInbox : rd (fillInbox x d u) a = rd u a := congrArg (fun m => Map.get (resetWord a) m a) (fillInbox_regs d u)
@[simp] theorem gb_fillInbox : gb (fillInbox x d u) a i = gb u a i := gb_eq_rd _ (rd_fillInbox d u a)
@[simp] theorem gf_fillInbox : gf (fillInbox x d u) a i j = gf u a i j := congrArg (fld · i j) (rd_fillInbox d u a)

@[simp] theorem rd64_fillInbox : rd64 (fillInbox x d u) a = rd64 u a := by
  unfold rd64
  rw [rd_fillInbox, rd_fillInbox]

@[simp] theorem fillInbox_badBursts : (fillInbox x d u).badBursts = u.badBursts := by
  unfold fillInbox
  split <;> rfl

@[simp] theorem fillInbox_issued : (fillInbox x d u).arb.issued = u.arb.issued := by
  unfold fillInbox
  split <;> rfl

theorem reports_fillInbox {src kind : Nat} (h : Reports src kind u) : Reports src kind (fillInbox x d u) := by
  unfold fillInbox
  split <;> exact h

theorem inbox_fillInbox (x : Flight) : (fillInbox x d u).arb.inbox = if x.dead = true then u.arb.inbox else u.arb.inbox ++ [(x.req, d)] := by
  unfold fillInbox
  split <;> rfl

end

theorem touches_landFlight (l : List Nat) (x : Flight) (s : State) : Touches l s (landFlight x s) := .of_regs_eq rfl ⟨rfl, rfl, rfl⟩

/-- A double-bit error stands for later reads, unless its burst has been rewritten. -/
def markBad (x : Flight) (s : State) : State :=
  if x.rewritten || s.badBursts.contains x.req.offset then s else { s with badBursts := s.badBursts ++ [x.req.offset] }

theorem touches_markBad (l : List Nat) (x : Flight) (s : State) : Touches l s (markBad x s) := by
  unfold markBad
  split <;> exact .of_regs_eq rfl ⟨rfl, rfl, rfl⟩

theorem arb_markBad (x : Flight) (s : State) : (markBad x s).arb = s.arb := by
  unfold markBad
  split <;> rfl

theorem gf_markBad (x : Flight) (s : State) (a i j : Nat) : gf (markBad x s) a i j = gf s a i j := by
  unfold markBad
  split <;> rfl

theorem mem_markBad {x : Flight} (h : x.rewritten = false) (s : State) : x.req.offset ∈ (markBad x s).badBursts := by
  unfold markBad
  split
  · next hc => simpa [h] using hc
  · simp

theorem reportRead_double (x : Flight) (s : State) : reportRead x .double s = ecc2 x.req false (markBad x s) := (rfl)

theorem arb_reportRead (x : Flight) (res : BurstResult) (s : State) : (reportRead x res s).arb = s.arb := by
  cases res with
  | clean => rfl
  | single => simp [reportRead, ecc1, sendMsgAux]
  | double => simp [reportRead_double, ecc2_eq, sendMsgAux, arb_markBad]
  | addr => simp [reportRead, ecc2_eq, sendMsgAux]

/-- The bytes a returned read brings: none where an error spoils it. -/
def returned (x : Flight) (res : BurstResult) : Option (List Byte) := if res = .clean ∨ res = .single then some x.data else none

theorem req_of_flight (h : s.arb.issued.find? (fun y => y.req == r) = some x) : x.req = r := by
  simpa using List.find?_some h

/-- A read that returns for a requester that takes it later: its errors are reported, and it enters the inbox. -/
theorem burstDone_eq (hx : flightOf s r = some x) (hw : TakesAtOnce r.who = false) (hr : Routed s) :
    burstDone r res s = fillInbox x (returned x (effResult s x res)) (reportRead x (effResult s x res) (landFlight x s)) := by
  have hreq : x.req = r := req_of_flight hx
  have done : completeBurst r res s =
      fillInbox x (returned x (effResult s x res)) (reportRead x (effResult s x res) (landFlight x s)) := by
    unfold completeBurst
    rw [hx, ← hreq]
    rfl
  have waits : ∀ e ∈ (completeBurst r res s).arb.inbox, TakesAtOnce e.1.who = false := by
    rw [done, inbox_fillInbox, arb_reportRead]
    intro e he
    split at he
    · exact hr e he
    · rcases List.mem_append.1 he with he | he
      · exact hr e he
      · rw [List.mem_singleton.1 he, hreq]
        exact hw
  have eff : burstDone r res s = route (completeBurst r res s) := by
    cases hk : r.who <;> simp [burstDone, hx, hk, TakesAtOnce] at hw ⊢
  rw [eff, route_of_waits waits, done]

/-- What a read found, as the statement of O38 writes it. -/
theorem effResult_eq (s : State) (x : Flight) (res : BurstResult) :
    effResult s x res = if res = .addr then .addr else if x.bad = true ∨ x.req.offset ∈ s.badBursts then .double else res := by
  unfold effResult
  simp

/-- A read of a requester that takes its data later returns: each outcome. -/
theorem burstDone_answers (ho : Operating s) (hx : s.arb.issued.find? (fun x => x.req == r) = some x) (hw : TakesAtOnce r.who = false)
    (hr : Routed s) (hoff : r.offset < 2 ^ 36) :
    let found := effResult s x res
    let gets : Option (List Byte) → State → Prop := fun d t =>
      t.arb.inbox = if x.dead = true then s.arb.inbox else s.arb.inbox ++ [(r, d)]
    ∃ t, exec (.burstCompletion r res) s = .next t ∧ t.arb.issued = s.arb.issued.erase x ∧
      (found = .clean → gets (some x.data) t ∧ OnlyRegs [] s t) ∧
      (found = .single → gets (some x.data) t ∧ gb t R.memStat 2 = true ∧
        gf t R.memEcc 0 16 = min (gf s R.memEcc 0 16 + 1) 65535 ∧ Reports 3 0x21 t ∧ OnlyRegs [R.memStat, R.memEcc] s t) ∧
      (found = .double → gets none t ∧ gb t R.memStat 3 = true ∧ gf t R.memEcc 16 8 = min (gf s R.memEcc 16 8 + 1) 255 ∧
        (x.rewritten = false → r.offset ∈ t.badBursts) ∧ rd64 t R.memErrAddrLo = r.offset / 64 * 64 ∧ Reports 3 0x22 t ∧
        OnlyRegs [R.memStat, R.memEcc, R.memErrAddrLo, R.memErrAddrLo + 4] s t) ∧
      (found = .addr → gets none t ∧ gb t R.memStat 4 = true ∧ gf t R.memEcc 24 8 = min (gf s R.memEcc 24 8 + 1) 255 ∧
        t.badBursts = s.badBursts ∧ rd64 t R.memErrAddrLo = r.offset / 64 * 64 ∧ Reports 3 0x22 t ∧
        OnlyRegs [R.memStat, R.memEcc, R.memErrAddrLo, R.memErrAddrLo + 4] s t) := by
  have hreq : x.req = r := req_of_flight hx
  subst hreq
  have eff := burstDone_eq (res := res) hx hw hr
  generalize effResult s x res = found at eff
  have inbox (d : Option (List Byte)) : (fillInbox x d (reportRead x found (landFlight x s))).arb.inbox =
      if x.dead = true then s.arb.inbox else s.arb.inbox ++ [(x.req, d)] := by
    rw [inbox_fillInbox, arb_reportRead]
    rfl
  have issued (d : Option (List Byte)) : (fillInbox x d (reportRead x found (landFlight x s))).arb.issued = s.arb.issued.erase x := by
    rw [fillInbox_issued, arb_reportRead]
    rfl
  have touches {l : List Nat} (d : Option (List Byte)) (h : Touches l (landFlight x s) (reportRead x found (landFlight x s))) :
      Touches l s (fillInbox x d (reportRead x found (landFlight x s))) :=
    ((touches_landFlight l x s).trans h).trans (touches_fillInbox d _ l x)
  cases found with
  | clean =>
    have keeps := touches (l := []) (some x.data) (Touches.refl _ _)
    exact ⟨_, keeps.clocked ho eff, issued _, fun _ => ⟨inbox _, keeps.onlyRegs⟩, by simp, by simp, by simp⟩
  | single =>
    obtain ⟨ht, hb, hc, hm, -⟩ := ecc1_spec x.req (landFlight x s)
    have keeps := touches (some x.data) ht
    exact ⟨_, keeps.clocked ho eff, issued _, by simp,
      fun _ => ⟨inbox _, (gb_fillInbox ..).trans hb, (gf_fillInbox ..).trans hc, reports_fillInbox _ _ hm, keeps.onlyRegs⟩, by simp, by simp⟩
  | double =>
    obtain ⟨ht, hb, hc, ha, hm, -, hbad⟩ := ecc2_spec x.req false (markBad x (landFlight x s)) hoff
    have keeps := touches none ((touches_markBad _ x (landFlight x s)).trans ht)
    refine ⟨_, keeps.clocked ho eff, issued _, by simp, by simp, fun _ => ⟨inbox _, (gb_fillInbox ..).trans hb, ?_, fun hw => ?_,
      (rd64_fillInbox ..).trans ha, reports_fillInbox _ _ hm, keeps.onlyRegs⟩, by simp⟩
    · exact (gf_fillInbox ..).trans (hc.trans (by rw [gf_markBad]; rfl))
    · rw [fillInbox_badBursts, reportRead_double, hbad]
      exact mem_markBad hw _
  | addr =>
    obtain ⟨ht, hb, hc, ha, hm, -, hbad⟩ := ecc2_spec x.req true (landFlight x s) hoff
    have keeps := touches none ht
    exact ⟨_, keeps.clocked ho eff, issued _, by simp, by simp, by simp, fun _ => ⟨inbox _, (gb_fillInbox ..).trans hb,
      (gf_fillInbox ..).trans hc, (fillInbox_badBursts ..).trans hbad, (rd64_fillInbox ..).trans ha, reports_fillInbox _ _ hm, keeps.onlyRegs⟩⟩

theorem burstDone_absent (ho : Operating s) (h : r ∉ s.arb.issued.map (·.req)) : exec (.burstCompletion r res) s = .next s := by
  refine clocked_self ho ?_
  have none : flightOf s r = none := by
    refine List.find?_eq_none.2 fun y hy => ?_
    simpa using fun he => h (List.mem_map.2 ⟨y, hy, he⟩)
  unfold burstDone
  rw [none]

/-! ### Scrub reads (R290) -/

/-- The scrubber goes on to the next burst, or counts a pass. -/
def scrubNext (s : State) : State :=
  if memSize s ≤ (s.scrubAt + 1) * 64 then bump R.scrubStat 0 16 { s with scrubAt := 0 } else { s with scrubAt := s.scrubAt + 1 }

theorem scrubNext_spec (s : State) :
    let last := memSize s ≤ (s.scrubAt + 1) * 64
    Touches [R.scrubStat] s (scrubNext s) ∧ (scrubNext s).scrubAt = (if last then 0 else s.scrubAt + 1) ∧
      gf (scrubNext s) R.scrubStat 0 16 = (if last then min (gf s R.scrubStat 0 16 + 1) 65535 else gf s R.scrubStat 0 16) ∧
      gf (scrubNext s) R.scrubStat 16 16 = gf s R.scrubStat 16 16 ∧ (scrubNext s).arb = s.arb ∧
      (∀ src kind, Reports src kind s → Reports src kind (scrubNext s)) := by
  have restart : Touches [R.scrubStat] s { s with scrubAt := 0 } := .of_regs_eq rfl ⟨rfl, rfl, rfl⟩
  unfold scrubNext
  by_cases h : memSize s ≤ (s.scrubAt + 1) * 64
  · simp only [h, if_true]
    refine ⟨restart.trans (Touches.bump (by simp) 0 16 _), by simp, ?_, ?_, by simp, fun _ _ => reports_of_eq (by simp) (by simp)⟩
    · exact gf_bump_half _ (by decide)
    · exact gf_bump_of_disjoint _ _ (by decide) (by decide)
  · simp only [h, if_false]
    exact ⟨.of_regs_eq rfl ⟨rfl, rfl, rfl⟩, trivial, rfl, rfl, trivial, fun _ _ hm => hm⟩

theorem memSize_congr {s t : State} (h : rd t R.memCfg = rd s R.memCfg) : memSize t = memSize s := by
  unfold memSize gf
  rw [h]

/-- A scrub read that finds no error it cannot correct. -/
theorem scrubEnd_eq (hb : x.bad = false) (ho : x.req.offset ∉ s.badBursts) (hr : res = .clean ∨ res = .single) :
    scrubEnd x res s = scrubNext (whenB (res == .single) (bump R.scrubStat 16 16) (reportRead x res (landFlight x s))) := by
  have eff : effResult s x res = res := by
    rw [effResult_eq]
    rcases hr with rfl | rfl <;> simp [hb, ho]
  unfold scrubEnd scrubNext
  rw [eff]
  rfl

/-- The scrubber's read that returns, where one has been issued. -/
def scrubReturn (res : BurstResult) (s : State) : State :=
  match s.arb.issued.find? (fun q => q.req.who == .scrub) with
  | some q => scrubEnd q res s
  | none => s

theorem exec_scrubRead (res : BurstResult) (s : State) : exec (.scrubRead res) s = clocked s (scrubReturn res) := (rfl)

theorem scrubRead_answers (hop : Operating s) (hx : s.arb.issued.find? (fun q => q.req.who == .scrub) = some x) (hb : x.bad = false)
    (ho : x.req.offset ∉ s.badBursts) (hr : res = .clean ∨ res = .single) :
    let last := memSize s ≤ (s.scrubAt + 1) * 64
    ∃ t, exec (.scrubRead res) s = .next t ∧ t.arb.issued = s.arb.issued.erase x ∧ t.scrubAt = (if last then 0 else s.scrubAt + 1) ∧
      gf t R.scrubStat 0 16 = (if last then min (gf s R.scrubStat 0 16 + 1) 65535 else gf s R.scrubStat 0 16) ∧
      (res = .single → gf t R.scrubStat 16 16 = min (gf s R.scrubStat 16 16 + 1) 65535 ∧ gb t R.memStat 2 = true ∧ Reports 3 0x21 t) ∧
      (res = .clean → gf t R.scrubStat 16 16 = gf s R.scrubStat 16 16 ∧ OnlyRegs [R.scrubStat] s t) ∧
      OnlyRegs [R.scrubStat, R.memStat, R.memEcc] s t := by
  have land := touches_landFlight [R.scrubStat] x s
  have eff : scrubReturn res s = scrubNext (whenB (res == .single) (bump R.scrubStat 16 16) (reportRead x res (landFlight x s))) := by
    unfold scrubReturn
    rw [hx]
    exact scrubEnd_eq hb ho hr
  rw [exec_scrubRead]
  rcases hr with rfl | rfl
  · obtain ⟨ht, hat, hlo, hhi, harb, -⟩ := scrubNext_spec (landFlight x s)
    have keeps := land.trans ht
    refine ⟨_, keeps.clocked hop eff, by rw [harb]; rfl, hat, hlo, by simp, fun _ => ⟨hhi, keeps.onlyRegs⟩, (keeps.mono (by simp)).onlyRegs⟩
  · obtain ⟨he, hb2, -, hm, ha⟩ := ecc1_spec x.req (landFlight x s)
    have stays (i j : Nat) : gf (ecc1 x.req (landFlight x s)) R.scrubStat i j = gf s R.scrubStat i j :=
      congrArg (fld · i j) (he.2 _ (by decide))
    have size : memSize (bump R.scrubStat 16 16 (ecc1 x.req (landFlight x s))) = memSize s :=
      memSize_congr ((rd_bump_of_ne _ 16 16 (by decide)).trans (he.2 _ (by decide)))
    have at_ : (bump R.scrubStat 16 16 (ecc1 x.req (landFlight x s))).scrubAt = s.scrubAt := by simp [ecc1, sendMsgAux, landFlight]
    obtain ⟨ht, hat, hlo, hhi, harb, hrep⟩ := scrubNext_spec (bump R.scrubStat 16 16 (ecc1 x.req (landFlight x s)))
    rw [size, at_] at hat hlo
    have keeps : Touches [R.scrubStat, R.memStat, R.memEcc] s (scrubNext (bump R.scrubStat 16 16 (ecc1 x.req (landFlight x s)))) :=
      (((land.mono (by simp)).trans (he.mono (by simp))).trans (Touches.bump (by simp) 16 16 _)).trans (ht.mono (by simp))
    refine ⟨_, keeps.clocked hop eff, ?_, hat, ?_, fun _ => ⟨?_, ?_, hrep _ _ (reports_of_eq (by simp) (by simp) hm)⟩, by simp, keeps.onlyRegs⟩
    · rw [harb, bump_arb, ha]
      rfl
    · rw [hlo, gf_bump_of_disjoint _ _ (by decide) (by decide), stays]
    · rw [hhi, gf_bump_half _ (by decide), stays]
    · rw [gb_eq_rd _ (ht.2 R.memStat (by decide)), gb_bump_of_ne _ _ _ _ (by decide), hb2]

/-- Settles O38: the controller's commands, a read that returns by what it found, and a scrub read. -/
theorem memoryController : Obligations.MemoryController := by
  unfold Obligations.MemoryController
  intro s r res p w ok ho
  refine ⟨memInit_answers ho, memInit_rejected ho, fun ht => trained_answers ho ht ok, fun hp => arbTkt_answers ho hp w,
    fun hw => seedWrite_answers ho hw, fun hw => memReject_answers ho (if_pos hw), burstDone_absent ho, ?_, ?_⟩
  · intro x hx hw hr hoff
    simp only [← effResult_eq]
    exact burstDone_answers ho hx hw hr hoff
  · intro q hq hb hbad hres
    exact scrubRead_answers ho hq hb hbad hres

end Sys2Proof.Machine
end

section
/-! PROOFS. The link's training (12 R317, R318, R340 to R343): what goes down, what a violation logs, and O43 assembled from them. -/

namespace Sys2Proof.Machine

-- One proof at a time: the whole text is compiled within a bound on memory.
set_option Elab.async false

variable {s t : State}

@[simp] theorem link_updCls (c : Nat) (f : Cls → Cls) (s : State) :
    (updCls c f s).link = { s.link with cls := Map.put {} s.link.cls c (f (lcls s c)) } := (rfl)

/-! ### Going down (R317, R325) -/

/-- A packet half sent leaves its channel's queue of notifications, and nothing else changes. -/
theorem noteHalf_eq (c : Nat) (s : State) : noteHalf c s = { s with seqs := (noteHalf c s).seqs } := by
  unfold noteHalf
  split
  · split
    · rfl
    · unfold noteSent
      split <;> rfl
  · rfl

theorem each_noteHalf_eq (xs : List Nat) (s : State) : each noteHalf xs s = { s with seqs := (each noteHalf xs s).seqs } := by
  induction xs generalizing s with
  | nil => rfl
  | cons c xs ih =>
    rw [each, ih, noteHalf_eq]

/-- No FLOW is owed any more. -/
def oweNothing (s : State) : State := { s with link := { s.link with ackDue := false, flowDue := false } }

theorem touches_oweNothing (l : List Nat) (s : State) : Touches l s (oweNothing s) := .of_regs_eq rfl ⟨rfl, rfl, rfl⟩

@[simp] theorem oweNothing_now (s : State) : (oweNothing s).now = s.now := (rfl)
@[simp] theorem oweNothing_fc (s : State) : (oweNothing s).fc = s.fc := (rfl)

/-- The registers and the structures of a class as the link leaves UP, before it trains again. -/
def quiesce (s : State) : State :=
  each noteHalf [0, 1, 2, 3] s |> each (fun c => updCls c downCls) [0, 1, 2, 3] |> each (fun c s => wr (R.txcStat + 4 * c) 0 s) txClasses
    |> oweNothing

theorem linkDown_eq (s : State) : linkDown s = startTraining (quiesce s) := (rfl)

theorem quiesce_touches (s : State) : Touches [R.txcStat, R.txcStat + 4, R.txcStat + 12] s (quiesce s) := by
  have notes : Touches [R.txcStat, R.txcStat + 4, R.txcStat + 12] s (each noteHalf [0, 1, 2, 3] s) := by
    rw [each_noteHalf_eq]
    exact .of_regs_eq rfl ⟨rfl, rfl, rfl⟩
  have classes (u : State) : Touches [R.txcStat, R.txcStat + 4, R.txcStat + 12] u (each (fun c => updCls c downCls) [0, 1, 2, 3] u) :=
    .each (f := fun c => updCls c downCls) (fun c _ v => .updCls c downCls v) u
  have credits (u : State) : Touches [R.txcStat, R.txcStat + 4, R.txcStat + 12] u (each (fun c s => wr (R.txcStat + 4 * c) 0 s) txClasses u) :=
    .each (fun c hc v => .wr (by fin_cases hc <;> simp) 0 v) u
  exact ((notes.trans (classes _)).trans (credits _)).trans (touches_oweNothing _ _)

theorem quiesce_now (s : State) : (quiesce s).now = s.now := by
  unfold quiesce
  rw [each_noteHalf_eq]
  simp [each, txClasses]

theorem quiesce_fc (s : State) : (quiesce s).fc = s.fc := by
  unfold quiesce
  rw [each_noteHalf_eq]
  simp [each, txClasses]

theorem startTraining_regs (s : State) : (startTraining s).regs = (sf R.lnkStat 3 5 0 (sf R.lnkStat 0 3 1 s)).regs := (rfl)

theorem startTraining_link (s : State) :
    (startTraining s).link.at_ = s.now ∧ (startTraining s).now = s.now ∧ (startTraining s).fc = s.fc := by
  simp [startTraining]

theorem touches_startTraining (s : State) : Touches [R.lnkStat] s (startTraining s) :=
  ((Touches.sf (by simp) 0 3 1 s).trans (Touches.sf (by simp) 3 5 0 _)).trans (.of_regs_eq (startTraining_regs s) ⟨rfl, rfl, rfl⟩)

/-- The link has gone down: it trains from now on, its credits are gone, and the flags and the count of LNK_STAT stand. -/
structure GoesDown (s t : State) : Prop where
  touches : Touches downRegs s t
  detects : gf t R.lnkStat 0 3 = 1
  since : t.link.at_ = s.now
  now : t.now = s.now
  fc : t.fc = s.fc
  high : ∀ lo len, 8 ≤ lo → gf t R.lnkStat lo len = gf s R.lnkStat lo len

theorem linkDown_goesDown (s : State) : GoesDown s (linkDown s) := by
  have quiet := quiesce_touches s
  have stat (lo len : Nat) : gf (quiesce s) R.lnkStat lo len = gf s R.lnkStat lo len := congrArg (fld · lo len) (quiet.2 _ (by decide))
  obtain ⟨since, now, fc⟩ := startTraining_link (quiesce s)
  have field (lo len : Nat) : gf (linkDown s) R.lnkStat lo len = gf (sf R.lnkStat 3 5 0 (sf R.lnkStat 0 3 1 (quiesce s))) R.lnkStat lo len :=
    gf_of_regs (startTraining_regs (quiesce s)) _ lo len
  refine ⟨(quiet.mono (by simp [downRegs])).trans ((touches_startTraining _).mono (by simp [downRegs])), ?_,
    since.trans (quiesce_now s), now.trans (quiesce_now s), fc.trans (quiesce_fc s), fun lo len h => ?_⟩
  · rw [field, gf_sf_of_disjoint _ _ 3 5 0 0 3 (by decide) (by decide), gf_sf_same _ _ 0 3 1 (by decide), Nat.mod_eq_of_lt (by decide)]
  · rw [field, gf_sf_of_disjoint _ _ 3 5 0 lo len (by decide) (by omega), gf_sf_of_disjoint _ _ 0 3 1 lo len (by decide) (by omega), stat]

/-- A training that failed has gone down and counts as a retrain. -/
theorem restart_eq (s : State) : restart s = linkDown (bump R.lnkStat 16 16 s) := (rfl)

theorem restart_spec (s : State) :
    Touches downRegs s (restart s) ∧ gf (restart s) R.lnkStat 0 3 = 1 ∧ (restart s).link.at_ = s.now ∧ (restart s).now = s.now ∧
      (restart s).fc = s.fc ∧ gf (restart s) R.lnkStat 16 16 = min (gf s R.lnkStat 16 16 + 1) 65535 ∧
      (∀ i, 8 ≤ i → i < 16 → gb (restart s) R.lnkStat i = gb s R.lnkStat i) := by
  have down := linkDown_goesDown (bump R.lnkStat 16 16 s)
  rw [restart_eq]
  refine ⟨(Touches.bump (by simp [downRegs]) 16 16 s).trans down.touches, down.detects, down.since.trans (by simp), down.now.trans (by simp),
    down.fc.trans (by simp), ?_, fun i h h' => ?_⟩
  · rw [down.high 16 16 (by decide), gf_bump_half s (by decide)]
  · rw [gb_eq_gf, gb_eq_gf, down.high i 1 h, gf_bump_of_disjoint s _ (by decide) (by omega)]

/-- The link is UP: its loss is sent and counted. -/
theorem retrain_eq (hu : gf s R.lnkStat 0 3 = 5) :
    retrain s = restart (flag R.lnkStat 8 (sendMsg 2 0x30 0 (gf s R.lnkStat 3 4) s)) := by
  unfold retrain linkUp
  simp [hu]

/-- A retrain of the link while UP. -/
theorem retrain_spec (hu : gf s R.lnkStat 0 3 = 5) :
    Touches downRegs s (retrain s) ∧ gf (retrain s) R.lnkStat 0 3 = 1 ∧ (retrain s).link.at_ = s.now ∧ (retrain s).now = s.now ∧
      gf (retrain s) R.lnkStat 16 16 = min (gf s R.lnkStat 16 16 + 1) 65535 ∧ gb (retrain s) R.lnkStat 8 = true ∧
      Reports 2 0x30 (retrain s) ∧ (gb s R.lnkStat 9 = true → gb (retrain s) R.lnkStat 9 = true) ∧
      (∀ src kind, Reports src kind s → Reports src kind (retrain s)) := by
  rw [retrain_eq hu]
  generalize hx : gf s R.lnkStat 3 4 = info
  generalize hw : flag R.lnkStat 8 (sendMsg 2 0x30 0 info s) = u
  obtain ⟨ht, hs, ha, hn, hf, hc, hb⟩ := restart_spec u
  have touches : Touches downRegs s u := hw ▸ (Touches.sendMsg 2 0x30 0 info s).trans (Touches.flag (by simp [downRegs]) 8 _)
  have now : u.now = s.now := by simp [← hw, sendMsg]
  have count : gf u R.lnkStat 16 16 = gf s R.lnkStat 16 16 := by
    rw [← hw, gf_flag_of_disjoint _ (by decide) (by decide), gf_sendMsg]
  have loss : gb u R.lnkStat 8 = true := by rw [← hw, gb_flag_same _ _ 8 (by decide)]
  have logged : gb u R.lnkStat 9 = gb s R.lnkStat 9 := by
    rw [← hw, gb_flag (hi := by decide), gb_sendMsg]
    simp
  have sent : Reports 2 0x30 u := hw ▸ reports_of_eq (by simp) (by simp) (reports_sendMsg 2 0x30 0 info s)
  have keeps (src kind : Nat) (h : Reports src kind s) : Reports src kind u := by
    exact hw ▸ reports_of_eq (by simp) (by simp) (reports_mono 2 0x30 0 info s h)
  refine ⟨touches.trans ht, hs, ha.trans now, hn.trans now, hc.trans (by rw [count]), (hb 8 (by decide) (by decide)).trans loss,
    reports_of_eq hf hn sent, fun h => ?_, fun src kind h => reports_of_eq hf hn (keeps src kind h)⟩
  rw [hb 9 (by decide) (by decide), logged, h]

theorem retrain_of_not_up (hu : gf s R.lnkStat 0 3 ≠ 5) : retrain s = s := by
  unfold retrain linkUp
  simp [hu]

/-! ### The log of violations (R340, R342, R343) -/

/-- The words of a log entry. -/
def logEntry (a code tc seq w2 k : Nat) (s : State) : State :=
  wr a (BitVec.ofNat 32 (ticktime s)) s |> wr (a + 4) (BitVec.ofNat 32 (code + 256 * tc + 1024 * seq)) |> wr (a + 8) (BitVec.ofNat 32 w2)
    |> wr (a + 12) (BitVec.ofNat 32 k)

/-- NEXT, WRAP and the counts of LOG_STAT after entry i, and LOG_VIOL. -/
def logCount (i k : Nat) (s : State) : State :=
  sf R.logStat 0 6 (i + 1) s |> whenB (i == 63) (flag R.logStat 6) |> sf R.logStat 8 8 k |> bump R.logStat 16 16 |> flag R.lnkStat 9

theorem logViolation_eq (code tc seq w2 : Nat) (s : State) :
    logViolation code tc seq w2 s = sendMsg 2 0x31 (seq + tc * 4096) code
      (logCount (gf s R.logStat 0 6) (min 255 (gf s R.logStat 8 8 + 1))
        (logEntry (R.llog + 16 * gf s R.logStat 0 6) code tc seq w2 (min 255 (gf s R.logStat 8 8 + 1)) s)) := (rfl)

theorem logEntry_spec (a code tc seq w2 k : Nat) (s : State) :
    Touches [a, a + 4, a + 8, a + 12] s (logEntry a code tc seq w2 k s) ∧
      rd (logEntry a code tc seq w2 k s) a = BitVec.ofNat 32 (ticktime s) ∧
      rd (logEntry a code tc seq w2 k s) (a + 4) = BitVec.ofNat 32 (code + 256 * tc + 1024 * seq) ∧
      rd (logEntry a code tc seq w2 k s) (a + 8) = BitVec.ofNat 32 w2 ∧ rd (logEntry a code tc seq w2 k s) (a + 12) = BitVec.ofNat 32 k ∧
      (logEntry a code tc seq w2 k s).link = s.link ∧ (logEntry a code tc seq w2 k s).now = s.now ∧
      (logEntry a code tc seq w2 k s).fc = s.fc := by
  unfold logEntry
  refine ⟨(((Touches.wr (by simp) _ s).trans (Touches.wr (by simp) _ _)).trans (Touches.wr (by simp) _ _)).trans (Touches.wr (by simp) _ _),
    ?_, ?_, ?_, rd_wr_same _ _ _, by simp, by simp, by simp⟩
  · rw [rd_wr_of_ne _ _ (by omega), rd_wr_of_ne _ _ (by omega), rd_wr_of_ne _ _ (by omega), rd_wr_same]
  · rw [rd_wr_of_ne _ _ (by omega), rd_wr_of_ne _ _ (by omega), rd_wr_same]
  · rw [rd_wr_of_ne _ _ (by omega), rd_wr_same]

theorem logCount_spec (i : Nat) {k : Nat} (hk : k < 256) (s : State) :
    Touches [R.logStat, R.lnkStat] s (logCount i k s) ∧ gf (logCount i k s) R.logStat 0 6 = (i + 1) % 64 ∧
      gf (logCount i k s) R.logStat 8 8 = k ∧ gf (logCount i k s) R.logStat 16 16 = min (gf s R.logStat 16 16 + 1) 65535 ∧
      gb (logCount i k s) R.lnkStat 9 = true ∧
      (∀ lo len, lo + len ≤ 9 ∨ 10 ≤ lo → gf (logCount i k s) R.lnkStat lo len = gf s R.lnkStat lo len) ∧
      (logCount i k s).link = s.link ∧ (logCount i k s).now = s.now ∧ (logCount i k s).fc = s.fc := by
  unfold logCount
  have wraps (u : State) : Touches [R.logStat, R.lnkStat] u (whenB (i == 63) (flag R.logStat 6) u) :=
    .whenB _ (Touches.flag (by simp) 6 u)
  have other (u : State) (lo len : Nat) (h : lo + len ≤ 6 ∨ 7 ≤ lo) :
      gf (whenB (i == 63) (flag R.logStat 6) u) R.logStat lo len = gf u R.logStat lo len :=
    whenB_keeps (gf · R.logStat lo len) (gf_flag_of_disjoint u (by decide) (by omega)) _
  have stat (u : State) (lo len : Nat) : gf (whenB (i == 63) (flag R.logStat 6) u) R.lnkStat lo len = gf u R.lnkStat lo len :=
    whenB_keeps (gf · R.lnkStat lo len) (gf_flag_of_ne u 6 lo len (by decide)) _
  refine ⟨?_, ?_, ?_, ?_, gb_flag_same _ _ 9 (by decide), fun lo len h => ?_, ?_, ?_, ?_⟩
  · exact ((((Touches.sf (by simp) 0 6 _ s).trans (wraps _)).trans (Touches.sf (by simp) 8 8 k _)).trans
      (Touches.bump (by simp) 16 16 _)).trans (Touches.flag (by simp) 9 _)
  · rw [gf_flag_of_ne _ _ _ _ (by decide), gf_bump_of_disjoint _ _ (by decide) (by decide),
      gf_sf_of_disjoint _ _ 8 8 k 0 6 (by decide) (by decide), other _ 0 6 (by decide), gf_sf_same _ _ 0 6 _ (by decide)]
    norm_num
  · rw [gf_flag_of_ne _ _ _ _ (by decide), gf_bump_of_disjoint _ _ (by decide) (by decide), gf_sf_same _ _ 8 8 _ (by decide)]
    exact Nat.mod_eq_of_lt hk
  · rw [gf_flag_of_ne _ _ _ _ (by decide), gf_bump_half _ (by decide), gf_sf_of_disjoint _ _ 8 8 k 16 16 (by decide) (by decide),
      other _ 16 16 (by decide), gf_sf_of_disjoint _ _ 0 6 _ 16 16 (by decide) (by decide)]
  · rw [gf_flag_of_disjoint _ (by decide) (by omega), gf_bump_of_ne _ _ _ _ _ (by decide), gf_sf_of_ne _ _ _ _ _ _ (by decide), stat,
      gf_sf_of_ne _ _ _ _ _ _ (by decide)]
  · rw [flag_link, bump_link, sf_link, whenB_keeps State.link (flag_link _ _ _), sf_link]
  · rw [flag_now, bump_now, sf_now, whenB_keeps State.now (flag_now _ _ _), sf_now]
  · rw [flag_fc, bump_fc, sf_fc, whenB_keeps State.fc (flag_fc _ _ _), sf_fc]

/-- The violation is logged in t, the link's state standing. -/
structure LogsOnly (code tc sn w2 : Nat) (s t : State) : Prop where
  touches : Touches (logRegs s) s t
  logs : Logs code tc sn w2 s t
  count : gf t R.logStat 8 8 = min 255 (gf s R.logStat 8 8 + 1)
  stat : ∀ lo len, lo + len ≤ 9 ∨ 10 ≤ lo → gf t R.lnkStat lo len = gf s R.lnkStat lo len
  link : t.link = s.link
  now : t.now = s.now

theorem logViolation_logs (code tc sn w2 : Nat) (s : State) : LogsOnly code tc sn w2 s (logViolation code tc sn w2 s) := by
  have ha : ∀ x, R.logStat ≠ R.llog + 16 * gf s R.logStat 0 6 + x ∧ R.lnkStat ≠ R.llog + 16 * gf s R.logStat 0 6 + x :=
    fun x => ⟨by unfold R.logStat R.llog; omega, by unfold R.lnkStat R.llog; omega⟩
  have low : fld (BitVec.ofNat 32 (min 255 (gf s R.logStat 8 8 + 1))) 0 8 = min 255 (gf s R.logStat 8 8 + 1) := by
    unfold fld
    rw [BitVec.toNat_ofNat, Nat.mod_eq_of_lt (by omega), pow_zero, Nat.div_one, Nat.mod_eq_of_lt (by omega)]
  rw [logViolation_eq]
  generalize hi : gf s R.logStat 0 6 = i at *
  generalize hk : min 255 (gf s R.logStat 8 8 + 1) = k at *
  obtain ⟨et, e0, e4, e8, e12, el, en, -⟩ := logEntry_spec (R.llog + 16 * i) code tc sn w2 k s
  generalize logEntry (R.llog + 16 * i) code tc sn w2 k s = e at *
  obtain ⟨ct, c0, c8, c16, c9, cs, cl, cn, -⟩ := logCount_spec i (k := k) (by omega) e
  have hregs : logRegs s = [R.llog + 16 * i, R.llog + 16 * i + 4, R.llog + 16 * i + 8, R.llog + 16 * i + 12, R.logStat, R.lnkStat] := by
    unfold logRegs
    rw [hi]
  have away (x : Nat) : R.llog + 16 * i + x ∉ [R.logStat, R.lnkStat] := by
    simpa using ⟨fun h => (ha x).1 h.symm, fun h => (ha x).2 h.symm⟩
  have estat : ∀ r ∈ [R.logStat, R.lnkStat], rd e r = rd s r := by
    intro r hr
    refine et.2 r ?_
    rcases List.mem_pair.1 hr with rfl | rfl
    · simpa using ⟨(ha 0).1, (ha 4).1, (ha 8).1, (ha 12).1⟩
    · simpa using ⟨(ha 0).2, (ha 4).2, (ha 8).2, (ha 12).2⟩
  have elog (lo len : Nat) : gf e R.logStat lo len = gf s R.logStat lo len := congrArg (fld · lo len) (estat _ (by simp))
  have elnk (lo len : Nat) : gf e R.lnkStat lo len = gf s R.lnkStat lo len := congrArg (fld · lo len) (estat _ (by simp))
  refine ⟨?_, ?_, ?_, fun lo len h => ?_, ?_, ?_⟩
  · rw [hregs]
    exact ((et.mono (by simp)).trans (ct.mono (by simp))).trans (Touches.sendMsg 2 0x31 _ code _)
  · unfold Logs
    simp only [hi, hk]
    refine ⟨?_, ?_, ?_, ?_, ?_, ?_, ?_, reports_sendMsg _ _ _ _ _⟩
    · rw [rd_sendMsg, ct.2 _ (by simpa using away 0), e0]
    · rw [rd_sendMsg, ct.2 _ (away 4), e4]
    · rw [rd_sendMsg, ct.2 _ (away 8), e8]
    · rw [rd_sendMsg, ct.2 _ (away 12), e12, low]
    · rw [gf_sendMsg, c0]
    · rw [gf_sendMsg, c16, elog]
    · rw [gb_sendMsg, c9]
  · rw [gf_sendMsg, c8, hk]
  · rw [gf_sendMsg, cs lo len h, elnk]
  · rw [sendMsg, sendRaw_link, cl, el]
  · rw [sendMsg, sendRaw_now, cn, en]

theorem violFull_logViolation (code tc sn w2 : Nat) (s : State) :
    violFull (logViolation code tc sn w2 s) = decide (¬ Tolerated s) := by
  have h := logViolation_logs code tc sn w2 s
  have hmax : violMax (logViolation code tc sn w2 s) = violMax s := by
    refine congrArg (fld · 0 8) (h.touches.2 _ ?_)
    have : R.lnkViol < R.llog := by decide
    unfold logRegs
    simp only [List.mem_cons, List.not_mem_nil, or_false, not_or]
    exact ⟨by omega, by omega, by omega, by omega, by decide, by decide⟩
  rw [Bool.eq_iff_iff]
  unfold violFull Tolerated
  rw [hmax, h.count]
  simp

/-- A violation that does not bring the count to VIOL_MAX, or comes while the link is not UP, is logged alone. -/
theorem violation_eq_log {code tc sn w2 : Nat} (h : Tolerated s ∨ gf s R.lnkStat 0 3 ≠ 5) :
    violation code tc sn w2 s = logViolation code tc sn w2 s := by
  unfold violation
  simp only [violFull_logViolation, decide_eq_true_eq]
  split
  · next ht =>
    refine retrain_of_not_up ?_
    rw [(logViolation_logs code tc sn w2 s).stat 0 3 (by decide)]
    exact h.resolve_left ht
  · rfl

/-- A violation that brings it to VIOL_MAX while the link is UP retrains it. -/
theorem violation_eq_retrain {code tc sn w2 : Nat} (h : ¬ Tolerated s) :
    violation code tc sn w2 s = retrain (logViolation code tc sn w2 s) := by
  unfold violation
  simp [violFull_logViolation, h]

/-- What the link writes as it goes down leaves the log of its violations. -/
theorem logs_of_down {code tc sn w2 : Nat} {u : State} (h : Logs code tc sn w2 s u) (ht : Touches downRegs u t)
    (hflag : gb u R.lnkStat 9 = true → gb t R.lnkStat 9 = true) (hrep : ∀ src kind, Reports src kind u → Reports src kind t) :
    Logs code tc sn w2 s t := by
  obtain ⟨h0, h4, h8, h12, hn, hc, hf, hr⟩ := h
  have stays (x : Nat) : rd t (R.llog + 16 * gf s R.logStat 0 6 + x) = rd u (R.llog + 16 * gf s R.logStat 0 6 + x) := by
    refine ht.2 _ ?_
    unfold downRegs
    have h1 : R.lnkStat < R.llog := by decide
    have h2 : R.txcStat + 12 < R.llog := by decide
    simp only [List.mem_cons, List.not_mem_nil, or_false, not_or]
    omega
  have stat (lo len : Nat) : gf t R.logStat lo len = gf u R.logStat lo len := congrArg (fld · lo len) (ht.2 _ (by decide))
  unfold Logs
  exact ⟨(stays 0).trans h0, (stays 4).trans h4, (stays 8).trans h8, (congrArg (fld · 0 8) (stays 12)).trans h12, (stat 0 6).trans hn,
    (stat 16 16).trans hc, hflag hf, hrep _ _ hr⟩

/-! ### Entering a state (R317, R318) -/

theorem setLnk_spec (x : Nat) (s : State) :
    Touches [R.lnkStat] s (setLnk x s) ∧ gf (setLnk x s) R.lnkStat 0 3 = x % 8 ∧
      (∀ lo len, 3 ≤ lo → gf (setLnk x s) R.lnkStat lo len = gf s R.lnkStat lo len) ∧
      (setLnk x s).link = { s.link with at_ := s.now } ∧ (setLnk x s).now = s.now := by
  have regs : (setLnk x s).regs = (sf R.lnkStat 0 3 x s).regs := rfl
  refine ⟨(Touches.sf (by simp) 0 3 x s).trans (.of_regs_eq regs ⟨rfl, rfl, rfl⟩), ?_, fun lo len h => ?_, rfl, rfl⟩
  · exact (gf_of_regs regs _ _ _).trans (gf_sf_same _ _ 0 3 x (by decide))
  · exact (gf_of_regs regs _ _ _).trans (gf_sf_of_disjoint _ _ 0 3 x lo len (by decide) (by omega))

theorem useLanes_spec (m : Nat) (s : State) :
    Touches [R.lnkStat] s (useLanes m s) ∧ gf (useLanes m s) R.lnkStat 3 4 = m % 16 ∧
      gb (useLanes m s) R.lnkStat 7 = decide ((lanesOf m).length < (lanesOf s.link.en).length) ∧
      gf (useLanes m s) R.lnkStat 0 3 = gf s R.lnkStat 0 3 ∧ (useLanes m s).link = { s.link with blk := 0 } ∧ (useLanes m s).now = s.now := by
  unfold useLanes
  have start : Touches [R.lnkStat] s { s with link := { s.link with blk := 0 } } := .of_regs_eq rfl ⟨rfl, rfl, rfl⟩
  have field (lo len : Nat) : gf { s with link := { s.link with blk := 0 } } R.lnkStat lo len = gf s R.lnkStat lo len := gf_of_regs rfl _ _ _
  refine ⟨(start.trans (Touches.sf (a := R.lnkStat) (by simp) 3 4 m _)).trans (Touches.sb (by simp) 7 _ _), ?_, gb_sb_same _ _ 7 _ (by decide),
    ?_, by simp, by simp⟩
  · rw [gf_sb_of_disjoint _ _ _ (by decide) (by decide), gf_sf_same _ _ 3 4 m (by decide)]
    norm_num
  · rw [gf_sb_of_disjoint _ _ _ (by decide) (by decide), gf_sf_of_disjoint _ _ 3 4 m 0 3 (by decide) (by decide), field]

/-! ### The commands of training (R317) -/

theorem signalSeen_answers (ho : Operating s) {lanes : Nat} (hs : gf s R.lnkStat 0 3 = 1) (hl : Nat.land lanes s.link.en ≠ 0) :
    ∃ t, exec (.signalDetect lanes) s = .next t ∧ (gf t R.lnkStat 0 3 = 2 ∧ t.link.at_ = s.now) ∧ OnlyRegs [R.lnkStat] s t := by
  obtain ⟨ht, hst, -, hlink, -⟩ := setLnk_spec 2 s
  exact ⟨_, ht.clocked ho (if_pos ⟨hs, hl⟩), ⟨hst, by rw [hlink]⟩, ht.onlyRegs⟩

theorem adapted_answers (ho : Operating s) (lanes : Nat) (hs : gf s R.lnkStat 0 3 = 2) :
    ∃ t, exec (.adaptationEnd lanes) s = .next t ∧ (gf t R.lnkStat 0 3 = 3 ∧ t.link.at_ = s.now) ∧
      t.link.lanes = Nat.land lanes s.link.en ∧ OnlyRegs [R.lnkStat] s t := by
  obtain ⟨ht, hst, -, hlink, -⟩ := setLnk_spec 3 { s with link := { s.link with lanes := Nat.land lanes s.link.en } }
  have start : Touches [R.lnkStat] s { s with link := { s.link with lanes := Nat.land lanes s.link.en } } := .of_regs_eq rfl ⟨rfl, rfl, rfl⟩
  have keeps := start.trans ht
  exact ⟨_, keeps.clocked ho (if_pos hs), ⟨hst, by rw [hlink]⟩, by rw [hlink], keeps.onlyRegs⟩

/-- The receive buffer of a class is free. -/
def freedCls (c : Cls) : Cls := { c with rcvd := 0, cred := 0, adv := 0, curFlits := 0, rx := c.rx.map (fun r => { r with flits := 0 }) }

/-- The classes start with empty receive buffers, and are INIT-pending where they send. -/
def freeClasses (s : State) : State :=
  each (fun c => updCls c freedCls) [0, 1, 2] { s with hostJobs := s.hostJobs.map (fun j => { j with flits := 0 }) }
    |> each (fun c => sf (R.txcStat + 4 * c) 16 2 1) txClasses

theorem markersLock_eq {lanes : Nat} (hs : gf s R.lnkStat 0 3 = 3) (hm : Nat.land lanes s.link.lanes ≠ 0) :
    markersLock lanes s = freeClasses (useLanes (pickLanes (Nat.land lanes s.link.lanes))
      (setLnk 4 { s with link := { s.link with lanes := Nat.land lanes s.link.lanes, initSent := false } })) := if_pos ⟨hs, hm⟩

theorem freeClasses_spec (s : State) :
    Touches [R.txcStat, R.txcStat + 4, R.txcStat + 12] s (freeClasses s) ∧ (freeClasses s).link.at_ = s.link.at_ ∧
      (freeClasses s).link.blk = s.link.blk ∧ (∀ c ∈ [0, 1, 2], (lcls (freeClasses s) c).rcvd = 0 ∧ (lcls (freeClasses s) c).cred = 0) ∧
      (∀ c ∈ [0, 1, 3], gf (freeClasses s) (R.txcStat + 4 * c) 16 2 = 1) := by
  unfold freeClasses
  refine ⟨?_, by simp [each, txClasses], by simp [each, txClasses], ?_, ?_⟩
  · have jobs : Touches [R.txcStat, R.txcStat + 4, R.txcStat + 12] s { s with hostJobs := s.hostJobs.map (fun j => { j with flits := 0 }) } :=
      .of_regs_eq rfl ⟨rfl, rfl, rfl⟩
    have classes (u : State) : Touches [R.txcStat, R.txcStat + 4, R.txcStat + 12] u (each (fun c => updCls c freedCls) [0, 1, 2] u) :=
      .each (f := fun c => updCls c freedCls) (fun c _ v => .updCls c freedCls v) u
    have pending (u : State) : Touches [R.txcStat, R.txcStat + 4, R.txcStat + 12] u (each (fun c => sf (R.txcStat + 4 * c) 16 2 1) txClasses u) :=
      .each (f := fun c => sf (R.txcStat + 4 * c) 16 2 1) (fun c hc v => .sf (by fin_cases hc <;> simp) 16 2 1 v) u
    exact (jobs.trans (classes _)).trans (pending _)
  · simp [each, txClasses, lcls_updCls, freedCls]
  · simp (disch := decide) [each, txClasses, gf_sf_of_ne, gf_sf_same]

theorem markersLock_answers (ho : Operating s) {lanes : Nat} (hs : gf s R.lnkStat 0 3 = 3) (hm : Nat.land lanes s.link.lanes ≠ 0) :
    let m := Nat.land lanes s.link.lanes
    ∃ t, exec (.markerLock lanes) s = .next t ∧ (gf t R.lnkStat 0 3 = 4 ∧ t.link.at_ = s.now) ∧ gf t R.lnkStat 3 4 = pickLanes m % 16 ∧
      t.link.blk = 0 ∧ gb t R.lnkStat 7 = decide ((lanesOf (pickLanes m)).length < (lanesOf s.link.en).length) ∧
      (∀ c ∈ [0, 1, 2], (lcls t c).rcvd = 0 ∧ (lcls t c).cred = 0) ∧ (∀ c ∈ [0, 1, 3], gf t (R.txcStat + 4 * c) 16 2 = 1) ∧
      OnlyRegs downRegs s t := by
  intro m
  have start : Touches downRegs s { s with link := { s.link with lanes := m, initSent := false } } := .of_regs_eq rfl ⟨rfl, rfl, rfl⟩
  have eff := markersLock_eq hs hm
  obtain ⟨st, s0, -, sl, -⟩ := setLnk_spec 4 { s with link := { s.link with lanes := m, initSent := false } }
  generalize setLnk 4 { s with link := { s.link with lanes := m, initSent := false } } = v at *
  obtain ⟨ut, u3, u7, u0, ul, -⟩ := useLanes_spec (pickLanes m) v
  generalize useLanes (pickLanes m) v = u at *
  obtain ⟨ft, fa, fb, fr, fi⟩ := freeClasses_spec u
  have stat : rd (freeClasses u) R.lnkStat = rd u R.lnkStat := ft.2 _ (by decide)
  have field (lo len : Nat) : gf (freeClasses u) R.lnkStat lo len = gf u R.lnkStat lo len := congrArg (fld · lo len) stat
  have keeps : Touches downRegs s (freeClasses u) :=
    ((start.trans (st.mono (by simp [downRegs]))).trans (ut.mono (by simp [downRegs]))).trans (ft.mono (by simp [downRegs]))
  refine ⟨_, keeps.clocked ho eff, ⟨?_, ?_⟩, ?_, ?_, ?_, fr, fi, keeps.onlyRegs⟩
  · rw [field, u0, s0]
  · rw [fa, ul, sl]
  · rw [field, u3]
  · rw [fb, ul]
  · rw [gb_eq_rd _ stat, u7, sl]

theorem exec_alignTimeout (s : State) : exec .alignTimeout s = clocked s (fun t => if alignLate t then restart t else t) := (rfl)

theorem alignTimeout_answers (ho : Operating s) (hs : gf s R.lnkStat 0 3 = 3) (ha : s.link.at_ + 40000 ≤ s.now) :
    ∃ t, exec .alignTimeout s = .next t ∧ (gf t R.lnkStat 0 3 = 1 ∧ t.link.at_ = s.now) ∧
      gf t R.lnkStat 16 16 = min (gf s R.lnkStat 16 16 + 1) 65535 ∧ OnlyRegs downRegs s t := by
  obtain ⟨ht, h0, hat, -, -, hc, -⟩ := restart_spec s
  have late : alignLate s = true := by
    unfold alignLate lnkState
    rw [hs, decide_eq_true ha]
    rfl
  rw [exec_alignTimeout]
  exact ⟨_, ht.clocked ho (by rw [if_pos late]), ⟨h0, hat⟩, hc, ht.onlyRegs⟩

theorem initTimeout_answers (ho : Operating s) (hs : gf s R.lnkStat 0 3 = 4) (ha : s.link.at_ + 2000 ≤ s.now) :
    ∃ t, exec .initTimeout s = .next t ∧ (gf t R.lnkStat 0 3 = 1 ∧ t.link.at_ = s.now) ∧
      gf t R.lnkStat 16 16 = gf s R.lnkStat 16 16 ∧ OnlyRegs downRegs s t := by
  have down := linkDown_goesDown s
  refine ⟨_, down.touches.clocked ho (if_pos ?_), ⟨down.detects, down.since⟩, down.high 16 16 (by decide), down.touches.onlyRegs⟩
  simp [initLate, lnkState, hs, ha]

theorem retrain_answers (ho : Operating s) (hs : gf s R.lnkStat 0 3 = 5) :
    ∃ t, exec .lnkCtrlRetrain s = .next t ∧ (gf t R.lnkStat 0 3 = 1 ∧ t.link.at_ = s.now) ∧ gb t R.lnkStat 8 = true ∧
      gf t R.lnkStat 16 16 = min (gf s R.lnkStat 16 16 + 1) 65535 ∧ Reports 2 0x30 t ∧ OnlyRegs downRegs s t := by
  obtain ⟨ht, h0, ha, -, hc, h8, hr, -, -⟩ := retrain_spec hs
  exact ⟨_, ht.clocked ho rfl, ⟨h0, ha⟩, h8, hc, hr, ht.onlyRegs⟩

/-! ### INIT flits (R317, R325, R326) -/

/-- The classes that send resume from the credits of an INIT flit. -/
def takeCredits (f : BitVec 256) (s : State) : State :=
  each (fun c s => updCls c (startCls f s.now c) s |> wr (R.txcStat + 4 * c) (BitVec.ofNat 32 (initLimit f c + 2 * 65536))) txClasses s

theorem fld_credits {l : Nat} (h : l < 65536) :
    fld (BitVec.ofNat 32 (l + 2 * 65536)) 0 16 = l ∧ fld (BitVec.ofNat 32 (l + 2 * 65536)) 16 2 = 2 := by
  unfold fld
  rw [BitVec.toNat_ofNat, Nat.mod_eq_of_lt (show l + 2 * 65536 < 2 ^ 32 by omega), pow_zero, Nat.div_one]
  omega

theorem takeCredits_spec (f : BitVec 256) (s : State) :
    Touches [R.txcStat, R.txcStat + 4, R.txcStat + 12] s (takeCredits f s) ∧ (takeCredits f s).link.at_ = s.link.at_ ∧
      (takeCredits f s).now = s.now ∧
      (∀ c ∈ [0, 1, 3], rd (takeCredits f s) (R.txcStat + 4 * c) = BitVec.ofNat 32 (initLimit f c + 2 * 65536)) := by
  unfold takeCredits
  refine ⟨?_, by simp [each, txClasses], by simp [each, txClasses], ?_⟩
  · refine Touches.each (fun c hc u => ?_) s
    exact (Touches.updCls c (startCls f u.now c) u).trans (Touches.wr (by fin_cases hc <;> simp) _ _)
  · simp (disch := decide) [each, txClasses, rd_wr_of_ne]

/-- FLOW flits are counted from now on. -/
def startFlows (s : State) : State := updCls 2 (fun k => { k with lastCred := 0 }) { s with link := { s.link with lastFlow := s.now } }

/-- A window begins in this tick. -/
def windowFrom (s : State) : State := { s with link := { s.link with winStart := s.now } }

theorem newWindow_eq (s : State) : newWindow s = windowFrom (sf R.logStat 8 8 0 s) := (rfl)

theorem touches_windowFrom (l : List Nat) (s : State) : Touches l s (windowFrom s) := .of_regs_eq rfl ⟨rfl, rfl, rfl⟩

theorem touches_newWindow (s : State) : Touches [R.logStat] s (newWindow s) := by
  rw [newWindow_eq]
  exact (Touches.sf (by simp) 8 8 0 s).trans (touches_windowFrom _ _)

theorem gf_windowFrom (a lo len : Nat) (s : State) : gf (windowFrom s) a lo len = gf s a lo len := (rfl)

/-- A count that caused a retrain begins anew. -/
def freshWindow (s : State) : State := if violFull s then newWindow s else s

theorem startFlows_spec (l : List Nat) (s : State) : Touches l s (startFlows s) ∧ (startFlows s).link.at_ = s.link.at_ :=
  ⟨.of_regs_eq rfl ⟨rfl, rfl, rfl⟩, rfl⟩

theorem freshWindow_spec (s : State) : Touches [R.logStat] s (freshWindow s) ∧ (freshWindow s).link.at_ = s.link.at_ := by
  unfold freshWindow
  split
  · exact ⟨touches_newWindow s, by simp [newWindow]⟩
  · exact ⟨.refl _ s, rfl⟩

theorem bootEnd_spec (s : State) : Touches [R.devState] s (bootEnd s) ∧ (bootEnd s).link.at_ = s.link.at_ := by
  unfold bootEnd
  split
  · exact ⟨(Touches.sf (by simp) 3 2 3 s).trans (Touches.sb (by simp) 5 _ _), by simp⟩
  · exact ⟨.refl _ s, rfl⟩

theorem goUp_eq (f : BitVec 256) (s : State) :
    goUp f s = bootEnd (freshWindow (startFlows (takeCredits f (useLanes (pickLanes (Nat.land (ffld f 16 4) s.link.lanes)) (setLnk 5 s))))) := (rfl)

/-- What the link leaves that comes UP. -/
theorem goUp_spec (f : BitVec 256) (s : State) :
    Touches (R.devState :: R.logStat :: downRegs) s (goUp f s) ∧ gf (goUp f s) R.lnkStat 0 3 = 5 ∧ (goUp f s).link.at_ = s.now ∧
      gf (goUp f s) R.lnkStat 3 4 = pickLanes (Nat.land (ffld f 16 4) s.link.lanes) % 16 ∧
      (∀ c ∈ [0, 1, 3], rd (goUp f s) (R.txcStat + 4 * c) = BitVec.ofNat 32 (initLimit f c + 2 * 65536)) := by
  rw [goUp_eq]
  generalize pickLanes (Nat.land (ffld f 16 4) s.link.lanes) = m
  obtain ⟨st, s0, -, sl, -⟩ := setLnk_spec 5 s
  generalize setLnk 5 s = v at *
  obtain ⟨ut, u3, -, u0, ul, -⟩ := useLanes_spec m v
  generalize useLanes m v = u at *
  obtain ⟨ct, ca, -, cr⟩ := takeCredits_spec f u
  generalize takeCredits f u = c at *
  obtain ⟨lt, la⟩ := startFlows_spec [R.logStat] c
  obtain ⟨wt, wa⟩ := freshWindow_spec (startFlows c)
  replace wt := lt.trans wt
  generalize freshWindow (startFlows c) = w at *
  obtain ⟨bt, ba⟩ := bootEnd_spec w
  have stat : rd (bootEnd w) R.lnkStat = rd u R.lnkStat :=
    (bt.2 _ (by decide)).trans ((wt.2 _ (by decide)).trans (ct.2 _ (by decide)))
  have field (lo len : Nat) : gf (bootEnd w) R.lnkStat lo len = gf u R.lnkStat lo len := congrArg (fld · lo len) stat
  refine ⟨?_, ?_, ?_, (field 3 4).trans u3, fun k hk => ?_⟩
  · exact (((st.mono (by simp [downRegs])).trans (ut.mono (by simp [downRegs]))).trans (ct.mono (by simp [downRegs]))).trans
      ((wt.mono (by simp)).trans (bt.mono (by simp)))
  · rw [field, u0, s0]
  · rw [ba, wa, la, ca, ul, sl]
  · have hk' := cr k hk
    fin_cases hk <;> exact (bt.2 _ (by decide)).trans ((wt.2 _ (by decide)).trans hk')

theorem initReceived_up {f : BitVec 256} (hs : gf s R.lnkStat 0 3 = 5) (hl : lctlOk f = true) (ht : ffld f 0 8 = 2) :
    initReceived f s = violation 0x0E 0 0 0x100 s := by
  unfold initReceived linkUp
  simp [hs, hl, ht]

theorem initReceived_init {f : BitVec 256} (hs : gf s R.lnkStat 0 3 = 4) (hf : initForm s f = true) : initReceived f s = initTaken f s := by
  have parts : lctlOk f = true ∧ ffld f 0 8 = 2 := by
    unfold initForm at hf
    simp only [Bool.and_eq_true, beq_iff_eq] at hf
    exact ⟨hf.1.1.1.1.1.1, hf.1.1.1.1.1.2⟩
  unfold initReceived linkUp lnkState
  simp [hs, parts, hf]

theorem initFlit_up (ho : Operating s) {f : BitVec 256} (hs : gf s R.lnkStat 0 3 = 4) (hf : initForm s f = true)
    (hl : txClasses.find? (fun c => decide (initLimit f c < minLimit c)) = none) :
    ∃ t, exec (.initFlit f) s = .next t ∧ (gf t R.lnkStat 0 3 = 5 ∧ t.link.at_ = s.now) ∧
      gf t R.lnkStat 3 4 = pickLanes (Nat.land (ffld f 16 4) s.link.lanes) % 16 ∧
      (∀ c ∈ [0, 1, 3], gf t (R.txcStat + 4 * c) 0 16 = ffld f (32 + 32 * c) 16 ∧ gf t (R.txcStat + 4 * c) 16 2 = 2) ∧
      OnlyRegs (R.devState :: R.logStat :: downRegs) s t := by
  have eff : initReceived f s = goUp f s := by
    rw [initReceived_init hs hf]
    unfold initTaken
    rw [hl]
  obtain ⟨ht, h0, ha, h3, hc⟩ := goUp_spec f s
  refine ⟨_, ht.clocked ho eff, ⟨h0, ha⟩, h3, fun c hcm => ?_, ht.onlyRegs⟩
  unfold gf
  rw [hc c hcm]
  exact fld_credits (Nat.mod_lt _ (by decide))

theorem initFlit_low (ho : Operating s) {f : BitVec 256} {c : Nat} (hs : gf s R.lnkStat 0 3 = 4) (hf : initForm s f = true)
    (hl : txClasses.find? (fun c => decide (initLimit f c < minLimit c)) = some c) :
    ∃ t, exec (.initFlit f) s = .next t ∧ (gf t R.lnkStat 0 3 = 1 ∧ t.link.at_ = s.now) ∧ Logs 0x10 c 0 0x100 s t ∧
      gf t R.lnkStat 16 16 = min (gf s R.lnkStat 16 16 + 1) 65535 ∧ OnlyRegs (logRegs s ++ downRegs) s t := by
  have eff : initReceived f s = restart (logViolation 0x10 c 0 0x100 s) := by
    rw [initReceived_init hs hf]
    unfold initTaken
    rw [hl]
    simp only
    rw [violation_eq_log (.inr (by rw [hs]; decide))]
  have logged := logViolation_logs 0x10 c 0 0x100 s
  generalize logViolation 0x10 c 0 0x100 s = u at *
  obtain ⟨ht, h0, ha, hn, hfc, hcnt, hb⟩ := restart_spec u
  have keeps : Touches (logRegs s ++ downRegs) s (restart u) := (logged.touches.mono (by simp)).trans (ht.mono (by simp))
  refine ⟨_, keeps.clocked ho eff, ⟨h0, ha.trans logged.now⟩, ?_, ?_, keeps.onlyRegs⟩
  · exact logs_of_down logged.logs ht (fun h => (hb 9 (by decide) (by decide)).trans h) (fun _ _ h => reports_of_eq hfc hn h)
  · rw [hcnt, logged.stat 16 16 (by decide)]

theorem initFlit_repeated (ho : Operating s) {f : BitVec 256} (hs : gf s R.lnkStat 0 3 = 5) (hl : lctlOk f = true) (h2 : ffld f 0 8 = 2) :
    ∃ t, exec (.initFlit f) s = .next t ∧ Logs 0x0E 0 0 0x100 s t ∧
      (Tolerated s → gf t R.lnkStat 0 3 = 5 ∧ OnlyRegs (logRegs s) s t) ∧
      (¬ Tolerated s → (gf t R.lnkStat 0 3 = 1 ∧ t.link.at_ = s.now) ∧ gf t R.lnkStat 16 16 = min (gf s R.lnkStat 16 16 + 1) 65535 ∧
        Reports 2 0x30 t ∧ OnlyRegs (logRegs s ++ downRegs) s t) := by
  have logged := logViolation_logs 0x0E 0 0 0x100 s
  have up := initReceived_up hs hl h2
  by_cases hv : Tolerated s
  · rw [violation_eq_log (.inl hv)] at up
    exact ⟨_, logged.touches.clocked ho up, logged.logs, fun _ => ⟨(logged.stat 0 3 (by decide)).trans hs, logged.touches.onlyRegs⟩,
      fun h => absurd hv h⟩
  · rw [violation_eq_retrain hv] at up
    generalize logViolation 0x0E 0 0 0x100 s = u at *
    obtain ⟨ht, h0, ha, -, hc, -, hr, h9, hrep⟩ := retrain_spec ((logged.stat 0 3 (by decide)).trans hs)
    have keeps : Touches (logRegs s ++ downRegs) s (retrain u) := (logged.touches.mono (by simp)).trans (ht.mono (by simp))
    exact ⟨_, keeps.clocked ho up, logs_of_down logged.logs ht h9 hrep, fun h => absurd h hv,
      fun _ => ⟨⟨h0, ha.trans logged.now⟩, hc.trans (by rw [logged.stat 16 16 (by decide)]), hr, keeps.onlyRegs⟩⟩

/-! ### The log, the counts and the window (R342, R343, R349) -/

theorem each_clear_spec (xs : List Nat) (s : State) :
    Touches (xs.map (fun j => R.llog + 4 * j)) s (each (fun i s => wr (R.llog + 4 * i) 0 s) xs s) ∧
      (∀ i, i ∈ xs ∨ rd s (R.llog + 4 * i) = 0 → rd (each (fun i s => wr (R.llog + 4 * i) 0 s) xs s) (R.llog + 4 * i) = 0) := by
  refine ⟨.each (fun i hi u => .wr (List.mem_map.2 ⟨i, hi, rfl⟩) 0 u) s, ?_⟩
  induction xs generalizing s with
  | nil => exact fun i h => h.resolve_left (by simp)
  | cons x xs ih =>
    intro i h
    refine ih _ i ?_
    by_cases hx : x = i
    · exact .inr (hx ▸ rd_wr_same s _ 0)
    · rw [rd_wr_of_ne s 0 (by omega)]
      exact h.imp_left fun h => (List.mem_cons.1 h).resolve_left fun e => hx e.symm

theorem logClear_answers (ho : Operating s) (i : Nat) :
    ∃ t, exec .lnkCtrlLogClr s = .next t ∧ (i < 256 → rd t (R.llog + 4 * i) = 0) ∧ gf t R.logStat 0 7 = 0 ∧
      gf t R.logStat 7 25 = gf s R.logStat 7 25 ∧ OnlyRegs (R.logStat :: (List.range 256).map (fun j => R.llog + 4 * j)) s t := by
  obtain ⟨et, ez⟩ := each_clear_spec (List.range 256) s
  have keep (lo len : Nat) : gf (each (fun i s => wr (R.llog + 4 * i) 0 s) (List.range 256) s) R.logStat lo len = gf s R.logStat lo len := by
    refine congrArg (fld · lo len) (et.2 _ ?_)
    simp only [List.mem_map, not_exists, not_and]
    intro x _
    unfold R.logStat R.llog
    omega
  have eff : logClear s = sf R.logStat 0 7 0 (each (fun i s => wr (R.llog + 4 * i) 0 s) (List.range 256) s) := rfl
  generalize each (fun i s => wr (R.llog + 4 * i) 0 s) (List.range 256) s = u at *
  have keeps : Touches (R.logStat :: (List.range 256).map (fun j => R.llog + 4 * j)) s (sf R.logStat 0 7 0 u) :=
    (et.mono (List.subset_cons_self _ _)).trans (Touches.sf List.mem_cons_self 0 7 0 u)
  refine ⟨_, keeps.clocked ho eff, fun hi => ?_, ?_, ?_, keeps.onlyRegs⟩
  · rw [rd_sf_of_ne _ _ _ _ (by unfold R.logStat R.llog; omega)]
    exact ez i (.inl (List.mem_range.2 hi))
  · exact gf_sf_same _ _ 0 7 0 (by decide)
  · rw [gf_sf_of_disjoint _ _ 0 7 0 7 25 (by decide) (by decide), keep]

theorem cntClear_answers (ho : Operating s) :
    ∃ t, exec .lnkCtrlCntClr s = .next t ∧ rd t R.lnkFec = 0 ∧ rd t R.lnkErrcnt = 0 ∧ OnlyRegs [R.lnkFec, R.lnkErrcnt] s t := by
  have keeps : Touches [R.lnkFec, R.lnkErrcnt] s (cntClear s) := (Touches.wr (by simp) 0 s).trans (Touches.wr (by simp) 0 _)
  exact ⟨_, keeps.clocked ho rfl, (rd_wr_of_ne _ _ (by decide)).trans (rd_wr_same _ _ _), rd_wr_same _ _ _, keeps.onlyRegs⟩

theorem windowEnd_answers (ho : Operating s) (hw : windowOver s = true) :
    ∃ t, exec .violationWindowEnd s = .next t ∧ gf t R.logStat 8 8 = 0 ∧ t.link.winStart = s.now ∧ OnlyRegs [R.logStat] s t := by
  refine ⟨_, (touches_newWindow s).clocked ho (if_pos hw), ?_, by simp [newWindow], (touches_newWindow s).onlyRegs⟩
  rw [newWindow_eq, gf_windowFrom, gf_sf_same _ _ 8 8 0 (by decide), Nat.zero_mod]

/-- The classes whose CREDIT_LIMIT is too small, as the statement of O43 finds the lowest. -/
theorem find_low (f : BitVec 256) :
    [0, 1, 3].find? (fun c => decide (ffld f (32 + 32 * c) 16 < (if c = 0 then 3 else 129))) =
      txClasses.find? (fun c => decide (initLimit f c < minLimit c)) := (rfl)

/-- Settles O43: each training step, timeout and flit by its own lemma. -/
theorem linkTraining : Obligations.LinkTraining := by
  unfold Obligations.LinkTraining
  intro s lanes i f ho
  simp only [find_low]
  refine ⟨fun hs hl => signalSeen_answers ho hs hl, adapted_answers ho lanes, fun hs hm => markersLock_answers ho hs hm,
    alignTimeout_answers ho, initTimeout_answers ho, fun hl => clocked_self ho ?_, initFlit_up ho, fun c hc hs hf => initFlit_low ho hs hf hc,
    initFlit_repeated ho, retrain_answers ho, fun hs => clocked_self ho (retrain_of_not_up hs), logClear_answers ho i, cntClear_answers ho,
    windowEnd_answers ho⟩
  unfold initReceived
  simp [hl]

end Sys2Proof.Machine
end

section
/-! PROOFS. Losses of the clock (14 R387, R388) and programming of the OTP array (R394, R395), and O52 assembled from them. -/

namespace Sys2Proof.Machine

-- One proof at a time: the whole text is compiled within a bound on memory.
set_option Elab.async false

variable {s t : State}

/-! ### The outputs at their clear latches (R388) -/

/-- A channel's DAC goes to its clear latch, and the channel counts as disconnected. -/
def dropDac (n : Nat) (s : State) : State := setDac n (chan s n).clrLatch s |> updChan n (fun c => { c with disconnected := true })

/-- A group's frames are lost. -/
def dropBus (g : Nat) (s : State) : State := updRcb g (fun b => { b with frames := [] }) s

theorem dropOutputs_eq (s : State) : dropOutputs s = each dropBus (groups s) (each dropDac (chans s) s) := (rfl)

theorem touches_dropDac (n : Nat) (s : State) : Touches [chA n R.dacCode] s (dropDac n s) :=
  (Touches.sf (by simp) 0 20 _ s).trans (Touches.updChan n _ _)

theorem touches_each_dropDac (xs : List Nat) (s : State) : Touches (xs.map (fun j => chA j R.dacCode)) s (each dropDac xs s) :=
  .each (fun n hn u => (touches_dropDac n u).mono (by simpa using ⟨n, hn, rfl⟩)) s

/-- The channel's output is at its clear latch. -/
def Dropped (n : Nat) (code : Int) (s : State) : Prop :=
  gf s (chA n R.dacCode) 0 20 = pat 20 code ∧ (chan s n).disconnected = true

theorem pat_mod (len : Nat) (x : Int) : pat len x % 2 ^ len = pat len x := by
  unfold pat
  have h : (0 : Int) < ((2 ^ len : Nat) : Int) := by exact_mod_cast Nat.two_pow_pos len
  have lt := Int.emod_lt_of_pos x h
  have nonneg := Int.emod_nonneg x h.ne'
  exact Nat.mod_eq_of_lt (by omega)

theorem dropDac_same (n : Nat) (s : State) : Dropped n (chan s n).clrLatch (dropDac n s) := by
  refine ⟨?_, by simp [dropDac]⟩
  unfold dropDac setDac
  rw [gf_updChan, gf_sf_same _ _ 0 20 _ (by decide), pat_mod]

theorem clrLatch_dropDac (m n : Nat) (s : State) : (chan (dropDac m s) n).clrLatch = (chan s n).clrLatch := by
  unfold dropDac setDac
  rw [chan_updChan]
  split
  · next h => simp [h]
  · simp

theorem dropDac_keeps {n : Nat} {code : Int} (m : Nat) (hc : (chan s n).clrLatch = code) (h : Dropped n code s) :
    Dropped n code (dropDac m s) := by
  by_cases hm : m = n
  · subst hm
    exact hc ▸ dropDac_same m s
  · refine ⟨(congrArg (fld · 0 20) ((touches_dropDac m s).2 _ ?_)).trans h.1, ?_⟩
    · simp only [List.mem_singleton, chA]
      omega
    · unfold dropDac setDac
      rw [chan_updChan, if_neg hm]
      simpa using h.2

theorem dropDac_dropped {n : Nat} {code : Int} (hc : (chan s n).clrLatch = code) : Dropped n code (dropDac n s) := by
  rw [← hc]
  exact dropDac_same n s

theorem each_dropDac_dropped {n : Nat} (xs : List Nat) {code : Int} (hc : (chan s n).clrLatch = code) (h : n ∈ xs ∨ Dropped n code s) :
    Dropped n code (each dropDac xs s) := by
  induction xs generalizing s with
  | nil => exact h.resolve_left (by simp)
  | cons m xs ih =>
    have step : n ∈ xs ∨ Dropped n code (dropDac m s) := by
      rcases h with h | h
      · rcases List.mem_cons.1 h with rfl | h
        · exact .inr (dropDac_dropped hc)
        · exact .inl h
      · exact .inr (dropDac_keeps m hc h)
    rw [each]
    exact ih ((clrLatch_dropDac m n s).trans hc) step

theorem frames_dropBus (g m : Nat) (s : State) : (rcb (dropBus g s) m).frames = if g = m then [] else (rcb s m).frames := by
  unfold dropBus
  rw [rcb_updRcb]
  split <;> rfl

theorem each_dropBus_frames {g : Nat} (xs : List Nat) (h : g ∈ xs ∨ (rcb s g).frames = []) : (rcb (each dropBus xs s) g).frames = [] := by
  induction xs generalizing s with
  | nil => exact h.resolve_left (by simp)
  | cons m xs ih =>
    refine ih ?_
    rw [frames_dropBus]
    by_cases hm : m = g
    · exact .inr (if_pos hm)
    · rw [if_neg hm]
      exact h.imp_left fun h => (List.mem_cons.1 h).resolve_left fun e => hm e.symm

theorem each_dropBus_keeps {β : Type} (p : State → β) (h : ∀ g u, p (dropBus g u) = p u) (xs : List Nat) (s : State) :
    p (each dropBus xs s) = p s := each_keeps p dropBus h xs s

theorem dropOutputs_touches (s : State) : Touches ((chans s).map (fun j => chA j R.dacCode)) s (dropOutputs s) := by
  rw [dropOutputs_eq]
  refine (touches_each_dropDac _ s).trans ?_
  refine .of_regs_eq (each_dropBus_keeps State.regs (fun _ _ => rfl) _ _) ⟨?_, ?_, ?_⟩
  · exact each_dropBus_keeps State.pending (fun _ _ => rfl) _ _
  · exact each_dropBus_keeps State.inReset (fun _ _ => rfl) _ _
  · exact each_dropBus_keeps State.ddr (fun _ _ => rfl) _ _

/-- A present channel after its outputs have been dropped. -/
theorem dropOutputs_chan {n : Nat} (hn : hasChan s n = true) :
    Dropped n (chan s n).clrLatch (dropOutputs s) ∧ (rcb (dropOutputs s) (n / 8)).frames = [] := by
  rw [dropOutputs_eq]
  refine ⟨?_, each_dropBus_frames _ (.inl ?_)⟩
  · obtain ⟨code, off⟩ := each_dropDac_dropped (s := s) (chans s) rfl (.inl ((hasChan_iff_mem_chans s n).1 hn))
    refine ⟨?_, ?_⟩
    · rw [gf_of_regs (each_dropBus_keeps State.regs (fun _ _ => rfl) _ _), code]
    · rw [each_dropBus_keeps (chan · n) (fun _ _ => rfl), off]
  · unfold hasChan nChans at hn
    unfold groups nChans
    rw [List.mem_range]
    cases hv : s.variant <;> simp [hv] at hn ⊢ <;> omega

/-! ### Losses of the clock (R387, R388) -/

/-- The message of a lost clock. -/
def lossMsg (kind : Nat) (s : State) : Msg :=
  { src := 0, kind, inj := false, addr := 0, info := 0, tick := s.now, time := ticktime s, cyc := s.cycle, forceFurl := true }

theorem clockLoss_eq (bitNo kind : Nat) (s : State) :
    clockLoss bitNo kind s = sendRaw (lossMsg kind s) (sf R.devState 3 2 3 (flag R.clkStat bitNo (sb R.clkStat 1 false (dropOutputs s)))) := (rfl)

theorem Touches.sendRaw {l : List Nat} (m : Msg) (s : State) : Touches l s (sendRaw m s) := .of_regs_eq rfl ⟨rfl, rfl, rfl⟩

theorem mem_bus_sendRaw (m : Msg) (s : State) : m ∈ (sendRaw m s).fc.bus := mem_insMsg _ _

/-- What a loss leaves, of REFCLK (bit 2) or of the lock (bit 3). -/
theorem clockLoss_spec {bitNo : Nat} (hb : bitNo = 2 ∨ bitNo = 3) (kind : Nat) (s : State) :
    Touches (R.clkStat :: R.devState :: (chans s).map (fun j => chA j R.dacCode)) s (clockLoss bitNo kind s) ∧
      gb (clockLoss bitNo kind s) R.clkStat 1 = false ∧ gb (clockLoss bitNo kind s) R.clkStat bitNo = true ∧
      gb (clockLoss bitNo kind s) R.clkStat 0 = gb s R.clkStat 0 ∧ gf (clockLoss bitNo kind s) R.devState 3 2 = 3 ∧
      (∃ m ∈ (clockLoss bitNo kind s).fc.bus, m.src = 0 ∧ m.kind = kind ∧ m.forceFurl = true ∧ m.tick = s.now ∧ m.time = ticktime s) ∧
      (∀ n, hasChan s n = true → Dropped n (chan s n).clrLatch (clockLoss bitNo kind s) ∧ (rcb (clockLoss bitNo kind s) (n / 8)).frames = []) := by
  have dropped := dropOutputs_touches s
  have away (a : Nat) (ha : a < 0x100000) : rd (dropOutputs s) a = rd s a := by
    refine dropped.2 a ?_
    simp only [List.mem_map, not_exists, not_and, chA]
    omega
  have small : bitNo < 32 := by omega
  have outs := fun n hn => dropOutputs_chan (s := s) (n := n) hn
  rw [clockLoss_eq]
  generalize dropOutputs s = u at *
  refine ⟨?_, ?_, ?_, ?_, ?_, ⟨lossMsg kind s, mem_bus_sendRaw _ _, rfl, rfl, rfl, rfl, rfl⟩, fun n hn => ⟨⟨?_, ?_⟩, ?_⟩⟩
  · refine (dropped.mono (by simp)).trans ?_
    exact (((Touches.sb (by simp) 1 false u).trans (Touches.flag (by simp) bitNo _)).trans (Touches.sf (by simp) 3 2 3 _)).trans
      (.sendRaw _ _)
  · rw [gb_sendRaw, gb_sf_of_ne _ _ _ _ _ (by decide), gb_flag _ small, gb_sb_same _ _ 1 _ (by decide)]
    simpa using by omega
  · rw [gb_sendRaw, gb_sf_of_ne _ _ _ _ _ (by decide), gb_flag_same _ _ _ small]
  · rw [gb_sendRaw, gb_sf_of_ne _ _ _ _ _ (by decide), gb_flag _ small, gb_sb_of_ne_bit _ _ 1 0 _ (by decide) (by decide),
      gb_eq_rd s (away _ (by decide))]
    have : bitNo ≠ 0 := by omega
    simp [this]
  · rw [gf_sendRaw, gf_sf_same _ _ 3 2 3 (by decide), Nat.mod_eq_of_lt (by decide)]
  · have ne1 : R.devState ≠ chA n R.dacCode := by simp only [chA, R.devState]; omega
    have ne2 : R.clkStat ≠ chA n R.dacCode := by simp only [chA, R.clkStat]; omega
    rw [gf_sendRaw, gf_sf_of_ne _ _ _ _ _ _ ne1, gf_flag_of_ne _ _ _ _ ne2, gf_sb_of_ne _ _ _ _ _ ne2]
    exact (outs n hn).1.1
  · simpa using (outs n hn).1.2
  · simpa using (outs n hn).2

/-- The answer of a loss that is due, as the statement of O52 writes it. -/
theorem lossAnswers {bitNo kind n : Nat} {f : State → State} (hr : s.inReset = false) (hb : bitNo = 2 ∨ bitNo = 3)
    (hf : f s = clockLoss bitNo kind (whenB (bitNo == 2) (sb R.clkStat 0 false) s)) :
    ∃ t, live s f = .next t ∧ gb t R.clkStat 1 = false ∧ gb t R.clkStat bitNo = true ∧
      gb t R.clkStat 0 = (gb s R.clkStat 0 && decide (bitNo = 3)) ∧ gf t R.devState 3 2 = 3 ∧
      (∃ m ∈ t.fc.bus, m.src = 0 ∧ m.kind = kind ∧ m.forceFurl = true ∧ m.tick = s.now ∧ m.time = ticktime s) ∧
      (hasChan s n = true → gf t (chA n R.dacCode) 0 20 = pat 20 (chan s n).clrLatch ∧ (chan t n).disconnected = true ∧
        (rcb t (n / 8)).frames = []) ∧
      OnlyRegs (R.clkStat :: R.devState :: (chans s).map (fun j => chA j R.dacCode)) s t := by
  generalize hu : whenB (bitNo == 2) (sb R.clkStat 0 false) s = u at hf
  have keep {β : Type} (p : State → β) (h : p (sb R.clkStat 0 false s) = p s) : p u = p s := hu ▸ whenB_keeps p h _
  have present : gb u R.clkStat 0 = (gb s R.clkStat 0 && decide (bitNo = 3)) := by
    rw [← hu]
    rcases hb with rfl | rfl
    · exact (gb_sb_same s _ 0 false (by decide)).trans (by simp)
    · simp [whenB]
  obtain ⟨ht, h1, hbit, h0, hd, hm, hc⟩ := clockLoss_spec hb kind u
  rw [keep chans rfl] at ht
  rw [keep State.now (sb_now ..), keep ticktime (rd64_congr (rd_wr_of_ne s _ (by decide)) (rd_wr_of_ne s _ (by decide)))] at hm
  have keeps : Touches (R.clkStat :: R.devState :: (chans s).map (fun j => chA j R.dacCode)) s (clockLoss bitNo kind u) :=
    (hu ▸ Touches.whenB _ (Touches.sb (by simp) 0 false s) : Touches _ s u).trans ht
  refine ⟨_, ?_, h1, hbit, h0.trans present, hd, hm, fun hn => ?_, keeps.onlyRegs⟩
  · obtain ⟨hp, hi, hdd⟩ := keeps.1
    rw [live_of_awake hr, hf, restore_eq hp (hi.trans hr) hdd]
  · obtain ⟨⟨code, off⟩, bus⟩ := hc n ((keep (hasChan · n) rfl).trans hn)
    rw [keep (chan · n) rfl] at code
    exact ⟨code, off, bus⟩

/-- A loss is due as the statement of O52 writes it. -/
theorem lossDue_iff {bitNo : Nat} (hb : bitNo = 2 ∨ bitNo = 3) :
    lossDue s bitNo = true ↔ running s = true ∨ (gb s R.clkStat (5 - bitNo) = true ∧ gb s R.clkStat bitNo = false) := by
  unfold lossDue
  rcases hb with rfl | rfl <;> cases gb s R.clkStat 2 <;> cases gb s R.clkStat 3 <;> simp

theorem exec_refclkLoss (s : State) :
    exec .refclkLoss s = live s (fun t => if lossDue t 2 then sb R.clkStat 0 false t |> clockLoss 2 0x03 else t) := (rfl)

theorem exec_pllUnlock (s : State) : exec .pllUnlock s = live s (fun t => if lossDue t 3 then clockLoss 3 0x02 t else t) := (rfl)

/-- A command without the core clock that leaves the state answers it. -/
theorem live_self {f : State → State} (hr : s.inReset = false) (hf : f s = s) : live s f = .next s := by
  rw [live_of_awake hr, hf, restore_eq rfl hr rfl]

theorem Touches.live {l : List Nat} {f : State → State} (h : Touches l s t) (hr : s.inReset = false) (hf : f s = t) : live s f = .next t := by
  obtain ⟨hp, hi, hd⟩ := h.1
  rw [live_of_awake hr, hf, restore_eq hp (hi.trans hr) hd]

/-! ### Programming (R394 to R396) -/

/-- OTP_EN as it is sampled. -/
theorem otpEnable_spec (s : State) : Touches [R.otpStat] s (otpEnable s).2 ∧ (otpEnable s).2.regs = s.regs ∧
    (otpEnable s).2.otpBusy = s.otpBusy ∧ (gb s R.otpStat 12 = true → (otpEnable s).1 = true) := by
  unfold otpEnable
  split
  · exact ⟨.of_regs_eq rfl ⟨rfl, rfl, rfl⟩, rfl, rfl, fun _ => rfl⟩
  · next h => exact ⟨.of_regs_eq rfl ⟨rfl, rfl, rfl⟩, rfl, rfl, fun h' => absurd h' h⟩

theorem showEnable_spec (s : State) : Touches [R.otpStat] s (showEnable s) ∧ (showEnable s).otpBusy = s.otpBusy ∧
    (gb s R.otpStat 12 = true → gb (showEnable s) R.otpStat 12 = true) ∧
    (∀ i, i ≠ 12 → gb (showEnable s) R.otpStat i = gb s R.otpStat i) ∧ gf (showEnable s) R.otpStat 16 8 = gf s R.otpStat 16 8 := by
  obtain ⟨ht, hregs, hbusy, hen⟩ := otpEnable_spec s
  unfold showEnable
  refine ⟨ht.trans (.sb (by simp) 12 _ _), hbusy, fun h => ?_, fun i hi => ?_, ?_⟩
  · rw [gb_sb_same _ _ 12 _ (by decide), hen h]
  · rw [gb_sb_of_ne_bit _ _ 12 i _ (by decide) hi.symm, gb_of_regs hregs]
  · rw [gf_sb_of_disjoint _ _ _ (by decide) (by decide), gf_of_regs hregs]

/-- What the checks of a PROG read. -/
theorem progAllowed_congr (h : Touches [R.otpStat] s t) : progAllowed t = progAllowed s := by
  have word (i : Nat) : otpW t i = otpW s i := h.2 _ (by simp [R.otpWord, R.otpStat]; omega)
  have crc (i len : Nat) : otpCrc t i len = otpCrc s i len := by
    unfold otpCrc
    simp only [word]
  have idx : gf t R.otpAddr 0 8 = gf s R.otpAddr 0 8 := congrArg (fld · 0 8) (h.2 _ (by decide))
  have data : rd t R.otpWdata = rd s R.otpWdata := h.2 _ (by decide)
  unfold progAllowed genValid
  simp only [word, crc, idx, data]

/-- The checks a PROG fails, as the statement of O52 writes them. -/
theorem not_progAllowed_iff {i : Nat} {d : Word} (hi : i = gf s R.otpAddr 0 8) (hd : d = rd s R.otpWdata) :
    progAllowed s = false ↔ (i < 8 ∧ (otpW s 7).getLsbD 31 = true) ∨
      (8 ≤ i ∧ (otpW s (8 + 62 * ((i - 8) / 62))).getLsbD 0 = true ∧ ¬ (i = 8 + 62 * ((i - 8) / 62) ∧ d = 2)) ∨
      (i = 8 + 62 * ((i - 8) / 62) ∧ (otpW s (8 + 62 * ((i - 8) / 62))).getLsbD 0 = false ∧ d.getLsbD 0 = true ∧
        (otpCrc s (8 + 62 * ((i - 8) / 62) + 1) 61 ≠ d.toNat / 2 ^ 16 ∨ d.toNat % 2 ^ 16 / 2 ≠ 0)) := by
  have hhi : fld d 16 16 = d.toNat / 2 ^ 16 := by
    unfold fld
    have := d.isLt
    omega
  have hlo : fld d 1 15 = d.toNat % 2 ^ 16 / 2 := by
    unfold fld
    omega
  unfold progAllowed genValid genBase
  simp only [← hi, ← hd, bit_lsb, hhi, hlo]
  clear hi hd
  by_cases h8 : i < 8
  · have : ¬ i = 8 + 62 * ((i - 8) / 62) := by omega
    have : ¬ 8 ≤ i := by omega
    simp [*]
  · have hj : (i - 8) % 62 = 0 ↔ i = 8 + 62 * ((i - 8) / 62) := by omega
    have : 8 ≤ i := by omega
    by_cases hj' : (i - 8) % 62 = 0
    · have base := hj.1 hj'
      rw [if_neg h8, ← base, hj']
      clear hj hj' base
      cases (otpW s i).getLsbD 0 <;> cases d.getLsbD 0 <;> simp_all [imp_iff_not_or]
    · have : ¬ i = 8 + 62 * ((i - 8) / 62) := fun h => hj' (hj.2 h)
      rw [if_neg h8]
      clear hj
      cases (otpW s (8 + 62 * ((i - 8) / 62))).getLsbD 0 <;> simp [*]

theorem otpProg_refused (key : Nat) (h : key ≠ 0xA5 ∨ s.otpBusy ≠ none ∨ progAllowed s = false) :
    otpProg key s = flag R.otpStat 15 (showEnable s) := by
  obtain ⟨ht, hbusy, -⟩ := showEnable_spec s
  refine if_pos ?_
  rw [hbusy, progAllowed_congr ht]
  rcases h with h | h | h
  · simp [h]
  · simp [Option.isSome_iff_ne_none.2 h]
  · simp [h]

/-- The word and its index are taken. -/
theorem otpProg_taken {key : Nat} (h : ¬ (key ≠ 0xA5 ∨ s.otpBusy ≠ none ∨ progAllowed s = false))
    (hen : gb (showEnable s) R.otpStat 12 = true) :
    otpProg key s = flag R.otpStat 13 { showEnable s with otpBusy := some (gf s R.otpAddr 0 8, rd s R.otpWdata) } := by
  obtain ⟨ht, hbusy, -⟩ := showEnable_spec s
  simp only [not_or, not_not, Bool.not_eq_false] at h
  obtain ⟨hk, hb, ha⟩ := h
  have idx : gf (showEnable s) R.otpAddr 0 8 = gf s R.otpAddr 0 8 := congrArg (fld · 0 8) (ht.2 _ (by decide))
  have data : rd (showEnable s) R.otpWdata = rd s R.otpWdata := ht.2 _ (by decide)
  rw [← idx, ← data]
  refine if_neg ?_
  rw [hbusy, progAllowed_congr ht, hen, hb, ha]
  simp [hk]

/-- A PROG whose OTP_EN is found low. -/
theorem otpProg_low (key : Nat) (hen : gb (showEnable s) R.otpStat 12 = false) : otpProg key s = flag R.otpStat 15 (showEnable s) := by
  refine if_pos ?_
  rw [hen]
  rfl

theorem otpProg_refused_answers (ho : Operating s) (w : Word) (h : fld w 8 8 ≠ 0xA5 ∨ s.otpBusy ≠ none ∨ progAllowed s = false) :
    ∃ t, exec (.otpCtrlProg w) s = .next t ∧ gb t R.otpStat 15 = true ∧ t.otpBusy = s.otpBusy ∧ gb t R.otpStat 13 = gb s R.otpStat 13 ∧
      (gb s R.otpStat 12 = true → gb t R.otpStat 12 = true) ∧ gb t R.otpStat 14 = gb s R.otpStat 14 ∧ gf t R.otpStat 16 8 = gf s R.otpStat 16 8 ∧
      OnlyRegs [R.otpStat] s t := by
  obtain ⟨ht, hbusy, hen, hbits, hcnt⟩ := showEnable_spec s
  have touched : Touches [R.otpStat] s (flag R.otpStat 15 (showEnable s)) := ht.trans (.flag (by simp) 15 _)
  have runs : exec (.otpCtrlProg w) s = clocked s (otpProg (fld w 8 8)) := (rfl)
  refine ⟨_, runs.trans (touched.clocked ho (otpProg_refused _ h)), gb_flag_same _ _ _ (by decide), (flag_otpBusy ..).trans hbusy, ?_, fun h => ?_, ?_, ?_, touched.onlyRegs⟩
  · rw [gb_flag _ (by decide), hbits 13 (by decide)]
    simp
  · rw [gb_flag _ (by decide), hen h]
    rfl
  · rw [gb_flag _ (by decide), hbits 14 (by decide)]
    simp
  · rw [gf_flag_of_disjoint _ (by decide) (by decide), hcnt]

theorem otpProg_taken_answers (ho : Operating s) (w : Word) (h : ¬ (fld w 8 8 ≠ 0xA5 ∨ s.otpBusy ≠ none ∨ progAllowed s = false)) :
    ∃ t, exec (.otpCtrlProg w) s = .next t ∧
      (gb t R.otpStat 12 = true → t.otpBusy = some (gf s R.otpAddr 0 8, rd s R.otpWdata) ∧ gb t R.otpStat 13 = true ∧
        gb t R.otpStat 15 = gb s R.otpStat 15) ∧ (gb t R.otpStat 12 = false → gb t R.otpStat 15 = true ∧ t.otpBusy = s.otpBusy) ∧
      (gb s R.otpStat 12 = true → gb t R.otpStat 12 = true) ∧ OnlyRegs [R.otpStat] s t := by
  obtain ⟨ht, hbusy, hen, hbits, -⟩ := showEnable_spec s
  have runs : exec (.otpCtrlProg w) s = clocked s (otpProg (fld w 8 8)) := (rfl)
  have level (i : Nat) (hi : i ≠ 12) (u : State) (hi' : i < 32) : gb (flag R.otpStat i u) R.otpStat 12 = gb u R.otpStat 12 := by
    rw [gb_flag _ hi']
    simp [hi]
  cases he : gb (showEnable s) R.otpStat 12
  · have touched : Touches [R.otpStat] s (flag R.otpStat 15 (showEnable s)) := ht.trans (.flag (by simp) 15 _)
    have low : gb (flag R.otpStat 15 (showEnable s)) R.otpStat 12 = false := (level 15 (by decide) _ (by decide)).trans he
    refine ⟨_, runs.trans (touched.clocked ho (otpProg_low _ he)), fun h => absurd (low.symm.trans h) (by decide),
      fun _ => ⟨gb_flag_same _ _ _ (by decide), (flag_otpBusy ..).trans hbusy⟩, fun h => absurd (he.symm.trans (hen h)) (by decide), touched.onlyRegs⟩
  · generalize hu : ({ showEnable s with otpBusy := some (gf s R.otpAddr 0 8, rd s R.otpWdata) } : State) = u
    have same : u.regs = (showEnable s).regs := by rw [← hu]
    have taken : u.otpBusy = some (gf s R.otpAddr 0 8, rd s R.otpWdata) := by rw [← hu]
    have touched : Touches [R.otpStat] s (flag R.otpStat 13 u) := by
      refine (ht.trans (.of_regs_eq same ?_)).trans (.flag (by simp) 13 _)
      rw [← hu]
      exact ⟨rfl, rfl, rfl⟩
    have high : gb (flag R.otpStat 13 u) R.otpStat 12 = true := (level 13 (by decide) _ (by decide)).trans ((gb_of_regs same _ _).trans he)
    refine ⟨_, runs.trans (touched.clocked ho ((otpProg_taken h he).trans (congrArg _ hu))), fun _ => ⟨taken, gb_flag_same _ _ _ (by decide), ?_⟩,
      fun h => absurd (high.symm.trans h) (by decide), fun _ => high, touched.onlyRegs⟩
    rw [gb_flag _ (by decide), gb_of_regs same, hbits 15 (by decide)]
    simp

/-- What the end of programming leaves of word `i`. -/
theorem progEnd_spec {i : Nat} {w : Word} (word : Word) (hi : i < 256) (hb : s.otpBusy = some (i, w)) :
    Touches [R.otpWord + 4 * i, R.otpStat] s (progEnd word s) ∧ (progEnd word s).otpBusy = none ∧
      rd (progEnd word s) (R.otpWord + 4 * i) = rd s (R.otpWord + 4 * i) ||| (w &&& word) ∧
      gb (progEnd word s) R.otpStat 13 = false ∧ (∀ j, j ≠ 13 → gb (progEnd word s) R.otpStat j = gb s R.otpStat j) ∧
      gf (progEnd word s) R.otpStat 16 8 = gf s R.otpStat 16 8 := by
  have ne : R.otpWord + 4 * i ≠ R.otpStat := by simp only [R.otpWord, R.otpStat]; omega
  have read : otpW s i = rd s (R.otpWord + 4 * i) := by
    unfold otpW
    rw [Nat.mod_eq_of_lt hi]
  unfold progEnd
  rw [hb]
  refine ⟨?_, rfl, ?_, ?_, fun j hj => ?_, ?_⟩
  · exact ((Touches.of_regs_eq rfl ⟨rfl, rfl, rfl⟩).trans (.sb (by simp) 13 false _)).trans (.wr (by simp) _ _)
  · rw [rd_wr_same, read]
  · rw [gb_wr_of_ne _ _ _ ne, gb_sb_same _ _ 13 _ (by decide)]
  · rw [gb_wr_of_ne _ _ _ ne, gb_sb_of_ne_bit _ _ 13 j _ (by decide) hj.symm]
    rfl
  · rw [gf_wr_of_ne _ _ _ _ ne, gf_sb_of_disjoint _ _ _ (by decide) (by decide)]
    rfl

/-- What O52 says of the end of programming of `b`, OTP_EN having fallen or not. -/
def Ends (s : State) (word : Word) (fall : Bool) (b : Nat × Word) (t : State) : Prop :=
  t.otpBusy = none ∧ gb t R.otpStat 13 = false ∧ rd t (R.otpWord + 4 * b.1) = rd s (R.otpWord + 4 * b.1) ||| (b.2 &&& word) ∧
    gb t R.otpStat 14 = (gb s R.otpStat 14 || fall || decide ((rd s (R.otpWord + 4 * b.1) ||| b.2) &&& ~~~word ≠ 0)) ∧
    gf t R.otpStat 16 8 = (if fall then gf s R.otpStat 16 8 else min (gf s R.otpStat 16 8 + 1) 255) ∧
    gb t R.otpStat 12 = (gb s R.otpStat 12 && !fall) ∧ OnlyRegs [R.otpWord + 4 * b.1, R.otpStat] s t

theorem progDone_answers (hr : s.inReset = false) (word : Word) {b : Nat × Word} (hb : s.otpBusy = some b) (hi : b.1 < 256) :
    ∃ t, exec (.otpProgDone word) s = .next t ∧ Ends s word false b t := by
  have ne : R.otpStat ≠ R.otpWord + 4 * b.1 := by simp only [R.otpWord, R.otpStat]; omega
  obtain ⟨ht, hbusy, hword, hdone, hbits, hcnt⟩ := progEnd_spec (s := s) word hi hb
  have read : otpW s b.1 = rd s (R.otpWord + 4 * b.1) := by
    unfold otpW
    rw [Nat.mod_eq_of_lt hi]
  have runs : exec (.otpProgDone word) s = live s (progDone word) := (rfl)
  have steps : progDone word s = whenB (decide ((otpW s b.1 ||| b.2) &&& ~~~word ≠ 0)) (flag R.otpStat 14) (bump R.otpStat 16 8 (progEnd word s)) := by
    unfold progDone
    rw [hb]
  rw [read] at steps
  generalize progEnd word s = u at *
  have bumped (i : Nat) (h : i < 16) : gb (bump R.otpStat 16 8 u) R.otpStat i = gb u R.otpStat i :=
    gb_sf_of_disjoint _ _ (by decide) (by omega)
  have touched := (ht.trans (.bump (a := R.otpStat) (by simp) 16 8 u)).trans
    (.whenB (decide ((rd s (R.otpWord + 4 * b.1) ||| b.2) &&& ~~~word ≠ 0)) (.flag (a := R.otpStat) (by simp) 14 _))
  refine ⟨_, runs.trans (touched.live hr steps), ?_, ?_, ?_, ?_, ?_, ?_, touched.onlyRegs⟩
  · exact (whenB_keeps State.otpBusy (flag_otpBusy ..) _).trans ((bump_otpBusy ..).trans hbusy)
  · rw [whenB_keeps (gb · R.otpStat 13) ?_, bumped 13 (by decide), hdone]
    rw [gb_flag _ (by decide)]
    simp
  · exact (whenB_keeps (f := flag R.otpStat 14) (rd · (R.otpWord + 4 * b.1)) (rd_wr_of_ne _ _ ne) _).trans ((rd_wr_of_ne _ _ ne).trans hword)
  · rw [gb_whenB_flag _ _ _ _ (by decide), bumped 14 (by decide), hbits 14 (by decide)]
    simp
  · rw [whenB_keeps (gf · R.otpStat 16 8) (gf_flag_of_disjoint _ (by decide) (by decide)), gf_bump_same _ _ _ _ (by decide), hcnt]
    simp
  · rw [whenB_keeps (gb · R.otpStat 12) ?_, bumped 12 (by decide), hbits 12 (by decide)]
    · simp
    · rw [gb_flag _ (by decide)]
      simp

theorem otpFall_answers (hr : s.inReset = false) (word : Word) {b : Nat × Word} (hb : s.otpBusy = some b) (hi : b.1 < 256) :
    ∃ t, exec (.otpEnFall word) s = .next t ∧ Ends s word true b t := by
  have ne : R.otpStat ≠ R.otpWord + 4 * b.1 := by simp only [R.otpWord, R.otpStat]; omega
  obtain ⟨ht, hbusy, hword, hdone, hbits, hcnt⟩ := progEnd_spec (s := s) word hi hb
  have runs : exec (.otpEnFall word) s = live s (otpFall word) := (rfl)
  have steps : otpFall word s = sb R.otpStat 12 false (flag R.otpStat 14 (progEnd word s)) := by
    unfold otpFall
    rw [hb]
    rfl
  generalize progEnd word s = u at *
  have touched := (ht.trans (.flag (a := R.otpStat) (by simp) 14 u)).trans (.sb (a := R.otpStat) (by simp) 12 false _)
  refine ⟨_, runs.trans (touched.live hr steps), ?_, ?_, ?_, ?_, ?_, ?_, touched.onlyRegs⟩
  · exact (sb_otpBusy ..).trans ((flag_otpBusy ..).trans hbusy)
  · rw [gb_sb_of_ne_bit _ _ 12 13 _ (by decide) (by decide), gb_flag _ (by decide), hdone]
    rfl
  · rw [← hword]
    exact (rd_wr_of_ne _ _ ne).trans (rd_wr_of_ne _ _ ne)
  · rw [gb_sb_of_ne_bit _ _ 12 14 _ (by decide) (by decide), gb_flag_same _ _ _ (by decide)]
    simp
  · rw [gf_sb_of_disjoint _ _ _ (by decide) (by decide), gf_flag_of_disjoint _ (by decide) (by decide), hcnt]
    rfl
  · rw [gb_sb_same _ _ 12 _ (by decide)]
    simp

theorem otpFall_idle (hr : s.inReset = false) (word : Word) (hb : s.otpBusy = none) :
    ∃ t, exec (.otpEnFall word) s = .next t ∧ gb t R.otpStat 12 = false ∧ gb t R.otpStat 14 = gb s R.otpStat 14 ∧ OnlyRegs [R.otpStat] s t := by
  have runs : exec (.otpEnFall word) s = live s (otpFall word) := (rfl)
  have steps : otpFall word s = sb R.otpStat 12 false s := by
    unfold otpFall
    rw [hb]
    rfl
  have touched : Touches [R.otpStat] s (sb R.otpStat 12 false s) := .sb (by simp) 12 false s
  exact ⟨_, runs.trans (touched.live hr steps), gb_sb_same _ _ 12 _ (by decide), gb_sb_of_ne_bit _ _ 12 14 _ (by decide) (by decide), touched.onlyRegs⟩

/-- Settles O52: the two losses share `clockLoss`, a PROG passes or fails its checks, and programming ends in one of two ways. -/
theorem clockLossAndProgramming : Obligations.ClockLossAndProgramming := by
  intro s n w word hr i d stored base valid refused lost ends due
  have lossOf (b : Nat) (hb : b = 2 ∨ b = 3) : due b ↔ lossDue s b = true := (lossDue_iff hb).symm
  have key : w.toNat / 256 % 256 = fld w 8 8 := rfl
  have hi : i < 256 := Nat.mod_lt _ (by decide)
  have reads (j : Nat) (hj : j < 256) : otpW s j = stored j := by
    unfold otpW
    rw [Nat.mod_eq_of_lt hj]
  have checks : progAllowed s = false ↔ (i < 8 ∧ (stored 7).getLsbD 31 = true) ∨ (8 ≤ i ∧ valid = true ∧ ¬ (i = base ∧ d = 2)) ∨
      (i = base ∧ valid = false ∧ d.getLsbD 0 = true ∧ (otpCrc s (base + 1) 61 ≠ d.toNat / 2 ^ 16 ∨ d.toNat % 2 ^ 16 / 2 ≠ 0)) := by
    rw [not_progAllowed_iff (i := i) (d := d) rfl rfl, reads 7 (by decide), reads _ (by omega)]
  have fails : refused ↔ fld w 8 8 ≠ 0xA5 ∨ s.otpBusy ≠ none ∨ progAllowed s = false := by
    rw [checks, ← key]
  refine ⟨fun h => ?_, fun h => ?_, fun h => ?_, fun h => ?_, fun ho h => ?_, fun ho h => ?_, ?_, ?_, otpFall_idle hr word⟩
  · have := lossAnswers (s := s) (kind := 0x03) (n := n) (f := fun t => if lossDue t 2 then sb R.clkStat 0 false t |> clockLoss 2 0x03 else t) hr (.inl rfl)
      (if_pos ((lossOf 2 (.inl rfl)).1 h))
    rwa [← exec_refclkLoss] at this
  · have := lossAnswers (s := s) (kind := 0x02) (n := n) (f := fun t => if lossDue t 3 then clockLoss 3 0x02 t else t) hr (.inr rfl)
      (if_pos ((lossOf 3 (.inr rfl)).1 h))
    rwa [← exec_pllUnlock] at this
  · rw [exec_refclkLoss]
    exact live_self hr (if_neg (mt (lossOf 2 (.inl rfl)).2 h))
  · rw [exec_pllUnlock]
    exact live_self hr (if_neg (mt (lossOf 3 (.inr rfl)).2 h))
  · exact otpProg_refused_answers ⟨hr, ho⟩ w (fails.1 h)
  · exact otpProg_taken_answers ⟨hr, ho⟩ w (mt fails.2 h)
  · exact fun b hb hlt => progDone_answers hr word hb hlt
  · exact fun b hb hlt => otpFall_answers hr word hb hlt

end Sys2Proof.Machine
end

section
/-! PROOFS. Trace records (15 R398 to R403): their bytes, their destinations and their packets, and O53 assembled from them. -/

namespace Sys2Proof.Machine

-- One proof at a time: the whole text is compiled within a bound on memory.
set_option Elab.async false

variable {s t : State}

/-! ### Bytes of a record -/

theorem length_leBytes (len v : Nat) : (leBytes len v).length = len := by
  induction len generalizing v with
  | zero => rfl
  | succ len ih => simp [leBytes, ih]

theorem leVal_leBytes (len v : Nat) : leVal (leBytes len v) = v % 256 ^ len := by
  induction len generalizing v with
  | zero => simp [leBytes, leVal, Nat.mod_one]
  | succ len ih =>
    rw [leBytes, leVal, ih, BitVec.toNat_ofNat, pow_succ' 256, Nat.mod_mul]

theorem foldr_leVal (l : List Byte) : l.foldr (fun (b : Byte) (acc : Nat) => b.toNat + 256 * acc) 0 = leVal l := by
  induction l with
  | nil => rfl
  | cons b l ih => rw [List.foldr, ih, leVal]

/-- The value of `len` bytes of a record from byte `i`. -/
def recVal (it : List Byte) (i len : Nat) : Nat := leVal ((it.drop i).take len)

theorem slice_of_eq {it a b c : List Byte} {i len : Nat} (h : it = a ++ (b ++ c)) (ha : a.length = i) (hb : b.length = len) :
    (it.drop i).take len = b := by
  rw [h, List.drop_left' ha, List.take_left' hb]

theorem recVal_leBytes {it a c : List Byte} {i len v : Nat} (h : it = a ++ (leBytes len v ++ c)) (ha : a.length = i) :
    recVal it i len = v % 256 ^ len := by
  rw [recVal, slice_of_eq h ha (length_leBytes len v), leVal_leBytes]

theorem recVal_byte {it a c : List Byte} {i v : Nat} (h : it = a ++ ([BitVec.ofNat 8 v] ++ c)) (ha : a.length = i) : recVal it i 1 = v % 256 := by
  unfold recVal
  rw [slice_of_eq (b := [BitVec.ofNat 8 v]) h ha (List.length_singleton), leVal, leVal, BitVec.toNat_ofNat]
  rfl

theorem flagBits_div (l : List Bool) (i : Nat) : flagBits l / 2 ^ i = flagBits (l.drop i) := by
  induction l generalizing i with
  | nil => simp [flagBits]
  | cons b l ih =>
    cases i with
    | zero => simp
    | succ i =>
      have half : flagBits (b :: l) / 2 = flagBits l := by
        rw [flagBits]
        cases b <;> simp [b2n]
        omega
      rw [pow_succ', ← Nat.div_div_eq_div_mul, half, ih, List.drop_succ_cons]

theorem flagBits_mod (b : Bool) (l : List Bool) : flagBits (b :: l) % 2 = b2n b := by
  rw [flagBits]
  cases b <;> simp [b2n]

theorem flagBits_lt (l : List Bool) : flagBits l < 2 ^ l.length := by
  induction l with
  | nil => simp [flagBits]
  | cons b l ih =>
    rw [flagBits, List.length_cons, pow_succ]
    cases b <;> simp [b2n]
    all_goals omega

/-! ### The two kinds of record (R399, R400) -/

/-- The flags of a signal record, lowest first. -/
def signalFlags (s : State) (n : Nat) : List Bool :=
  let l := (chan s n).loop
  [gf s (chA n R.chStat) 0 32 / 16 % 2 == 1, openNow s n, l.missNow, inHold s n, gb s (chA n R.rngStat) 7, reefOn s n, injRuns s n,
    (chan s n).gen.hold.isSome, gb s (chA n R.loopStat) 9, gb s (chA n R.loopStat) 10, l.outSatNow && !l.missNow, furled s n]

theorem signalRecord_eq (s : State) (n : Nat) :
    signalRecord s n = leBytes 6 (ticktime48 s) ++ ([BitVec.ofNat 8 n] ++ ([0xD1] ++ ((chan s n).loop.tRec ++ (leBytes 2 (flagBits (signalFlags s n)) ++ leBytes 6 0)))) := by
  simp [signalRecord, signalFlags]

theorem length_signalRecord {n : Nat} (h : (chan s n).loop.tRec.length = 16) : (signalRecord s n).length = 32 := by
  rw [signalRecord_eq]
  simp [length_leBytes, h]

/-- The first eight bytes of a record. -/
theorem record_head {it rest : List Byte} {n mark : Nat} (h : it = leBytes 6 (ticktime48 s) ++ ([BitVec.ofNat 8 n] ++ ([BitVec.ofNat 8 mark] ++ rest)))
    (hn : n < 256) (hm : mark < 256) : recVal it 0 6 = ticktime s % 2 ^ 48 ∧ recVal it 6 1 = n ∧ recVal it 7 1 = mark := by
  refine ⟨?_, ?_, ?_⟩
  · rw [recVal_leBytes (a := []) (i := 0) (len := 6) (v := ticktime48 s) (h.trans (List.nil_append _).symm) rfl]
    exact Nat.mod_mod ..
  · rw [recVal_byte h (length_leBytes 6 _), Nat.mod_eq_of_lt hn]
  · rw [recVal_byte (a := leBytes 6 (ticktime48 s) ++ [BitVec.ofNat 8 n]) (v := mark) (c := rest) (by rw [h]; simp) (by simp [length_leBytes]),
      Nat.mod_eq_of_lt hm]

/-- The loop's bytes and the flags of a signal record. -/
theorem signalRecord_body {n : Nat} (h : (chan s n).loop.tRec.length = 16) :
    ((signalRecord s n).drop 8).take 16 = (chan s n).loop.tRec ∧ recVal (signalRecord s n) 24 2 = flagBits (signalFlags s n) ∧
      recVal (signalRecord s n) 26 6 = 0 := by
  have eq := signalRecord_eq s n
  generalize signalRecord s n = it at eq ⊢
  refine ⟨?_, ?_, ?_⟩
  · exact slice_of_eq (a := leBytes 6 (ticktime48 s) ++ [BitVec.ofNat 8 n, 0xD1]) (c := leBytes 2 (flagBits (signalFlags s n)) ++ leBytes 6 0)
      (by rw [eq]; simp) (by simp [length_leBytes]) h
  · rw [recVal_leBytes (a := leBytes 6 (ticktime48 s) ++ ([BitVec.ofNat 8 n, 0xD1] ++ (chan s n).loop.tRec))
      (v := flagBits (signalFlags s n)) (c := leBytes 6 0) (by rw [eq]; simp) (by simp [length_leBytes, h]), Nat.mod_eq_of_lt]
    exact (flagBits_lt _).trans (by simp [signalFlags])
  · rw [recVal_leBytes (a := leBytes 6 (ticktime48 s) ++ ([BitVec.ofNat 8 n, 0xD1] ++ ((chan s n).loop.tRec ++ leBytes 2 (flagBits (signalFlags s n)))))
      (v := 0) (c := []) (by rw [eq]; simp) (by simp [length_leBytes, h])]
    rfl

/-- Word 2 of a PC record. -/
def pcWord (s : State) (n x : Nat) : Nat :=
  (seq s n).firstPc.getD (pcOf s x) + min 8 (seq s n).executed * 2 ^ 20 + waitKind (seq s n).wait * 2 ^ 24 + ctxState s x * 2 ^ 28

/-- The flags of a PC record, lowest first. -/
def pcFlags (s : State) (n : Nat) : List Bool := [(seq s n).branch, (seq s n).exc, (seq s n).exhaust || exhausted s n]

theorem pcRecord_eq (s : State) (n x : Nat) :
    pcRecord s n x = leBytes 6 (ticktime48 s) ++ ([BitVec.ofNat 8 n] ++ ([0xD2] ++ (leBytes 4 (pcWord s n x) ++
      (leBytes 2 x ++ ([BitVec.ofNat 8 (flagBits (pcFlags s n))] ++ [0]))))) := by
  simp [pcRecord, pcFlags, pcWord]

theorem length_pcRecord (s : State) (n x : Nat) : (pcRecord s n x).length = 16 := by
  rw [pcRecord_eq]
  simp [length_leBytes]

theorem waitKind_lt (w : Wait) : waitKind w < 16 := by cases w <;> simp [waitKind]

theorem pcRecord_body (s : State) (n x : Nat) :
    recVal (pcRecord s n x) 8 4 = pcWord s n x % 2 ^ 32 ∧ recVal (pcRecord s n x) 12 2 = x % 2 ^ 16 ∧
      recVal (pcRecord s n x) 14 1 = b2n (seq s n).branch + 2 * b2n (seq s n).exc + 4 * b2n ((seq s n).exhaust || exhausted s n) ∧
      recVal (pcRecord s n x) 15 1 = 0 := by
  have eq := pcRecord_eq s n x
  generalize pcRecord s n x = it at eq ⊢
  have lt := flagBits_lt (pcFlags s n)
  refine ⟨?_, ?_, ?_, ?_⟩
  · exact recVal_leBytes (a := leBytes 6 (ticktime48 s) ++ [BitVec.ofNat 8 n, 0xD2]) (v := pcWord s n x)
      (c := leBytes 2 x ++ ([BitVec.ofNat 8 (flagBits (pcFlags s n))] ++ [0])) (by rw [eq]; simp) (by simp [length_leBytes])
  · exact recVal_leBytes (a := leBytes 6 (ticktime48 s) ++ ([BitVec.ofNat 8 n, 0xD2] ++ leBytes 4 (pcWord s n x))) (v := x)
      (c := [BitVec.ofNat 8 (flagBits (pcFlags s n))] ++ [0]) (by rw [eq]; simp) (by simp [length_leBytes])
  · rw [recVal_byte (a := leBytes 6 (ticktime48 s) ++ ([BitVec.ofNat 8 n, 0xD2] ++ (leBytes 4 (pcWord s n x) ++ leBytes 2 x)))
      (v := flagBits (pcFlags s n)) (c := [0]) (by rw [eq]; simp) (by simp [length_leBytes])]
    have sum : flagBits (pcFlags s n) = b2n (seq s n).branch + 2 * b2n (seq s n).exc + 4 * b2n ((seq s n).exhaust || exhausted s n) := by
      simp only [pcFlags, flagBits]
      omega
    rw [← sum, Nat.mod_eq_of_lt]
    exact lt.trans (by simp [pcFlags])
  · exact recVal_byte (a := leBytes 6 (ticktime48 s) ++ ([BitVec.ofNat 8 n, 0xD2] ++ (leBytes 4 (pcWord s n x) ++ (leBytes 2 x ++
      [BitVec.ofNat 8 (flagBits (pcFlags s n))])))) (v := 0) (c := []) (by rw [eq]; simp) (by simp [length_leBytes])

theorem ctxState_lt (s : State) (x : Nat) : ctxState s x < 8 := Nat.mod_lt _ (by decide)

/-- The parts of word 2. -/
theorem pcWord_parts (s : State) (n x : Nat) : pcWord s n x % 2 ^ 32 % 2 ^ 20 = (seq s n).firstPc.getD (pcOf s x) % 2 ^ 20 ∧
    ((seq s n).firstPc.getD (pcOf s x) < 2 ^ 20 → pcWord s n x % 2 ^ 32 / 2 ^ 20 % 16 = min 8 (seq s n).executed ∧
      pcWord s n x % 2 ^ 32 / 2 ^ 24 % 16 = waitKind (seq s n).wait ∧ pcWord s n x % 2 ^ 32 / 2 ^ 28 = ctxState s x) := by
  have hw := waitKind_lt (seq s n).wait
  have hc := ctxState_lt s x
  have he : min 8 (seq s n).executed ≤ 8 := Nat.min_le_left ..
  unfold pcWord
  generalize (seq s n).firstPc.getD (pcOf s x) = pc
  generalize min 8 (seq s n).executed = e at *
  omega

/-! ### Destinations (R401, R402) -/

/-- Room for a record, and for a loss record where records were dropped. -/
def Enters (it : List Byte) (d : Dest) (used : Nat) : Prop := it.length + (if d.drops = 0 then 0 else 16) + used + destBytes d ≤ 8192

/-- A destination with a record taken. -/
def entered (now : Nat) (it : List Byte) (d : Dest) : Dest :=
  { fifo := d.fifo ++ (if d.drops = 0 then [] else [(now, lossRecord d)]) ++ [(now, it)], drops := 0, dropAt := if d.drops = 0 then d.dropAt else 0 }

theorem enterDest_of_room {it : List Byte} {d : Dest} {used : Nat} (now time : Nat) (h : Enters it d used) :
    enterDest now time used it d = (true, entered now it d) := by
  unfold Enters at h
  unfold enterDest entered
  by_cases hd : d.drops = 0
  · rw [if_pos hd] at h
    rw [if_pos ⟨hd, by omega⟩]
    cases d
    simp_all
  · rw [if_neg hd] at h
    rw [if_neg (fun c => hd c.1), if_pos ⟨hd, by omega⟩]
    simp [hd]

theorem enterDest_of_full {it : List Byte} {d : Dest} {used : Nat} (now time : Nat) (hi : 0 < it.length) (h : ¬ Enters it d used) :
    enterDest now time used it d = (false, dropDest time d) := by
  unfold Enters at h
  unfold enterDest dropDest
  rw [if_neg, if_neg]
  · rintro ⟨hd, hr⟩
    rw [if_neg hd] at h
    omega
  · rintro ⟨hd, hr⟩
    rw [if_pos hd] at h
    omega

theorem traceAfter_of_room {it : List Byte} (hon : gb s R.obsCfg 0 = true) (h : Enters it s.obs.trace (traceLeft s)) :
    traceAfter s it = (true, entered s.now it s.obs.trace) := by
  unfold traceAfter
  rw [if_pos hon, enterDest_of_room _ _ h]

theorem traceAfter_of_full {it : List Byte} (hi : 0 < it.length) (h : ¬ (gb s R.obsCfg 0 = true ∧ Enters it s.obs.trace (traceLeft s))) :
    traceAfter s it = (false, dropDest (ticktime48 s) s.obs.trace) := by
  unfold traceAfter
  split
  · next hon => exact enterDest_of_full _ _ hi (fun hr => h ⟨hon, hr⟩)
  · rfl

/-- A record that the TRACE port does not take is dropped. -/
theorem traceAfter_of_drop {it : List Byte} (hi : 0 < it.length) (h : (traceAfter s it).1 = false) :
    traceAfter s it = (false, dropDest (ticktime48 s) s.obs.trace) := by
  by_cases hr : gb s R.obsCfg 0 = true ∧ Enters it s.obs.trace (traceLeft s)
  · rw [traceAfter_of_room hr.1 hr.2] at h
    cases h
  · exact traceAfter_of_full hi hr

/-- A record is lost at a destination: bit `i` of OBS_STAT and its count in OBS_LOST. -/
def recordLost (i : Nat) (s : State) : State := flag R.obsStat i s |> bump R.obsLost (16 * i) 16

theorem recordLost_spec {i : Nat} (hi : i < 2) (s : State) : Touches [R.obsStat, R.obsLost] s (recordLost i s) ∧
    gb (recordLost i s) R.obsStat i = true ∧ gf (recordLost i s) R.obsLost (16 * i) 16 = min (gf s R.obsLost (16 * i) 16 + 1) 65535 ∧
    gb (recordLost i s) R.obsStat (1 - i) = gb s R.obsStat (1 - i) ∧
    gf (recordLost i s) R.obsLost (16 * (1 - i)) 16 = gf s R.obsLost (16 * (1 - i)) 16 := by
  unfold recordLost
  refine ⟨(Touches.flag (by simp) i s).trans (.bump (by simp) _ _ _), ?_, ?_, ?_, ?_⟩
  · rw [gb_bump_of_ne _ _ _ _ (by decide), gb_flag_same _ _ _ (by omega)]
  · rw [gf_bump_same _ _ _ _ (by omega), gf_flag_of_ne _ _ _ _ (by decide)]
    rfl
  · rw [gb_bump_of_ne _ _ _ _ (by decide), gb_flag (s := s) (by omega)]
    have : ¬ i = 1 - i := by omega
    simp [this]
  · rw [gf_bump_of_disjoint _ _ (by omega) (by omega), gf_flag_of_ne _ _ _ _ (by decide)]

/-! ### A record enters or is dropped (R401 to R403) -/

/-- The state with other destinations. -/
def setObs (o : Obs) (s : State) : State := { s with obs := o }

@[simp] theorem setObs_obs (o : Obs) (s : State) : (setObs o s).obs = o := (rfl)
@[simp] theorem setObs_regs (o : Obs) (s : State) : (setObs o s).regs = s.regs := (rfl)
@[simp] theorem setObs_now (o : Obs) (s : State) : (setObs o s).now = s.now := (rfl)
@[simp] theorem gb_setObs (o : Obs) (s : State) (a i : Nat) : gb (setObs o s) a i = gb s a i := (rfl)
@[simp] theorem gf_setObs (o : Obs) (s : State) (a i j : Nat) : gf (setObs o s) a i j = gf s a i j := (rfl)

theorem Touches.setObs {l : List Nat} (o : Obs) (s : State) : Touches l s (setObs o s) := .of_regs_eq rfl ⟨rfl, rfl, rfl⟩

@[simp] theorem recordLost_obs (i : Nat) (s : State) : (recordLost i s).obs = s.obs := (rfl)
@[simp] theorem recordLost_now (i : Nat) (s : State) : (recordLost i s).now = s.now := (rfl)

theorem whenB_not (b : Bool) (f : State → State) (u : State) : whenB (!b) f u = if b = true then u else f u := by
  cases b <;> rfl

theorem toTrace_eq (it : List Byte) (s : State) :
    toTrace it s = whenB (!(traceAfter s it).1) (recordLost 0) (setObs { s.obs with trace := (traceAfter s it).2 } s) := by
  rw [whenB_not]
  rfl

/-- The destination of TC1 takes a record, before a full packet leaves it. -/
def tc1Takes (it : List Byte) (s : State) : State :=
  whenB (!(tc1After s it).1) (recordLost 1) (setObs { s.obs with tc1 := (tc1After s it).2 } s)

theorem toTc1_eq (it : List Byte) (s : State) : toTc1 it s = whenB (packFull (tc1Takes it s)) packObs (tc1Takes it s) := by
  unfold tc1Takes
  rw [whenB_not]
  rfl

/-- What a destination's flag and count say of a record: `i` is its bit, `ok` whether it entered. -/
def Counted (i : Nat) (ok : Bool) (s t : State) : Prop :=
  (ok = true → gb t R.obsStat i = gb s R.obsStat i) ∧
    (ok = false → gb t R.obsStat i = true ∧ gf t R.obsLost (16 * i) 16 = min (gf s R.obsLost (16 * i) 16 + 1) 65535)

/-- What a record at the one destination leaves of the other's flag and count. -/
def OtherKept (i : Nat) (s t : State) : Prop :=
  gb t R.obsStat i = gb s R.obsStat i ∧ gf t R.obsLost (16 * i) 16 = gf s R.obsLost (16 * i) 16

theorem counted_whenB {i : Nat} (hi : i < 2) (ok : Bool) (o : Obs) (s : State) :
    Touches [R.obsStat, R.obsLost] s (whenB (!ok) (recordLost i) (setObs o s)) ∧ (whenB (!ok) (recordLost i) (setObs o s)).obs = o ∧
      (whenB (!ok) (recordLost i) (setObs o s)).now = s.now ∧
      Counted i ok s (whenB (!ok) (recordLost i) (setObs o s)) ∧ OtherKept (1 - i) s (whenB (!ok) (recordLost i) (setObs o s)) := by
  obtain ⟨ht, hbit, hcnt, hb', hc'⟩ := recordLost_spec hi (setObs o s)
  cases ok
  · exact ⟨(Touches.setObs o s).trans ht, rfl, rfl, ⟨by simp, fun _ => ⟨hbit, hcnt⟩⟩, hb', hc'⟩
  · exact ⟨Touches.setObs o s, rfl, rfl, ⟨fun _ => rfl, by simp⟩, rfl, rfl⟩

theorem toTrace_spec (it : List Byte) (s : State) :
    Touches [R.obsStat, R.obsLost] s (toTrace it s) ∧ (toTrace it s).obs = { s.obs with trace := (traceAfter s it).2 } ∧
      (toTrace it s).now = s.now ∧ Counted 0 (traceAfter s it).1 s (toTrace it s) ∧ OtherKept 1 s (toTrace it s) := by
  rw [toTrace_eq]
  exact counted_whenB (by decide) _ _ s

theorem tc1Takes_spec (it : List Byte) (s : State) :
    Touches [R.obsStat, R.obsLost] s (tc1Takes it s) ∧ (tc1Takes it s).obs = { s.obs with tc1 := (tc1After s it).2 } ∧
      (tc1Takes it s).now = s.now ∧ Counted 1 (tc1After s it).1 s (tc1Takes it s) ∧ OtherKept 0 s (tc1Takes it s) :=
  counted_whenB (by decide) _ _ s

/-- A packet of records leaves its FIFO for the class. -/
theorem packObs_spec (s : State) : (packObs s).regs = s.regs ∧ Touches [] s (packObs s) ∧
    ∃ d, (packObs s).obs = { s.obs with tc1 := d } := by
  unfold packObs
  simp only
  split
  · exact ⟨rfl, .refl _ s, _, rfl⟩
  · exact ⟨rfl, .of_regs_eq rfl ⟨rfl, rfl, rfl⟩, _, rfl⟩

theorem toTc1_spec (it : List Byte) (s : State) :
    Touches [R.obsStat, R.obsLost] s (toTc1 it s) ∧ (∃ d, (toTc1 it s).obs = { s.obs with tc1 := d }) ∧
      Counted 1 (tc1After s it).1 s (toTc1 it s) ∧ OtherKept 0 s (toTc1 it s) ∧
      (packFull (tc1Takes it s) = false → (toTc1 it s).obs = { s.obs with tc1 := (tc1After s it).2 }) := by
  rw [toTc1_eq]
  obtain ⟨ht, hobs, -, hcount, hkept⟩ := tc1Takes_spec it s
  generalize tc1Takes it s = u at *
  cases packFull u
  · exact ⟨ht, ⟨_, hobs⟩, hcount, hkept, fun _ => hobs⟩
  · obtain ⟨hregs, hp, d, hd⟩ := packObs_spec u
    refine ⟨ht.trans (hp.mono (by simp)), ⟨d, hd.trans (by rw [hobs])⟩, ?_, ?_, by simp⟩
    · unfold Counted whenB at *
      simpa only [if_true, gb_of_regs hregs, gf_of_regs hregs] using hcount
    · unfold OtherKept whenB at *
      simpa only [if_true, gb_of_regs hregs, gf_of_regs hregs] using hkept

/-! ### A record is formed (R398 to R400) -/

/-- The state with a probe's record of a kind counted as formed. -/
def markFormed (p : Nat) (pc : Bool) (s : State) : State := setObs { s.obs with formed := (p, pc) :: s.obs.formed } s

theorem formRecord_eq (p : Nat) (pc : Bool) (s : State) :
    formRecord p pc s = whenB (fld (probeSel s p pc) 3 2 == 2 || fld (probeSel s p pc) 3 2 == 3) (toTc1 (recordOf s (probeSel s p pc) pc))
      (whenB (fld (probeSel s p pc) 3 2 == 1 || fld (probeSel s p pc) 3 2 == 3) (toTrace (recordOf s (probeSel s p pc) pc)) (markFormed p pc s)) := (rfl)

/-- A field of two bits selects a destination by its bit. -/
theorem goes_trace (w : Word) : (fld w 3 2 == 1 || fld w 3 2 == 3) = (fld w 3 2).testBit 0 := by
  have : fld w 3 2 < 4 := Nat.mod_lt _ (by decide)
  interval_cases fld w 3 2 <;> rfl

theorem goes_tc1 (w : Word) : (fld w 3 2 == 2 || fld w 3 2 == 3) = (fld w 3 2).testBit 1 := by
  have : fld w 3 2 < 4 := Nat.mod_lt _ (by decide)
  interval_cases fld w 3 2 <;> rfl

/-- A record at the TRACE port, if the selection names it. -/
theorem toTrace_markFormed (p : Nat) (pc b : Bool) (it : List Byte) (s : State) :
    let v := whenB b (toTrace it) (markFormed p pc s)
    Touches [R.obsStat, R.obsLost] s v ∧ v.now = s.now ∧ v.obs.formed = (p, pc) :: s.obs.formed ∧ v.obs.tc1 = s.obs.tc1 ∧
      v.obs.trace = (if b then (traceAfter s it).2 else s.obs.trace) ∧ (b = true → Counted 0 (traceAfter s it).1 s v) ∧ OtherKept 1 s v := by
  cases b
  · exact ⟨.setObs _ s, rfl, rfl, rfl, rfl, by simp, rfl, rfl⟩
  · have same : traceAfter (markFormed p pc s) it = traceAfter s it := rfl
    obtain ⟨ht, hobs, hnow, hcount, hkept⟩ := toTrace_spec it (markFormed p pc s)
    rw [same] at hobs hcount
    unfold whenB
    simp only [if_true]
    rw [hobs]
    exact ⟨(Touches.setObs _ s).trans ht, hnow, rfl, rfl, rfl, fun _ => hcount, hkept⟩

theorem packLen_of_fits {room : Nat} {l : List (Nat × List Byte)} (h : (l.map (fun r => r.2.length)).sum ≤ room) : packLen room l = l.length := by
  induction l generalizing room with
  | nil => rfl
  | cons r l ih =>
    rw [List.map_cons, List.sum_cons] at h
    rw [packLen, if_pos (by omega), ih (by omega), List.length_cons, Nat.add_comm]

theorem packFull_of_small (h : destBytes s.obs.tc1 < 4096) : packFull s = false := by
  unfold packFull
  simp only
  rw [packLen_of_fits (h.le : (s.obs.tc1.fifo.map (fun r => r.2.length)).sum ≤ 4096)]
  simp [h]

/-- A record formed, its destinations and their counts. -/
theorem formRecord_spec {w : Word} (p : Nat) (pc : Bool) (hw : probeSel s p pc = w) :
    Touches [R.obsStat, R.obsLost] s (formRecord p pc s) ∧ (formRecord p pc s).obs.formed = (p, pc) :: s.obs.formed ∧
      (formRecord p pc s).obs.trace = (if (fld w 3 2).testBit 0 then (traceAfter s (recordOf s w pc)).2 else s.obs.trace) ∧
      ((fld w 3 2).testBit 0 = true → Counted 0 (traceAfter s (recordOf s w pc)).1 s (formRecord p pc s)) ∧
      ((fld w 3 2).testBit 1 = false → (formRecord p pc s).obs.tc1 = s.obs.tc1) ∧
      ((fld w 3 2).testBit 1 = true → Counted 1 (tc1After s (recordOf s w pc)).1 s (formRecord p pc s) ∧
        (destBytes (tc1After s (recordOf s w pc)).2 < 4096 → (formRecord p pc s).obs.tc1 = (tc1After s (recordOf s w pc)).2)) := by
  rw [formRecord_eq, hw, goes_trace, goes_tc1]
  generalize recordOf s w pc = it
  obtain ⟨ht, hnow, hform, htc1, htrace, hcount, hkept⟩ := toTrace_markFormed p pc ((fld w 3 2).testBit 0) it s
  generalize whenB ((fld w 3 2).testBit 0) (toTrace it) (markFormed p pc s) = v at *
  cases (fld w 3 2).testBit 1
  · exact ⟨ht, hform, htrace, hcount, fun _ => htc1, by simp⟩
  · have same : tc1After v it = tc1After s it := by
      unfold tc1After ticktime48
      rw [hnow, htc1, ht.ticktime_eq (by decide) (by decide)]
    obtain ⟨ht', ⟨d, hd⟩, hcount', hkept', hfits⟩ := toTc1_spec it v
    have taken : (tc1Takes it v).obs.tc1 = (tc1After s it).2 := by rw [(tc1Takes_spec it v).2.1, same]
    rw [same] at hcount' hfits
    unfold whenB
    simp only [if_true]
    refine ⟨ht.trans ht', ?_, ?_, fun hb => ?_, by simp, fun _ => ⟨?_, fun hs => ?_⟩⟩
    · rw [hd, ← hform]
    · rw [hd, ← htrace]
    · obtain ⟨h1, h2⟩ := hcount hb
      exact ⟨fun ok => hkept'.1.trans (h1 ok), fun no => ⟨hkept'.1.trans (h2 no).1, hkept'.2.trans (h2 no).2⟩⟩
    · unfold Counted OtherKept at *
      rwa [hkept.1, hkept.2] at hcount'
    · rw [hfits (packFull_of_small (by rw [taken]; exact hs))]

theorem exec_traceRecord (p : Nat) (pc : Bool) (s : State) :
    exec (.traceRecord p pc) s = clocked s (fun t => if recordDue t p pc then formRecord p pc t else t) := (rfl)

/-- A record that is due is formed. -/
theorem traceRecord_answers (ho : Operating s) {p : Nat} {pc : Bool} {w : Word} (hp : p < 4) (hf : (p, pc) ∉ s.obs.formed)
    (hw : probeSel s p pc = w) (hd : selDue s w pc = true) : exec (.traceRecord p pc) s = .next (formRecord p pc s) := by
  refine (exec_traceRecord p pc s).trans ((formRecord_spec p pc hw).1.clocked ho (if_pos ?_))
  unfold recordDue
  rw [hw, hd]
  simp [hp, hf]

/-- A selection that no write has replaced in this tick is the register's. -/
theorem probeSel_of_kept {p : Nat} (pc : Bool) (h : ∀ o ∈ s.obs.oldSel, o.1 ≠ p) : probeSel s p pc = rd s (R.probe + 4 * p) := by
  unfold probeSel
  have : s.obs.oldSel.find? (fun x => x.1 == p) = none := by
    rw [List.find?_eq_none]
    intro o ho
    simpa using h o ho
  rw [this]
  rfl

/-- The old selection stands for a record that it would lose. -/
theorem probeSel_of_lost {p : Nat} {pc : Bool} {o : Nat × Word} (h : o ∈ s.obs.oldSel.find? (fun o => o.1 == p))
    (hd : selDue s o.2 pc = true) (hl : wouldDrop s o.2 pc = true) : probeSel s p pc = o.2 := by
  unfold probeSel
  rw [Option.mem_def.1 h]
  exact if_pos (by rw [hd, hl]; rfl)

/-- The record of a tick in which a selection is due, as the statement of O53 writes it. -/
theorem selDue_of {w : Word} {pc : Bool} (hb : w.getLsbD 0 = true) (hc : hasChan s (selCh w) = true)
    (h1 : pc = true → fld w 1 2 ≠ 0 ∧ 256 ≤ s.slot ∧ ((boundCtx s (selCh w) ≠ none ∧ (0 < (seq s (selCh w)).executed ∨ (seq s (selCh w)).stateChg = true)) ∨
      (seq s (selCh w)).left ≠ none))
    (h2 : pc = false → fld w 1 2 ≠ 1 ∧ (lcore s (selCh w / 8)).done = true ∧ ticktime s % 2 ^ (fld w 10 4) = 0) : selDue s w pc = true := by
  unfold selDue
  simp only
  rw [bit_lsb, hb, hc]
  cases pc
  · obtain ⟨hk, hd, ht⟩ := h2 rfl
    simp [hk, hd, ht]
  · obtain ⟨hk, hs, hx⟩ := h1 rfl
    have some_ : (pcCtx s (selCh w)).isSome = true := by
      unfold pcCtx
      simp only
      split
      · next h => exact (Bool.and_eq_true_iff.1 h).1
      · next h =>
        rcases hx with ⟨hb, hr⟩ | hl
        · exact absurd (by simpa [Option.isSome_iff_ne_none, hb] using hr) h
        · exact Option.isSome_iff_ne_none.2 hl
    simp [hk, hs, some_]

theorem length_recordOf {w : Word} (pc : Bool) (h : (chan s (selCh w)).loop.tRec.length = 16) :
    (recordOf s w pc).length = if pc then 16 else 32 := by
  cases pc
  · exact length_signalRecord h
  · exact length_pcRecord ..

theorem recordOf_pos (w : Word) (pc : Bool) : 0 < (recordOf s w pc).length := by
  cases pc
  · show 0 < (signalRecord s _).length
    rw [signalRecord_eq]
    simp [length_leBytes]
  · show 0 < (pcRecord s _ _).length
    rw [length_pcRecord]
    decide

theorem destBytes_entered (now : Nat) (it : List Byte) (d : Dest) : destBytes (entered now it d) ≤ destBytes d + 16 + it.length := by
  unfold destBytes entered
  split <;> simp [lossRecord, length_leBytes]
  omega

/-! ### Probe writes, the TRACE port and OBS packets (R398, R402, R403) -/

theorem whenB_of_lt {p : Nat} (hp : p < 4) (f : State → State) (u : State) : whenB (decide (p < 4)) f u = f u := by
  rw [decide_eq_true hp]
  rfl

theorem probeWrite_lands (ho : Operating s) {p : Nat} {w : Word} (hp : p < 4) (hc : hasChan s (w.toNat / 32 % 32) = true)
    (hk : w.toNat / 2 % 4 ≠ 3) :
    ∃ t, exec (.probeWrite p w) s = .next t ∧ t.obs.writes = s.obs.writes ++ [(R.probe + 4 * p - R.obsCfg, w)] ∧ OnlyRegs [] s t := by
  have step : whenB (decide (p < 4)) (probeSet p w) s = setObs { s.obs with writes := s.obs.writes ++ [(R.probe - R.obsCfg + 4 * p, w)] } s := by
    rw [whenB_of_lt hp]
    refine if_neg ?_
    rintro (h | h)
    · exact hk h
    · exact h hc
  have offset : R.probe - R.obsCfg + 4 * p = R.probe + 4 * p - R.obsCfg := by
    simp only [R.probe, R.obsCfg]
    omega
  rw [offset] at step
  exact ⟨_, (Touches.setObs (l := []) _ s).clocked ho step, rfl, (Touches.setObs _ s).onlyRegs⟩

theorem probeWrite_rejected (ho : Operating s) {p : Nat} {w : Word} (hp : p < 4)
    (h : hasChan s (w.toNat / 32 % 32) = false ∨ w.toNat / 2 % 4 = 3) :
    ∃ t, exec (.probeWrite p w) s = .next t ∧ t.obs.writes = s.obs.writes ∧ gb t R.obsStat 2 = true ∧ OnlyRegs [R.obsStat] s t := by
  have step : whenB (decide (p < 4)) (probeSet p w) s = flag R.obsStat 2 s := by
    rw [whenB_of_lt hp]
    refine if_pos ?_
    rcases h with h | h
    · exact .inr (fun hc => absurd (h.symm.trans hc) (by decide))
    · exact .inl h
  have touched : Touches [R.obsStat] s (flag R.obsStat 2 s) := .flag (by simp) 2 s
  exact ⟨_, touched.clocked ho step, rfl, gb_flag_same _ _ _ (by decide), touched.onlyRegs⟩

/-- The TRACE port sends the oldest record. -/
theorem traceSend_answers (ho : Operating s) (hon : gb s R.obsCfg 0 = true) (hf : s.obs.outFree < 10 * (s.now + 1))
    {r : Nat × List Byte} (hr : r ∈ s.obs.trace.fifo.head?) (hn : r.1 < s.now) : ∃ t, exec .traceSend s = .next t ∧
      t.obs.trace.fifo = s.obs.trace.fifo.tail ∧
      t.obs.out = s.obs.out.filter (fun o => decide (10 * s.now < o.1 + o.2.length)) ++ [(max s.obs.outFree (10 * s.now), r.2)] ∧
      t.obs.outFree = max s.obs.outFree (10 * s.now) + r.2.length ∧ OnlyRegs [] s t := by
  obtain ⟨l, hl⟩ := List.head?_eq_some_iff.1 hr
  have due : traceDue s = true := by
    unfold traceDue
    rw [hl]
    simp [hon, hf, hn]
  have sends : ∃ o : Obs, traceNext s = setObs o s ∧ o.trace.fifo = s.obs.trace.fifo.tail ∧
      o.out = s.obs.out.filter (fun o => decide (10 * s.now < o.1 + o.2.length)) ++ [(max s.obs.outFree (10 * s.now), r.2)] ∧
      o.outFree = max s.obs.outFree (10 * s.now) + r.2.length := by
    unfold traceNext
    rw [hl]
    exact ⟨_, rfl, rfl, rfl, rfl⟩
  obtain ⟨o, eq, h1, h2, h3⟩ := sends
  have runs : exec .traceSend s = clocked s (fun t => if traceDue t then traceNext t else t) := (rfl)
  exact ⟨_, runs.trans ((Touches.setObs (l := []) o s).clocked ho ((if_pos due).trans eq)), h1, h2, h3, (Touches.setObs o s).onlyRegs⟩

/-- A partial OBS packet leaves with every waiting record. -/
theorem obsPacketTimeout_answers (ho : Operating s) {r : Nat × List Byte} (hr : r ∈ s.obs.tc1.fifo.head?)
    (hl : r.1 + max 1 (gf s R.obsCfg 16 16) ≤ s.now) (hroom : packRoom s = true) (hb : destBytes s.obs.tc1 ≤ 4096) :
    ∃ t, exec .obsPacketTimeout s = .next t ∧ t.obs.tc1.fifo = [] ∧
      Queues ⟨1, 0x42, 0, 0, 0, 0, (s.obs.tc1.fifo.map (·.2)).flatten, none, []⟩ s t ∧ OnlyRegs [] s t := by
  obtain ⟨l, hfifo⟩ := List.head?_eq_some_iff.1 hr
  have late : packLate s = true := by
    unfold packLate
    rw [hfifo]
    simp [hl, hroom]
  have all : packLen 4096 s.obs.tc1.fifo = s.obs.tc1.fifo.length := packLen_of_fits hb
  have packs : packObs s = sendPacket ⟨1, 0x42, 0, 0, 0, 0, (s.obs.tc1.fifo.map (·.2)).flatten, none, []⟩
      (setObs { s.obs with tc1 := { s.obs.tc1 with fifo := [] } } s) := by
    refine (if_neg ?_).trans ?_
    · rw [all, hroom, hfifo]
      simp
    · rw [all, List.take_length, List.drop_length]
      rfl
  have runs : exec .obsPacketTimeout s = clocked s (fun t => if packLate t then packObs t else t) := (rfl)
  have touched := (Touches.setObs (l := []) { s.obs with tc1 := { s.obs.tc1 with fifo := [] } } s).trans
    (.sendPacket ⟨1, 0x42, 0, 0, 0, 0, (s.obs.tc1.fifo.map (·.2)).flatten, none, []⟩ _)
  refine ⟨_, runs.trans (touched.clocked ho ((if_pos late).trans packs)), rfl, ?_, touched.onlyRegs⟩
  unfold Queues sendPacket
  rw [lcls_updCls_same]
  rfl

/-! ### Assembly -/

/-- What O53 says of a record's bytes. -/
theorem recordOf_bytes {w : Word} (pc : Bool) (hn : selCh w < 32) :
    recVal (recordOf s w pc) 0 6 = ticktime s % 2 ^ 48 ∧ recVal (recordOf s w pc) 6 1 = selCh w ∧
      recVal (recordOf s w pc) 7 1 = (if pc then 0xD2 else 0xD1) := by
  cases pc
  · exact record_head (mark := 0xD1) (signalRecord_eq s _) (by omega) (by decide)
  · exact record_head (mark := 0xD2) (pcRecord_eq s _ _) (by omega) (by decide)

theorem flagBits_at {l rest : List Bool} {i : Nat} {b : Bool} (h : l.drop i = b :: rest) : flagBits l / 2 ^ i % 2 = b2n b := by
  rw [flagBits_div, h, flagBits_mod]

theorem gf_bit4 (s : State) (a : Nat) : (gf s a 0 32 / 16 % 2 == 1) = gb s a 4 := by
  unfold gf fld gb bit
  have := (rd s a).isLt
  rw [pow_zero, Nat.div_one, Nat.mod_eq_of_lt this]
  rfl

/-- The flags of a signal record, as the statement of O53 lists them. -/
theorem signalFlags_bits (s : State) (n : Nat) :
    flagBits (signalFlags s n) % 2 = b2n (gb s (chA n R.chStat) 4) ∧ flagBits (signalFlags s n) / 16 % 2 = b2n (gb s (chA n R.rngStat) 7) ∧
      flagBits (signalFlags s n) / 128 % 2 = b2n (chan s n).gen.hold.isSome ∧
      flagBits (signalFlags s n) / 256 % 2 = b2n (gb s (chA n R.loopStat) 9) ∧
      flagBits (signalFlags s n) / 512 % 2 = b2n (gb s (chA n R.loopStat) 10) ∧
      flagBits (signalFlags s n) / 1024 % 2 = b2n ((chan s n).loop.outSatNow && !(chan s n).loop.missNow) ∧
      flagBits (signalFlags s n) / 2 % 2 = b2n (openNow s n) ∧ flagBits (signalFlags s n) / 4 % 2 = b2n (chan s n).loop.missNow ∧
      flagBits (signalFlags s n) / 8 % 2 = b2n (inHold s n) ∧ flagBits (signalFlags s n) / 32 % 2 = b2n (reefOn s n) ∧
      flagBits (signalFlags s n) / 64 % 2 = b2n (injRuns s n) ∧ flagBits (signalFlags s n) / 2048 = b2n (furled s n) := by
  have first : flagBits (signalFlags s n) % 2 = b2n (gb s (chA n R.chStat) 4) := by
    rw [← gf_bit4]
    exact flagBits_mod _ _
  have last : flagBits (signalFlags s n) / 2 ^ 11 = b2n (furled s n) := flagBits_div _ 11
  exact ⟨first, flagBits_at (i := 4) rfl, flagBits_at (i := 7) rfl, flagBits_at (i := 8) rfl, flagBits_at (i := 9) rfl,
    flagBits_at (i := 10) rfl, flagBits_at (i := 1) rfl, flagBits_at (i := 2) rfl, flagBits_at (i := 3) rfl, flagBits_at (i := 5) rfl,
    flagBits_at (i := 6) rfl, last⟩

/-- Settles O53: a record's bytes by its layout, then each destination that its selection names. -/
theorem traceRecords : Obligations.TraceRecords := by
  intro s p w pc ho n cfg c x it num loop bytes lossOf enters entered' dropped goes
  have value (i len : Nat) : num i len = recVal it i len := foldr_leVal _
  have itEq : it = recordOf s cfg pc := by cases pc <;> rfl
  have hn : selCh cfg < 32 := Nat.mod_lt _ (by decide)
  refine ⟨fun hp hc hk => probeWrite_lands ho hp hc hk, fun hp h => probeWrite_rejected ho hp h, ?_, ?_,
    fun hon hf r hr hn => traceSend_answers ho hon hf hr hn, fun r hr hl hroom hb => obsPacketTimeout_answers ho hr hl hroom hb⟩
  · intro hp hbit hc hform hold hrec hpc hsig
    have sel := probeSel_of_kept pc hold
    obtain ⟨v1, v2, v3⟩ := recordOf_bytes pc hn
    obtain ⟨touched, formed, trace, count0, keep1, take1⟩ := formRecord_spec p pc sel
    have runs := traceRecord_answers ho hp hform sel (selDue_of hbit hc hpc hsig)
    refine ⟨?_, ?_, ?_, ?_, ?_, ?_, _, runs, formed, ?_, keep1, ?_, ?_, ?_, ?_, touched.onlyRegs⟩
    · rw [itEq]
      exact length_recordOf pc hrec
    · rw [value, itEq, v1]
    · rw [value, itEq, v2]
      rfl
    · rw [value, itEq, v3]
    · rintro rfl
      obtain ⟨body, flags, zero⟩ := signalRecord_body hrec
      obtain ⟨f0, f4, f7, f8, f9, f10, f1, f2, f3, f5, f6, f11⟩ := signalFlags_bits s c
      have v24 : num 24 2 = flagBits (signalFlags s c) := (value 24 2).trans flags
      rw [v24]
      exact ⟨body, f0, f4, f7, f8, f9, f10, f1, f2, f3, f5, f6, f11, (value 26 6).trans zero⟩
    · rintro rfl
      obtain ⟨v8, v12, v14, v15⟩ := pcRecord_body s c x
      obtain ⟨pcPart, others⟩ := pcWord_parts s c x
      rw [(value 8 4).trans v8]
      exact ⟨pcPart, others, (value 14 1).trans v14, (value 12 2).trans v12, (value 15 1).trans v15⟩
    · exact fun hg => trace.trans (if_neg (by rw [show (fld cfg 3 2).testBit 0 = false from hg]; decide))
    · rintro hg ⟨hon, hroom⟩
      rw [itEq] at hroom
      have after := traceAfter_of_room hon hroom
      refine ⟨(trace.trans (if_pos hg)).trans ?_, (count0 hg).1 (by rw [after])⟩
      rw [after, ← itEq]
      rfl
    · intro hg hfull
      have after : traceAfter s (recordOf s cfg pc) = (false, dropDest (ticktime48 s) s.obs.trace) :=
        traceAfter_of_full (recordOf_pos cfg pc) (by rw [← itEq]; exact hfull)
      refine ⟨(trace.trans (if_pos hg)).trans ?_, (count0 hg).2 (by rw [after])⟩
      rw [after]
      rfl
    · rintro hg ⟨-, hroom⟩ hsmall
      rw [itEq] at hroom
      have after : tc1After s (recordOf s cfg pc) = (true, entered s.now (recordOf s cfg pc) s.obs.tc1) := enterDest_of_room _ _ hroom
      have len := length_recordOf (s := s) (w := cfg) pc hrec
      have small : destBytes (tc1After s (recordOf s cfg pc)).2 < 4096 := by
        rw [after]
        refine (destBytes_entered s.now (recordOf s cfg pc) s.obs.tc1).trans_lt ?_
        have : destBytes s.obs.tc1 + 48 < 4096 := hsmall
        split at len <;> omega
      obtain ⟨count1, fits⟩ := take1 hg
      refine ⟨(fits small).trans ?_, count1.1 (by rw [after])⟩
      rw [after, ← itEq]
      rfl
    · intro hg hfull hpack
      refine absurd ⟨rfl, ?_⟩ hfull
      have len := length_recordOf (s := s) (w := cfg) pc hrec
      have : destBytes s.obs.tc1 < 4096 := by
        unfold packFull at hpack
        simpa using (Bool.or_eq_false_iff.1 hpack).2
      show it.length + (if s.obs.tc1.drops = 0 then 0 else 16) + 0 + destBytes s.obs.tc1 ≤ 8192
      rw [itEq]
      split at len <;> split <;> omega
  · intro hp hform o hmem hdue hdrop hdest
    have sel := probeSel_of_lost hmem hdue hdrop
    have go0 : (fld o.2 3 2).testBit 0 = true := by rw [hdest]; decide
    have go1 : (fld o.2 3 2).testBit 1 = false := by rw [hdest]; decide
    have lost : (traceAfter s (recordOf s o.2 pc)).1 = false := by
      unfold wouldDrop at hdrop
      rw [hdest] at hdrop
      simpa using hdrop
    have after := traceAfter_of_drop (recordOf_pos o.2 pc) lost
    obtain ⟨touched, -, trace, count0, keep1, -⟩ := formRecord_spec p pc sel
    obtain ⟨bit0, cnt0⟩ := (count0 go0).2 lost
    refine ⟨_, traceRecord_answers ho hp hform sel hdue, (trace.trans (if_pos go0)).trans ?_, bit0, cnt0, keep1 go1, touched.onlyRegs⟩
    rw [after]
    rfl

end Sys2Proof.Machine
end

section
/-! PROOFS. Streams towards the host (11 R305 to R309) and their registers (11 R313), and O42 assembled from them. -/

namespace Sys2Proof.Machine

-- One proof at a time: the whole text is compiled within a bound on memory.
set_option Elab.async false

variable {s t u : State} {k : Nat} {q : Rd} {w : Word}

/-! ### Items a read takes (R305) -/

theorem takeItems_append (m : Nat) (l : List (List Byte)) : takeItems m l ++ l.drop (takeItems m l).length = l := by
  induction l generalizing m with
  | nil => rfl
  | cons it l ih =>
    unfold takeItems
    split
    · rw [List.length_cons, List.drop_succ_cons, List.cons_append, ih]
    · rfl

theorem itemBytes_takeItems (m : Nat) (l : List (List Byte)) : itemBytes (takeItems m l) ≤ m := by
  induction l generalizing m with
  | nil => simp [takeItems, itemBytes]
  | cons it l ih =>
    unfold takeItems
    split
    · have := ih (m - it.length)
      unfold itemBytes at *
      rw [List.map_cons, List.sum_cons]
      omega
    · simp [itemBytes]

/-- Items that all stand in the first part are found there. -/
theorem takeItems_of_length {m : Nat} {a b : List (List Byte)} (h : (takeItems m (a ++ b)).length ≤ a.length) :
    takeItems m a = takeItems m (a ++ b) := by
  induction a generalizing m with
  | nil =>
    rw [List.nil_append] at h ⊢
    rw [List.length_eq_zero_iff.1 (Nat.le_zero.1 h)]
    rfl
  | cons it a ih =>
    rw [List.cons_append] at h ⊢
    unfold takeItems at h ⊢
    split
    · next hf =>
      rw [if_pos hf] at h
      rw [ih (by simpa using h)]
    · rfl

/-! ### The oldest read leaves -/

theorem tags_readHead (k : Nat) (s : State) : (strm (readHead k s) k).reads.map (·.tag) = (strm s k).reads.map (·.tag) := by
  unfold readHead
  rw [strm_updStrm_same]
  split
  · next h => rw [h]; rfl
  · rfl

theorem reads_flowStream (k : Nat) (s : State) : (strm (flowStream k s) k).reads = (strm s k).reads := by
  unfold flowStream
  dsimp only
  split
  · rfl
  · rw [strm_updStrm_same]
    rfl

theorem lcls_flowStream (k c : Nat) (s : State) : lcls (flowStream k s) c = lcls s c := by
  unfold flowStream
  dsimp only
  split
  · rfl
  · rw [lcls_updStrm]
    rfl

/-- The oldest read has left, and the stream's items stand. -/
structure ReadLeft (k : Nat) (l : List Nat) (s t : State) : Prop where
  keeps : KeepsItems k l s t
  tags : (strm t k).reads.map (·.tag) = (strm s k).reads.tail.map (·.tag)
  links : ∀ c, lcls t c = lcls s c

theorem popRead_leaves (k : Nat) (l : List Nat) (s : State) : ReadLeft k l s (popRead k s) where
  keeps := (KeepsItems.updStrm rfl).trans (readHead_keeps _ k l)
  tags := by
    unfold popRead
    rw [tags_readHead, strm_updStrm_same]
  links _ := (rfl)

/-! ### Answers (R305, R306) -/

/-- The answer of a stream's read. -/
def readAnswer (s : State) (k tag status : Nat) (data : List Byte) (items : List Nat) : Pkt :=
  { cls := 3, opc := 0x83, tag := tag, status := status, p0 := k, p1 := (rd s (stA k R.strPktseq)).toNat, data := data, items := items }

theorem readNow_of_head (h : (strm s k).reads.head? = some q) : readNow s k = some (q, strItems (strm s k)) := by
  unfold readNow
  rw [h]
  rfl

theorem tooSmall_iff (h : (strm s k).reads.head? = some q) :
    tooSmall s k = true ↔ ∃ i ∈ (strItems (strm s k)).head?, q.maxb < i.length := by
  unfold tooSmall
  rw [readNow_of_head h]
  cases strItems (strm s k) <;> simp

theorem packetHere_iff (h : (strm s k).reads.head? = some q) :
    packetHere s k = true ↔ (takeItems q.maxb (strItems (strm s k))).length ≤ (strm s k).tail.length := by
  unfold packetHere
  rw [readNow_of_head h]
  exact decide_eq_true_iff

/-- A read without data is answered and leaves. -/
theorem answered_spec (p : Pkt) (k : Nat) (s : State) : Queues p s (popRead k (sendPacket p s)) ∧
    KeepsItems k [] s (popRead k (sendPacket p s)) ∧ (strm (popRead k (sendPacket p s)) k).reads.map (·.tag) = (strm s k).reads.tail.map (·.tag) := by
  have left := popRead_leaves k [] (sendPacket p s)
  refine ⟨?_, ⟨(Touches.sendPacket p s).trans left.keeps.frame, left.keeps.items, left.keeps.chans⟩, left.tags⟩
  unfold Queues
  rw [left.links, sendPacket, lcls_updCls_same]

/-- A read completes with items of the tail. -/
def deliverItems (k : Nat) (q : Rd) (l : List (List Byte)) (s : State) : State :=
  sendPacket (readAnswer s k q.tag 0 l.flatten (l.map List.length)) s
    |> wr (stA k R.strPktseq) (rd s (stA k R.strPktseq) + 1)
    |> updStrm k (fun t => { t with tail := t.tail.drop l.length })

theorem serveRead_small (h : (strm s k).reads.head? = some q) (hs : tooSmall s k = true) :
    serveRead k s = popRead k (sendPacket (readAnswer s k q.tag 7 [] []) s) := by
  obtain ⟨l, hl⟩ := List.head?_eq_some_iff.1 h
  unfold serveRead
  rw [hl]
  exact if_pos hs

theorem serveRead_items {l : List (List Byte)} (h : (strm s k).reads.head? = some q) (hs : tooSmall s k = false)
    (hl : takeItems q.maxb (strm s k).tail = l) (hne : l ≠ []) : serveRead k s = popRead k (flowStream k (deliverItems k q l s)) := by
  obtain ⟨rs, hrs⟩ := List.head?_eq_some_iff.1 h
  have some_ : l.isEmpty = false := by simpa using hne
  unfold serveRead
  rw [hrs]
  simp only [hs, hl, some_, Bool.false_eq_true, if_false]
  rfl

theorem deliverItems_spec (q : Rd) (l : List (List Byte)) (s : State) : Touches [stA k R.strPktseq] s (deliverItems k q l s) ∧
    (strm (deliverItems k q l s) k).tail = (strm s k).tail.drop l.length ∧ (strm (deliverItems k q l s) k).ring = (strm s k).ring ∧
    (strm (deliverItems k q l s) k).head = (strm s k).head ∧ (strm (deliverItems k q l s) k).reads = (strm s k).reads ∧
    rd (deliverItems k q l s) (stA k R.strPktseq) = rd s (stA k R.strPktseq) + 1 ∧
    Queues (readAnswer s k q.tag 0 l.flatten (l.map List.length)) s (deliverItems k q l s) := by
  have strm_eq : strm (deliverItems k q l s) k = { strm s k with tail := (strm s k).tail.drop l.length } := by
    unfold deliverItems
    rw [strm_updStrm_same, strm_wr, sendPacket, strm_updCls]
  rw [strm_eq]
  refine ⟨?_, rfl, rfl, rfl, rfl, ?_, ?_⟩
  · exact ((Touches.sendPacket _ s).trans (.wr (List.mem_singleton_self _) _ _)).trans (.of_regs_eq (updStrm_regs ..) ⟨rfl, rfl, rfl⟩)
  · unfold deliverItems
    rw [rd_updStrm, rd_wr_same]
  · unfold Queues deliverItems
    rw [lcls_updStrm, lcls_wr, sendPacket, lcls_updCls_same]

/-- A read served, as O42 states it. -/
structure Served (k : Nat) (q : Rd) (s t : State) : Prop where
  tags : (strm t k).reads.map (·.tag) = (strm s k).reads.tail.map (·.tag)
  small : (∃ h ∈ (strItems (strm s k)).head?, q.maxb < h.length) →
    Queues (readAnswer s k q.tag 7 [] []) s t ∧ strItems (strm t k) = strItems (strm s k) ∧ OnlyRegs [] s t
  items : ¬ (∃ h ∈ (strItems (strm s k)).head?, q.maxb < h.length) → takeItems q.maxb (strItems (strm s k)) ≠ [] →
    let got := takeItems q.maxb (strItems (strm s k))
    Queues (readAnswer s k q.tag 0 got.flatten (got.map List.length)) s t ∧ itemBytes got ≤ q.maxb ∧
      strItems (strm s k) = got ++ strItems (strm t k) ∧ rd t (stA k R.strPktseq) = rd s (stA k R.strPktseq) + 1 ∧
      OnlyRegs [stA k R.strPktseq] s t

theorem serveRead_served (h : (strm s k).reads.head? = some q) (hp : packetHere s k = true)
    (hn : (∃ h ∈ (strItems (strm s k)).head?, q.maxb < h.length) ∨ takeItems q.maxb (strItems (strm s k)) ≠ []) :
    Touches [stA k R.strPktseq] s (serveRead k s) ∧ Served k q s (serveRead k s) := by
  rw [← tooSmall_iff h] at hn
  cases hs : tooSmall s k
  · have ne := hn.resolve_left (by rw [hs]; decide)
    have inTail : takeItems q.maxb (strm s k).tail = takeItems q.maxb (strItems (strm s k)) := by
      have split : strItems (strm s k) = (strm s k).tail ++ ((strm s k).ring ++ (strm s k).head) := List.append_assoc ..
      have here := (packetHere_iff h).1 hp
      rw [split] at here ⊢
      exact takeItems_of_length here
    rw [serveRead_items h hs inTail ne]
    have cut := takeItems_append q.maxb (strm s k).tail
    have fits := itemBytes_takeItems q.maxb (strItems (strm s k))
    rw [inTail] at cut
    obtain ⟨ht, htail, hring, hhead, hreads, hseq, hq⟩ := deliverItems_spec (k := k) q (takeItems q.maxb (strItems (strm s k))) s
    generalize deliverItems k q (takeItems q.maxb (strItems (strm s k))) s = u at *
    have flowed := flowStream_keeps u k []
    have left := popRead_leaves k [] (flowStream k u)
    have frame : Touches [] u (popRead k (flowStream k u)) := flowed.frame.trans left.keeps.frame
    have all := ht.trans (frame.mono (by simp))
    refine ⟨all, ?_, fun hc => ?_, fun _ _ => ⟨?_, fits, ?_, ?_, all.onlyRegs⟩⟩
    · rw [left.tags, reads_flowStream, hreads]
    · exact absurd ((tooSmall_iff h).2 hc) (by rw [hs]; decide)
    · unfold Queues
      rw [left.links, lcls_flowStream, hq]
    · rw [left.keeps.items, flowed.items]
      have rest : strItems (strm u k) = (strm s k).tail.drop (takeItems q.maxb (strItems (strm s k))).length ++ ((strm s k).ring ++ (strm s k).head) := by
        rw [strItems, htail, hring, hhead, List.append_assoc]
      rw [rest, ← List.append_assoc, cut]
      exact List.append_assoc ..
    · rw [frame.2 _ (by simp), hseq]
  · rw [serveRead_small h hs]
    obtain ⟨hq, hkeeps, htags⟩ := answered_spec (readAnswer s k q.tag 7 [] []) k s
    exact ⟨hkeeps.frame.mono (by simp), htags, fun _ => ⟨hq, hkeeps.items, hkeeps.frame.onlyRegs⟩,
      fun hc => absurd ((tooSmall_iff h).1 hs) hc⟩

theorem Touches.updStrm {l : List Nat} (k : Nat) (f : Stream → Stream) (s : State) : Touches l s (updStrm k f s) :=
  .of_regs_eq rfl ⟨rfl, rfl, rfl⟩

/-! ### The commands of a stream's reads (R305, R306, R309) -/

/-- A command of a present stream that makes the state t of s, touching registers only, answers t. -/
theorem Touches.onStrm {l : List Nat} {f : State → State} (h : Touches l s t) (ho : Operating s) (hs : hasStream s k = true) (hf : f s = t) :
    onStrm k s f = .next t := h.clocked ho ((if_pos hs).trans hf)

theorem onStrm_self {f : State → State} (ho : Operating s) (hf : f s = s) : onStrm k s f = .next s :=
  clocked_self ho (by
    split
    · exact hf
    · rfl)

theorem exec_streamReadComplete (k : Nat) (s : State) :
    exec (.streamReadComplete k none) s = onStrm k s (fun t => if readFull t k then serveRead k t else t) := (rfl)

theorem exec_coalesceExpiry (k : Nat) (s : State) :
    exec (.coalesceExpiry k) s = onStrm k s (fun t => if coalesced t k then serveRead k t else t) := (rfl)

theorem packetHere_of_full (h : readFull s k = true) : packetHere s k = true := by
  unfold readFull at h
  split at h
  · simp only [Bool.and_eq_true] at h
    exact h.1.2
  · cases h

/-- A read that is due and whose packet is here is full under one of the four conditions. -/
theorem readFull_of (h : (strm s k).reads.head? = some q) (hd : q.due ≠ none)
    (hp : (takeItems q.maxb (strItems (strm s k))).length ≤ (strm s k).tail.length)
    (hc : gf s (stA k R.strTmo) 16 16 = 0 ∨ (∃ i ∈ (strItems (strm s k)).head?, q.maxb < i.length) ∨
      (takeItems q.maxb (strItems (strm s k))).length < (strItems (strm s k)).length ∨
      itemBytes (takeItems q.maxb (strItems (strm s k))) = q.maxb) : readFull s k = true := by
  have here := (packetHere_iff h).2 hp
  rw [← tooSmall_iff h] at hc
  unfold readFull
  rw [readNow_of_head h]
  simp only [here, Option.isSome_iff_ne_none.2 hd, Bool.and_true, Bool.true_and, Bool.or_eq_true, decide_eq_true_eq, beq_iff_eq]
  unfold coalesce
  tauto

theorem not_packetHere (h : (strm s k).reads.head? = some q)
    (hp : ¬ (takeItems q.maxb (strItems (strm s k))).length ≤ (strm s k).tail.length) : packetHere s k = false := by
  rw [← packetHere_iff h] at hp
  exact Bool.eq_false_iff.2 hp

theorem readFull_of_waiting (hp : packetHere s k = false) : readFull s k = false := by
  unfold readFull
  cases readNow s k <;> simp [hp]

theorem coalesced_of_waiting (hp : packetHere s k = false) : coalesced s k = false := by
  unfold coalesced
  cases readNow s k <;> simp [hp]

theorem coalesced_of (h : (strm s k).reads.head? = some q)
    (hn : (∃ i ∈ (strItems (strm s k)).head?, q.maxb < i.length) ∨ takeItems q.maxb (strItems (strm s k)) ≠ [])
    (hp : (takeItems q.maxb (strItems (strm s k))).length ≤ (strm s k).tail.length)
    (hd : ∃ d ∈ q.due, d + gf s (stA k R.strTmo) 16 16 ≤ s.now) : coalesced s k = true := by
  obtain ⟨d, hd, hle⟩ := hd
  have some_ : (strItems (strm s k)).isEmpty = false := by
    cases hi : strItems (strm s k)
    · rw [hi] at hn
      simp [takeItems] at hn
    · rfl
  unfold coalesced
  rw [readNow_of_head h]
  simp only [some_, (packetHere_iff h).2 hp, Option.mem_def.1 hd, Bool.not_false, Bool.true_and, Option.any_some]
  exact decide_eq_true hle

/-- A read that waits on an empty stream ends with EMPTY. -/
theorem streamReadTimeout_answers (ho : Operating s) (hs : hasStream s k = true) (h : (strm s k).reads.head? = some q)
    (hi : strItems (strm s k) = []) (hr : recordsWait s k = false) (hd : ∃ d ∈ q.oldest, d + gf s (stA k R.strTmo) 0 16 ≤ s.now) :
    ∃ t, exec (.streamReadTimeout k) s = .next t ∧ Queues (readAnswer s k q.tag 6 [] []) s t ∧
      rd t (stA k R.strPktseq) = rd s (stA k R.strPktseq) ∧ (strm t k).reads.map (·.tag) = (strm s k).reads.tail.map (·.tag) ∧ OnlyRegs [] s t := by
  obtain ⟨d, hd, hle⟩ := hd
  have late : readLate s k = true := by
    unfold readLate
    rw [readNow_of_head h, hi]
    simp only [hr, Option.mem_def.1 hd, Option.any_some]
    exact decide_eq_true hle
  have empty : emptyRead k s = popRead k (sendPacket (readAnswer s k q.tag 6 [] []) s) := by
    obtain ⟨l, hl⟩ := List.head?_eq_some_iff.1 h
    unfold emptyRead
    rw [hl]
    rfl
  obtain ⟨hq, hkeeps, htags⟩ := answered_spec (readAnswer s k q.tag 6 [] []) k s
  have runs : exec (.streamReadTimeout k) s = onStrm k s (fun t => if readLate t k then emptyRead k t else t) := (rfl)
  exact ⟨_, runs.trans (hkeeps.frame.onStrm ho hs ((if_pos late).trans empty)), hq, hkeeps.frame.2 _ (by simp), htags, hkeeps.frame.onlyRegs⟩

theorem streamSlow_answers (ho : Operating s) (hs : hasStream s k = true) (h : (strm s k).slowDue ≠ none) :
    ∃ t, exec (.streamSlow k) s = .next t ∧ gb t (stA k R.strStat) 4 = true ∧ (strm t k).slowDue = none ∧ Reports (0x40 + k) 0x25 t ∧
      OnlyRegs [stA k R.strStat] s t := by
  obtain ⟨b, hb⟩ := Option.ne_none_iff_exists'.1 h
  have step : strSlow k s = updStrm k (fun t => { t with slowDue := none })
      (sendMsg (srcStream k) 0x25 0 (min (b / 256) 65535) (flag (stA k R.strStat) 4 s)) := by
    unfold strSlow
    rw [hb]
  have touched : Touches [stA k R.strStat] s (updStrm k (fun t => { t with slowDue := none })
      (sendMsg (srcStream k) 0x25 0 (min (b / 256) 65535) (flag (stA k R.strStat) 4 s))) :=
    ((Touches.flag (by simp) 4 s).trans (.sendMsg _ _ _ _ _)).trans (.updStrm k _ _)
  have runs : exec (.streamSlow k) s = onStrm k s (fun t => if (strm t k).slowDue.isSome then strSlow k t else t) := (rfl)
  refine ⟨_, runs.trans (touched.onStrm ho hs ((if_pos (Option.isSome_iff_ne_none.2 h)).trans step)), ?_, ?_, ?_, touched.onlyRegs⟩
  · rw [gb_updStrm, gb_sendMsg, gb_flag_same _ _ _ (by decide)]
  · rw [strm_updStrm_same]
  · exact reports_of_eq (updStrm_fc ..) (updStrm_now ..) (reports_sendMsg _ _ _ _ _)

/-! ### STR_CTRL (R307, R308, R313) -/

theorem exec_strCtrlDrop (k : Nat) (s : State) : exec (.strCtrlDrop k) s = onStrm k s (fun t => (strDropCmd k t).2) := (rfl)

theorem exec_strCtrlPurge (k : Nat) (s : State) : exec (.strCtrlPurge k) s = onStrm k s (purge k) := (rfl)

theorem exec_strCtrlCntClr (k : Nat) (s : State) :
    exec (.strCtrlCntClr k) s = onStrm k s (fun t => wr (stA k R.strCdrop) 0 (wr (stA k R.strDrop) 0 t)) := (rfl)

theorem strCtrlDrop_idle (ho : Operating s) (h : sendingNow s k = none) : exec (.strCtrlDrop k) s = .next s := by
  rw [exec_strCtrlDrop]
  refine onStrm_self ho ?_
  unfold strDropCmd
  rw [h]

theorem strCtrlDrop_cuts (ho : Operating s) (hs : hasStream s k = true) {x : Nat × Pkt × Nat} (h : sendingNow s k = some x) :
    ∃ t, exec (.strCtrlDrop k) s = .next t ∧ (lcls t 3).tx = some (x.1, { x.2.1 with cut := some (x.2.2 + 1) }, x.2.2) ∧
      (rd t (stA k R.strCdrop)).toNat = min ((rd s (stA k R.strCdrop)).toNat + cutItems (32 * x.2.2) x.2.1.items) (2 ^ 32 - 1) ∧
      gf t (R.txcStat + 12) 0 16 = (gf s (R.txcStat + 12) 0 16 + (x.2.1.flits - (x.2.2 + 1))) % 65536 ∧
      OnlyRegs [stA k R.strCdrop, R.txcStat + 12] s t := by
  obtain ⟨n, p, sent⟩ := x
  have ne : R.txcStat + 12 ≠ stA k R.strCdrop := by simp only [R.txcStat, stA]; omega
  have step : (strDropCmd k s).2 = sf (R.txcStat + 12) 0 16 (gf s (R.txcStat + 12) 0 16 + (p.flits - (sent + 1)))
      (bumpBy (stA k R.strCdrop) 0 32 (cutItems (32 * sent) p.items)
        (updCls 3 (fun c => { c with tx := some (n, { p with cut := some (sent + 1) }, sent) }) s)) := by
    unfold strDropCmd
    rw [h]
  have touched : Touches [stA k R.strCdrop, R.txcStat + 12] s (sf (R.txcStat + 12) 0 16 (gf s (R.txcStat + 12) 0 16 + (p.flits - (sent + 1)))
      (bumpBy (stA k R.strCdrop) 0 32 (cutItems (32 * sent) p.items)
        (updCls 3 (fun c => { c with tx := some (n, { p with cut := some (sent + 1) }, sent) }) s))) :=
    ((Touches.updCls 3 _ s).trans (.wr (by simp) _ _)).trans (.sf (by simp) _ _ _ _)
  refine ⟨_, (exec_strCtrlDrop k s).trans (touched.onStrm ho hs step), ?_, ?_, ?_, touched.onlyRegs⟩
  · rw [lcls_sf, lcls_bumpBy, lcls_updCls_same]
  · rw [rd_sf_of_ne _ _ _ _ ne, ← gf_whole, gf_bumpBy_same _ _ _ _ _ (by decide), gf_updCls, gf_whole]
  · exact gf_sf_same _ _ 0 16 _ (by decide)

theorem strCtrlCntClr_answers (ho : Operating s) (hs : hasStream s k = true) :
    ∃ t, exec (.strCtrlCntClr k) s = .next t ∧ rd t (stA k R.strDrop) = 0 ∧ rd t (stA k R.strCdrop) = 0 ∧
      OnlyRegs [stA k R.strDrop, stA k R.strCdrop] s t := by
  have touched : Touches [stA k R.strDrop, stA k R.strCdrop] s (wr (stA k R.strCdrop) 0 (wr (stA k R.strDrop) 0 s)) :=
    (Touches.wr (by simp) _ s).trans (.wr (by simp) _ _)
  refine ⟨_, (exec_strCtrlCntClr k s).trans (touched.onStrm ho hs rfl), ?_, rd_wr_same .., touched.onlyRegs⟩
  rw [rd_wr_of_ne _ _ (by simp [R.strCdrop, R.strDrop]), rd_wr_same]

/-! ### PURGE (R308) -/

/-- What a queue's change leaves: everything but the arbiter and registers. -/
theorem setPortQ_keeps {β : Type} (g : State → β) (ha : ∀ (a : Arb) (u : State), g { u with arb := a } = g u)
    (hw : ∀ a w u, g (wr a w u) = g u) (p : Nat) (l : List Req) (s : State) : g (setPortQ p l s) = g s := by
  unfold setPortQ
  dsimp only
  split
  · rw [sf, hw, ha]
  · rw [ha]

theorem withdraw_keeps {β : Type} (g : State → β) (ha : ∀ (a : Arb) (u : State), g { u with arb := a } = g u)
    (hw : ∀ a w u, g (wr a w u) = g u) (p : Nat) (who : Who → Bool) (s : State) : g (withdraw p who s) = g s := by
  unfold withdraw mapPortQ
  dsimp only
  rw [ha, setPortQ_keeps g ha hw]
  exact whenB_keeps (f := bump (R.arbStat + 4 * p) 24 8) g (hw _ _ s) _

theorem touches_setPortQ (p : Nat) (l : List Req) (s : State) : Touches [R.arbStat + 4 * p] s (setPortQ p l s) := by
  unfold setPortQ
  dsimp only
  split
  · exact (Touches.of_regs_eq rfl ⟨rfl, rfl, rfl⟩).trans (.sf (List.mem_singleton_self _) _ _ _ _)
  · exact .of_regs_eq rfl ⟨rfl, rfl, rfl⟩

theorem touches_withdraw (p : Nat) (who : Who → Bool) (s : State) : Touches [R.arbStat + 4 * p] s (withdraw p who s) := by
  unfold withdraw mapPortQ
  dsimp only
  exact ((Touches.whenB _ (.bump (List.mem_singleton_self _) _ _ s)).trans (touches_setPortQ p _ _)).trans (.of_regs_eq rfl ⟨rfl, rfl, rfl⟩)

theorem purgeItems_spec (k : Nat) (s : State) : Touches [R.arbStat + 8, R.arbStat + 12] s (purgeItems k s) ∧
    strItems (strm (purgeItems k s) k) = [] ∧ (∀ c, lcls (purgeItems k s) c = lcls s c) := by
  unfold purgeItems
  refine ⟨?_, ?_, fun c => ?_⟩
  · exact (((touches_withdraw 3 _ s).mono (by simp)).trans ((touches_withdraw 2 _ _).mono (by simp))).trans (.updStrm k _ _)
  · rw [strm_updStrm_same]
    rfl
  · rw [lcls_updStrm, withdraw_keeps (lcls · c) (fun _ _ => rfl) (fun _ _ _ => rfl), withdraw_keeps (lcls · c) (fun _ _ => rfl) (fun _ _ _ => rfl)]

/-- The answer of a read of a purged stream. -/
def answerEmpty (k : Nat) (r : Rd) (s : State) : State := sendPacket (readAnswer s k r.tag 6 [] []) s

theorem purge_eq (k : Nat) (s : State) :
    purge k s = updStrm k (fun t => { t with reads := [] }) (each (answerEmpty k) (strm s k).reads (purgeItems k s)) := (rfl)

/-- Every read of the stream is answered with EMPTY, in order. -/
theorem each_answerEmpty (k : Nat) (rs : List Rd) (s : State) : Touches [] s (each (answerEmpty k) rs s) ∧
    strm (each (answerEmpty k) rs s) k = strm s k ∧
    (lcls (each (answerEmpty k) rs s) 3).txq = (lcls s 3).txq ++ rs.map (fun r => readAnswer s k r.tag 6 [] []) := by
  induction rs generalizing s with
  | nil => exact ⟨.refl _ s, rfl, (List.append_nil _).symm⟩
  | cons r rs ih =>
    obtain ⟨ht, hstrm, htxq⟩ := ih (answerEmpty k r s)
    have seq (q : Rd) : readAnswer (answerEmpty k r s) k q.tag 6 [] [] = readAnswer s k q.tag 6 [] [] := rfl
    have first : (lcls (answerEmpty k r s) 3).txq = (lcls s 3).txq ++ [readAnswer s k r.tag 6 [] []] := by
      unfold answerEmpty sendPacket
      rw [lcls_updCls]
      rfl
    refine ⟨(Touches.sendPacket _ s).trans ht, hstrm, ?_⟩
    rw [each, htxq, first, List.append_assoc, List.map_cons, List.singleton_append]
    simp only [seq]

theorem strCtrlPurge_answers (ho : Operating s) (hs : hasStream s k = true) :
    ∃ t, exec (.strCtrlPurge k) s = .next t ∧ strItems (strm t k) = [] ∧ (strm t k).reads = [] ∧
      (lcls t 3).txq = (lcls s 3).txq ++ (strm s k).reads.map (fun r => readAnswer s k r.tag 6 [] []) ∧
      OnlyRegs [R.arbStat + 8, R.arbStat + 12] s t := by
  obtain ⟨hp, hitems, hcls⟩ := purgeItems_spec k s
  obtain ⟨ht, hstrm, htxq⟩ := each_answerEmpty k (strm s k).reads (purgeItems k s)
  have seq : rd (purgeItems k s) (stA k R.strPktseq) = rd s (stA k R.strPktseq) := by
    refine hp.2 _ ?_
    simp only [stA, R.arbStat, R.strPktseq, List.mem_cons, List.not_mem_nil, or_false]
    omega
  have same (r : Rd) : readAnswer (purgeItems k s) k r.tag 6 [] [] = readAnswer s k r.tag 6 [] [] := by
    unfold readAnswer
    rw [seq]
  have step := purge_eq k s
  generalize each (answerEmpty k) (strm s k).reads (purgeItems k s) = u at *
  have touched : Touches [R.arbStat + 8, R.arbStat + 12] s (updStrm k (fun t => { t with reads := [] }) u) :=
    (hp.trans (ht.mono (by simp))).trans (.updStrm k _ _)
  refine ⟨_, (exec_strCtrlPurge k s).trans (touched.onStrm ho hs step), ?_, ?_, ?_, touched.onlyRegs⟩
  · rw [strm_updStrm_same]
    exact (congrArg strItems hstrm).trans hitems
  · rw [strm_updStrm_same]
  · rw [lcls_updStrm, htxq, hcls]
    simp only [same]

/-! ### STR_CFG (R313) -/

/-- One of the fields that only an idle stream takes. -/
def cfgField (k : Nat) (w : Word) (lo len : Nat) (ok : Bool) (s : State) : State :=
  if fld w lo len = gf s (stA k R.strCfg) lo len then s
  else if ok && strIdle s k then sf (stA k R.strCfg) lo len (fld w lo len) s else strReject k s

/-- FMT, then EN, which needs a ring. -/
def cfgEnable (k : Nat) (w : Word) (s : State) : State :=
  if bit w 0 && !strEn s k && !ringOk s k then strReject k s else sb (stA k R.strCfg) 0 (bit w 0) s

theorem strCfg_eq (k : Nat) (w : Word) (s : State) :
    strCfg k w s = cfgEnable k w (sb (stA k R.strCfg) 1 (bit w 1)
      (cfgField k w 3 5 (decide (20 ≤ fld w 3 5) && decide (fld w 3 5 ≤ 30)) (cfgField k w 2 1 true s))) := (rfl)

section
variable {lo len : Nat} {ok : Bool}

theorem cfgField_same (h : fld w lo len = gf s (stA k R.strCfg) lo len) (ok : Bool) : cfgField k w lo len ok s = s := if_pos h

/-- A field that the stream takes. -/
theorem cfgField_takes (hl : lo + len ≤ 32) (h : (ok && strIdle s k) = true) :
    Touches [stA k R.strCfg] s (cfgField k w lo len ok s) ∧ gf (cfgField k w lo len ok s) (stA k R.strCfg) lo len = fld w lo len ∧
      (∀ l i, lo + len ≤ l ∨ l + i ≤ lo → gf (cfgField k w lo len ok s) (stA k R.strCfg) l i = gf s (stA k R.strCfg) l i) ∧
      strm (cfgField k w lo len ok s) k = strm s k := by
  unfold cfgField
  split
  · next he => exact ⟨.refl _ s, he.symm, fun _ _ _ => rfl, rfl⟩
  · refine ⟨.sf (by simp) _ _ _ s, ?_, fun l i hd => gf_sf_of_disjoint _ _ _ _ _ _ _ hl hd, strm_sf ..⟩
    exact (gf_sf_same _ _ _ _ _ hl).trans (Nat.mod_eq_of_lt (Nat.mod_lt _ (Nat.two_pow_pos len)))

/-- A field that the stream keeps: another one is rejected. -/
theorem cfgField_refuses (h : (ok && strIdle s k) = false) :
    Touches [stA k R.strStat] s (cfgField k w lo len ok s) ∧
      gb (cfgField k w lo len ok s) (stA k R.strStat) 5 = (gb s (stA k R.strStat) 5 || decide (fld w lo len ≠ gf s (stA k R.strCfg) lo len)) ∧
      strm (cfgField k w lo len ok s) k = strm s k := by
  unfold cfgField
  split
  · next he => exact ⟨.refl _ s, by simp [he], rfl⟩
  · next he =>
    rw [if_neg (by rw [h]; decide)]
    refine ⟨.flag (by simp) 5 s, ?_, strm_flag ..⟩
    unfold strReject
    rw [gb_flag_same _ _ _ (by decide)]
    simp [he]

end

/-- The stream is idle, as O42 states it. -/
theorem strIdle_iff : strIdle s k = true ↔ strEn s k = false ∧ strItems (strm s k) = [] ∧ (strm s k).reads = [] := by
  unfold strIdle
  simp [and_assoc]

theorem strIdle_congr (hc : gb t (stA k R.strCfg) 0 = gb s (stA k R.strCfg) 0) (hs : strm t k = strm s k) : strIdle t k = strIdle s k := by
  unfold strIdle strEn
  rw [hc, hs]

theorem strCfg_ne_strStat (k : Nat) : stA k R.strCfg ≠ stA k R.strStat := by simp [R.strCfg, R.strStat]

/-- The ring of a size fits, as O42 states it. -/
def RingFits (s : State) (k l : Nat) : Prop := ringBase s k + 2 ^ l ≤ memSize s ∧ ringBase s k % 2 ^ l = 0

theorem ringOk_iff {l : List Nat} (ht : Touches l s t) (hl : ∀ a ∈ l, a = stA k R.strCfg ∨ a = stA k R.strStat) :
    ringOk t k = true ↔ RingFits s k (gf t (stA k R.strCfg) 3 5) := by
  have away {a : Nat} (h1 : a ≠ stA k R.strCfg) (h2 : a ≠ stA k R.strStat) : rd t a = rd s a :=
    ht.2 a fun hm => (hl a hm).elim h1 h2
  have lo : rd t (stA k R.spillBaseLo) = rd s (stA k R.spillBaseLo) :=
    away (by simp [R.spillBaseLo, R.strCfg]) (by simp [R.spillBaseLo, R.strStat])
  have hi : rd t (stA k R.spillBaseHi) = rd s (stA k R.spillBaseHi) :=
    away (by simp [R.spillBaseHi, R.strCfg]) (by simp [R.spillBaseHi, R.strStat])
  have mem : memSize t = memSize s := memSize_congr (away (by simp only [R.memCfg, stA]; omega) (by simp only [R.memCfg, stA]; omega))
  have base : ringBase t k = ringBase s k := by
    unfold ringBase gf
    rw [lo, hi]
  unfold ringOk RingFits
  rw [base, mem, ringSize]
  simp

/-- The fields before EN. -/
def cfgFields (k : Nat) (w : Word) (s : State) : State :=
  sb (stA k R.strCfg) 1 (bit w 1) (cfgField k w 3 5 (decide (20 ≤ fld w 3 5) && decide (fld w 3 5 ≤ 30)) (cfgField k w 2 1 true s))

/-- EN is taken. -/
theorem cfgEnable_takes (h : bit w 0 = true → strEn u k = false → ringOk u k = true) :
    cfgEnable k w u = sb (stA k R.strCfg) 0 (bit w 0) u := by
  refine if_neg ?_
  cases hb : bit w 0 <;> cases he : strEn u k <;> simp_all

/-- EN is rejected. -/
theorem cfgEnable_refuses (h : bit w 0 = true) (he : strEn u k = false) (hr : ringOk u k = false) : cfgEnable k w u = strReject k u := by
  refine if_pos ?_
  rw [h, he, hr]
  rfl

theorem exec_strCfgWrite (k : Nat) (w : Word) (s : State) : exec (.strCfgWrite k w) s = onStrm k s (strCfg k w) := (rfl)

/-- What EN leaves: it is taken, or rejected for want of a ring. -/
theorem cfgEnable_spec (k : Nat) (w : Word) (u : State) : Touches [stA k R.strCfg, stA k R.strStat] u (cfgEnable k w u) ∧
    (∀ l i, 1 ≤ l → gf (cfgEnable k w u) (stA k R.strCfg) l i = gf u (stA k R.strCfg) l i) ∧
    ((bit w 0 = true → strEn u k = false → ringOk u k = true) → Touches [stA k R.strCfg] u (cfgEnable k w u) ∧
      gb (cfgEnable k w u) (stA k R.strCfg) 0 = bit w 0) ∧
    (bit w 0 = true → strEn u k = false → ringOk u k = false → gb (cfgEnable k w u) (stA k R.strCfg) 0 = false ∧
      gb (cfgEnable k w u) (stA k R.strStat) 5 = true) ∧
    (gb u (stA k R.strStat) 5 = true → gb (cfgEnable k w u) (stA k R.strStat) 5 = true) := by
  have ne := strCfg_ne_strStat k
  by_cases h : bit w 0 = true → strEn u k = false → ringOk u k = true
  · rw [cfgEnable_takes h]
    refine ⟨.sb (by simp) _ _ u, fun l i hl => gf_sb_of_disjoint _ _ _ (by decide) (.inl hl), fun _ => ⟨.sb (by simp) _ _ u, ?_⟩,
      fun hb he hr => absurd ((h hb he).symm.trans hr) (by decide), fun h5 => ?_⟩
    · exact gb_sb_same _ _ 0 _ (by decide)
    · rw [gb_sb_of_ne _ _ _ _ ne, h5]
  · simp only [Classical.not_imp, Bool.not_eq_true] at h
    obtain ⟨hb, he, hr⟩ := h
    rw [cfgEnable_refuses hb he hr]
    unfold strReject
    refine ⟨.flag (by simp) _ u, fun l i _ => gf_flag_of_ne _ _ _ _ ne.symm, fun h => absurd ((h hb he).symm.trans hr) (by decide),
      fun _ _ _ => ⟨?_, gb_flag_same _ _ _ (by decide)⟩, fun _ => gb_flag_same _ _ _ (by decide)⟩
    rw [gb_flag_of_ne _ _ _ ne.symm]
    exact he

/-- The fields of an idle stream. -/
theorem cfgFields_idle (hi : strIdle s k = true) : Touches [stA k R.strCfg, stA k R.strStat] s (cfgFields k w s) ∧
    gf (cfgFields k w s) (stA k R.strCfg) 2 1 = fld w 2 1 ∧ gb (cfgFields k w s) (stA k R.strCfg) 1 = bit w 1 ∧
    gb (cfgFields k w s) (stA k R.strCfg) 0 = gb s (stA k R.strCfg) 0 ∧
    (20 ≤ fld w 3 5 → fld w 3 5 ≤ 30 → Touches [stA k R.strCfg] s (cfgFields k w s) ∧ gf (cfgFields k w s) (stA k R.strCfg) 3 5 = fld w 3 5) ∧
    (fld w 3 5 < 20 ∨ 30 < fld w 3 5 → gf (cfgFields k w s) (stA k R.strCfg) 3 5 = gf s (stA k R.strCfg) 3 5 ∧
      (fld w 3 5 ≠ gf s (stA k R.strCfg) 3 5 → gb (cfgFields k w s) (stA k R.strStat) 5 = true)) := by
  have ne := strCfg_ne_strStat k
  obtain ⟨ht1, hf1, hd1, hs1⟩ := cfgField_takes (w := w) (lo := 2) (len := 1) (ok := true) (by decide) ((Bool.true_and _).trans hi)
  unfold cfgFields
  generalize cfgField k w 2 1 true s = a at *
  have en1 : gb a (stA k R.strCfg) 0 = gb s (stA k R.strCfg) 0 := by
    rw [gb_eq_gf, gb_eq_gf, hd1 0 1 (by decide)]
  have idle1 : strIdle a k = true := (strIdle_congr en1 hs1).trans hi
  by_cases hr : 20 ≤ fld w 3 5 ∧ fld w 3 5 ≤ 30
  · have ok : (decide (20 ≤ fld w 3 5) && decide (fld w 3 5 ≤ 30)) = true := by simp [hr]
    rw [ok]
    obtain ⟨ht2, hf2, hd2, -⟩ := cfgField_takes (s := a) (w := w) (lo := 3) (len := 5) (ok := true) (by decide) ((Bool.true_and _).trans idle1)
    generalize cfgField k w 3 5 true a = b at *
    have touched : Touches [stA k R.strCfg] s (sb (stA k R.strCfg) 1 (bit w 1) b) := (ht1.trans ht2).trans (.sb (by simp) _ _ _)
    refine ⟨touched.mono (by simp), ?_, gb_sb_same _ _ 1 _ (by decide), ?_, fun _ _ => ⟨touched, ?_⟩, fun h => absurd h (by omega)⟩
    · rw [gf_sb_of_disjoint _ _ _ (by decide) (by decide), hd2 2 1 (by decide), hf1]
    · rw [gb_sb_of_ne_bit _ _ 1 0 _ (by decide) (by decide), gb_eq_gf, hd2 0 1 (by decide), ← gb_eq_gf, en1]
    · rw [gf_sb_of_disjoint _ _ _ (by decide) (by decide), hf2]
  · have ok : (decide (20 ≤ fld w 3 5) && decide (fld w 3 5 ≤ 30)) = false := by
      rw [← Bool.not_eq_true]
      simpa using hr
    rw [ok]
    obtain ⟨ht2, h5, -⟩ := cfgField_refuses (s := a) (k := k) (w := w) (lo := 3) (len := 5) (ok := false) rfl
    generalize cfgField k w 3 5 false a = b at *
    have cfg : rd b (stA k R.strCfg) = rd a (stA k R.strCfg) := ht2.2 _ (by simp [ne])
    have field (l i : Nat) : gf b (stA k R.strCfg) l i = gf a (stA k R.strCfg) l i := congrArg (fld · l i) cfg
    have touched : Touches [stA k R.strCfg, stA k R.strStat] s (sb (stA k R.strCfg) 1 (bit w 1) b) :=
      ((ht1.mono (by simp)).trans (ht2.mono (by simp))).trans (.sb (by simp) _ _ _)
    refine ⟨touched, ?_, gb_sb_same _ _ 1 _ (by decide), ?_, fun h h' => absurd ⟨h, h'⟩ hr, fun _ => ⟨?_, fun hne => ?_⟩⟩
    · rw [gf_sb_of_disjoint _ _ _ (by decide) (by decide), field, hf1]
    · rw [gb_sb_of_ne_bit _ _ 1 0 _ (by decide) (by decide), gb_eq_rd _ cfg, en1]
    · rw [gf_sb_of_disjoint _ _ _ (by decide) (by decide), field, hd1 3 5 (by decide)]
    · rw [gb_sb_of_ne _ _ _ _ ne, h5, hd1 3 5 (by decide)]
      simp [hne]

theorem fld_split (x : Word) : fld x 2 6 = fld x 2 1 + 2 * fld x 3 5 := by
  unfold fld
  omega

/-- The fields of a stream that is not idle. -/
theorem cfgFields_busy (hi : strIdle s k = false) : Touches [stA k R.strCfg, stA k R.strStat] s (cfgFields k w s) ∧
    gf (cfgFields k w s) (stA k R.strCfg) 2 6 = gf s (stA k R.strCfg) 2 6 ∧ gb (cfgFields k w s) (stA k R.strCfg) 1 = bit w 1 ∧
    gb (cfgFields k w s) (stA k R.strCfg) 0 = gb s (stA k R.strCfg) 0 ∧
    gf (cfgFields k w s) (stA k R.strCfg) 3 5 = gf s (stA k R.strCfg) 3 5 ∧
    gb (cfgFields k w s) (stA k R.strStat) 5 = (gb s (stA k R.strStat) 5 || decide (fld w 2 6 ≠ gf s (stA k R.strCfg) 2 6)) := by
  have ne := strCfg_ne_strStat k
  obtain ⟨ht1, h51, hs1⟩ := cfgField_refuses (w := w) (lo := 2) (len := 1) (ok := true) ((Bool.true_and _).trans hi)
  unfold cfgFields
  generalize cfgField k w 2 1 true s = a at *
  have cfg1 : rd a (stA k R.strCfg) = rd s (stA k R.strCfg) := ht1.2 _ (by simp [ne])
  have idle1 : strIdle a k = false := (strIdle_congr (gb_eq_rd _ cfg1) hs1).trans hi
  generalize (decide (20 ≤ fld w 3 5) && decide (fld w 3 5 ≤ 30)) = ok
  obtain ⟨ht2, h52, -⟩ := cfgField_refuses (s := a) (k := k) (w := w) (lo := 3) (len := 5) (ok := ok) (by rw [idle1, Bool.and_false])
  generalize cfgField k w 3 5 ok a = b at *
  have cfg : rd b (stA k R.strCfg) = rd s (stA k R.strCfg) := (ht2.2 _ (by simp [ne])).trans cfg1
  have field (l i : Nat) : gf b (stA k R.strCfg) l i = gf s (stA k R.strCfg) l i := congrArg (fld · l i) cfg
  have field1 (l i : Nat) : gf a (stA k R.strCfg) l i = gf s (stA k R.strCfg) l i := congrArg (fld · l i) cfg1
  have split : (fld w 2 6 ≠ gf s (stA k R.strCfg) 2 6) ↔ (fld w 2 1 ≠ gf s (stA k R.strCfg) 2 1 ∨ fld w 3 5 ≠ gf s (stA k R.strCfg) 3 5) := by
    have h1 : fld w 2 1 < 2 := Nat.mod_lt _ (by decide)
    have h2 : gf s (stA k R.strCfg) 2 1 < 2 := Nat.mod_lt _ (by decide)
    unfold gf at h2 ⊢
    rw [fld_split, fld_split]
    omega
  refine ⟨((ht1.mono (by simp)).trans (ht2.mono (by simp))).trans (.sb (by simp) _ _ _), ?_, gb_sb_same _ _ 1 _ (by decide), ?_, ?_, ?_⟩
  · rw [gf_sb_of_disjoint _ _ _ (by decide) (by decide), field]
  · rw [gb_sb_of_ne_bit _ _ 1 0 _ (by decide) (by decide), gb_eq_rd _ cfg]
  · rw [gf_sb_of_disjoint _ _ _ (by decide) (by decide), field]
  · rw [gb_sb_of_ne _ _ _ _ ne, h52, h51, field1]
    simp only [split]
    rw [Bool.or_assoc, Bool.decide_or]

/-- A field of a register from its parts. -/
theorem gf_flags (t : State) (a : Nat) : gf t a 1 2 = b2n (gb t a 1) + 2 * gf t a 2 1 := by
  unfold gf gb bit fld b2n
  split
  · next h =>
    rw [beq_iff_eq] at h
    omega
  · next h =>
    rw [beq_iff_eq] at h
    omega

theorem fld_flags (x : Word) : fld x 1 2 = b2n (bit x 1) + 2 * fld x 2 1 := by
  unfold bit fld b2n
  split
  · next h =>
    rw [beq_iff_eq] at h
    omega
  · next h =>
    rw [beq_iff_eq] at h
    omega

theorem fld_byte (x : Word) : fld x 0 8 = b2n (bit x 0) + 2 * fld x 1 2 + 8 * fld x 3 5 := by
  unfold bit fld b2n
  split
  · next h =>
    rw [beq_iff_eq] at h
    omega
  · next h =>
    rw [beq_iff_eq] at h
    omega

section
variable (ho : Operating s) (hs : hasStream s k = true)
include ho hs

theorem strCfgWrite_takes (hi : strIdle s k = true) (hlo : 20 ≤ fld w 3 5) (hhi : fld w 3 5 ≤ 30)
    (hr : w.getLsbD 0 = true → RingFits s k (fld w 3 5)) :
    ∃ t, exec (.strCfgWrite k w) s = .next t ∧ fld (rd t (stA k R.strCfg)) 0 8 = fld w 0 8 ∧ OnlyRegs [stA k R.strCfg] s t := by
  obtain ⟨-, hpol, hfmt, -, hin, -⟩ := cfgFields_idle (w := w) hi
  obtain ⟨ht, hlog⟩ := hin hlo hhi
  have ring := ringOk_iff ht (k := k) (by simp)
  have eq := strCfg_eq k w s
  rw [← cfgFields] at eq
  generalize cfgFields k w s = u at *
  obtain ⟨-, keep, take, -, -⟩ := cfgEnable_spec k w u
  rw [hlog] at ring
  obtain ⟨ht', hen⟩ := take (fun hb _ => ring.2 (hr ((bit_lsb w 0).symm.trans hb)))
  refine ⟨_, (exec_strCfgWrite k w s).trans ((ht.trans ht').onStrm ho hs eq), ?_, (ht.trans ht').onlyRegs⟩
  have flags : fld (rd (cfgEnable k w u) (stA k R.strCfg)) 1 2 = fld w 1 2 := by
    refine (keep 1 2 (by decide)).trans ?_
    rw [gf_flags, fld_flags, hfmt, hpol]
  have log_ : fld (rd (cfgEnable k w u) (stA k R.strCfg)) 3 5 = fld w 3 5 := (keep 3 5 (by decide)).trans hlog
  have en : bit (rd (cfgEnable k w u) (stA k R.strCfg)) 0 = bit w 0 := hen
  rw [fld_byte, fld_byte w, flags, log_, en]

theorem strCfgWrite_noRing (hi : strIdle s k = true) (he : fld w 3 5 = gf s (stA k R.strCfg) 3 5) (hb : w.getLsbD 0 = true)
    (hr : ¬ RingFits s k (fld w 3 5)) :
    ∃ t, exec (.strCfgWrite k w) s = .next t ∧ gb t (stA k R.strCfg) 0 = false ∧ gb t (stA k R.strStat) 5 = true ∧
      OnlyRegs [stA k R.strCfg, stA k R.strStat] s t := by
  obtain ⟨ht, -, -, hen, hin, hout⟩ := cfgFields_idle (w := w) hi
  have ring := ringOk_iff ht (k := k) (by simp)
  have log_ : gf (cfgFields k w s) (stA k R.strCfg) 3 5 = fld w 3 5 := by
    by_cases hlo : 20 ≤ fld w 3 5 ∧ fld w 3 5 ≤ 30
    · exact (hin hlo.1 hlo.2).2
    · exact (hout (by omega)).1.trans he.symm
  have eq := strCfg_eq k w s
  rw [← cfgFields] at eq
  generalize cfgFields k w s = u at *
  rw [log_] at ring
  obtain ⟨ht', -, -, refuse, -⟩ := cfgEnable_spec k w u
  obtain ⟨h0, h5⟩ := refuse ((bit_lsb w 0).trans hb) (hen.trans (strIdle_iff.1 hi).1) (Bool.eq_false_iff.2 (mt ring.1 hr))
  exact ⟨_, (exec_strCfgWrite k w s).trans ((ht.trans ht').onStrm ho hs eq), h0, h5, (ht.trans ht').onlyRegs⟩

theorem strCfgWrite_badSize (hi : strIdle s k = true) (he : fld w 3 5 ≠ gf s (stA k R.strCfg) 3 5) (hb : fld w 3 5 < 20 ∨ 30 < fld w 3 5) :
    ∃ t, exec (.strCfgWrite k w) s = .next t ∧ gf t (stA k R.strCfg) 3 5 = gf s (stA k R.strCfg) 3 5 ∧
      gf t (stA k R.strCfg) 1 2 = fld w 1 2 ∧ gb t (stA k R.strStat) 5 = true ∧ OnlyRegs [stA k R.strCfg, stA k R.strStat] s t := by
  obtain ⟨ht, hpol, hfmt, -, -, hout⟩ := cfgFields_idle (w := w) hi
  obtain ⟨hlog, hrej⟩ := hout hb
  have eq := strCfg_eq k w s
  rw [← cfgFields] at eq
  generalize cfgFields k w s = u at *
  obtain ⟨ht', keep, -, -, still⟩ := cfgEnable_spec k w u
  refine ⟨_, (exec_strCfgWrite k w s).trans ((ht.trans ht').onStrm ho hs eq), (keep 3 5 (by decide)).trans hlog, ?_, still (hrej he),
    (ht.trans ht').onlyRegs⟩
  rw [keep 1 2 (by decide), gf_flags, fld_flags, hfmt, hpol]

theorem strCfgWrite_enables (hi : strIdle s k = false) (he : fld w 2 6 = gf s (stA k R.strCfg) 2 6) (hb : w.getLsbD 0 = true)
    (hoff : strEn s k = false) :
    ∃ t, exec (.strCfgWrite k w) s = .next t ∧ gf t (stA k R.strCfg) 2 6 = gf s (stA k R.strCfg) 2 6 ∧
      (RingFits s k (gf s (stA k R.strCfg) 3 5) → gb t (stA k R.strCfg) 0 = true ∧ gb t (stA k R.strStat) 5 = gb s (stA k R.strStat) 5) ∧
      (¬ RingFits s k (gf s (stA k R.strCfg) 3 5) → gb t (stA k R.strCfg) 0 = false ∧ gb t (stA k R.strStat) 5 = true) ∧
      OnlyRegs [stA k R.strCfg, stA k R.strStat] s t := by
  obtain ⟨ht, h26, -, hen, hlog, hrej⟩ := cfgFields_busy (w := w) hi
  have ring := ringOk_iff ht (k := k) (by simp)
  have eq := strCfg_eq k w s
  rw [← cfgFields] at eq
  generalize cfgFields k w s = u at *
  rw [hlog] at ring
  rw [he] at hrej
  have bit0 : bit w 0 = true := (bit_lsb w 0).trans hb
  obtain ⟨ht', keep, take, refuse, -⟩ := cfgEnable_spec k w u
  refine ⟨_, (exec_strCfgWrite k w s).trans ((ht.trans ht').onStrm ho hs eq), (keep 2 6 (by decide)).trans h26, fun hf => ?_, fun hf => ?_,
    (ht.trans ht').onlyRegs⟩
  · obtain ⟨only, h0⟩ := take (fun _ _ => ring.2 hf)
    refine ⟨h0.trans bit0, ?_⟩
    rw [gb_eq_rd _ (only.2 _ (by simp [(strCfg_ne_strStat k).symm])), hrej]
    simp
  · exact refuse bit0 (hen.trans hoff) (Bool.eq_false_iff.2 (mt ring.1 hf))

theorem strCfgWrite_busy (hi : strIdle s k = false) (h : w.getLsbD 0 = false ∨ strEn s k = true) :
    ∃ t, exec (.strCfgWrite k w) s = .next t ∧ gf t (stA k R.strCfg) 2 6 = gf s (stA k R.strCfg) 2 6 ∧ gb t (stA k R.strCfg) 1 = w.getLsbD 1 ∧
      gb t (stA k R.strCfg) 0 = w.getLsbD 0 ∧
      gb t (stA k R.strStat) 5 = (gb s (stA k R.strStat) 5 || decide (fld w 2 6 ≠ gf s (stA k R.strCfg) 2 6)) ∧
      OnlyRegs [stA k R.strCfg, stA k R.strStat] s t := by
  obtain ⟨ht, h26, hfmt, hen, -, hrej⟩ := cfgFields_busy (w := w) hi
  have eq := strCfg_eq k w s
  rw [← cfgFields] at eq
  generalize cfgFields k w s = u at *
  obtain ⟨ht', keep, take, -, -⟩ := cfgEnable_spec k w u
  have noNeed : bit w 0 = true → strEn u k = false → ringOk u k = true := by
    intro hb he
    rcases h with h | h
    · exact absurd ((bit_lsb w 0).symm.trans hb) (by rw [h]; decide)
    · exact absurd (he.symm.trans (hen.trans h)) (by decide)
  obtain ⟨only, h0⟩ := take noNeed
  refine ⟨_, (exec_strCfgWrite k w s).trans ((ht.trans ht').onStrm ho hs eq), (keep 2 6 (by decide)).trans h26, ?_, h0.trans (bit_lsb w 0), ?_,
    (ht.trans ht').onlyRegs⟩
  · rw [gb_eq_gf, keep 1 1 (by decide), ← gb_eq_gf, hfmt, bit_lsb]
  · rw [gb_eq_rd _ (only.2 _ (by simp [(strCfg_ne_strStat k).symm])), hrej]

theorem served_answers {f : State → State} {i : Instr} (hf : exec i s = onStrm k s f) (hq : (strm s k).reads.head? = some q)
    (hserve : f s = serveRead k s) (hp : packetHere s k = true)
    (hn : (∃ h ∈ (strItems (strm s k)).head?, q.maxb < h.length) ∨ takeItems q.maxb (strItems (strm s k)) ≠ []) :
    ∃ t, exec i s = .next t ∧ Served k q s t := by
  obtain ⟨ht, hserved⟩ := serveRead_served hq hp hn
  exact ⟨_, hf.trans (ht.onStrm ho hs hserve), hserved⟩

end

/-- Settles O42: the fields of STR_CFG, then STR_CTRL, then the reads by what the tail holds for the oldest one. -/
theorem streamReads : Obligations.StreamReads := by
  intro s k q w ho hs st cfg z idle ringFits same seq answer small got here served
  have idleIff : idle ↔ strIdle s k = true := strIdle_iff.symm
  have busy : ¬ idle → strIdle s k = false := fun h => Bool.eq_false_iff.2 (mt idleIff.2 h)
  have serves {i : Instr} (h : ∃ t, exec i s = .next t ∧ Served k q s t) : served i := by
    obtain ⟨t, ht, htags, hsmall, hitems⟩ := h
    exact ⟨t, ht, htags, hsmall, hitems⟩
  refine ⟨fun hi hlo hhi hr => strCfgWrite_takes ho hs (idleIff.1 hi) hlo hhi hr,
    fun hi he hb hr => strCfgWrite_noRing ho hs (idleIff.1 hi) he hb hr, fun hi he hb => strCfgWrite_badSize ho hs (idleIff.1 hi) he hb,
    fun hi he hb hoff => strCfgWrite_enables ho hs (busy hi) he hb hoff, fun hi h => strCfgWrite_busy ho hs (busy hi) h,
    fun h => strCtrlDrop_idle ho h, fun x hx => strCtrlDrop_cuts ho hs hx, strCtrlPurge_answers ho hs, strCtrlCntClr_answers ho hs,
    fun hq hfull hn => ?_, fun hq hd hp hc => readFull_of hq hd hp hc, fun hq hp => ⟨?_, ?_⟩, fun hq hn hp hd => ?_,
    fun hq hi hr hd => streamReadTimeout_answers ho hs hq hi hr hd, fun h => streamSlow_answers ho hs h⟩
  · exact serves (served_answers ho hs (exec_streamReadComplete k s) hq (if_pos hfull) (packetHere_of_full hfull) hn)
  · rw [exec_streamReadComplete]
    exact onStrm_self ho (if_neg (by rw [readFull_of_waiting (not_packetHere hq hp)]; decide))
  · rw [exec_coalesceExpiry]
    exact onStrm_self ho (if_neg (by rw [coalesced_of_waiting (not_packetHere hq hp)]; decide))
  · exact serves (served_answers ho hs (exec_coalesceExpiry k s) hq (if_pos (coalesced_of hq hn hp hd)) ((packetHere_iff hq).2 hp) hn)

end Sys2Proof.Machine
end

section
/-! PROOFS. The lottery (11 R291 to R294) and the bursts of a grant (R286, R293), and O39 assembled from them. -/

namespace Sys2Proof.Machine

-- One proof at a time: the whole text is compiled within a bound on memory.
set_option Elab.async false

variable {s t u : State} {p k : Nat}

/-! ### The pick (R292) -/

/-- The tickets of the ports before one. -/
def ticketsBelow (s : State) (l : List Nat) (p : Nat) : Nat := ((l.filter (fun q => decide (q < p))).map (tickets s)).sum

theorem ticketsBelow_cons (s : State) (a p : Nat) (l : List Nat) :
    ticketsBelow s (a :: l) p = (if a < p then tickets s a else 0) + ticketsBelow s l p := by
  unfold ticketsBelow
  by_cases h : a < p <;> simp [h]

theorem ticketsBelow_of_le {l : List Nat} (h : ∀ q ∈ l, p ≤ q) : ticketsBelow s l p = 0 := by
  have none_ : l.filter (fun q => decide (q < p)) = [] := by
    rw [List.filter_eq_nil_iff]
    intro q hq
    have := h q hq
    simpa using this
  unfold ticketsBelow
  rw [none_]
  rfl

/-- The port whose share of the tickets holds the draw. -/
theorem pickPort_eq_some {l : List Nat} (hl : l.Pairwise (· < ·)) (x : Nat) :
    pickPort s l x = some p ↔ p ∈ l ∧ ticketsBelow s l p ≤ x ∧ x < ticketsBelow s l p + tickets s p := by
  induction l generalizing x with
  | nil => simp [pickPort]
  | cons a l ih =>
    obtain ⟨first, rest⟩ := List.pairwise_cons.1 hl
    rw [pickPort, ticketsBelow_cons]
    by_cases hp : p = a
    · subst hp
      have zero : ticketsBelow s l p = 0 := ticketsBelow_of_le fun q hq => (first q hq).le
      have away : p ∉ l := fun h => absurd (first p h) (by omega)
      split
      · next hx => simpa [zero] using hx
      · next hx =>
        rw [ih rest]
        simp only [away, zero, List.mem_cons, true_or, lt_irrefl, if_false, false_and, true_and, false_iff]
        omega
    · split
      · next hx =>
        have ne : (some a = some p) ↔ False := by simpa using Ne.symm hp
        rw [ne, false_iff]
        rintro ⟨hm, hle, -⟩
        have lt := first p ((List.mem_cons.1 hm).resolve_left hp)
        rw [if_pos lt] at hle
        omega
      · next hx =>
        rw [ih rest, List.mem_cons]
        simp only [hp, false_or]
        refine and_congr_right fun hm => ?_
        rw [if_pos (first p hm)]
        omega

theorem pickPort_eq_none {l : List Nat} {x : Nat} : pickPort s l x = none ↔ (l.map (tickets s)).sum ≤ x := by
  induction l generalizing x with
  | nil => simp [pickPort]
  | cons a l ih =>
    rw [pickPort, List.map_cons, List.sum_cons]
    split
    · next h =>
      simp only [reduceCtorEq, false_iff]
      omega
    · rw [ih]
      omega

theorem mem_of_pickPort {l : List Nat} {x : Nat} (h : pickPort s l x = some p) : p ∈ l := by
  induction l generalizing x with
  | nil => cases h
  | cons a l ih =>
    rw [pickPort] at h
    split at h
    · cases h
      exact List.mem_cons_self
    · exact List.mem_cons_of_mem a (ih h)

/-! ### Ages (R294) -/

/-- A port's ARB_STAT. -/
def ageA (p : Nat) : Nat := R.arbStat + 4 * p

theorem ageA_inj {q : Nat} : ageA p = ageA q ↔ p = q := by
  unfold ageA
  omega

/-- An eligible port that does not win ages. -/
def ageOne (win : Option Nat) (p : Nat) (s : State) : State :=
  if win = some p then s else count 0x12 p (sf (ageA p) 0 6 (min 32 (ageOf s p + 1)) s)

theorem touches_count (l : List Nat) (ev q : Nat) (s : State) : Touches l s (count ev q s) := .of_regs_eq rfl ⟨rfl, rfl, rfl⟩

theorem ageOne_spec (win : Option Nat) (p : Nat) (s : State) : Touches [ageA p] s (ageOne win p s) ∧ (ageOne win p s).arb = s.arb ∧
    (win = some p → ageOne win p s = s) ∧ (win ≠ some p → gf (ageOne win p s) (ageA p) 0 6 = min 32 (gf s (ageA p) 0 6 + 1)) := by
  unfold ageOne
  split
  · next h => exact ⟨.refl _ s, rfl, fun _ => rfl, fun hn => absurd h hn⟩
  · next h =>
    refine ⟨(Touches.sf (by simp) 0 6 _ s).trans (touches_count _ _ _ _), ?_, fun hw => absurd hw h, fun _ => ?_⟩
    · rw [count, countBy_arb, sf_arb]
    · rw [count, gf_countBy, gf_sf_same _ _ _ _ _ (by decide), Nat.mod_eq_of_lt]
      · rfl
      · omega

/-- All eligible ports age but the winner. -/
theorem each_ageOne_spec (win : Option Nat) {l : List Nat} (hl : l.Nodup) (s : State) :
    Touches (l.map ageA) s (each (ageOne win) l s) ∧ (each (ageOne win) l s).arb = s.arb ∧
      ∀ q, q ∈ l → win ≠ some q → gf (each (ageOne win) l s) (ageA q) 0 6 = min 32 (gf s (ageA q) 0 6 + 1) := by
  induction l generalizing s with
  | nil => exact ⟨.refl _ s, rfl, by simp⟩
  | cons a l ih =>
    obtain ⟨away, rest⟩ := List.nodup_cons.1 hl
    obtain ⟨ht1, ha1, -, hage1⟩ := ageOne_spec win a s
    rw [each]
    obtain ⟨ht, ha, hage⟩ := ih rest (ageOne win a s)
    refine ⟨(ht1.mono (by simp)).trans (ht.mono (by simp)), ha.trans ha1, fun q hq hw => ?_⟩
    by_cases h : q = a
    · subst h
      rw [← hage1 hw]
      refine congrArg (fld · 0 6) (ht.2 _ ?_)
      simpa [ageA_inj] using away
    · rw [hage q ((List.mem_cons.1 hq).resolve_left h) hw]
      have same : gf (ageOne win a s) (ageA q) 0 6 = gf s (ageA q) 0 6 := congrArg (fld · 0 6) (ht1.2 _ (by simpa [ageA_inj] using h))
      rw [same]

/-! ### The draw (R292) -/

/-- The value of the LFSR that a draw uses. -/
def drawWord (s : State) : Word := if s.arb.seedNew then rd s R.arbSeed else s.arb.lfsr

/-- The tickets of the eligible ports. -/
def allTickets (s : State) : Nat := ((eligible s).map (tickets s)).sum

/-- The winner of a draw. -/
def winner (s : State) : Option Nat :=
  if allTickets s = 0 then none else pickPort s (eligible s) ((drawWord s).toNat * allTickets s / 2 ^ 32)

/-- The LFSR has stepped. -/
def stepLfsr (s : State) : State := { s with arb := { s.arb with lfsr := lfsrStep (drawWord s), seedNew := false } }

theorem draw_eq (s : State) : draw s = match winner s with
    | some p => count 0x10 p (grantTo p false (each (ageOne (winner s)) (eligible s) (stepLfsr s)))
    | none => collectAged (each (ageOne (winner s)) (eligible s) (stepLfsr s)) := (rfl)

theorem eligible_sorted (s : State) : (eligible s).Pairwise (· < ·) := (List.pairwise_lt_range).filter _

theorem winner_eq_some : winner s = some p ↔
    p ∈ eligible s ∧ ticketsBelow s (eligible s) p ≤ (drawWord s).toNat * allTickets s / 2 ^ 32 ∧
      (drawWord s).toNat * allTickets s / 2 ^ 32 < ticketsBelow s (eligible s) p + tickets s p := by
  unfold winner
  split
  · next h =>
    simp only [reduceCtorEq, false_iff, not_and, h, Nat.mul_zero, Nat.zero_div]
    intro hm _
    have le : tickets s p ≤ allTickets s := List.single_le_sum (by simp) _ (List.mem_map_of_mem hm)
    have below : ticketsBelow s (eligible s) p ≤ allTickets s := List.Sublist.sum_le_sum (List.filter_sublist.map _) (by simp)
    omega
  · exact pickPort_eq_some (eligible_sorted s) _

/-- A draw of some ticket always has a winner. -/
theorem winner_eq_none (h : winner s = none) : allTickets s = 0 := by
  unfold winner at h
  split at h
  · assumption
  · next hne =>
    rw [pickPort_eq_none] at h
    have lt : (drawWord s).toNat * allTickets s / 2 ^ 32 < allTickets s := by
      rw [Nat.div_lt_iff_lt_mul (by decide), Nat.mul_comm]
      exact Nat.mul_lt_mul_of_pos_left (drawWord s).isLt (Nat.pos_of_ne_zero hne)
    exact absurd (lt.trans_le h) (lt_irrefl _)

/-! ### Grants (R292, R294) -/

/-- The bursts of a grant. -/
def grantLen (s : State) (p : Nat) : Nat := gf s (R.arbTkt0 + 4 * p) 8 3 + 1

theorem grantTo_spec (p : Nat) (aging : Bool) (s : State) : Touches [ageA p] s (grantTo p aging s) ∧
    (grantTo p aging s).arb = { s.arb with grant := some (p, grantLen (sf (ageA p) 0 6 0 s) p), aging } ∧
    gf (grantTo p aging s) (ageA p) 0 6 = 0 :=
  ⟨(Touches.sf (List.mem_singleton_self _) 0 6 0 s).trans (.of_regs_eq rfl ⟨rfl, rfl, rfl⟩), rfl, gf_sf_same s _ 0 6 0 (by decide)⟩

/-- Changes of ages leave the lengths of grants. -/
theorem grantLen_congr {l : List Nat} (ht : Touches (l.map ageA) s t) (hl : ∀ q ∈ l, q < 12) (hp : p < 12) : grantLen t p = grantLen s p := by
  unfold grantLen gf
  rw [ht.2]
  simp only [List.mem_map, not_exists, not_and, ageA, R.arbStat, R.arbTkt0]
  intro q hq
  have := hl q hq
  omega

theorem collectAged_of_empty (h : s.arb.due = []) :
    collectAged s = { s with arb := { s.arb with due := (List.range 12).filter (fun p => decide (32 ≤ ageOf s p)) } } :=
  if_pos (by rw [h]; rfl)

theorem collectAged_spec (s : State) : (collectAged s).regs = s.regs ∧ Touches [] s (collectAged s) ∧ (collectAged s).arb.grant = s.arb.grant ∧
    (collectAged s).arb.queues = s.arb.queues ∧ (collectAged s).arb.issued = s.arb.issued ∧ (collectAged s).arb.inbox = s.arb.inbox := by
  unfold collectAged
  split
  · exact ⟨rfl, .of_regs_eq rfl ⟨rfl, rfl, rfl⟩, rfl, rfl, rfl, rfl⟩
  · exact ⟨rfl, .refl _ s, rfl, rfl, rfl, rfl⟩

/-- The eligible ports, as O39 writes them. -/
theorem eligible_eq (s : State) : eligible s = (List.range 12).filter (fun q => decide (portQ s q ≠ [])) := by
  unfold eligible
  refine List.filter_congr fun q _ => ?_
  cases portQ s q <;> rfl

theorem eligible_lt {q : Nat} (h : q ∈ eligible s) : q < 12 := List.mem_range.1 (List.mem_filter.1 h).1

/-- What a draw leaves. -/
theorem draw_spec (p : Nat) (hg : s.arb.grant = none) (hd : s.arb.due = []) : Touches ((eligible s).map ageA) s (draw s) ∧
    (draw s).arb.lfsr = lfsrStep (drawWord s) ∧ (draw s).arb.seedNew = false ∧ (draw s).arb.queues = s.arb.queues ∧
    (winner s = none → (draw s).arb.grant = none) ∧ (∀ q, winner s = some q → ∃ n, (draw s).arb.grant = some (q, n)) ∧
    ((draw s).arb.grant = none → (draw s).arb.due = (List.range 12).filter (fun q => decide (32 ≤ gf (draw s) (ageA q) 0 6))) ∧
    (winner s = some p → (draw s).arb.grant = some (p, grantLen s p) ∧ gf (draw s) (ageA p) 0 6 = 0) ∧
    (p ∈ eligible s → winner s ≠ some p → gf (draw s) (ageA p) 0 6 = min 32 (gf s (ageA p) 0 6 + 1)) := by
  have step : Touches [] s (stepLfsr s) := .of_regs_eq rfl ⟨rfl, rfl, rfl⟩
  obtain ⟨ht, ha, hage⟩ := each_ageOne_spec (winner s) ((eligible_sorted s).imp (fun h => ne_of_lt h)) (stepLfsr s)
  have aged := (step.mono (by simp)).trans ht
  have arb1 : (stepLfsr s).arb = { s.arb with lfsr := lfsrStep (drawWord s), seedNew := false } := rfl
  have age1 (q : Nat) : gf (stepLfsr s) (ageA q) 0 6 = gf s (ageA q) 0 6 := rfl
  rw [draw_eq]
  generalize each (ageOne (winner s)) (eligible s) (stepLfsr s) = u at *
  rw [arb1] at ha
  cases hw : winner s with
  | none =>
    have due : u.arb.due = [] := by rw [ha]; exact hd
    obtain ⟨-, hc, hgrant, hq, -, -⟩ := collectAged_spec u
    refine ⟨aged.trans (hc.mono (by simp)), ?_, ?_, ?_, ?_, by simp, ?_, by simp, fun hm _ => ?_⟩
    · dsimp only
      rw [collectAged_of_empty due, ha]
    · dsimp only
      rw [collectAged_of_empty due, ha]
    · dsimp only
      rw [hq, ha]
    · intro _
      dsimp only
      rw [hgrant, ha]
      exact hg
    · intro _
      dsimp only
      rw [collectAged_of_empty due]
      rfl
    · dsimp only
      rw [gf_of_regs (collectAged_spec u).1, hage p hm (by rw [hw]; simp), age1]
  | some v =>
    have vel : v ∈ eligible s := (winner_eq_some.1 hw).1
    obtain ⟨hg1, harb, hzero⟩ := grantTo_spec v false u
    have len : grantLen (sf (ageA v) 0 6 0 u) v = grantLen s v := by
      refine grantLen_congr (l := eligible s) (aged.trans (.sf (List.mem_map_of_mem vel) 0 6 0 u)) (fun q hq => eligible_lt hq) (eligible_lt vel)
    rw [len, ha] at harb
    have touched : Touches ((eligible s).map ageA) s (count 0x10 v (grantTo v false u)) :=
      (aged.trans (hg1.mono (by simpa using ⟨v, vel, rfl⟩))).trans (touches_count _ _ _ _)
    have arbEq : (count 0x10 v (grantTo v false u)).arb = (grantTo v false u).arb := countBy_arb ..
    refine ⟨touched, ?_, ?_, ?_, by simp, ?_, ?_, ?_, ?_⟩
    · dsimp only
      rw [arbEq, harb]
    · dsimp only
      rw [arbEq, harb]
    · dsimp only
      rw [arbEq, harb]
    · rintro q ⟨⟩
      dsimp only
      rw [arbEq, harb]
      exact ⟨_, rfl⟩
    · dsimp only
      rw [arbEq, harb]
      intro h
      cases h
    · rintro ⟨⟩
      dsimp only
      rw [arbEq, harb]
      exact ⟨rfl, hzero⟩
    · intro hm hne
      have ne : p ≠ v := fun h => hne (by rw [h])
      have kept : gf (grantTo v false u) (ageA p) 0 6 = gf u (ageA p) 0 6 := congrArg (fld · 0 6) (hg1.2 _ (by simpa [ageA_inj] using ne))
      dsimp only
      rw [count, gf_countBy, kept, hage p hm (by rw [hw]; exact hne), age1]

theorem exec_arbiterDraw (s : State) : exec .arbiterDraw s = clocked s (fun t => if drawDue t then draw t else t) := (rfl)

theorem drawDue_of (hm : memReady s = true) (hg : s.arb.grant = none) (hd : s.arb.due = []) (he : eligible s ≠ []) : drawDue s = true := by
  unfold drawDue
  rw [hm, hg, hd]
  simpa using he

/-- An aging grant: to the first port due, if it has a request. -/
theorem agingGrant_answers (ho : Operating s) (hm : memReady s = true) (hp : p < 12) (hg : s.arb.grant = none) (hd : s.arb.due.head? = some p) :
    ∃ t, exec .agingGrant s = .next t ∧ t.arb.due = s.arb.due.tail ∧ t.arb.lfsr = s.arb.lfsr ∧
      (portQ s p = [] → t.arb.grant = none ∧ OnlyRegs [] s t) ∧
      (portQ s p ≠ [] → t.arb.grant = some (p, grantLen s p) ∧ gf t (ageA p) 0 6 = 0 ∧ OnlyRegs [ageA p] s t) := by
  obtain ⟨l, hl⟩ := List.head?_eq_some_iff.1 hd
  have due : agingDue s = true := by
    unfold agingDue
    rw [hm, hg, hl]
    rfl
  have runs : exec .agingGrant s = clocked s (fun t => if agingDue t then agingGrant t else t) := (rfl)
  generalize hu : ({ s with arb := { s.arb with due := l } } : State) = u
  have popped : Touches [] s u := by
    rw [← hu]
    exact .of_regs_eq rfl ⟨rfl, rfl, rfl⟩
  have arb1 : u.arb = { s.arb with due := l } := by rw [← hu]
  have steps : agingGrant s = if (portQ s p).isEmpty then u else count 0x13 p (bump (ageA p) 16 8 (grantTo p true u)) := by
    unfold agingGrant
    rw [hl, ← hu]
    rfl
  cases he : portQ s p with
  | nil =>
    rw [he] at steps
    replace steps := steps.trans (if_pos rfl)
    refine ⟨_, runs.trans (popped.clocked ho ((if_pos due).trans steps)), ?_, ?_, fun _ => ⟨?_, popped.onlyRegs⟩, fun h => absurd rfl h⟩
    · rw [arb1, hl]
      rfl
    · rw [arb1]
    · rw [arb1]
      exact hg
  | cons r q =>
    rw [he] at steps
    replace steps := steps.trans (if_neg (by simp))
    obtain ⟨ht, harb, hzero⟩ := grantTo_spec p true u
    have len : grantLen (sf (ageA p) 0 6 0 u) p = grantLen s p := by
      refine grantLen_congr (l := [p]) (Touches.trans (popped.mono (by simp)) (.sf (by simp) 0 6 0 u)) (by simpa using hp) hp
    rw [len, arb1] at harb
    have touched : Touches [ageA p] s (count 0x13 p (bump (ageA p) 16 8 (grantTo p true u))) :=
      (((popped.mono (by simp)).trans ht).trans (.bump (by simp) 16 8 _)).trans (touches_count _ _ _ _)
    have arbEq : (count 0x13 p (bump (ageA p) 16 8 (grantTo p true u))).arb = (grantTo p true u).arb :=
      (countBy_arb ..).trans (bump_arb ..)
    refine ⟨_, runs.trans (touched.clocked ho ((if_pos due).trans steps)), ?_, ?_, fun h => by simp at h, fun _ => ⟨?_, ?_, touched.onlyRegs⟩⟩
    · rw [arbEq, harb, hl]
      rfl
    · rw [arbEq, harb]
    · rw [arbEq, harb]
    · rw [count, gf_countBy, gf_bump_of_disjoint _ _ (by decide) (by decide), hzero]

/-! ### The grant stands while bursts are routed (R288) -/

theorem grant_setPortQ (p : Nat) (l : List Req) (s : State) : (setPortQ p l s).arb.grant = s.arb.grant := by
  unfold setPortQ
  dsimp only
  split
  · rw [sf_arb]
  · rfl

theorem grant_enq (r : Req) (s : State) : (enq r s).arb.grant = s.arb.grant := by
  unfold enq
  split
  · exact grant_setPortQ _ _ s
  · rfl

theorem regs_enq (r : Req) (s : State) : (enq r s).regs = s.regs := by rw [enq_arb]

theorem grant_withdraw (p : Nat) (who : Who → Bool) (s : State) : (withdraw p who s).arb.grant = s.arb.grant := by
  unfold withdraw mapPortQ
  dsimp only
  rw [grant_setPortQ]
  exact whenB_keeps (f := bump (R.arbStat + 4 * p) 24 8) (fun u => u.arb.grant) (by rw [bump_arb]) _

section jobs
variable {β : Type} (g : State → β) (hq : ∀ r u, g (enq r u) = g u) (hc : ∀ c f u, g (updCls c f u) = g u)
  (hj : ∀ l (u : State), g { u with hostJobs := l } = g u)

include hq in
theorem postBursts_keeps (p : Nat) (who : Who) (write : Bool) (l : List Nat) (s : State) : g (postBursts p who write l s).2 = g s := by
  induction l generalizing s with
  | nil => rfl
  | cons b l ih =>
    unfold postBursts
    split
    · rw [ih, hq]
    · rfl

include hq hj in
theorem postJob_keeps (s : State) : g (postJob s) = g s := by
  unfold postJob
  split
  · rfl
  · dsimp only
    split
    · rw [hj, postBursts_keeps g hq]
    · split
      · rw [hj]
      · rfl

include hq in
theorem postWrites_keeps (s : State) : g (postWrites s) = g s := by
  unfold postWrites
  split
  · split
    · refine each_keeps g _ (fun b u => ?_) _ _
      split
      · exact hq _ _
      · rfl
    · rfl
  · rfl

include hc hj in
theorem endJob_keeps (s : State) : g (endJob s) = g s := by
  have answered (cls opc tag status : Nat) (p0 p1 : Nat) (data : List Byte) (u : State) : g (complete cls opc tag status p0 p1 data u) = g u := by
    unfold complete sendPacket
    exact hc _ _ u
  have freed (k : Nat) (l : List HostJob) : g (freeFlits 2 k { s with hostJobs := l }) = g s := (hc _ _ _).trans (hj l s)
  unfold endJob
  split
  · split
    · rfl
    · dsimp only
      split
      · rw [answered, freed]
      · split <;> rw [answered, freed]
  · rfl

include hq hc hj in
theorem jobArrive_keeps (o : Nat) (data : Option (List Byte)) (s : State) : g (jobArrive o data s) = g s := by
  unfold jobArrive
  split
  · unfold pumpJobs
    rw [postWrites_keeps g hq, postJob_keeps g hq hj, endJob_keeps g hc hj, hj]
  · rfl

end jobs

theorem grant_rcArrive (n : Nat) (restore : Bool) (i : Nat) (d : Option (List Byte)) (s : State) :
    (rcArrive n restore i d s).arb.grant = s.arb.grant := by
  unfold rcArrive
  split
  · rw [updRc, updChan_arb, sb_arb, flag_arb]
  · dsimp only
    rw [updRc, updChan_arb]
    split
    · exact each_keeps (fun u => u.arb.grant) _ (fun j u => by rw [rcStore, updRc, updChan_arb]) _ _
    · rfl

theorem grant_calArrive (n i : Nat) (d : Option (List Byte)) (s : State) : (calArrive n i d s).arb.grant = s.arb.grant := by
  unfold calArrive
  split
  · rfl
  · unfold calEnd
    rw [flag_arb, sb_arb, updChan_arb, grant_withdraw]
  · rw [updChan_arb]
    exact each_keeps (fun u => u.arb.grant) _ (fun j u => by rw [wr_arb, wr_arb]) _ _

theorem grant_mirrorEnd (q : Nat) (s : State) : (mirrorEnd q s).arb.grant = s.arb.grant := by
  unfold mirrorEnd showMirror
  split
  · rfl
  · dsimp only
    rw [wr_arb]

theorem grant_jobArrive (o : Nat) (d : Option (List Byte)) (s : State) : (jobArrive o d s).arb.grant = s.arb.grant :=
  jobArrive_keeps (fun u => u.arb.grant) grant_enq (fun c f u => congrArg Arb.grant (updCls_arb u c f)) (fun _ _ => rfl) o d s

theorem regs_jobArrive (o : Nat) (d : Option (List Byte)) (s : State) : (jobArrive o d s).regs = s.regs :=
  jobArrive_keeps State.regs regs_enq (fun c f u => updCls_regs u c f) (fun _ _ => rfl) o d s

theorem grant_routeOne (e : Req × Option (List Byte)) (s : State) : (routeOne e s).arb.grant = s.arb.grant := by
  have dropped : (dropInbox e s).arb.grant = s.arb.grant := rfl
  unfold routeOne
  cases e.1.who with
  | hostWr => exact (grant_jobArrive _ _ _).trans dropped
  | hostRd => exact (grant_jobArrive _ _ _).trans dropped
  | rcBackup n i => exact (grant_rcArrive _ _ _ _ _).trans dropped
  | rcRestore n i => exact (grant_rcArrive _ _ _ _ _).trans dropped
  | calLd n i => exact (grant_calArrive _ _ _ _).trans dropped
  | log i => exact (grant_mirrorEnd _ _).trans dropped
  | _ => rfl

theorem grant_route (s : State) : (route s).arb.grant = s.arb.grant := each_keeps (fun u => u.arb.grant) routeOne grant_routeOne _ s

/-! ### A burst of the grant (R286, R293) -/

/-- The head of the granted queue has been taken. -/
def takeHead (p k : Nat) (q : List Req) (s : State) : State :=
  let u := setPortQ p q s
  { u with arb := { u.arb with grant := some (p, k - 1) } }

/-- A burst waits with its requester. -/
def bringBack (e : Req × Option (List Byte)) (s : State) : State := { s with arb := { s.arb with inbox := s.arb.inbox ++ [e] } }

/-- A read is on its way. -/
def sendOut (x : Flight) (s : State) : State := { s with arb := { s.arb with issued := s.arb.issued ++ [x] } }

/-- The bytes that a request writes. -/
def burstBytes (s : State) (r : Req) : List (Nat × Byte) := if inFitted s r.offset && r.write then writeData s r else []

/-- The flight of a read. -/
def burstFlight (s : State) (r : Req) : Flight := { req := r, data := readData s r, bad := s.badBursts.contains r.offset }

/-- What becomes of a request that is issued. -/
def performBurst (r : Req) (out : List (Nat × Byte)) (x : Flight) (s : State) : State :=
  if !inFitted s r.offset then bringBack (r, none) s
  else if r.write then rewrite r.offset out (bringBack (r, some (out.map (·.2))) s)
  else sendOut x s

/-- A burst of the grant, with what it leaves of the grant. -/
def grantedBurst (p k : Nat) (r : Req) (q : List Req) (s : State) : State :=
  let u := performBurst r (burstBytes s r) (burstFlight s r) (takeHead p k q s)
  let v := whenB (inFitted u r.offset) (count 0x11 p) u
  if k ≤ 1 ∨ q.isEmpty then grantEnd v else v

theorem issueBurst_eq {r : Req} {q : List Req} (hg : s.arb.grant = some (p, k)) (hq : portQ s p = r :: q) :
    issueBurst s = (grantedBurst p k r q s, burstBytes s r) := by
  unfold issueBurst
  rw [hg]
  dsimp only
  rw [hq]
  rfl

theorem issueBurst_empty (hg : s.arb.grant = some (p, k)) (hq : portQ s p = []) : issueBurst s = (grantEnd s, []) := by
  unfold issueBurst
  rw [hg]
  dsimp only
  rw [hq]

/-- What the arbiter's change of a burst leaves: registers but the port's AGE, and the memory. -/
theorem takeHead_spec (p k : Nat) (q : List Req) (s : State) : Touches [ageA p] s (takeHead p k q s) ∧
    (takeHead p k q s).arb.grant = some (p, k - 1) ∧ portQ (takeHead p k q s) p = q ∧
    (takeHead p k q s).arb.inbox = s.arb.inbox ∧ (takeHead p k q s).arb.issued = s.arb.issued := by
  have queued : portQ (setPortQ p q s) p = q ∧ (setPortQ p q s).arb.inbox = s.arb.inbox ∧ (setPortQ p q s).arb.issued = s.arb.issued := by
    unfold setPortQ portQ
    dsimp only
    split
    · rw [sf_arb]
      exact ⟨Map.get_put_same _ _ _ _, rfl, rfl⟩
    · exact ⟨Map.get_put_same _ _ _ _, rfl, rfl⟩
  unfold takeHead
  dsimp only
  have ht := touches_setPortQ p q s
  obtain ⟨hq, hi, hs⟩ := queued
  generalize setPortQ p q s = u at *
  exact ⟨ht.trans (.of_regs_eq rfl ⟨rfl, rfl, rfl⟩), rfl, hq, hi, hs⟩

theorem inFitted_congr {o : Nat} (h : rd t R.memCfg = rd s R.memCfg) : inFitted t o = inFitted s o := by
  unfold inFitted
  rw [memSize_congr h]

theorem rewrite_spec (o : Nat) (out : List (Nat × Byte)) (s : State) : (rewrite o out s).regs = s.regs ∧ Touches [] s (rewrite o out s) ∧
    (rewrite o out s).arb.grant = s.arb.grant ∧ (rewrite o out s).arb.queues = s.arb.queues ∧ (rewrite o out s).arb.inbox = s.arb.inbox := by
  unfold rewrite
  split
  · exact ⟨rfl, .refl _ s, rfl, rfl, rfl⟩
  · exact ⟨rfl, .of_regs_eq rfl ⟨rfl, rfl, rfl⟩, rfl, rfl, rfl⟩

/-- The three ways of a burst: beyond the fitted DDR5, a write, a read. -/
theorem performBurst_spec (r : Req) (out : List (Nat × Byte)) (x : Flight) (s : State) :
    (performBurst r out x s).regs = s.regs ∧ Touches [] s (performBurst r out x s) ∧
    (performBurst r out x s).arb.grant = s.arb.grant ∧ (performBurst r out x s).arb.queues = s.arb.queues ∧
    (inFitted s r.offset = false → (performBurst r out x s).arb.inbox = s.arb.inbox ++ [(r, none)] ∧
      (performBurst r out x s).arb.issued = s.arb.issued) ∧
    (inFitted s r.offset = true → r.write = true → (performBurst r out x s).arb.inbox = s.arb.inbox ++ [(r, some (out.map (·.2)))]) ∧
    (inFitted s r.offset = true → r.write = false → (performBurst r out x s).arb.inbox = s.arb.inbox ∧
      (performBurst r out x s).arb.issued = s.arb.issued ++ [x]) := by
  unfold performBurst
  cases inFitted s r.offset
  · exact ⟨rfl, .of_regs_eq rfl ⟨rfl, rfl, rfl⟩, rfl, rfl, fun _ => ⟨rfl, rfl⟩, by simp, by simp⟩
  · cases r.write
    · exact ⟨rfl, .of_regs_eq rfl ⟨rfl, rfl, rfl⟩, rfl, rfl, by simp, by simp, fun _ _ => ⟨rfl, rfl⟩⟩
    · obtain ⟨hr, ht, hg, hq, hi⟩ := rewrite_spec r.offset out (bringBack (r, some (out.map (·.2))) s)
      have back : Touches [] s (bringBack (r, some (out.map (·.2))) s) := .of_regs_eq rfl ⟨rfl, rfl, rfl⟩
      exact ⟨hr, back.trans ht, hg, hq, by simp, fun _ _ => hi, by simp⟩

theorem grantEnd_spec (s : State) : Touches [] s (grantEnd s) ∧ (grantEnd s).arb.grant = none ∧ (grantEnd s).arb.queues = s.arb.queues ∧
    (grantEnd s).arb.issued = s.arb.issued ∧ (grantEnd s).arb.inbox = s.arb.inbox := by
  unfold grantEnd
  generalize hu : ({ s with arb := { s.arb with grant := none, aging := false } } : State) = u
  have ended : Touches [] s u := by
    rw [← hu]
    exact .of_regs_eq rfl ⟨rfl, rfl, rfl⟩
  have arb1 : u.arb = { s.arb with grant := none, aging := false } := by rw [← hu]
  obtain ⟨-, ht, hg, hq, hs, hi⟩ := collectAged_spec u
  rw [arb1] at hg hq hs hi
  exact ⟨ended.trans ht, hg, hq, hs, hi⟩

/-- What a burst of the grant leaves of the arbiter and the registers. -/
theorem grantedBurst_spec (hp : p < 12) (k : Nat) (r : Req) (q : List Req) (s : State) : Touches [ageA p] s (grantedBurst p k r q s) ∧
    (grantedBurst p k r q s).arb.grant = (if k ≤ 1 ∨ q = [] then none else some (p, k - 1)) ∧ portQ (grantedBurst p k r q s) p = q ∧
    (inFitted s r.offset = false → (grantedBurst p k r q s).arb.inbox = s.arb.inbox ++ [(r, none)] ∧
      (grantedBurst p k r q s).arb.issued = s.arb.issued) ∧
    (inFitted s r.offset = true → r.write = true →
      (grantedBurst p k r q s).arb.inbox = s.arb.inbox ++ [(r, some ((burstBytes s r).map (·.2)))]) ∧
    (inFitted s r.offset = true → r.write = false → (grantedBurst p k r q s).arb.inbox = s.arb.inbox ∧
      (grantedBurst p k r q s).arb.issued = s.arb.issued ++ [burstFlight s r]) := by
  obtain ⟨ht1, hg1, hq1, hi1, hs1⟩ := takeHead_spec p k q s
  have fits1 : inFitted (takeHead p k q s) r.offset = inFitted s r.offset :=
    inFitted_congr (ht1.2 _ (by simp only [ageA, R.memCfg, R.arbStat, List.mem_singleton]; omega))
  unfold grantedBurst
  dsimp only
  generalize takeHead p k q s = a at *
  obtain ⟨-, ht2, hg2, hq2, hout, hwr, hrd⟩ := performBurst_spec r (burstBytes s r) (burstFlight s r) a
  rw [fits1, hi1, hs1] at hout
  rw [fits1, hi1] at hwr
  rw [fits1, hi1, hs1] at hrd
  generalize performBurst r (burstBytes s r) (burstFlight s r) a = b at *
  have ht3 : Touches [ageA p] b (whenB (inFitted b r.offset) (count 0x11 p) b) := .whenB _ (touches_count _ _ _ _)
  have ha3 : (whenB (inFitted b r.offset) (count 0x11 p) b).arb = b.arb := whenB_keeps State.arb (countBy_arb ..) _
  generalize whenB (inFitted b r.offset) (count 0x11 p) b = c at *
  have ht := (ht1.trans (ht2.mono (by simp))).trans ht3
  have queue : portQ c p = q := by
    rw [portQ, ha3, hq2]
    exact hq1
  have cond : (k ≤ 1 ∨ q.isEmpty = true) ↔ (k ≤ 1 ∨ q = []) := by rw [List.isEmpty_iff]
  by_cases h : k ≤ 1 ∨ q = []
  · rw [if_pos (cond.2 h), if_pos h]
    obtain ⟨ht4, hg4, hq4, hs4, hi4⟩ := grantEnd_spec c
    rw [ha3] at hs4 hi4
    generalize grantEnd c = d at *
    refine ⟨ht.trans (ht4.mono (by simp)), hg4, ?_, ?_, ?_, ?_⟩
    · rw [portQ, hq4]
      exact queue
    · rw [hi4, hs4]
      exact hout
    · rw [hi4]
      exact hwr
    · rw [hi4, hs4]
      exact hrd
  · rw [if_neg (mt cond.1 h), if_neg h, ha3]
    exact ⟨ht, hg2.trans hg1, queue, hout, hwr, hrd⟩

/-- The effect of a burst's command, and the bytes it writes. -/
def burstEffect (s : State) : State × List (Nat × Byte) :=
  if issueDue s then (route (issueBurst s).1, (issueBurst s).2) else (s, [])

/-- A burst's command answers with what the burst leaves, its returned data routed, and its bytes in DDR5. -/
theorem burstIssue_answers {v : State} {out : List (Nat × Byte)} (ho : Operating s) (hm : memReady s = true) (hg : s.arb.grant ≠ none)
    (hi : issueBurst s = (v, out)) : ∃ t, exec .burstIssue s = .next t ∧ t.arb = (route v).arb ∧ t.regs = (route v).regs ∧
      t.ddr = Memory.writes out s.ddr := by
  have due : issueDue s = true := by
    unfold issueDue
    rw [hm, Option.isSome_iff_ne_none.2 hg]
    rfl
  have runs : exec .burstIssue s = clockedMem s burstEffect := (rfl)
  have acts : burstEffect s = (route v, out) := by
    unfold burstEffect
    rw [if_pos due, hi]
  rw [runs, clockedMem_acts ho.1 ho.2, acts]
  exact ⟨_, rfl, rfl, rfl, rfl⟩

/-- Bytes that all have their own places: a place reads its own. -/
theorem read_writes_of_mem {l : List (Nat × Byte)} (hd : (l.map (·.1)).Nodup) (m : Memory) {x : Nat × Byte} (hx : x ∈ l) :
    Memory.read (Memory.writes l m) x.1 = x.2 := by
  induction l generalizing m with
  | nil => cases hx
  | cons y l ih =>
    obtain ⟨away, rest⟩ := List.nodup_cons.1 hd
    rw [Memory.writes]
    rcases List.mem_cons.1 hx with rfl | hx
    · rw [Memory.read_writes_of_not_mem l _ _ (fun z hz e => away (List.mem_map.2 ⟨z, hz, e⟩)), Memory.read_write_same]
    · exact ih rest _ hx

/-! ### A host write (R289) -/

theorem mem_memRun {o : Nat} {l : List Byte} {x : Nat × Byte} : x ∈ memRun o l ↔ o ≤ x.1 ∧ x.1 < o + l.length ∧ x.2 = l.getD (x.1 - o) 0 := by
  induction l generalizing o with
  | nil => simp [memRun]; omega
  | cons b l ih =>
    rw [memRun, List.mem_cons, ih]
    obtain ⟨a, c⟩ := x
    constructor
    · rintro (h | ⟨h1, h2, h3⟩)
      · cases h
        simp
      · refine ⟨by dsimp only at *; omega, by simp only [List.length_cons]; omega, ?_⟩
        have : a - o = (a - (o + 1)) + 1 := by dsimp only at h1; omega
        dsimp only at h3 ⊢
        rw [this, List.getD_cons_succ, h3]
    · rintro ⟨h1, h2, h3⟩
      by_cases h : a = o
      · subst h
        left
        simp at h3
        rw [h3]
      · right
        have : a - o = (a - (o + 1)) + 1 := by dsimp only at h1; omega
        simp only [List.length_cons] at h2
        refine ⟨by dsimp only at *; omega, by omega, ?_⟩
        dsimp only at h3 ⊢
        rw [h3, this, List.getD_cons_succ]

theorem nodup_memRun (o : Nat) (l : List Byte) : ((memRun o l).map (·.1)).Nodup := by
  induction l generalizing o with
  | nil => exact List.nodup_nil
  | cons b l ih =>
    rw [memRun, List.map_cons, List.nodup_cons]
    refine ⟨fun h => ?_, ih (o + 1)⟩
    obtain ⟨x, hx, e⟩ := List.mem_map.1 h
    have := (mem_memRun.1 hx).1
    dsimp only at e
    omega

/-- The bytes of a run that a burst covers. -/
theorem read_writes_memRun (m : Memory) (off b o : Nat) (l : List Byte) :
    Memory.read (Memory.writes ((memRun off l).filter (fun x => decide (b ≤ x.1) && decide (x.1 < b + 64))) m) o =
      if b ≤ o ∧ o < b + 64 ∧ off ≤ o ∧ o < off + l.length then l.getD (o - off) 0 else Memory.read m o := by
  split
  · next h =>
    obtain ⟨h1, h2, h3, h4⟩ := h
    have hmem : (o, l.getD (o - off) 0) ∈ (memRun off l).filter (fun x => decide (b ≤ x.1) && decide (x.1 < b + 64)) := by
      rw [List.mem_filter, mem_memRun]
      exact ⟨⟨h3, h4, rfl⟩, by simp [h1, h2]⟩
    exact read_writes_of_mem ((nodup_memRun off l).sublist ((List.filter_sublist).map _)) m hmem
  · next h =>
    refine Memory.read_writes_of_not_mem _ _ _ fun x hx e => h ?_
    rw [List.mem_filter, mem_memRun] at hx
    obtain ⟨⟨h1, h2, -⟩, hb⟩ := hx
    simp only [Bool.and_eq_true, decide_eq_true_eq] at hb
    omega

/-! ### A spill (R301) -/

theorem ringRun_eq (base size pos : Nat) (l : List Byte) :
    ringRun base size pos l = (List.range l.length).map (fun i => (base + (pos + i) % size, l.getD i 0)) := by
  induction l generalizing pos with
  | nil => rfl
  | cons b l ih =>
    rw [ringRun, ih, List.length_cons, List.range_succ_eq_map, List.map_cons, List.map_map]
    refine congrArg₂ _ rfl (List.map_congr_left fun i _ => ?_)
    simp only [Function.comp_apply, List.getD_cons_succ]
    rw [Nat.add_assoc pos 1 i, Nat.add_comm 1 i]

/-- Places of a ring that are less than its size apart differ. -/
theorem nodup_ringRun (base : Nat) {size : Nat} (pos : Nat) {l : List Byte} (h : l.length ≤ size) : ((ringRun base size pos l).map (·.1)).Nodup := by
  rw [ringRun_eq, List.map_map]
  refine List.Nodup.map_on (fun i hi j hj e => ?_) List.nodup_range
  rw [List.mem_range] at hi hj
  have e' : (pos + i) % size = (pos + j) % size := by simpa using e
  have := (Nat.ModEq.add_left_cancel' pos e' : i ≡ j [MOD size])
  exact Nat.ModEq.eq_of_lt_of_lt this (by omega) (by omega)

theorem snd_ringRun (base size pos : Nat) (l : List Byte) : (ringRun base size pos l).map (·.2) = l := by
  induction l generalizing pos with
  | nil => rfl
  | cons b l ih => rw [ringRun, List.map_cons, ih]

/-- The bytes that a spill burst takes from the head: up to the end of a line of the ring, where it is the ring's next. -/
def spillBytes (s : State) (x o : Nat) : List Byte :=
  if o = ringBase s x + spillFrom s x / 64 * 64 % ringSize s x
  then ((strm s x).head.flatten.drop (spillFrom s x - (strm s x).wpos)).take (64 - spillFrom s x % 64) else []

theorem spillData_eq (s : State) (x o : Nat) : spillData s x o = ringRun (ringBase s x) (ringSize s x) (spillFrom s x) (spillBytes s x o) := by
  have line : lineFrom (spillFrom s x) 1 - spillFrom s x = 64 - spillFrom s x % 64 := by
    unfold lineFrom
    rw [if_neg (by decide)]
    omega
  unfold spillData spillBytes ringLine
  dsimp only
  rw [line]
  by_cases h : o = ringBase s x + spillFrom s x / 64 * 64 % ringSize s x
  · rw [if_pos h.symm, if_pos h]
  · rw [if_neg (Ne.symm h), if_neg h]
    rfl

theorem length_spillBytes (s : State) (x o : Nat) : (spillBytes s x o).length ≤ 64 := by
  unfold spillBytes
  split
  · exact (List.length_take_le _ _).trans (by omega)
  · exact Nat.zero_le _

/-- What the ring holds after the burst. -/
theorem read_writes_ringRun (m : Memory) (base : Nat) {size : Nat} (pos : Nat) {l : List Byte} (h : l.length ≤ size) :
    (∀ i, i < l.length → Memory.read (Memory.writes (ringRun base size pos l) m) (base + (pos + i) % size) = l.getD i 0) ∧
      (∀ o, o ∉ (List.range l.length).map (fun i => base + (pos + i) % size) →
        Memory.read (Memory.writes (ringRun base size pos l) m) o = Memory.read m o) := by
  refine ⟨fun i hi => ?_, fun o ho => ?_⟩
  · have hmem : (base + (pos + i) % size, l.getD i 0) ∈ ringRun base size pos l := by
      rw [ringRun_eq]
      exact List.mem_map.2 ⟨i, List.mem_range.2 hi, rfl⟩
    exact read_writes_of_mem (nodup_ringRun base pos h) m hmem
  · refine Memory.read_writes_of_not_mem _ _ _ fun x hx e => ho ?_
    rw [ringRun_eq] at hx
    obtain ⟨i, hi, rfl⟩ := List.mem_map.1 hx
    exact List.mem_map.2 ⟨i, hi, e⟩

/-! ### Assembly -/

section
variable {r : Req} {q : List Req}

/-- A burst whose requester waits for its own command is not routed further. -/
theorem route_grantedBurst_waits (hp : p < 12) (k : Nat) (q : List Req) (hr : Routed s) (hw : TakesAtOnce r.who = false) :
    route (grantedBurst p k r q s) = grantedBurst p k r q s := by
  obtain ⟨-, -, -, hout, hwr, hrd⟩ := grantedBurst_spec hp k r q s
  refine route_of_waits fun e he => ?_
  have old : e ∈ s.arb.inbox ∨ e.1 = r := by
    cases hf : inFitted s r.offset
    · rw [(hout hf).1, List.mem_append, List.mem_singleton] at he
      exact he.imp_right fun h => congrArg Prod.fst h
    · cases hwrite : r.write
      · rw [(hrd hf hwrite).1] at he
        exact .inl he
      · rw [hwr hf hwrite, List.mem_append, List.mem_singleton] at he
        exact he.imp_right fun h => congrArg Prod.fst h
  rcases old with h | h
  · exact hr e h
  · rw [h]
    exact hw

theorem each_append {α : Type} (f : α → State → State) (xs ys : List α) (s : State) : each f (xs ++ ys) s = each f ys (each f xs s) := by
  induction xs generalizing s with
  | nil => rfl
  | cons x xs ih => exact ih (f x s)

/-- A host write that has been issued is taken by its job, which changes no register. -/
theorem regs_route_hostWr (hp : p < 12) (k : Nat) (q : List Req) (hr : Routed s) (hw : r.who = .hostWr) (hwrite : r.write = true)
    (hf : inFitted s r.offset = true) : (route (grantedBurst p k r q s)).regs = (grantedBurst p k r q s).regs := by
  obtain ⟨-, -, -, -, hwr, -⟩ := grantedBurst_spec hp k r q s
  have inbox := hwr hf hwrite
  generalize grantedBurst p k r q s = v at *
  unfold route
  rw [inbox, each_append, each_id (xs := s.arb.inbox) (fun e he => routeOne_of_waits (hr e he) v)]
  show (routeOne _ v).regs = v.regs
  unfold routeOne
  rw [hw]
  exact (regs_jobArrive _ _ _).trans rfl

theorem inFitted_iff {o : Nat} : inFitted s o = true ↔ o + 64 ≤ memSize s := by
  unfold inFitted
  exact decide_eq_true_iff

/-- AGE registers alone change. -/
theorem regsExcept_ages {v t : State} (hp : p < 12) (hv : Touches [ageA p] s v) (ht : t.regs = v.regs) :
    RegsExcept ((List.range 12).map ageA) s t := by
  intro a ha
  have : rd t a = rd v a := congrArg (fun m => Map.get (resetWord a) m a) ht
  rw [this]
  refine hv.2 a fun hm => ha ?_
  rw [List.mem_singleton] at hm
  exact List.mem_map.2 ⟨p, List.mem_range.2 hp, hm.symm⟩

end

/-- What O39 says of a burst of the grant. -/
theorem burstIssue_spec (ho : Operating s) (hm : memReady s = true) (hp : p < 12) (hg : s.arb.grant = some (p, k)) {o : Nat} {r₀ : Req}
    {q : List Req} (hq : portQ s p = r₀ :: q) :
    ∃ t, exec .burstIssue s = .next t ∧ t.arb.grant = (if k ≤ 1 ∨ q = [] then none else some (p, k - 1)) ∧
      (r₀.write = false ∨ memSize s < r₀.offset + 64 → Routed s → TakesAtOnce r₀.who = false →
        portQ t p = q ∧ (memSize s < r₀.offset + 64 → t.arb.inbox = s.arb.inbox ++ [(r₀, none)] ∧ t.arb.issued = s.arb.issued) ∧
        (r₀.offset + 64 ≤ memSize s → t.arb.issued = s.arb.issued ++ [burstFlight s r₀] ∧ t.arb.inbox = s.arb.inbox) ∧
        OnlyRegs ((List.range 12).map ageA) s t) ∧
      (∀ j : HostJob, r₀.who = .hostWr → r₀.write = true → r₀.offset + 64 ≤ memSize s →
        s.hostJobs.find? (fun i => i.write && i.waiting.contains r₀.offset) = some j → j.data.length = j.len → Routed s →
        Memory.read t.ddr o = (if r₀.offset ≤ o ∧ o < r₀.offset + 64 ∧ j.off ≤ o ∧ o < j.off + j.len
          then j.data.getD (o - j.off) 0 else Memory.read s.ddr o) ∧ RegsExcept ((List.range 12).map ageA) s t) ∧
      (∀ x, r₀.who = .spill x → r₀.write = true → r₀.offset + 64 ≤ memSize s → 64 ≤ ringSize s x → Routed s →
        (∀ i, i < (spillBytes s x r₀.offset).length →
          Memory.read t.ddr (ringBase s x + (spillFrom s x + i) % ringSize s x) = (spillBytes s x r₀.offset).getD i 0) ∧
        (o ∉ (List.range (spillBytes s x r₀.offset).length).map (fun i => ringBase s x + (spillFrom s x + i) % ringSize s x) →
          Memory.read t.ddr o = Memory.read s.ddr o) ∧
        t.arb.inbox = s.arb.inbox ++ [(r₀, some (spillBytes s x r₀.offset))] ∧ RegsExcept ((List.range 12).map ageA) s t) := by
  obtain ⟨t, ht, harb, hregs, hddr⟩ := burstIssue_answers ho hm (by rw [hg]; simp) (issueBurst_eq hg hq)
  obtain ⟨hv, hgrant, hqueue, hout, hwr, hrd⟩ := grantedBurst_spec hp k r₀ q s
  refine ⟨t, ht, ?_, fun hread hr hw => ?_, fun j hwho hwrite hfit hjob hlen hr => ⟨?_, ?_⟩, fun x hwho hwrite hfit hsize hr => ?_⟩
  · rw [harb, grant_route, hgrant]
  · rw [route_grantedBurst_waits hp k q hr hw] at harb hregs
    have silent : burstBytes s r₀ = [] := by
      refine if_neg fun hc => ?_
      rw [Bool.and_eq_true, inFitted_iff] at hc
      rcases hread with h | h
      · exact absurd (h.symm.trans hc.2) (by decide)
      · omega
    refine ⟨?_, fun hfar => ?_, fun hfit => ?_, regsExcept_ages hp hv hregs, fun o => ?_⟩
    · rw [portQ, harb]
      exact hqueue
    · rw [harb]
      exact hout (Bool.eq_false_iff.2 (mt inFitted_iff.1 (by omega)))
    · rw [harb]
      exact (hrd (inFitted_iff.2 hfit) (hread.resolve_right (by omega))).symm
    · rw [hddr, silent]
      rfl
  · have bytes : burstBytes s r₀ = (memRun j.off j.data).filter (fun p => decide (r₀.offset ≤ p.1) && decide (p.1 < r₀.offset + 64)) := by
      unfold burstBytes
      rw [if_pos (by rw [Bool.and_eq_true]; exact ⟨inFitted_iff.2 hfit, hwrite⟩)]
      unfold writeData
      rw [hwho]
      dsimp only
      rw [hjob]
    rw [hddr, bytes, read_writes_memRun, hlen]
  · rw [regs_route_hostWr hp k q hr hwho hwrite (inFitted_iff.2 hfit)] at hregs
    exact regsExcept_ages hp hv hregs
  · rw [route_grantedBurst_waits hp k q hr (by rw [hwho]; rfl)] at harb hregs
    have bytes : burstBytes s r₀ = ringRun (ringBase s x) (ringSize s x) (spillFrom s x) (spillBytes s x r₀.offset) := by
      unfold burstBytes
      rw [if_pos (by rw [Bool.and_eq_true]; exact ⟨inFitted_iff.2 hfit, hwrite⟩), ← spillData_eq]
      unfold writeData
      rw [hwho]
    obtain ⟨hin, haway⟩ := read_writes_ringRun s.ddr (ringBase s x) (spillFrom s x) ((length_spillBytes s x r₀.offset).trans hsize)
    have inbox := hwr (inFitted_iff.2 hfit) hwrite
    rw [bytes, snd_ringRun] at inbox
    rw [bytes] at hddr
    rw [hddr, harb]
    exact ⟨hin, haway o, inbox, regsExcept_ages hp hv hregs⟩

/-- Settles O39: the draw picks by the tickets below each port, an aging grant goes to the first port due, and a burst's bytes have places
of their own. -/
theorem arbiterGrantsAndBursts : Obligations.ArbiterGrantsAndBursts := by
  intro s p k o i r j ho hm hp age lf el e total below ages glen
  have elEq : el = eligible s := (eligible_eq s).symm
  have totalEq : total = allTickets s := by
    show (el.map e).sum = _
    rw [elEq]
    rfl
  have belowEq : below = ticketsBelow s (eligible s) p := by
    show ((el.filter (fun q => decide (q < p))).map e).sum = _
    rw [elEq]
    rfl
  refine ⟨fun hg hd hne => ?_, fun hg hd => agingGrant_answers ho hm hp hg hd, fun hg hq => ?_, fun hg hq => ?_⟩
  · rw [elEq] at hne
    obtain ⟨touched, hlfsr, hseed, hqueues, hnone, hsome, hdue, hwin, hlose⟩ := draw_spec p hg hd
    have runs : exec .arbiterDraw s = .next (draw s) :=
      (exec_arbiterDraw s).trans (touched.clocked ho (if_pos (drawDue_of hm hg hd hne)))
    refine ⟨_, runs, hlfsr, hseed, hqueues, ?_, fun h0 => ?_, hdue, ?_⟩
    · rw [elEq]
      exact touched.onlyRegs
    · exact hnone (if_pos (totalEq.symm.trans h0))
    · have wins : (p ∈ el ∧ below ≤ lf.toNat * total / 2 ^ 32 ∧ lf.toNat * total / 2 ^ 32 < below + e p) ↔ winner s = some p := by
        rw [elEq, belowEq, totalEq]
        exact winner_eq_some.symm
      rw [wins]
      refine ⟨hwin, fun hm hne => ⟨fun g hg' hgp => ?_, hlose (elEq ▸ hm) hne⟩⟩
      cases hw : winner s with
      | none =>
        rw [hnone hw] at hg'
        cases hg'
      | some v =>
        obtain ⟨n, hn⟩ := hsome v hw
        rw [hn] at hg'
        cases hg'
        exact hne (hw.trans (congrArg some hgp))
  · obtain ⟨t, ht, harb, hregs, hddr⟩ := burstIssue_answers ho hm (by rw [hg]; simp) (issueBurst_empty hg hq)
    obtain ⟨hv, hgrant, -, -, hinbox⟩ := grantEnd_spec s
    refine ⟨t, ht, ?_, fun hr => ⟨fun a ha => ?_, fun o => ?_⟩⟩
    · rw [harb, grant_route, hgrant]
    · rw [route_of_waits (s := grantEnd s) (by rw [hinbox]; exact hr)] at hregs
      exact (congrArg (fun m => Map.get (resetWord a) m a) hregs).trans (hv.2 a ha)
    · rw [hddr]
      rfl
  · obtain ⟨r₀, q, hrq⟩ := List.exists_cons_of_ne_nil hq
    obtain ⟨t, ht, hgrant, hwaits, hhost, hspill⟩ := burstIssue_spec (o := o) ho hm hp hg hrq
    refine ⟨t, ht, ?_, fun hr hread hR hw => ?_, fun hr hwho hwrite hfit hjob hlen hR => ?_, fun x _ hr hwho hwrite hfit hsize hR => ?_⟩
    · rw [hrq]
      exact hgrant
    · rw [hrq] at hr ⊢
      cases hr
      obtain ⟨hqueue, hfar, hfit, only⟩ := hwaits hread hR hw
      refine ⟨hqueue, hfar, fun h => ?_, only⟩
      have flight : burstFlight s r = { req := r, data := readData s r, bad := decide (r.offset ∈ s.badBursts) } := by
        unfold burstFlight
        rw [List.contains_eq_mem]
      rw [← flight]
      exact hfit h
    · rw [hrq] at hr
      cases hr
      exact hhost j hwho hwrite hfit hjob hlen hR
    · rw [hrq] at hr
      cases hr
      obtain ⟨hin, haway, hinbox, hregs⟩ := hspill x hwho hwrite hfit hsize hR
      exact ⟨hin i, haway, hinbox, hregs⟩

end Sys2Proof.Machine
end

section
/-! PROOFS. The link's traffic (12 R319 to R329, R337, R340): what a flit block, a FLOW, a replay and a transmission leave, and O44 assembled
from them. -/

namespace Sys2Proof.Machine

-- One proof at a time: the whole text is compiled within a bound on memory.
set_option Elab.async false

section
variable {s t u : State} {c : Nat} {f : BitVec 256}

/-! ### Violations behind steps that leave the log -/

/-- The registers that a log entry is made of, and the threshold of a retrain. -/
def logBase : List Nat := [R.logStat, R.lnkViol, R.ticktimeLo, R.ticktimeLo + 4]

/-- A violation found behind steps that leave the log: it is logged as from before them. -/
theorem Touches.violation {l : List Nat} (h : Touches l s u) (hl : ∀ a ∈ logBase, a ∉ l) (hv : Tolerated s) (code tc sn w2 : Nat) :
    Touches (logRegs s ++ l) s (violation code tc sn w2 u) ∧ Logs code tc sn w2 s (violation code tc sn w2 u) ∧
      (violation code tc sn w2 u).link = u.link ∧ Touches (logRegs s) u (violation code tc sn w2 u) ∧
      (∀ lo len, lo + len ≤ 9 ∨ 10 ≤ lo → gf (violation code tc sn w2 u) R.lnkStat lo len = gf u R.lnkStat lo len) := by
  have stat (lo len : Nat) : gf u R.logStat lo len = gf s R.logStat lo len := congrArg (fld · lo len) (h.2 _ (hl _ (by simp [logBase])))
  have viol : violMax u = violMax s := congrArg (fld · 0 8) (h.2 _ (hl _ (by simp [logBase])))
  have time : ticktime u = ticktime s := h.ticktime_eq (hl _ (by simp [logBase])) (hl _ (by simp [logBase]))
  have regs : logRegs u = logRegs s := by
    unfold logRegs
    rw [stat]
  have tolerated : Tolerated u := by
    unfold Tolerated at *
    rwa [viol, stat]
  have logged := logViolation_logs code tc sn w2 u
  rw [violation_eq_log (.inl tolerated)]
  refine ⟨(h.mono (List.subset_append_right _ _)).trans (logged.touches.mono (regs ▸ List.subset_append_left _ _)), ?_, logged.link,
    regs ▸ logged.touches, logged.stat⟩
  have logs := logged.logs
  unfold Logs at logs ⊢
  rwa [time, stat, stat, stat] at logs

/-- The classes are the link's. -/
theorem lcls_of_link (h : t.link = s.link) (q : Nat) : lcls t q = lcls s q := by
  unfold lcls
  rw [h]

@[simp] theorem lcls_count (ev n : Nat) (s : State) (q : Nat) : lcls (count ev n s) q = lcls s q := (rfl)

@[simp] theorem count_link (ev n : Nat) (s : State) : (count ev n s).link = s.link := (rfl)

theorem linkUp_of_stat (h : gf s R.lnkStat 0 3 = 5) : linkUp s = true := by
  unfold linkUp
  simp [h]

/-! ### Flit blocks (R316, R319, R341) -/

theorem exec_flitBlock (tag : BitVec 10) (f : BitVec 256) (fec : Fec) (began : List Fec) (s : State) :
    exec (.flitBlock tag f fec began) s = clocked s (flitIn tag f fec began) := (rfl)

theorem flitIn_good (h : 4 ≤ gf s R.lnkStat 0 3) (tag : BitVec 10) (f : BitVec 256) :
    flitIn tag f .good [] s = goodFlit tag.toNat f s := by
  unfold flitIn lnkState
  rw [if_neg (by omega)]
  rfl

/-- A codeword counts itself. -/
theorem codeword_spec (w : Fec) (s : State) :
    Touches [R.lnkFec, R.lnkStat] s (codeword w s) ∧
      gf (codeword w s) R.lnkFec 0 16 = (if w = .corrected then min (gf s R.lnkFec 0 16 + 1) 65535 else gf s R.lnkFec 0 16) ∧
      gf (codeword w s) R.lnkFec 16 16 = (if w = .uncorrectable then min (gf s R.lnkFec 16 16 + 1) 65535 else gf s R.lnkFec 16 16) ∧
      gb (codeword w s) R.lnkStat 10 = (gb s R.lnkStat 10 || decide (w = .uncorrectable)) := by
  cases w with
  | good => exact ⟨.refl _ s, rfl, rfl, by simp [codeword]⟩
  | corrected =>
    have counted (u : State) (a i : Nat) : gb (count 0x23 0 u) a i = gb u a i := gb_of_regs rfl a i
    have field (u : State) (a lo len : Nat) : gf (count 0x23 0 u) a lo len = gf u a lo len := gf_of_regs rfl a lo len
    refine ⟨(Touches.bump (by simp) 0 16 s).trans (touches_count _ _ _ _), ?_, ?_, ?_⟩
    · exact (field _ _ _ _).trans (gf_bump_half s (by decide))
    · exact (field _ _ _ _).trans (gf_bump_of_disjoint s _ (by decide) (by decide))
    · simp [codeword, counted, gb_bump_of_ne s 0 16 10 (show R.lnkFec ≠ R.lnkStat by decide)]
  | uncorrectable =>
    refine ⟨(Touches.bump (by simp) 16 16 s).trans (Touches.flag (by simp) 10 _), ?_, ?_, ?_⟩
    · exact (gf_flag_of_ne _ _ _ _ (by decide)).trans (gf_bump_of_disjoint s _ (by decide) (by decide))
    · exact (gf_flag_of_ne _ _ _ _ (by decide)).trans (gf_bump_half s (by decide))
    · exact (gb_flag_same _ R.lnkStat 10 (by decide)).trans (by simp)

theorem touches_freeFlits (l : List Nat) (c k : Nat) (s : State) : Touches l s (freeFlits c k s) := .updCls c _ s

theorem touches_nak (l : List Nat) (c : Nat) (s : State) : Touches l s (nak c s) := .updCls c _ s

theorem touches_dropOpen (l : List Nat) (c : Nat) (more : Bool) (s : State) : Touches l s (dropOpen c more s) := by
  unfold dropOpen
  split
  · exact .refl l s
  · exact (touches_freeFlits l _ _ s).trans (.updCls c _ _)

/-- What a class may have lost is asked for again. -/
def askAgain (c : Nat) (s : State) : State := dropOpen c false s |> updCls c (fun k => { k with resync := true }) |> nak c

theorem flitIn_lost (h : 4 ≤ gf s R.lnkStat 0 3) (tag : BitVec 10) (f : BitVec 256) (w : Fec) :
    flitIn tag f .uncorrectable [w] s = each askAgain [0, 1, 2] (codeword w s) := by
  unfold flitIn lnkState
  rw [if_neg (by omega)]
  rfl

theorem touches_askAgain (l : List Nat) (c : Nat) (s : State) : Touches l s (askAgain c s) :=
  ((touches_dropOpen l c false s).trans (.updCls c _ _)).trans (touches_nak l c _)

theorem lcls_dropOpen_of_ne {q : Nat} (h : c ≠ q) (more : Bool) (s : State) : lcls (dropOpen c more s) q = lcls s q := by
  unfold dropOpen freeFlits
  split
  · rfl
  · rw [lcls_updCls, if_neg h, lcls_updCls, if_neg h]

theorem lcls_askAgain_of_ne {q : Nat} (h : c ≠ q) (s : State) : lcls (askAgain c s) q = lcls s q := by
  unfold askAgain nak
  simp only [lcls_updCls, if_neg h, lcls_dropOpen_of_ne h]

theorem askAgain_asks (c : Nat) (s : State) : (lcls (askAgain c s) c).nakDue = true ∧ (lcls (askAgain c s) c).resync = true := by
  simp [askAgain, nak]

theorem flitBlock_lost (ho : Operating s) (h : 4 ≤ gf s R.lnkStat 0 3) (tag : BitVec 10) (f : BitVec 256) (w : Fec) :
    ∃ t, exec (.flitBlock tag f .uncorrectable [w]) s = .next t ∧
      gf t R.lnkFec 0 16 = (if w = .corrected then min (gf s R.lnkFec 0 16 + 1) 65535 else gf s R.lnkFec 0 16) ∧
      gf t R.lnkFec 16 16 = (if w = .uncorrectable then min (gf s R.lnkFec 16 16 + 1) 65535 else gf s R.lnkFec 16 16) ∧
      gb t R.lnkStat 10 = (gb s R.lnkStat 10 || decide (w = .uncorrectable)) ∧ (∀ q, q < 3 → (lcls t q).nakDue = true ∧ (lcls t q).resync = true) ∧
      OnlyRegs [R.lnkFec, R.lnkStat] s t := by
  obtain ⟨ct, c0, c16, c10⟩ := codeword_spec w s
  have eff := flitIn_lost h tag f w
  generalize codeword w s = u at *
  have asked : Touches [] u (each askAgain [0, 1, 2] u) := .each (fun c _ v => touches_askAgain [] c v) u
  have stays (a lo len : Nat) : gf (each askAgain [0, 1, 2] u) a lo len = gf u a lo len := congrArg (fld · lo len) (asked.2 a (by simp))
  have keeps := ct.trans (asked.mono (List.nil_subset _))
  refine ⟨_, (exec_flitBlock ..).trans (keeps.clocked ho eff), (stays ..).trans c0, (stays ..).trans c16, (gb_eq_rd _ (asked.2 _ (by simp))).trans c10,
    fun q hq => ?_, keeps.onlyRegs⟩
  simp only [each]
  interval_cases q
  · rw [lcls_askAgain_of_ne (by decide), lcls_askAgain_of_ne (by decide)]
    exact askAgain_asks _ _
  · rw [lcls_askAgain_of_ne (by decide)]
    exact askAgain_asks _ _
  · exact askAgain_asks _ _

/-! ### Violations of flits (R319, R340) -/

/-- A flit block of a wrong tag, before its violation. -/
def badTagLeft (t : Nat) (s : State) : State :=
  let isData := decide (2 ≤ t / 256)
  let c := t / 64 % 4
  let s := if isData && linkUp s then count 0x21 c s else s
  let s := if isData ∧ c < 3 ∧ linkUp s then updCls c (fun k => { k with rcvd := k.rcvd + 1 }) s |> freeFlits c 1 else s
  whenB (decide (c < 3)) (fun s => dropOpen c (!(isData && t / 32 % 2 == 1)) s |> nak c) s

theorem goodFlit_bad {t : Nat} (h : tagBad t = true) (f : BitVec 256) (s : State) :
    goodFlit t f s = violation 3 (t / 64 % 4) 0 t (badTagLeft t s) := by
  unfold goodFlit
  dsimp only
  rw [if_pos h]
  rfl

theorem touches_badTagLeft (t : Nat) (s : State) : Touches [] s (badTagLeft t s) := by
  unfold badTagLeft
  dsimp only
  have counted (b : Bool) (ev n : Nat) (u : State) : Touches [] u (if b then count ev n u else u) := by
    split
    · exact touches_count _ _ _ _
    · exact .refl _ _
  have freed (p : Prop) [Decidable p] (n : Nat) (f : Cls → Cls) (u : State) : Touches [] u (if p then freeFlits n 1 (updCls n f u) else u) := by
    split
    · exact (Touches.updCls n f u).trans (touches_freeFlits _ _ _ _)
    · exact .refl _ _
  exact ((counted _ _ _ s).trans (freed _ _ _ _)).trans (.whenB _ ((touches_dropOpen _ _ _ _).trans (touches_nak _ _ _)))

/-- A good flit block that ends in a violation. -/
theorem flitBlock_violates (ho : Operating s) (hu : gf s R.lnkStat 0 3 = 5) (hv : Tolerated s) (tag : BitVec 10) (f : BitVec 256)
    {code tc sn w2 : Nat} (he : goodFlit tag.toNat f s = violation code tc sn w2 u) (hk : Touches [] s u) :
    exec (.flitBlock tag f .good []) s = .next (violation code tc sn w2 u) ∧
      Logs code tc sn w2 s (violation code tc sn w2 u) ∧ OnlyRegs (logRegs s) s (violation code tc sn w2 u) ∧
      (violation code tc sn w2 u).link = u.link := by
  obtain ⟨ht, hl, hk, -⟩ := hk.violation (by simp) hv code tc sn w2
  rw [List.append_nil] at ht
  exact ⟨(exec_flitBlock ..).trans (ht.clocked ho ((flitIn_good (by omega) tag f).trans he)), hl, ht.onlyRegs, hk⟩

theorem tagBad_of_low {t : Nat} (h : t % 16 ≠ 0) : tagBad t = true := by
  unfold tagBad
  simp [h]

/-- A good flit block that carries data while the link is UP. -/
theorem goodFlit_data {t : Nat} (hu : gf s R.lnkStat 0 3 = 5) (hb : tagBad t = false) (hd : 2 ≤ t / 256) (f : BitVec 256) :
    goodFlit t f s = (if t / 64 % 4 = 3 then violation 8 3 0 t (count 0x21 (t / 64 % 4) s)
      else dataFlit (t / 64 % 4) (t / 256 == 2) (t / 32 % 2 == 1) (t / 16 % 2 == 1) t f (count 0x21 (t / 64 % 4) s)) := by
  have up (ev n : Nat) : linkUp (count ev n s) = true := linkUp_of_stat ((gf_of_regs rfl _ _ _).trans hu)
  unfold goodFlit
  simp only [hd, decide_true, linkUp_of_stat hu, Bool.and_self, if_true, hb, up, Bool.not_true, Bool.or_self, Bool.false_eq_true, if_false]
  rw [if_neg (by omega)]

end

section
variable {s t u : State} {c : Nat} {f : BitVec 256}

theorem flitBlock_badTag (ho : Operating s) (hu : gf s R.lnkStat 0 3 = 5) (hv : Tolerated s) {tag : BitVec 10} (f : BitVec 256)
    (h : tag.toNat % 16 ≠ 0) : ∃ t, exec (.flitBlock tag f .good []) s = .next t ∧
      Logs 3 (tag.toNat / 64 % 4) 0 tag.toNat s t ∧ OnlyRegs (logRegs s) s t := by
  obtain ⟨he, hl, ho, -⟩ := flitBlock_violates ho hu hv tag f (goodFlit_bad (tagBad_of_low h) f s) (touches_badTagLeft _ s)
  exact ⟨_, he, hl, ho⟩

theorem flitBlock_data3 (ho : Operating s) (hu : gf s R.lnkStat 0 3 = 5) (hv : Tolerated s) {tag : BitVec 10} (f : BitVec 256)
    (h : tag = 0x3C0 ∨ tag = 0x2E0) : ∃ t, exec (.flitBlock tag f .good []) s = .next t ∧
      Logs 8 3 0 tag.toNat s t ∧ OnlyRegs (logRegs s) s t := by
  have form : tagBad tag.toNat = false ∧ 2 ≤ tag.toNat / 256 ∧ tag.toNat / 64 % 4 = 3 := by
    rcases h with rfl | rfl <;> decide
  obtain ⟨hb, hd, hc⟩ := form
  have eff := (goodFlit_data hu hb hd f).trans (if_pos hc)
  obtain ⟨he, hl, ho, -⟩ := flitBlock_violates ho hu hv tag f eff (touches_count _ _ _ s)
  exact ⟨_, he, hl, ho⟩

/-- A flit of class c has come into the receive buffer. -/
def flitComes (c : Nat) (head : Bool) (s : State) : State :=
  updCls c (fun k => { k with rcvd := k.rcvd + 1, resync := k.resync && !head }) s

theorem dataFlit_orphan (ho : (lcls s c).open_ = none) (hr : (lcls s c).resync = false) (hroom : (lcls s c).rcvd < rxSize c + (lcls s c).adv)
    (last trunc : Bool) (tag : Nat) (f : BitVec 256) :
    dataFlit c false last trunc tag f s = violation 4 c 0 tag (nak c (freeFlits c 1 (flitComes c false s))) := by
  unfold dataFlit
  dsimp only
  rw [if_neg (by omega), ho]
  dsimp only
  rw [if_neg (by decide), hr, if_neg (by decide), flitComes]

theorem dataFlit_head (ho : (lcls s c).open_ = none) (hroom : (lcls s c).rcvd < rxSize c + (lcls s c).adv) (last trunc : Bool) (tag : Nat)
    (f : BitVec 256) : dataFlit c true last trunc tag f s = grow c { head := f, body := [], discard := false } last trunc (flitComes c true s) := by
  unfold dataFlit
  dsimp only
  rw [if_neg (by omega), ho]
  dsimp only
  rw [if_pos rfl, flitComes]

/-- The tag of an unbroken data flit that is its packet's last (R319). -/
theorem lastTag {kind : Nat} (hk : kind = 2 ∨ kind = 3) (hc : c < 3) {n : Nat} (hn : n = (BitVec.ofNat 10 (256 * kind + 64 * c + 32)).toNat) :
    tagBad n = false ∧ n / 256 = kind ∧ n / 64 % 4 = c ∧ n / 32 % 2 = 1 ∧ n / 16 % 2 = 0 := by
  subst hn
  interval_cases c <;> rcases hk with rfl | rfl <;> decide

theorem flitBlock_orphan (ho : Operating s) (hu : gf s R.lnkStat 0 3 = 5) (hv : Tolerated s) (hc : c < 3) {tag : BitVec 10} (f : BitVec 256)
    (htag : tag = BitVec.ofNat 10 (768 + 64 * c + 32)) (hopen : (lcls s c).open_ = none) (hr : (lcls s c).resync = false)
    (hroom : (lcls s c).rcvd < rxSize c + (lcls s c).adv) : ∃ t, exec (.flitBlock tag f .good []) s = .next t ∧
      (Logs 4 c 0 tag.toNat s t ∧ OnlyRegs (logRegs s) s t) ∧ (lcls t c).nakDue = true := by
  obtain ⟨hb, hkind, hcls, hlast, htr⟩ := lastTag (kind := 3) (.inr rfl) hc (congrArg BitVec.toNat htag)
  have eff := goodFlit_data hu hb (by omega) f
  rw [hcls, hkind, if_neg (by omega), show (3 == 2) = false from rfl, dataFlit_orphan (s := count 0x21 c s) hopen hr hroom] at eff
  have keeps : Touches [] s (nak c (freeFlits c 1 (flitComes c false (count 0x21 c s)))) :=
    (((touches_count _ _ _ s).trans (.updCls c _ _)).trans (touches_freeFlits _ _ _ _)).trans (touches_nak _ _ _)
  obtain ⟨he, hl, ho, hk⟩ := flitBlock_violates ho hu hv tag f eff keeps
  refine ⟨_, he, ⟨hl, ho⟩, ?_⟩
  rw [lcls_of_link hk, nak, lcls_updCls_same]

/-! ### Packets of one flit (R320, R322, R327) -/

/-- The packet a single HEAD flit is. -/
def onePacket (f : BitVec 256) : RxOpen := { head := f, body := [], discard := false }

theorem onePacket_head (f : BitVec 256) : (onePacket f).head = f := (rfl)

/-- The open packet of a class. -/
def setOpen (c : Nat) (o : Option RxOpen) (s : State) : State := updCls c (fun k => { k with open_ := o }) s

/-- A packet of one flit, before its CRC is looked at. -/
def cameWhole (c : Nat) (f : BitVec 256) (s : State) : State :=
  setOpen c none (setOpen c (some (onePacket f)) (flitComes c true (count 0x21 c s)))

theorem cameWhole_spec (c : Nat) (f : BitVec 256) (s : State) :
    Touches [] s (cameWhole c f s) ∧ lcls (cameWhole c f s) c = { lcls s c with rcvd := (lcls s c).rcvd + 1, resync := false, open_ := none } ∧
      (∀ q, c ≠ q → lcls (cameWhole c f s) q = lcls s q) := by
  unfold cameWhole setOpen flitComes
  refine ⟨(((touches_count _ _ _ s).trans (.updCls c _ _)).trans (.updCls c _ _)).trans (.updCls c _ _), ?_, fun q h => ?_⟩
  · simp
  · simp only [lcls_updCls, if_neg h, lcls_count]

/-- A packet of one flit that comes d ahead of the number expected. -/
def judgeNumber (c : Nat) (f : BitVec 256) (d : Nat) (s : State) : State :=
  if d = 0 then takePacket c (onePacket f) [] s
  else if d < 1024 then (let r := nakOnce c (freeFlits c 1 s); if r.1 then packetErr r.2 else r.2)
  else if 3072 ≤ d then ackLater (freeFlits c 1 s)
  else violation 7 c (ffld f 16 12) (ffld f 0 32) (nak c (freeFlits c 1 s))

/-- What the CRC and the number of a packet of one flit decide. -/
def judge (c : Nat) (f : BitVec 256) (s : State) : State :=
  if crc32 ((flitBytes f).take 28) ≠ ffld f 224 32 then nak c (packetErr (freeFlits c 1 s))
  else judgeNumber c f ((ffld f 16 12 + 4096 - (lcls s c).e) % 4096) s

theorem heldFlits_onePacket (h : ffld f 48 13 = 0) : heldFlits (onePacket f) = 1 := by
  unfold heldFlits hLen onePacket
  simp [h]

theorem endPacket_one (h : ffld f 48 13 = 0) (c : Nat) (s : State) : endPacket c (onePacket f) s = judge c f (setOpen c none s) := by
  have len : hLen (onePacket f).head = 0 := h
  unfold endPacket judge judgeNumber setOpen
  dsimp only
  rw [heldFlits_onePacket h, len, List.take_zero, List.length_nil, List.append_nil, onePacket_head]
  by_cases hw : crc32 ((flitBytes f).take 28) ≠ ffld f 224 32
  · rw [if_pos (.inr hw), if_pos hw]
  · rw [if_neg (not_or.2 ⟨Nat.lt_irrefl 0, hw⟩), if_neg hw, hSeq, hWord]

theorem grow_one (h : ffld f 48 13 = 0) (c : Nat) (s : State) :
    grow c (onePacket f) true false s = judge c f (setOpen c none (setOpen c (some (onePacket f)) s)) := by
  have right : lastRight (onePacket f) true = true := by
    unfold lastRight hLen onePacket
    simp [h]
  unfold grow
  dsimp only
  rw [right, if_neg (by decide), if_pos rfl, endPacket_one h, ← setOpen]

/-- A packet of one flit comes on an idle class that is UP and has room for it. -/
def OneFlit (s : State) (c : Nat) (f : BitVec 256) (tag : BitVec 10) : Prop :=
  tag = BitVec.ofNat 10 (512 + 64 * c + 32) ∧ c < 3 ∧ gf s R.lnkStat 0 3 = 5 ∧ (lcls s c).open_ = none ∧
    (lcls s c).rcvd < rxSize c + (lcls s c).adv ∧ ffld f 48 13 = 0

section
variable {tag : BitVec 10}

theorem flitIn_one (h : OneFlit s c f tag) : flitIn tag f .good [] s = judge c f (cameWhole c f s) := by
  obtain ⟨htag, hc, hu, hopen, hroom, hlen⟩ := h
  obtain ⟨hb, hkind, hcls, hlast, htr⟩ := lastTag (kind := 2) (.inl rfl) hc (congrArg BitVec.toNat htag)
  have eff := goodFlit_data hu hb (by omega) f
  rw [hcls, hkind, hlast, htr, if_neg (by omega), show (2 == 2) = true from rfl, show (1 == 1) = true from rfl, show (0 == 1) = false from rfl,
    dataFlit_head (s := count 0x21 c s) hopen hroom] at eff
  exact ((flitIn_good (by omega) tag f).trans eff).trans (grow_one hlen c _)

/-- A packet of one flit that its judgement turns into t. -/
theorem flitBlock_one (ho : Operating s) (h : OneFlit s c f tag) {l : List Nat} (he : judge c f (cameWhole c f s) = t) (hk : Touches l s t) :
    exec (.flitBlock tag f .good []) s = .next t := (exec_flitBlock ..).trans (hk.clocked ho ((flitIn_one h).trans he))

theorem judge_came (hw : crc32 ((flitBytes f).take 28) = ffld f 224 32) (s : State) :
    judge c f (cameWhole c f s) = judgeNumber c f ((ffld f 16 12 + 4096 - (lcls s c).e) % 4096) (cameWhole c f s) := by
  rw [judge, if_neg (not_not.2 hw), (cameWhole_spec c f s).2.1]

/-! What the judgement leaves. -/

theorem touches_packetErr (s : State) : Touches [R.lnkErrcnt, R.lnkStat] s (packetErr s) :=
  (Touches.bump (by simp) 0 16 s).trans (Touches.flag (by simp) 10 _)

theorem packetErr_counts (s : State) :
    gb (packetErr s) R.lnkStat 10 = true ∧ gf (packetErr s) R.lnkErrcnt 0 16 = min (gf s R.lnkErrcnt 0 16 + 1) 65535 := by
  refine ⟨gb_flag_same _ _ 10 (by decide), ?_⟩
  unfold packetErr linkErr
  rw [gf_flag_of_ne _ _ _ _ (by decide), gf_bump_half s (by decide)]

@[simp] theorem lcls_packetErr (s : State) (q : Nat) : lcls (packetErr s) q = lcls s q := by
  rw [packetErr, linkErr, lcls_flag, lcls_bump]

@[simp] theorem lcls_ackLater (s : State) (q : Nat) : lcls (ackLater s) q = lcls s q := (rfl)

theorem touches_ackLater (l : List Nat) (s : State) : Touches l s (ackLater s) := .of_regs_eq rfl ⟨rfl, rfl, rfl⟩

/-- A packet in order takes its number. -/
def advance1 (c : Nat) (s : State) : State :=
  ackLater (updCls c (fun k => { k with e := (k.e + 1) % 4096, av := true, naked := false }) s)

theorem touches_advance1 (l : List Nat) (c : Nat) (s : State) : Touches l s (advance1 c s) := (Touches.updCls c _ s).trans (touches_ackLater _ _)

theorem lcls_advance1 (c : Nat) (s : State) :
    lcls (advance1 c s) c = { lcls s c with e := ((lcls s c).e + 1) % 4096, av := true, naked := false } := by
  rw [advance1, lcls_ackLater, lcls_updCls_same]

theorem txq_advance1 (c q : Nat) (s : State) : (lcls (advance1 c s) q).txq = (lcls s q).txq := by
  rw [advance1, lcls_ackLater, lcls_updCls]
  split
  · next h => rw [h]
  · rfl

theorem queues_sendPacket (p : Pkt) (s : State) : (lcls (sendPacket p s) p.cls).txq = (lcls s p.cls).txq ++ [p] := by
  rw [sendPacket, lcls_updCls_same]

/-- The request of a packet in order waits. -/
def awaitExec (c : Nat) (r : RxReq) (s : State) : State := updCls c (fun k => { k with rx := k.rx ++ [r] }) s

theorem takePacket_request {o : RxOpen} {data : List Byte} {i : Instr} (h : request c o.head data = .inl i) (s : State) :
    takePacket c o data s = awaitExec c { cmd := i, flits := heldFlits o, seq := hSeq o.head } (advance1 c s) := by
  unfold takePacket
  dsimp only
  rw [h]
  rfl

/-- A packet in order that breaks a rule, before its violation. -/
def answered (c : Nat) (o : RxOpen) (st : Nat) (s : State) : State :=
  freeFlits c (heldFlits o) (advance1 c s) |> complete (answerClass c (ffld o.head 0 8)) (ffld o.head 0 8 % 128) (ffld o.head 32 16) st 0 0 []

theorem takePacket_violates {o : RxOpen} {data : List Byte} {y : Nat × Nat} (h : request c o.head data = .inr y) (s : State) :
    takePacket c o data s = violation y.1 c (hSeq o.head) (hWord o.head) (answered c o y.2 s) := by
  unfold takePacket
  dsimp only
  rw [h]
  rfl

theorem one_taken (ho : Operating s) (h : OneFlit s c f tag) (hw : crc32 ((flitBytes f).take 28) = ffld f 224 32)
    (hd : (ffld f 16 12 + 4096 - (lcls s c).e) % 4096 = 0) {i : Instr} (hr : request c f [] = .inl i) :
    ∃ t, exec (.flitBlock tag f .good []) s = .next t ∧ (lcls t c).e = ((lcls s c).e + 1) % 4096 ∧ t.link.ackDue = true ∧
      (lcls t c).rx = (lcls s c).rx ++ [{ cmd := i, flits := 1, seq := ffld f 16 12 }] ∧ OnlyRegs [] s t := by
  obtain ⟨ct, cc, -⟩ := cameWhole_spec c f s
  have step : judge c f (cameWhole c f s) = awaitExec c { cmd := i, flits := 1, seq := ffld f 16 12 } (advance1 c (cameWhole c f s)) := by
    rw [judge_came hw, hd, judgeNumber, if_pos rfl, takePacket_request hr, heldFlits_onePacket h.2.2.2.2.2, onePacket_head, hSeq]
  replace step := (flitIn_one h).trans step
  generalize cameWhole c f s = u at *
  have keeps : Touches [] s (awaitExec c { cmd := i, flits := 1, seq := ffld f 16 12 } (advance1 c u)) :=
    (ct.trans (touches_advance1 _ _ _)).trans (.updCls c _ _)
  refine ⟨_, (exec_flitBlock ..).trans (keeps.clocked ho step), ?_, ?_, ?_, keeps.onlyRegs⟩
  · rw [awaitExec, lcls_updCls_same, lcls_advance1, cc]
  · simp [awaitExec, advance1, ackLater]
  · rw [awaitExec, lcls_updCls_same, lcls_advance1, cc]

theorem one_answered (ho : Operating s) (h : OneFlit s c f tag) (hw : crc32 ((flitBytes f).take 28) = ffld f 224 32)
    (hd : (ffld f 16 12 + 4096 - (lcls s c).e) % 4096 = 0) (hv : Tolerated s) {y : Nat × Nat} (hr : request c f [] = .inr y) :
    ∃ t, exec (.flitBlock tag f .good []) s = .next t ∧ (lcls t c).e = ((lcls s c).e + 1) % 4096 ∧ (lcls t c).rx = (lcls s c).rx ∧
      Queues { cls := answerClass c (ffld f 0 8), opc := ffld f 0 8 % 128 + 0x80, tag := ffld f 32 16, status := y.2, p0 := 0, p1 := 0, data := [] } s t ∧
      Logs y.1 c (ffld f 16 12) (ffld f 0 32) s t ∧ OnlyRegs (logRegs s) s t := by
  obtain ⟨ct, cc, cq⟩ := cameWhole_spec c f s
  have txq (q : Nat) : (lcls (cameWhole c f s) q).txq = (lcls s q).txq := by
    by_cases hq : c = q
    · rw [← hq, cc]
    · rw [cq q hq]
  have step : judge c f (cameWhole c f s) =
      violation y.1 c (ffld f 16 12) (ffld f 0 32) (answered c (onePacket f) y.2 (cameWhole c f s)) := by
    rw [judge_came hw, hd, judgeNumber, if_pos rfl, takePacket_violates hr, onePacket_head, hSeq, hWord]
  replace step := (flitIn_one h).trans step
  generalize cameWhole c f s = u at *
  have free (q : Nat) : (lcls (freeFlits c (heldFlits (onePacket f)) (advance1 c u)) q).txq = (lcls s q).txq := by
    rw [freeFlits, lcls_updCls]
    split
    · next hq => rw [← hq, txq_advance1, txq]
    · rw [txq_advance1, txq]
  have own : lcls (freeFlits c (heldFlits (onePacket f)) (advance1 c u)) c =
      { lcls (advance1 c u) c with cred := (lcls (advance1 c u) c).cred + heldFlits (onePacket f) } := lcls_updCls_same _ _ _
  rw [lcls_advance1, cc] at own
  have keeps : Touches [] s (answered c (onePacket f) y.2 u) := ((ct.trans (touches_advance1 _ _ _)).trans (touches_freeFlits _ _ _ _)).trans (.sendPacket _ _)
  obtain ⟨vt, vl, vk, -⟩ := keeps.violation (by simp) hv y.1 c (ffld f 16 12) (ffld f 0 32)
  rw [List.append_nil] at vt
  refine ⟨_, (exec_flitBlock ..).trans (vt.clocked ho step), ?_, ?_, ?_, vl, vt.onlyRegs⟩
  · rw [lcls_of_link vk, answered, complete, sendPacket, lcls_updCls]
    split
    · next hq => rw [hq, own]
    · rw [own]
  · rw [lcls_of_link vk, answered, complete, sendPacket, lcls_updCls]
    split
    · next hq => rw [hq, own]
    · rw [own]
  · unfold Queues
    rw [lcls_of_link vk, answered, complete, onePacket_head, queues_sendPacket, free]

/-- The class of a packet of one flit once its flit is free again. -/
theorem lcls_freed (c : Nat) (f : BitVec 256) (s : State) :
    lcls (freeFlits c 1 (cameWhole c f s)) c =
      { lcls s c with rcvd := (lcls s c).rcvd + 1, resync := false, open_ := none, cred := (lcls s c).cred + 1 } := by
  rw [freeFlits, lcls_updCls_same, (cameWhole_spec c f s).2.1]

theorem touches_freed (l : List Nat) (c : Nat) (f : BitVec 256) (s : State) : Touches l s (freeFlits c 1 (cameWhole c f s)) :=
  (((cameWhole_spec c f s).1).mono (List.nil_subset _)).trans (touches_freeFlits _ _ _ _)

theorem lcls_nak (c : Nat) (s : State) : lcls (nak c s) c = { lcls s c with nakDue := true, naked := true } := lcls_updCls_same _ _ _

/-- Lost packets are asked for again once. -/
theorem one_ahead (ho : Operating s) (h : OneFlit s c f tag) (hw : crc32 ((flitBytes f).take 28) = ffld f 224 32)
    (h0 : 0 < (ffld f 16 12 + 4096 - (lcls s c).e) % 4096) (h1 : (ffld f 16 12 + 4096 - (lcls s c).e) % 4096 < 1024) :
    ∃ t, exec (.flitBlock tag f .good []) s = .next t ∧ (lcls t c).e = (lcls s c).e ∧ (lcls t c).rx = (lcls s c).rx ∧
      (lcls t c).nakDue = ((lcls s c).nakDue || !(lcls s c).naked) ∧ OnlyRegs [R.lnkErrcnt, R.lnkStat] s t := by
  have freed := lcls_freed c f s
  have keeps := touches_freed [R.lnkErrcnt, R.lnkStat] c f s
  have step := judge_came (c := c) hw s
  rw [judgeNumber, if_neg (by omega), if_pos h1] at step
  generalize freeFlits c 1 (cameWhole c f s) = u at *
  unfold nakOnce at step
  rw [freed] at step
  by_cases hn : (lcls s c).naked = true
  · simp only [hn, if_true, Bool.false_eq_true, if_false] at step
    refine ⟨_, flitBlock_one ho h step keeps, ?_, ?_, ?_, keeps.onlyRegs⟩ <;> simp [freed, hn]
  · simp only [hn, Bool.false_eq_true, if_false, if_true] at step
    have counted := (keeps.trans (touches_nak _ c u)).trans (touches_packetErr _)
    refine ⟨_, flitBlock_one ho h step counted, ?_, ?_, ?_, counted.onlyRegs⟩ <;> simp [lcls_nak, freed, hn]

theorem one_repeated (ho : Operating s) (h : OneFlit s c f tag) (hw : crc32 ((flitBytes f).take 28) = ffld f 224 32)
    (hd : 3072 ≤ (ffld f 16 12 + 4096 - (lcls s c).e) % 4096) :
    ∃ t, exec (.flitBlock tag f .good []) s = .next t ∧ (lcls t c).e = (lcls s c).e ∧ (lcls t c).rx = (lcls s c).rx ∧
      t.link.ackDue = true ∧ OnlyRegs [] s t := by
  have freed := lcls_freed c f s
  have keeps := (touches_freed [] c f s).trans (touches_ackLater _ _)
  have step := judge_came (c := c) hw s
  rw [judgeNumber, if_neg (by omega), if_neg (by omega), if_pos hd] at step
  generalize freeFlits c 1 (cameWhole c f s) = u at *
  refine ⟨_, flitBlock_one ho h step keeps, ?_, ?_, rfl, keeps.onlyRegs⟩ <;> rw [lcls_ackLater, freed]

theorem one_outside (ho : Operating s) (h : OneFlit s c f tag) (hw : crc32 ((flitBytes f).take 28) = ffld f 224 32)
    (h1 : 1024 ≤ (ffld f 16 12 + 4096 - (lcls s c).e) % 4096) (h3 : (ffld f 16 12 + 4096 - (lcls s c).e) % 4096 < 3072) (hv : Tolerated s) :
    ∃ t, exec (.flitBlock tag f .good []) s = .next t ∧ (lcls t c).e = (lcls s c).e ∧ (lcls t c).nakDue = true ∧
      Logs 7 c (ffld f 16 12) (ffld f 0 32) s t ∧ OnlyRegs (logRegs s) s t := by
  have freed := lcls_freed c f s
  have keeps := (touches_freed [] c f s).trans (touches_nak _ c _)
  have step := judge_came (c := c) hw s
  rw [judgeNumber, if_neg (by omega), if_neg (by omega), if_neg (by omega)] at step
  generalize freeFlits c 1 (cameWhole c f s) = u at *
  obtain ⟨vt, vl, vk, -⟩ := keeps.violation (by simp) hv 7 c (ffld f 16 12) (ffld f 0 32)
  rw [List.append_nil] at vt
  refine ⟨_, flitBlock_one ho h step vt, ?_, ?_, vl, vt.onlyRegs⟩
  · rw [lcls_of_link vk, lcls_nak, freed]
  · rw [lcls_of_link vk, lcls_nak]

theorem one_broken (ho : Operating s) (h : OneFlit s c f tag) (hw : ¬ crc32 ((flitBytes f).take 28) = ffld f 224 32) :
    ∃ t, exec (.flitBlock tag f .good []) s = .next t ∧ (lcls t c).e = (lcls s c).e ∧ (lcls t c).rx = (lcls s c).rx ∧
      (lcls t c).nakDue = true ∧ gb t R.lnkStat 10 = true ∧ gf t R.lnkErrcnt 0 16 = min (gf s R.lnkErrcnt 0 16 + 1) 65535 ∧
      OnlyRegs [R.lnkErrcnt, R.lnkStat] s t := by
  have freed := lcls_freed c f s
  have before := touches_freed [] c f s
  have step : judge c f (cameWhole c f s) = nak c (packetErr (freeFlits c 1 (cameWhole c f s))) := if_pos hw
  generalize freeFlits c 1 (cameWhole c f s) = u at *
  have keeps := ((before.mono (List.nil_subset _)).trans (touches_packetErr u)).trans (touches_nak _ c _)
  obtain ⟨p10, p0⟩ := packetErr_counts u
  refine ⟨_, flitBlock_one ho h step keeps, ?_, ?_, ?_, ?_, ?_, keeps.onlyRegs⟩
  · rw [lcls_nak, lcls_packetErr, freed]
  · rw [lcls_nak, lcls_packetErr, freed]
  · rw [lcls_nak]
  · rw [nak, gb_updCls, p10]
  · rw [nak, gf_updCls, p0, show gf u R.lnkErrcnt 0 16 = gf s R.lnkErrcnt 0 16 from congrArg (fld · 0 16) (before.2 _ (by simp))]

end

end

section
variable {s t u : State} {c q : Nat} {g : BitVec 256}

/-! ### FLOW flits (R325, R328, R329) -/

/-- The registers that hold AVAIL. -/
def availRegs : List Nat := [R.txcStat, R.txcStat + 4, R.txcStat + 12]

/-- Credits of a FLOW for a class, as O44 counts them. -/
def flowCredit (g : BitVec 256) (s : State) (q : Nat) : Nat := (ffld g (48 + 32 * q) 16 + 65536 - (lcls s q).lastCred) % 65536

/-- Packets of a class that a FLOW acknowledges, as O44 counts them. -/
def flowAcks (g : BitVec 256) (s : State) (q : Nat) : Nat :=
  if ffld g (45 + 32 * q) 1 = 1 then (ffld g (32 + 32 * q) 12 + 4097 - oldestNo (lcls s q)) % 4096 else 0

/-- What a FLOW says of a class breaks no rule. -/
structure FlowFits (g : BitVec 256) (s : State) (q : Nat) : Prop where
  sends : q = 0 ∨ q = 1 ∨ q = 2 ∨ q = 3
  credit : q ≠ 2 → avail s q + flowCredit g s q ≤ (lcls s q).limit ∧ (lcls s q).limit < 65536
  none_ : q = 2 → flowCredit g s q = 0
  acks : flowAcks g s q ≤ (lcls s q).replay.length

theorem FlowFits.congr (h : FlowFits g s q) (hl : lcls t q = lcls s q) (ha : avail t q = avail s q) : FlowFits g t q := by
  obtain ⟨h1, h2, h3, h4⟩ := h
  unfold flowCredit at h2 h3
  unfold flowAcks at h4
  refine ⟨h1, ?_, ?_, ?_⟩
  · unfold flowCredit
    rwa [hl, ha]
  · unfold flowCredit
    rwa [hl]
  · unfold flowAcks
    rwa [hl]

/-- The credits of a FLOW are taken. -/
def credited (g : BitVec 256) (c : Nat) (s : State) : State :=
  let u := updCls c (fun k => { k with lastCred := ffld g (48 + 32 * c) 16 }) s
  if c = 2 then u else setAvail c (avail s c + flowCredit g s c) u

/-- A packets of a class are acknowledged. -/
def ackedCls (a now : Nat) (k : Cls) : Cls :=
  { k with replay := k.replay.drop a, resend := min k.resend (k.replay.length - a), since := now, tries := 0 }

/-- A class drops the packets acknowledged. -/
def dropAcked (c a : Nat) (s : State) : State := if a = 0 then s else updCls c (ackedCls a s.now) s

theorem creditBack_eq (h : FlowFits g s c) : creditBack c (ffld g (48 + 32 * c) 16) s = credited g c s := by
  unfold creditBack credited
  dsimp only
  by_cases hc : c = 2
  · have none_ := h.none_ hc
    unfold flowCredit at none_
    rw [if_pos hc, if_pos hc, if_pos hc, if_pos hc, none_, if_neg (by omega)]
  · have room := (h.credit hc).1
    rw [if_neg hc, if_neg hc, if_neg hc, if_neg hc, ← flowCredit]
    have same : avail (updCls c (fun k => { k with lastCred := ffld g (48 + 32 * c) 16 }) s) c = avail s c := gf_updCls ..
    rw [same, if_neg (by omega), Nat.min_eq_right room]

theorem touches_setAvail (hc : c = 0 ∨ c = 1 ∨ c = 3) (v : Nat) (s : State) : Touches availRegs s (setAvail c v s) :=
  Touches.sf (by rcases hc with rfl | rfl | rfl <;> simp [availRegs]) 0 16 v s

theorem avail_setAvail_same (c v : Nat) (s : State) : avail (setAvail c v s) c = v % 65536 := gf_sf_same s _ 0 16 v (by decide)

theorem avail_setAvail_of_ne (h : c ≠ q) (v : Nat) (s : State) : avail (setAvail c v s) q = avail s q :=
  gf_sf_of_ne s 0 16 v 0 16 (by omega)

@[simp] theorem avail_updCls (c : Nat) (f : Cls → Cls) (s : State) (q : Nat) : avail (updCls c f s) q = avail s q := gf_updCls ..

@[simp] theorem lcls_setAvail (c v : Nat) (s : State) (q : Nat) : lcls (setAvail c v s) q = lcls s q := lcls_sf ..

/-- What FLOW said of some classes has been taken. -/
structure FlowTaken (g : BitVec 256) (l : List Nat) (s t : State) : Prop where
  touches : Touches availRegs s t
  now : t.now = s.now
  fc : t.fc = s.fc
  other : ∀ q, q ∉ l → lcls t q = lcls s q ∧ avail t q = avail s q
  acks : ∀ q ∈ l, (lcls t q).replay = (lcls s q).replay.drop (flowAcks g s q) ∧
    (lcls t q).tries = (if flowAcks g s q = 0 then (lcls s q).tries else 0) ∧ (lcls t q).tx = (lcls s q).tx ∧ (lcls t q).reOpen = (lcls s q).reOpen
  credit : ∀ q ∈ l, q ≠ 2 → avail t q = avail s q + flowCredit g s q

theorem FlowTaken.trans {l m : List Nat} (h : FlowTaken g l s t) (h' : FlowTaken g m t u) (hd : ∀ q ∈ l, q ∉ m) : FlowTaken g (l ++ m) s u := by
  have acks (q) (hq : lcls t q = lcls s q) : flowAcks g t q = flowAcks g s q := by
    unfold flowAcks
    rw [hq]
  have credit (q) (hq : lcls t q = lcls s q) : flowCredit g t q = flowCredit g s q := by
    unfold flowCredit
    rw [hq]
  refine ⟨h.touches.trans h'.touches, h'.now.trans h.now, h'.fc.trans h.fc, fun q hq => ?_, fun q hq => ?_, fun q hq h2 => ?_⟩
  · rw [List.mem_append, not_or] at hq
    exact ⟨(h'.other q hq.2).1.trans (h.other q hq.1).1, (h'.other q hq.2).2.trans (h.other q hq.1).2⟩
  · by_cases hl : q ∈ l
    · rw [(h'.other q (hd q hl)).1]
      exact h.acks q hl
    · have hm := h'.acks q ((List.mem_append.1 hq).resolve_left hl)
      rwa [acks q (h.other q hl).1, (h.other q hl).1] at hm
  · by_cases hl : q ∈ l
    · rw [(h'.other q (hd q hl)).2]
      exact h.credit q hl h2
    · have hm := h'.credit q ((List.mem_append.1 hq).resolve_left hl) h2
      rwa [credit q (h.other q hl).1, (h.other q hl).2] at hm

theorem FlowTaken.nil (g : BitVec 256) (s : State) : FlowTaken g [] s s :=
  ⟨.refl _ s, rfl, rfl, fun _ _ => ⟨rfl, rfl⟩, fun _ h => absurd h (List.not_mem_nil), fun _ h => absurd h (List.not_mem_nil)⟩

/-- A class of a FLOW without NAK. -/
def flowTakes (g : BitVec 256) (c : Nat) (s : State) : State := dropAcked c (flowAcks g s c) (credited g c s)

theorem credited_spec (h : FlowFits g s c) : Touches availRegs s (credited g c s) ∧ (credited g c s).now = s.now ∧ (credited g c s).fc = s.fc ∧
    (∀ q, c ≠ q → lcls (credited g c s) q = lcls s q ∧ avail (credited g c s) q = avail s q) ∧
    lcls (credited g c s) c = { lcls s c with lastCred := ffld g (48 + 32 * c) 16 } ∧
    (c ≠ 2 → avail (credited g c s) c = avail s c + flowCredit g s c) := by
  unfold credited
  dsimp only
  by_cases hc : c = 2
  · rw [if_pos hc]
    refine ⟨.updCls c _ s, updCls_now .., updCls_fc .., fun q hq => ⟨?_, avail_updCls ..⟩, lcls_updCls_same .., fun h => absurd hc h⟩
    rw [lcls_updCls, if_neg hq]
  · rw [if_neg hc]
    have hs := h.sends
    obtain ⟨room, lim⟩ := h.credit hc
    refine ⟨(Touches.updCls c _ s).trans (touches_setAvail (by tauto) _ _), ?_, ?_, fun q hq => ⟨?_, ?_⟩, ?_, fun _ => ?_⟩
    · rw [setAvail, sf_now, updCls_now]
    · rw [setAvail, sf_fc, updCls_fc]
    · rw [lcls_setAvail, lcls_updCls, if_neg hq]
    · rw [avail_setAvail_of_ne hq, avail_updCls]
    · rw [lcls_setAvail, lcls_updCls_same]
    · rw [avail_setAvail_same, Nat.mod_eq_of_lt (by omega)]

theorem flowTakes_taken (h : FlowFits g s c) : FlowTaken g [c] s (flowTakes g c s) := by
  obtain ⟨ct, cn, cf, co, cc, ca⟩ := credited_spec h
  unfold flowTakes dropAcked
  generalize credited g c s = u at *
  by_cases ha : flowAcks g s c = 0
  · rw [if_pos ha]
    refine ⟨ct, cn, cf, fun q hq => co q (by simpa [eq_comm] using hq), fun q hq => ?_, fun q hq h2 => ?_⟩
    · obtain rfl := List.mem_singleton.1 hq
      rw [cc, ha, if_pos rfl, List.drop_zero]
      exact ⟨rfl, rfl, rfl, rfl⟩
    · obtain rfl := List.mem_singleton.1 hq
      exact ca h2
  · rw [if_neg ha]
    refine ⟨ct.trans (.updCls c _ u), (updCls_now ..).trans cn, (updCls_fc ..).trans cf, fun q hq => ?_, fun q hq => ?_, fun q hq h2 => ?_⟩
    · have hne : c ≠ q := by simpa [eq_comm] using hq
      rw [lcls_updCls, if_neg hne, avail_updCls]
      exact co q hne
    · obtain rfl := List.mem_singleton.1 hq
      rw [lcls_updCls_same, cc, if_neg ha]
      exact ⟨rfl, rfl, rfl, rfl⟩
    · obtain rfl := List.mem_singleton.1 hq
      rw [avail_updCls]
      exact ca h2

/-- What NAK of a FLOW does to a class. -/
def nakTaken (c : Nat) (s : State) : State :=
  if (lcls s c).replay.isEmpty && ((lcls s c).tx.isNone || (lcls s c).reOpen) then violation 0x0D c 0 0x100 s else startReplay c s

theorem Touches.linkUp_eq (h : Touches availRegs s t) : linkUp t = linkUp s := by
  unfold linkUp
  rw [show gf t R.lnkStat 0 3 = gf s R.lnkStat 0 3 from congrArg (fld · 0 3) (h.2 _ (by decide))]

theorem ackBack_eq {ack : Nat} {av : Bool} (h : ¬ (lcls s c).replay.length < (if av then (ack + 4097 - oldestNo (lcls s c)) % 4096 else 0)) (isNak : Bool) :
    ackBack c ack av isNak s =
      if isNak = true then nakTaken c (dropAcked c (if av then (ack + 4097 - oldestNo (lcls s c)) % 4096 else 0) s)
      else dropAcked c (if av then (ack + 4097 - oldestNo (lcls s c)) % 4096 else 0) s := by
  unfold ackBack
  dsimp only
  rw [if_neg h]
  cases isNak
  · rfl
  · rfl

/-- A class of a FLOW that breaks no rule before its NAK. -/
theorem flowClass_eq (hu : linkUp s = true) (h : FlowFits g s c) :
    flowClass g c s = if ffld g (44 + 32 * c) 1 = 1 then nakTaken c (flowTakes g c s) else flowTakes g c s := by
  obtain ⟨ct, -, -, -, cc, -⟩ := credited_spec h
  have up : linkUp (credited g c s) = true := ct.linkUp_eq.trans hu
  have acks : (if (ffld g (45 + 32 * c) 1 == 1) = true then (ffld g (32 + 32 * c) 12 + 4097 - oldestNo (lcls (credited g c s) c)) % 4096 else 0) =
      flowAcks g s c := by
    rw [cc]
    simp only [beq_iff_eq]
    rfl
  have room : ¬ (lcls (credited g c s) c).replay.length < flowAcks g s c := by
    rw [cc]
    exact Nat.not_lt.2 h.acks
  rw [← acks] at room
  unfold flowClass
  rw [if_pos hu, creditBack_eq h]
  dsimp only
  rw [if_pos up, ackBack_eq room, acks, ← flowTakes]
  simp only [beq_iff_eq]

end

section
variable {s t u v : State} {c q : Nat} {g : BitVec 256}

theorem exec_flow (g : BitVec 256) (s : State) : exec (.flow g) s = clocked s (flowReceived g) := (rfl)

/-- A FLOW whose classes break no rule and have no NAK. -/
theorem flow_walk {xs : List Nat} (hu : linkUp s = true) (hn : xs.Nodup) (h : ∀ q ∈ xs, FlowFits g s q ∧ ffld g (44 + 32 * q) 1 ≠ 1) :
    FlowTaken g xs s (each (flowClass g) xs s) := by
  induction xs generalizing s with
  | nil => exact .nil g s
  | cons x xs ih =>
    obtain ⟨fits, quiet⟩ := h x List.mem_cons_self
    rw [List.nodup_cons] at hn
    have first := flowTakes_taken fits
    rw [each, flowClass_eq hu fits, if_neg quiet]
    refine first.trans (ih (first.touches.linkUp_eq.trans hu) hn.2 fun q hq => ?_) fun q hq => (List.mem_singleton.1 hq) ▸ hn.1
    obtain ⟨fits', quiet'⟩ := h q (List.mem_cons_of_mem x hq)
    obtain ⟨hl, ha⟩ := first.other q (by rw [List.mem_singleton]; exact fun e => hn.1 (e ▸ hq))
    exact ⟨fits'.congr hl ha, quiet'⟩

theorem flowClass_down (hu : linkUp s = false) : flowClass g c s = s := by
  unfold flowClass
  simp [hu]

/-- A FLOW up to the class with a NAK. -/
theorem flow_until_nak {pre post : List Nat} (hu : linkUp s = true) (hn : (pre ++ c :: post).Nodup)
    (h : ∀ q ∈ pre ++ c :: post, FlowFits g s q ∧ (ffld g (44 + 32 * q) 1 = 1 ↔ q = c)) :
    ∃ v, FlowTaken g (pre ++ [c]) s v ∧ each (flowClass g) (pre ++ c :: post) s = each (flowClass g) post (nakTaken c v) ∧
      (∀ q ∈ post, FlowFits g v q) := by
  obtain ⟨npre, nc, apart⟩ := List.nodup_append.1 hn
  rw [List.nodup_cons] at nc
  have notc : ∀ q ∈ pre, q ≠ c := fun q hq => apart q hq c List.mem_cons_self
  have before := flow_walk hu npre fun q hq =>
    ⟨(h q (List.mem_append_left _ hq)).1, fun e => notc q hq ((h q (List.mem_append_left _ hq)).2.1 e)⟩
  obtain ⟨fits, nak⟩ := h c (List.mem_append_right _ List.mem_cons_self)
  have step := each_append (flowClass g) pre (c :: post) s
  generalize each (flowClass g) pre s = u at *
  obtain ⟨hl, ha⟩ := before.other c fun hc => notc c hc rfl
  replace fits := fits.congr hl ha
  have here := flowTakes_taken fits
  rw [each, flowClass_eq (before.touches.linkUp_eq.trans hu) fits, if_pos (nak.2 rfl)] at step
  generalize flowTakes g c u = v at *
  have taken := before.trans here fun q hq => by simpa using notc q hq
  refine ⟨v, taken, step, fun q hq => ?_⟩
  have away : q ∉ pre ++ [c] := by
    simp only [List.mem_append, List.mem_singleton, not_or]
    exact ⟨fun hp => apart q hp q (List.mem_cons_of_mem c hq) rfl, fun e => nc.1 (e ▸ hq)⟩
  exact (h q (List.mem_append_right _ (List.mem_cons_of_mem c hq))).1.congr (taken.other q away).1 (taken.other q away).2

/-! ### Replays (R329) -/

/-- A class sends all its packets again. -/
def replayCls (now : Nat) (k : Cls) : Cls :=
  { k with tries := k.tries + 1, resend := k.replay.length, redo := k.tx.isSome && !k.reOpen, since := now }

/-- A replay starts, and is counted. -/
def replayFrom (c : Nat) (s : State) : State := bump R.lnkErrcnt 16 16 (updCls c (replayCls s.now) s)

theorem startReplay_again (h : (lcls s c).tries < max 1 (gf s R.lnkRply 16 4)) : startReplay c s = replayFrom c s := if_neg (by omega)

theorem startReplay_last (h : max 1 (gf s R.lnkRply 16 4) ≤ (lcls s c).tries) : startReplay c s = retrain s := if_pos h

theorem replayFrom_spec (c : Nat) (s : State) : Touches [R.lnkErrcnt] s (replayFrom c s) ∧
    lcls (replayFrom c s) c = replayCls s.now (lcls s c) ∧ (∀ q, c ≠ q → lcls (replayFrom c s) q = lcls s q) ∧
    gf (replayFrom c s) R.lnkErrcnt 16 16 = min (gf s R.lnkErrcnt 16 16 + 1) 65535 := by
  unfold replayFrom
  refine ⟨(Touches.updCls c _ s).trans (.bump (by simp) 16 16 _), ?_, fun q hq => ?_, ?_⟩
  · rw [lcls_bump, lcls_updCls_same]
  · rw [lcls_bump, lcls_updCls, if_neg hq]
  · rw [gf_bump_half _ (by decide), gf_updCls]

theorem exec_replayTimeout (c : Nat) (s : State) :
    exec (.replayTimeout c) s = clocked s (fun t => if replayLate t c then startReplay c t else t) := (rfl)

theorem replayTimeout_again (ho : Operating s) (hl : replayLate s c = true) (h : (lcls s c).tries < max 1 (gf s R.lnkRply 16 4)) :
    ∃ t, exec (.replayTimeout c) s = .next t ∧ (lcls t c).resend = (lcls s c).replay.length ∧ (lcls t c).tries = (lcls s c).tries + 1 ∧
      gf t R.lnkErrcnt 16 16 = min (gf s R.lnkErrcnt 16 16 + 1) 65535 ∧ OnlyRegs [R.lnkErrcnt] s t := by
  obtain ⟨rt, rc, -, rn⟩ := replayFrom_spec c s
  refine ⟨_, (exec_replayTimeout c s).trans (rt.clocked ho ((if_pos hl).trans (startReplay_again h))), ?_, ?_, rn, rt.onlyRegs⟩
  · rw [rc]
    rfl
  · rw [rc]
    rfl

theorem replayTimeout_last (ho : Operating s) (hl : replayLate s c = true) (h : max 1 (gf s R.lnkRply 16 4) ≤ (lcls s c).tries) :
    ∃ t, exec (.replayTimeout c) s = .next t ∧ gf t R.lnkStat 0 3 = 1 ∧ Reports 2 0x30 t ∧ OnlyRegs downRegs s t := by
  have up : gf s R.lnkStat 0 3 = 5 := by
    have := hl
    unfold replayLate linkUp at this
    simp only [Bool.and_eq_true, beq_iff_eq] at this
    exact this.1.1
  obtain ⟨rt, r0, -, -, -, -, rr, -⟩ := retrain_spec up
  exact ⟨_, (exec_replayTimeout c s).trans (rt.clocked ho ((if_pos hl).trans (startReplay_last h))), r0, rr, rt.onlyRegs⟩

/-! ### FLOW flits, as O44 states them -/

/-- A FLOW that breaks no rule, with a NAK of class nk. -/
def CleanFlow (g : BitVec 256) (s : State) (nk : Nat) : Prop :=
  lctlOk g = true ∧ ffld g 0 8 = 1 ∧ gf s R.lnkStat 0 3 = 5 ∧ flowCredit g s 2 = 0 ∧
    (∀ q, q < 4 → ffld g (44 + 32 * q) 1 = (if q = nk then 1 else 0) ∧ flowAcks g s q ≤ (lcls s q).replay.length) ∧
    ∀ q ∈ [0, 1, 3], avail s q + flowCredit g s q ≤ (lcls s q).limit ∧ (lcls s q).limit < 65536

section
variable {nk : Nat}

theorem CleanFlow.eff (h : CleanFlow g s nk) : flowReceived g s = each (flowClass g) [0, 1, 2, 3] s := by
  obtain ⟨ok, form, up, -⟩ := h
  unfold flowReceived
  rw [ok, form, linkUp_of_stat up]
  rfl

theorem CleanFlow.fits (h : CleanFlow g s nk) {q : Nat} (hq : q < 4) : FlowFits g s q := by
  obtain ⟨-, -, -, none_, acks, credit⟩ := h
  refine ⟨by omega, fun h2 => credit q ?_, fun h2 => h2 ▸ none_, (acks q hq).2⟩
  interval_cases q <;> simp at h2 ⊢

theorem CleanFlow.nak_iff (h : CleanFlow g s nk) {q : Nat} (hq : q < 4) : ffld g (44 + 32 * q) 1 = 1 ↔ q = nk := by
  rw [(h.2.2.2.2.1 q hq).1]
  split <;> simp_all

theorem flow_ignored (ho : Operating s) (h : lctlOk g = false ∨ ¬ gf s R.lnkStat 0 3 = 5) : exec (.flow g) s = .next s := by
  rw [exec_flow]
  refine clocked_self ho ?_
  unfold flowReceived linkUp
  rcases h with h | h <;> simp [h]

theorem flow_clean (ho : Operating s) (h : CleanFlow g s 4) {x : Nat} (hx : x < 4) : ∃ t, exec (.flow g) s = .next t ∧
    (x ≠ 2 → avail t x = avail s x + flowCredit g s x) ∧ (lcls t x).replay = (lcls s x).replay.drop (flowAcks g s x) ∧ OnlyRegs availRegs s t := by
  have lt : ∀ q ∈ [0, 1, 2, 3], q < 4 := by decide
  have taken := flow_walk (linkUp_of_stat h.2.2.1) (xs := [0, 1, 2, 3]) (by decide) fun q hq =>
    ⟨h.fits (lt q hq), fun e => absurd ((h.nak_iff (lt q hq)).1 e) (lt q hq).ne⟩
  have mem : x ∈ [0, 1, 2, 3] := by interval_cases x <;> decide
  exact ⟨_, (exec_flow g s).trans (taken.touches.clocked ho h.eff), taken.credit x mem, (taken.acks x mem).1, taken.touches.onlyRegs⟩

/-- The classes around one that sends. -/
theorem classes_split (hc : c ∈ [0, 1, 3]) : ∃ pre post, [0, 1, 2, 3] = pre ++ c :: post := by
  simp only [List.mem_cons, List.not_mem_nil, or_false] at hc
  rcases hc with rfl | rfl | rfl
  · exact ⟨[], [1, 2, 3], rfl⟩
  · exact ⟨[0], [2, 3], rfl⟩
  · exact ⟨[0, 1, 2], [], rfl⟩

/-- A FLOW with a NAK has come to it in v, and the classes of post are left. -/
structure NakComes (g : BitVec 256) (c : Nat) (post : List Nat) (s v : State) : Prop where
  touches : Touches availRegs s v
  replay : (lcls v c).replay = (lcls s c).replay.drop (flowAcks g s c)
  tries : (lcls v c).tries = (if flowAcks g s c = 0 then (lcls s c).tries else 0)
  open_ : ((lcls v c).tx.isSome && !(lcls v c).reOpen) = ((lcls s c).tx.isSome && !(lcls s c).reOpen)
  eff : flowReceived g s = each (flowClass g) post (nakTaken c v)
  apart : c ∉ post
  nodup : post.Nodup
  rest : ∀ q ∈ post, FlowFits g v q ∧ ffld g (44 + 32 * q) 1 ≠ 1

theorem CleanFlow.comes (h : CleanFlow g s c) (hc : c ∈ [0, 1, 3]) : ∃ v post, NakComes g c post s v := by
  obtain ⟨pre, post, hl⟩ := classes_split hc
  have nodup : (pre ++ c :: post).Nodup := hl ▸ (by decide)
  have lt : ∀ q ∈ pre ++ c :: post, q < 4 := hl ▸ (by decide)
  obtain ⟨v, taken, step, fits⟩ := flow_until_nak (linkUp_of_stat h.2.2.1) nodup fun q hq => ⟨h.fits (lt q hq), h.nak_iff (lt q hq)⟩
  obtain ⟨-, nc, -⟩ := List.nodup_append.1 nodup
  rw [List.nodup_cons] at nc
  obtain ⟨hreplay, htries, htx, hre⟩ := taken.acks c (List.mem_append_right _ (List.mem_singleton_self c))
  refine ⟨v, post, taken.touches, hreplay, htries, by rw [htx, hre], ?_, nc.1, nc.2, fun q hq => ⟨fits q hq, fun e => ?_⟩⟩
  · rw [h.eff, hl, step]
  · exact nc.1 ((h.nak_iff (lt q (List.mem_append_right _ (List.mem_cons_of_mem c hq)))).1 e ▸ hq)

/-- The classes left take what FLOW says of them while the link stays UP. -/
theorem NakComes.after {post : List Nat} (h : NakComes g c post s v) (hu : linkUp u = true)
    (hk : ∀ q ∈ post, lcls u q = lcls v q ∧ avail u q = avail v q) : FlowTaken g post u (each (flowClass g) post u) :=
  flow_walk hu h.nodup fun q hq => ⟨(h.rest q hq).1.congr (hk q hq).1 (hk q hq).2, (h.rest q hq).2⟩

/-- A NAK with packets to send again. -/
theorem nakTaken_replays (h : (lcls s c).replay ≠ [] ∨ ((lcls s c).tx.isSome && !(lcls s c).reOpen) = true) : nakTaken c s = startReplay c s := by
  refine if_neg ?_
  rcases h with h | h
  · simp [h]
  · cases hx : (lcls s c).tx <;> cases hr : (lcls s c).reOpen <;> simp [hx, hr] at h ⊢

/-- A NAK with none. -/
theorem nakTaken_violates (h : (lcls s c).replay = []) (ho : ((lcls s c).tx.isSome && !(lcls s c).reOpen) = false) :
    nakTaken c s = violation 0x0D c 0 0x100 s := by
  refine if_pos ?_
  cases hx : (lcls s c).tx <;> cases hr : (lcls s c).reOpen <;> simp [hx, hr, h] at ho ⊢

theorem flow_replays (ho : Operating s) (h : CleanFlow g s c) (hc : c ∈ [0, 1, 3])
    (hleft : (lcls s c).replay.drop (flowAcks g s c) ≠ [] ∨ ((lcls s c).tx.isSome && !(lcls s c).reOpen) = true)
    (htries : (if flowAcks g s c = 0 then (lcls s c).tries else 0) < max 1 (gf s R.lnkRply 16 4)) : ∃ t, exec (.flow g) s = .next t ∧
      (lcls t c).replay = (lcls s c).replay.drop (flowAcks g s c) ∧ (lcls t c).resend = ((lcls s c).replay.drop (flowAcks g s c)).length ∧
      (lcls t c).redo = ((lcls s c).tx.isSome && !(lcls s c).reOpen) ∧
      (lcls t c).tries = (if flowAcks g s c = 0 then (lcls s c).tries else 0) + 1 ∧
      gf t R.lnkErrcnt 16 16 = min (gf s R.lnkErrcnt 16 16 + 1) 65535 ∧ OnlyRegs (R.lnkErrcnt :: availRegs) s t := by
  obtain ⟨v, post, hv⟩ := h.comes hc
  have max_ : gf v R.lnkRply 16 4 = gf s R.lnkRply 16 4 := congrArg (fld · 16 4) (hv.touches.2 _ (by decide))
  have count : gf v R.lnkErrcnt 16 16 = gf s R.lnkErrcnt 16 16 := congrArg (fld · 16 16) (hv.touches.2 _ (by decide))
  have eff := hv.eff
  rw [nakTaken_replays (by rwa [hv.replay, hv.open_]), startReplay_again (by rwa [hv.tries, max_])] at eff
  obtain ⟨rt, rc, ro, rn⟩ := replayFrom_spec c v
  have stat : linkUp (replayFrom c v) = true := by
    have same : rd (replayFrom c v) R.lnkStat = rd s R.lnkStat := (rt.2 _ (by decide)).trans (hv.touches.2 _ (by decide))
    exact linkUp_of_stat ((congrArg (fld · 0 3) same).trans h.2.2.1)
  generalize replayFrom c v = w at *
  have after := hv.after stat fun q hq => by
    have ne : c ≠ q := fun e => hv.apart (e ▸ hq)
    refine ⟨ro q ne, congrArg (fld · 0 16) (rt.2 _ ?_)⟩
    have : R.lnkErrcnt < R.txcStat := by decide
    simp only [List.mem_singleton]
    omega
  have own := (after.other c hv.apart).1
  rw [rc] at own
  have keeps : Touches (R.lnkErrcnt :: availRegs) s (each (flowClass g) post w) :=
    ((hv.touches.mono (List.subset_cons_self _ _)).trans (rt.mono (by simp))).trans (after.touches.mono (List.subset_cons_self _ _))
  refine ⟨_, (exec_flow g s).trans (keeps.clocked ho eff), ?_, ?_, ?_, ?_, ?_, keeps.onlyRegs⟩
  · rw [own]
    exact hv.replay
  · rw [own]
    exact congrArg List.length hv.replay
  · rw [own]
    exact hv.open_
  · rw [own]
    exact congrArg (· + 1) hv.tries
  · rw [show gf (each (flowClass g) post w) R.lnkErrcnt 16 16 = gf w R.lnkErrcnt 16 16 from congrArg (fld · 16 16) (after.touches.2 _ (by decide)), rn, count]

theorem flow_retrains (ho : Operating s) (h : CleanFlow g s c) (hc : c ∈ [0, 1, 3])
    (hleft : (lcls s c).replay.drop (flowAcks g s c) ≠ [] ∨ ((lcls s c).tx.isSome && !(lcls s c).reOpen) = true)
    (htries : max 1 (gf s R.lnkRply 16 4) ≤ (if flowAcks g s c = 0 then (lcls s c).tries else 0)) : ∃ t, exec (.flow g) s = .next t ∧
      gf t R.lnkStat 0 3 = 1 ∧ Reports 2 0x30 t ∧ OnlyRegs downRegs s t := by
  obtain ⟨v, post, hv⟩ := h.comes hc
  have max_ : gf v R.lnkRply 16 4 = gf s R.lnkRply 16 4 := congrArg (fld · 16 4) (hv.touches.2 _ (by decide))
  have stat : gf v R.lnkStat 0 3 = 5 := (congrArg (fld · 0 3) (hv.touches.2 _ (by decide))).trans h.2.2.1
  have eff := hv.eff
  rw [nakTaken_replays (by rwa [hv.replay, hv.open_]), startReplay_last (by rwa [hv.tries, max_])] at eff
  obtain ⟨rt, r0, -, -, -, -, rr, -⟩ := retrain_spec stat
  generalize retrain v = w at *
  have down : linkUp w = false := by
    unfold linkUp
    rw [r0]
    rfl
  rw [each_id fun q _ => flowClass_down down] at eff
  have keeps : Touches downRegs s w := (hv.touches.mono (by simp [availRegs, downRegs])).trans rt
  exact ⟨w, (exec_flow g s).trans (keeps.clocked ho eff), r0, rr, keeps.onlyRegs⟩

theorem flow_nothing_left (ho : Operating s) (h : CleanFlow g s c) (hc : c ∈ [0, 1, 3])
    (hleft : (lcls s c).replay.drop (flowAcks g s c) = []) (hopen : ((lcls s c).tx.isSome && !(lcls s c).reOpen) = false) (ht : Tolerated s) :
    ∃ t, exec (.flow g) s = .next t ∧ Logs 0x0D c 0 0x100 s t ∧ OnlyRegs (logRegs s ++ availRegs) s t := by
  obtain ⟨v, post, hv⟩ := h.comes hc
  have eff := hv.eff
  rw [nakTaken_violates (by rw [hv.replay, hleft]) (by rw [hv.open_, hopen])] at eff
  obtain ⟨vt, vl, vk, vv, vs⟩ := hv.touches.violation (by decide) ht 0x0D c 0 0x100
  generalize violation 0x0D c 0 0x100 v = w at *
  have stat : linkUp w = true :=
    linkUp_of_stat ((vs 0 3 (by decide)).trans ((congrArg (fld · 0 3) (hv.touches.2 _ (by decide))).trans h.2.2.1))
  have after := hv.after stat fun q hq => by
    refine ⟨lcls_of_link vk q, congrArg (fld · 0 16) (vv.2 _ ?_)⟩
    have below : R.txcStat + 12 < R.llog ∧ R.lnkStat < R.txcStat := by decide
    have count : R.logStat < R.txcStat ∨ R.txcStat + 12 < R.logStat := by decide
    have lt : q ≤ 3 := by
      have := (hv.rest q hq).1.sends
      omega
    unfold logRegs
    simp only [List.mem_cons, List.not_mem_nil, or_false, not_or]
    omega
  have keeps : Touches (logRegs s ++ availRegs) s (each (flowClass g) post w) := vt.trans (after.touches.mono (List.subset_append_right _ _))
  refine ⟨_, (exec_flow g s).trans (keeps.clocked ho eff), ?_, keeps.onlyRegs⟩
  refine logs_of_down vl (after.touches.mono (by simp [availRegs, downRegs])) (fun hf => ?_) fun _ _ hr => reports_of_eq after.fc after.now hr
  exact (gb_eq_rd _ (after.touches.2 _ (by decide))).trans hf

end

end

section
variable {s t u : State} {c q i : Nat} {p : Pkt}

/-! ### Flits that go out (R316, R320, R337) -/

/-- A flit goes out in the next slot, to the lane whose turn it is. -/
def Goes (s : State) (y : BitVec 10 × BitVec 256) (t : State) : Prop :=
  t.link.out = some y ∧ t.link.outLane = blockLane s (flitSlot s) ∧ t.link.blk = flitSlot s + 1

theorem putFlit_goes (y : BitVec 10 × BitVec 256) (s : State) : Goes s y (putFlit y s) := ⟨rfl, rfl, rfl⟩

theorem touches_putFlit (l : List Nat) (y : BitVec 10 × BitVec 256) (s : State) : Touches l s (putFlit y s) := .of_regs_eq rfl ⟨rfl, rfl, rfl⟩

@[simp] theorem lcls_putFlit (y : BitVec 10 × BitVec 256) (s : State) (q : Nat) : lcls (putFlit y s) q = lcls s q := (rfl)

@[simp] theorem putFlit_lastNew (y : BitVec 10 × BitVec 256) (s : State) : (putFlit y s).link.lastNew = s.link.lastNew := (rfl)

/-- What leaves the slot and the lanes of a flit leaves the flit. -/
theorem Goes.congr {y : BitVec 10 × BitVec 256} (h : Goes s y t) (h1 : u.link.out = t.link.out) (h2 : u.link.outLane = t.link.outLane)
    (h3 : u.link.blk = t.link.blk) : Goes s y u := ⟨h1.trans h.1, h2.trans h.2.1, h3.trans h.2.2⟩

theorem Goes.of_start {y : BitVec 10 × BitVec 256} (h : Goes u y t) (hr : rd u R.lnkStat = rd s R.lnkStat) (hb : u.link.blk = s.link.blk) :
    Goes s y t := by
  have lanes : gf u R.lnkStat 3 4 = gf s R.lnkStat 3 4 := congrArg (fld · 3 4) hr
  have num : laneNum u = laneNum s := by
    unfold laneNum
    rw [lanes]
  have slot : flitSlot u = flitSlot s := by
    unfold flitSlot isMarker
    rw [num, hb]
  have lane (b : Nat) : blockLane u b = blockLane s b := by
    unfold blockLane
    rw [num, lanes]
  unfold Goes at *
  rwa [slot, lane] at h

/-- A flit of a packet has gone out, and is counted. -/
def flitGone (c q : Nat) (p : Pkt) (i : Nat) (s : State) : State :=
  let s := putFlit (pktFlit q p i) s |> count 0x20 c
  whenB (firstTime (lcls s c) q i) (drained p i) s

theorem sendData_eq (h : (lcls s c).tx = some (q, p, i)) : sendData c s =
    if p.sent ≤ i + 1 then packetOut c q p (flitGone c q p i s) else updCls c (fun k => { k with tx := some (q, p, i + 1) }) (flitGone c q p i s) := by
  unfold sendData
  rw [h]
  rfl

theorem touches_countBy (l : List Nat) (ev q k : Nat) (s : State) : Touches l s (countBy ev q k s) := .of_regs_eq rfl ⟨rfl, rfl, rfl⟩

theorem touches_drained (l : List Nat) (p : Pkt) (i : Nat) (s : State) : Touches l s (drained p i s) := by
  unfold drained
  dsimp only
  split
  · exact (Touches.updStrm _ _ s).trans (touches_countBy _ _ _ _ _)
  · exact .refl l s

theorem drained_link (p : Pkt) (i : Nat) (s : State) : (drained p i s).link = s.link := by
  unfold drained
  dsimp only
  split
  · rw [countBy_link, updStrm_link]
  · rfl

theorem flitGone_spec (c q : Nat) (p : Pkt) (i : Nat) (s : State) :
    Touches [] s (flitGone c q p i s) ∧ (flitGone c q p i s).link = (putFlit (pktFlit q p i) s).link := by
  unfold flitGone
  dsimp only
  refine ⟨((touches_putFlit _ _ s).trans (touches_count _ _ _ _)).trans (.whenB _ (touches_drained _ _ _ _)), ?_⟩
  rw [whenB_keeps State.link (drained_link _ _ _), count_link]

theorem noteSent_link (p : Pkt) (s : State) : (noteSent p s).link = s.link := by
  unfold noteSent
  split
  · exact updSeq_link ..
  · rfl

theorem touches_noteSent (l : List Nat) (p : Pkt) (s : State) : Touches l s (noteSent p s) := by
  unfold noteSent
  split
  · exact .of_regs_eq rfl ⟨rfl, rfl, rfl⟩
  · exact .refl l s

/-- A class whose open packet is out. -/
def outCls (q : Nat) (p : Pkt) (again : Bool) (now : Nat) (k : Cls) : Cls :=
  { k with tx := none, reOpen := false, half := k.half.filter (fun h => h.1 != q), replay := if again then k.replay else k.replay ++ [(q, p)],
           resend := if !again && k.redo then k.resend + 1 else k.resend, redo := false,
           since := if k.replay.isEmpty then now else k.since }

theorem packetOut_eq (c q : Nat) (p : Pkt) (s : State) : packetOut c q p s =
    if (lcls s c).reOpen then updCls c (outCls q p (lcls s c).reOpen s.now) s
    else noteSent p (updCls c (outCls q p (lcls s c).reOpen s.now) s) := (rfl)

theorem packetOut_spec (c q : Nat) (p : Pkt) (s : State) : Touches [] s (packetOut c q p s) ∧
    (packetOut c q p s).link = (updCls c (outCls q p (lcls s c).reOpen s.now) s).link := by
  rw [packetOut_eq]
  have cls : Touches [] s (updCls c (outCls q p (lcls s c).reOpen s.now) s) := .updCls c _ s
  split
  · exact ⟨cls, rfl⟩
  · exact ⟨cls.trans (touches_noteSent _ _ _), noteSent_link _ _⟩

/-- Flit i of packet p with number q of class c goes out; behind its last the packet stands in the replay buffer, where it stands
already if it is an old one. -/
def Puts (s : State) (c q : Nat) (p : Pkt) (i : Nat) (old : Bool) (t : State) : Prop :=
  Goes s (pktFlit q p i) t ∧ (i + 1 < p.sent → (lcls t c).tx = some (q, p, i + 1) ∧ (lcls t c).replay = (lcls s c).replay) ∧
    (p.sent ≤ i + 1 → (lcls t c).tx = none ∧ (lcls t c).replay = (lcls s c).replay ++ if old then [] else [(q, p)])

theorem sendData_spec (h : (lcls s c).tx = some (q, p, i)) : Touches [] s (sendData c s) ∧
    Puts s c q p i (lcls s c).reOpen (sendData c s) ∧ (sendData c s).link.lastNew = s.link.lastNew ∧
    (lcls (sendData c s) c).next = (lcls s c).next ∧ (lcls (sendData c s) c).txq = (lcls s c).txq ∧
    ((lcls s c).reOpen = true → (lcls (sendData c s) c).resend = (lcls s c).resend) := by
  obtain ⟨gt, gl⟩ := flitGone_spec c q p i s
  have goes := putFlit_goes (pktFlit q p i) s
  have cls : lcls (flitGone c q p i s) c = lcls s c := (lcls_of_link gl c).trans (lcls_putFlit ..)
  have last : (flitGone c q p i s).link.lastNew = s.link.lastNew := by rw [gl, putFlit_lastNew]
  rw [sendData_eq h]
  generalize flitGone c q p i s = v at *
  replace goes : Goes s (pktFlit q p i) v := goes.congr (by rw [gl]) (by rw [gl]) (by rw [gl])
  by_cases hd : p.sent ≤ i + 1
  · rw [if_pos hd]
    obtain ⟨ot, ol⟩ := packetOut_spec c q p v
    have own : lcls (packetOut c q p v) c = outCls q p (lcls s c).reOpen v.now (lcls s c) := by
      rw [lcls_of_link ol, lcls_updCls_same, cls]
    rw [link_updCls] at ol
    generalize packetOut c q p v = w at *
    refine ⟨gt.trans ot, ⟨goes.congr (by rw [ol]) (by rw [ol]) (by rw [ol]), fun h => absurd hd (by omega), fun _ => ?_⟩, ?_, ?_, ?_, fun hr => ?_⟩
    · rw [own]
      refine ⟨rfl, ?_⟩
      unfold outCls
      dsimp only
      split <;> simp
    · rw [ol]
      exact last
    · rw [own, outCls]
    · rw [own, outCls]
    · rw [own, outCls, hr]
      rfl
  · rw [if_neg hd]
    refine ⟨gt.trans (.updCls c _ v), ⟨goes.congr (by rw [link_updCls]) (by rw [link_updCls]) (by rw [link_updCls]), fun _ => ?_,
      fun h => absurd h hd⟩, ?_, ?_, ?_, fun _ => ?_⟩
    · rw [lcls_updCls_same, cls]
      exact ⟨rfl, rfl⟩
    · rw [link_updCls]
      exact last
    · rw [lcls_updCls_same, cls]
    · rw [lcls_updCls_same, cls]
    · rw [lcls_updCls_same, cls]

/-! ### Packets that start (R325, R327, R329) -/

/-- Packets of a class that are to be sent again. -/
def toResend (k : Cls) : List (Nat × Pkt) := k.replay.drop (k.replay.length - k.resend)

/-- A class may start a packet, as O44 states it. -/
def mayStart (s : State) (q : Nat) : Bool :=
  (lcls s q).tx.isNone && match (toResend (lcls s q)).head?, (lcls s q).txq.head? with
    | some r, _ => decide (r.2.sent ≤ avail s q)
    | none, some p => decide (p.flits ≤ avail s q ∧ (lcls s q).replay.length < 1024 ∧
        32 * (((lcls s q).replay.map (fun r => r.2.flits)).sum + p.flits) ≤ 65536)
    | none, none => false

theorem resend_pos {k : Cls} (h : toResend k ≠ []) : 0 < k.resend := by
  refine Nat.pos_of_ne_zero fun e => h ?_
  unfold toResend
  rw [e, Nat.sub_zero, List.drop_length]

theorem canStart_eq (s : State) (q : Nat) : canStart s q = mayStart s q := by
  unfold canStart mayStart
  dsimp only
  have pos := resend_pos (k := lcls s q)
  unfold toResend at *
  cases hr : (lcls s q).replay.drop ((lcls s q).replay.length - (lcls s q).resend) with
  | cons r rs =>
    rw [hr] at pos
    simp [pos (List.cons_ne_nil r rs)]
  | nil =>
    cases (lcls s q).txq with
    | nil => rfl
    | cons p ps => simp [Bool.decide_and, Bool.and_assoc]

theorem startPacket_again {r : Nat × Pkt} (h : (toResend (lcls s c)).head? = some r) : startPacket c s =
    updCls c (fun k => { k with tx := some (r.1, r.2, 0), reOpen := true, resend := k.resend - 1 })
      (count 0x22 c (setAvail c (avail s c - r.2.sent) s)) := by
  obtain ⟨rs, hrs⟩ := List.head?_eq_some_iff.1 h
  unfold startPacket
  dsimp only
  unfold toResend at hrs
  rw [hrs]

theorem startPacket_new (h : toResend (lcls s c) = []) (hp : (lcls s c).txq.head? = some p) : startPacket c s =
    updCls c (fun k => { k with tx := some (k.next, p, 0), reOpen := false, next := (k.next + 1) % 4096, txq := (lcls s c).txq.tail })
      (setAvail c (avail s c - p.flits) s) := by
  obtain ⟨ps, hps⟩ := List.head?_eq_some_iff.1 hp
  unfold startPacket
  dsimp only
  unfold toResend at h
  rw [h, hps]
  rfl

/-- A class has started a packet, at the cost of n credits. -/
structure Starts (c n : Nat) (s t : State) : Prop where
  touches : Touches [R.txcStat + 4 * c] s t
  cost : avail t c = avail s c - n
  blk : t.link.blk = s.link.blk
  last : t.link.lastNew = s.link.lastNew

theorem avail_lt (s : State) (c : Nat) : avail s c < 65536 := Nat.mod_lt _ (by decide)

theorem setAvail_starts (c n : Nat) (s : State) : Starts c n s (setAvail c (avail s c - n) s) := by
  have lt := avail_lt s c
  refine ⟨.sf (List.mem_singleton_self _) _ _ _ s, ?_, by rw [setAvail, sf_link], by rw [setAvail, sf_link]⟩
  rw [avail_setAvail_same, Nat.mod_eq_of_lt (by omega)]

theorem Starts.updCls {n : Nat} (h : Starts c n s t) (f : Cls → Cls) : Starts c n s (updCls c f t) := by
  obtain ⟨ht, ha, hb, hl⟩ := h
  exact ⟨ht.trans (.updCls c f t), (avail_updCls ..).trans ha, by rwa [link_updCls], by rwa [link_updCls]⟩

theorem Starts.count {n : Nat} (h : Starts c n s t) (ev m : Nat) : Starts c n s (count ev m t) := by
  obtain ⟨ht, ha, hb, hl⟩ := h
  exact ⟨ht.trans (touches_count _ _ _ _), (gf_of_regs rfl _ _ _).trans ha, by rwa [count_link], by rwa [count_link]⟩

/-- What a packet that starts leaves with its first flit. -/
theorem Starts.sends {n : Nat} (h : Starts c n s u) (hc : 4 * c ≤ 12) (hx : (lcls u c).tx = some (q, p, 0)) (hr : (lcls u c).replay = (lcls s c).replay) :
    Touches [R.txcStat + 4 * c] s (sendData c u) ∧ Puts s c q p 0 (lcls u c).reOpen (sendData c u) ∧
      (sendData c u).link.lastNew = s.link.lastNew ∧ avail (sendData c u) c = avail s c - n ∧
      (lcls (sendData c u) c).next = (lcls u c).next ∧ (lcls (sendData c u) c).txq = (lcls u c).txq ∧
      ((lcls u c).reOpen = true → (lcls (sendData c u) c).resend = (lcls u c).resend) := by
  obtain ⟨st, ⟨pg, p1, p2⟩, sl, sn, sq, sr⟩ := sendData_spec hx
  refine ⟨h.touches.trans (st.mono (List.nil_subset _)), ⟨pg.of_start (h.touches.2 _ ?_) h.blk, ?_, ?_⟩, sl.trans h.last, ?_, sn, sq, sr⟩
  · have : R.lnkStat < R.txcStat := by decide
    simp only [List.mem_singleton]
    omega
  · rwa [← hr]
  · rwa [← hr]
  · exact (congrArg (fld · 0 16) (st.2 _ (by simp))).trans h.cost

/-- A class that starts its next packet: an old one first. -/
theorem start_sends (hc : 4 * c ≤ 12) (h : mayStart s c = true) :
    Touches [R.txcStat + 4 * c] s (sendData c (startPacket c s)) ∧ (sendData c (startPacket c s)).link.lastNew = s.link.lastNew ∧
      (∀ r ∈ (toResend (lcls s c)).head?, Puts s c r.1 r.2 0 true (sendData c (startPacket c s)) ∧
        avail (sendData c (startPacket c s)) c = avail s c - r.2.sent ∧ (lcls (sendData c (startPacket c s)) c).next = (lcls s c).next ∧
        (lcls (sendData c (startPacket c s)) c).txq = (lcls s c).txq ∧ (lcls (sendData c (startPacket c s)) c).resend = (lcls s c).resend - 1) ∧
      (toResend (lcls s c) = [] → ∀ p ∈ (lcls s c).txq.head?, Puts s c (lcls s c).next p 0 false (sendData c (startPacket c s)) ∧
        (lcls (sendData c (startPacket c s)) c).next = ((lcls s c).next + 1) % 4096 ∧
        avail (sendData c (startPacket c s)) c = avail s c - p.flits ∧ (lcls (sendData c (startPacket c s)) c).txq = (lcls s c).txq.tail) := by
  cases hr : (toResend (lcls s c)).head? with
  | some r =>
    have starts := ((setAvail_starts c r.2.sent s).count 0x22 c).updCls
      (fun k => { k with tx := some (r.1, r.2, 0), reOpen := true, resend := k.resend - 1 })
    have own := lcls_updCls_same (s := count 0x22 c (setAvail c (avail s c - r.2.sent) s)) c
      (fun k => { k with tx := some (r.1, r.2, 0), reOpen := true, resend := k.resend - 1 })
    rw [lcls_count, lcls_setAvail] at own
    rw [startPacket_again hr]
    generalize updCls c (fun k => { k with tx := some (r.1, r.2, 0), reOpen := true, resend := k.resend - 1 })
      (count 0x22 c (setAvail c (avail s c - r.2.sent) s)) = u at *
    obtain ⟨ht, hp, hl, ha, hn, hq, hs⟩ := starts.sends (q := r.1) (p := r.2) hc (by rw [own]) (by rw [own])
    rw [own] at hp hn hq hs
    refine ⟨ht, hl, fun r' h' => ?_, fun he => by rw [he] at hr; cases hr⟩
    obtain rfl := Option.some.inj h'
    exact ⟨hp, ha, hn, hq, hs rfl⟩
  | none =>
    have he : toResend (lcls s c) = [] := List.head?_eq_none_iff.1 hr
    unfold mayStart at h
    rw [hr] at h
    cases hp : (lcls s c).txq.head? with
    | none =>
      rw [hp] at h
      simp at h
    | some p =>
      have starts := (setAvail_starts c p.flits s).updCls
        (fun k => { k with tx := some (k.next, p, 0), reOpen := false, next := (k.next + 1) % 4096, txq := (lcls s c).txq.tail })
      have own := lcls_updCls_same (s := setAvail c (avail s c - p.flits) s) c
        (fun k => { k with tx := some (k.next, p, 0), reOpen := false, next := (k.next + 1) % 4096, txq := (lcls s c).txq.tail })
      rw [lcls_setAvail] at own
      rw [startPacket_new he hp]
      generalize updCls c (fun k => { k with tx := some (k.next, p, 0), reOpen := false, next := (k.next + 1) % 4096, txq := (lcls s c).txq.tail })
        (setAvail c (avail s c - p.flits) s) = u at *
      obtain ⟨ht, hpt, hl, ha, hn, hq, -⟩ := starts.sends (q := (lcls s c).next) (p := p) hc (by rw [own]) (by rw [own])
      rw [own] at hpt hn hq
      refine ⟨ht, hl, fun r' h' => (by cases h'), fun _ p' h' => ?_⟩
      obtain rfl := Option.some.inj h'
      exact ⟨hpt, hn, ha, hq⟩

end

section
variable {s t u : State} {c q i : Nat} {p : Pkt} {f g : BitVec 256}

/-! ### The transmitter (R323, R328, R337) -/

theorem exec_flowSend (s : State) :
    exec .flowSend s = clocked s (fun t => if flowFalls t then { t with link := { t.link with flowDue := true } } else t) := (rfl)

theorem exec_flitTransmit (s : State) : exec .flitTransmit s = clocked s transmit := (rfl)

theorem flowSend_answers (ho : Operating s) (h : flowFalls s = true) : ∃ t, exec .flowSend s = .next t ∧ t.link.flowDue = true ∧ OnlyRegs [] s t := by
  have keeps : Touches [] s { s with link := { s.link with flowDue := true } } := .of_regs_eq rfl ⟨rfl, rfl, rfl⟩
  exact ⟨_, (exec_flowSend s).trans (keeps.clocked ho (if_pos h)), rfl, keeps.onlyRegs⟩

/-- The INIT flit of this stay in INIT is out. -/
def initOut (s : State) : State := { s with link := { s.link with initSent := true } }

theorem transmit_init (hm : mayTransmit s = true) (hs : gf s R.lnkStat 0 3 = 4) (hi : s.link.initSent = false) :
    transmit s = initOut (putFlit (0x100, initFlitOut s) s) := by
  unfold transmit lnkState
  rw [hm, if_neg (by decide), if_pos hs, hi, if_neg (by decide)]
  rfl

theorem transmit_init_answers (ho : Operating s) (hm : mayTransmit s = true) (hs : gf s R.lnkStat 0 3 = 4) (hi : s.link.initSent = false) :
    ∃ t, exec .flitTransmit s = .next t ∧ Goes s (0x100, initFlitOut s) t ∧ t.link.initSent = true ∧ OnlyRegs [] s t := by
  have put := touches_putFlit [] (0x100, initFlitOut s) s
  have goes := putFlit_goes (0x100, initFlitOut s) s
  have eff := transmit_init hm hs hi
  generalize putFlit (0x100, initFlitOut s) s = u at *
  have keeps : Touches [] s (initOut u) := put.trans (.of_regs_eq rfl ⟨rfl, rfl, rfl⟩)
  exact ⟨_, (exec_flitTransmit s).trans (keeps.clocked ho eff), goes.congr rfl rfl rfl, rfl, keeps.onlyRegs⟩

/-- The classes as a FLOW flit tells them. -/
def flowTold (s : State) : State := each (fun c => updCls c (fun k => { k with adv := k.cred, nakDue := false })) [0, 1, 2] s

/-- No FLOW is due any more. -/
def flowOut (s : State) : State := { s with link := { s.link with flowDue := false, ackDue := false, lastFlow := s.now } }

theorem sendFlow_eq (s : State) : sendFlow s = flowOut (flowTold (putFlit (0x100, flowFlit s) s)) := (rfl)

theorem flowTold_spec (s : State) : Touches [] s (flowTold s) ∧ (flowTold s).link.out = s.link.out ∧ (flowTold s).link.outLane = s.link.outLane ∧
    (flowTold s).link.blk = s.link.blk ∧ (∀ q, q < 3 → (lcls (flowTold s) q).nakDue = false) := by
  unfold flowTold
  refine ⟨.each (f := fun c => updCls c (fun k => { k with adv := k.cred, nakDue := false })) (fun c _ v => .updCls c _ v) s,
    by simp [each], by simp [each], by simp [each], fun q hq => ?_⟩
  interval_cases q <;> simp [each, lcls_updCls]

theorem transmit_flow (hm : mayTransmit s = true) (hu : gf s R.lnkStat 0 3 = 5) (hf : s.link.flowDue = true) : transmit s = sendFlow s := by
  unfold transmit lnkState
  rw [hm, if_neg (by decide), if_neg (by omega), linkUp_of_stat hu, if_neg (by decide), if_pos hf]

theorem transmit_flow_answers (ho : Operating s) (hm : mayTransmit s = true) (hu : gf s R.lnkStat 0 3 = 5) (hf : s.link.flowDue = true) :
    ∃ t, exec .flitTransmit s = .next t ∧ Goes s (0x100, flowFlit s) t ∧ t.link.flowDue = false ∧ t.link.ackDue = false ∧
      (∀ q, q < 3 → (lcls t q).nakDue = false) ∧ OnlyRegs [] s t := by
  have put := touches_putFlit [] (0x100, flowFlit s) s
  have goes := putFlit_goes (0x100, flowFlit s) s
  have eff := (transmit_flow hm hu hf).trans (sendFlow_eq s)
  generalize putFlit (0x100, flowFlit s) s = v at *
  obtain ⟨tt, tout, tl, tb, tn⟩ := flowTold_spec v
  generalize flowTold v = u at *
  have keeps : Touches [] s (flowOut u) := (put.trans tt).trans (.of_regs_eq rfl ⟨rfl, rfl, rfl⟩)
  exact ⟨_, (exec_flitTransmit s).trans (keeps.clocked ho eff), (goes.congr tout tl tb).congr rfl rfl rfl, rfl, rfl, tn, keeps.onlyRegs⟩

/-- The class that starts a packet on TC1 or TC3. -/
def lastFrom (c : Nat) (s : State) : State := { s with link := { s.link with lastNew := c } }

/-- The flit slot of a link that is UP and owes no FLOW. -/
def sendNext (s : State) : State :=
  if (lcls s 0).tx.isSome then sendData 0 s
  else if mayStart s 0 then sendData 0 (startPacket 0 s)
  else if (lcls s 1).tx.isSome then sendData 1 s
  else if (lcls s 3).tx.isSome then sendData 3 s
  else match newClass s with
    | some c => lastFrom c (sendData c (startPacket c s))
    | none => s

theorem transmit_data (hm : mayTransmit s = true) (hu : gf s R.lnkStat 0 3 = 5) (hf : s.link.flowDue = false) : transmit s = sendNext s := by
  unfold transmit lnkState
  rw [hm, if_neg (by decide), if_neg (by omega), linkUp_of_stat hu, if_neg (by decide), hf, if_neg (by decide), canStart_eq]
  rfl

/-- Whose flit goes before those of class q. -/
structure TxTurn (s : State) (q : Nat) : Prop where
  sends : q = 0 ∨ q = 1 ∨ q = 3
  first : q ≠ 0 → (lcls s 0).tx = none ∧ mayStart s 0 = false
  open1 : q = 3 → (lcls s 1).tx = none

theorem sendNext_open (h : TxTurn s q) (ho : (lcls s q).tx.isSome = true) : sendNext s = sendData q s := by
  obtain ⟨sends, first, open1⟩ := h
  unfold sendNext
  rcases sends with rfl | rfl | rfl
  · rw [if_pos ho]
  · obtain ⟨h0, m0⟩ := first (by decide)
    rw [h0, m0, if_neg (by decide), if_neg (by decide), if_pos ho]
  · obtain ⟨h0, m0⟩ := first (by decide)
    rw [h0, m0, if_neg (by decide), if_neg (by decide), open1 rfl, if_neg (by decide), if_pos ho]

/-- TC1 and TC3 alternate. -/
theorem newClass_eq (hq : q = 1 ∨ q = 3) (hs : mayStart s q = true) (ho : mayStart s (4 - q) = false ∨ s.link.lastNew = 4 - q) :
    newClass s = some q := by
  unfold newClass
  rcases hq with rfl | rfl
  · rcases ho with ho | ho <;> split <;> simp_all [canStart_eq]
  · rcases ho with ho | ho <;> split <;> simp_all [canStart_eq]

/-- The class whose packet starts is remembered, but for TC0. -/
def startedFrom (q : Nat) (s : State) : State := if q = 0 then s else lastFrom q s

theorem sendNext_start (h : TxTurn s q) (hs : mayStart s q = true)
    (ho : q ≠ 0 → (lcls s 1).tx = none ∧ (lcls s 3).tx = none ∧ (mayStart s (4 - q) = false ∨ s.link.lastNew = 4 - q)) :
    sendNext s = startedFrom q (sendData q (startPacket q s)) := by
  obtain ⟨sends, first, -⟩ := h
  have idle : (lcls s q).tx.isSome = false := by
    unfold mayStart at hs
    cases hx : (lcls s q).tx with
    | none => rfl
    | some o => simp [hx] at hs
  unfold sendNext startedFrom
  by_cases hq : q = 0
  · subst hq
    rw [idle, if_neg (by decide), if_pos hs, if_pos rfl]
  · obtain ⟨h0, m0⟩ := first hq
    obtain ⟨h1, h3, turn⟩ := ho hq
    rw [h0, m0, h1, h3, newClass_eq (by tauto) hs turn, if_neg (by decide), if_neg (by decide), if_neg (by decide), if_neg (by decide), if_neg hq]

theorem startedFrom_spec (q : Nat) (s : State) : Touches [] s (startedFrom q s) ∧ (startedFrom q s).link.lastNew = (if q = 0 then s.link.lastNew else q) ∧
    (∀ c, lcls (startedFrom q s) c = lcls s c) ∧ (startedFrom q s).link.out = s.link.out ∧ (startedFrom q s).link.outLane = s.link.outLane ∧
    (startedFrom q s).link.blk = s.link.blk := by
  unfold startedFrom
  split
  · exact ⟨.refl _ s, rfl, fun _ => rfl, rfl, rfl, rfl⟩
  · exact ⟨.of_regs_eq rfl ⟨rfl, rfl, rfl⟩, rfl, fun _ => rfl, rfl, rfl, rfl⟩

theorem Puts.congr {n : Nat} {old : Bool} (h : Puts s c n p i old t) (hl : lcls u c = lcls t c) (h1 : u.link.out = t.link.out)
    (h2 : u.link.outLane = t.link.outLane) (h3 : u.link.blk = t.link.blk) : Puts s c n p i old u := by
  obtain ⟨hg, hm, hd⟩ := h
  refine ⟨hg.congr h1 h2 h3, ?_, ?_⟩
  · rwa [hl]
  · rwa [hl]

theorem transmit_open_answers (ho : Operating s) (hm : mayTransmit s = true) (hu : gf s R.lnkStat 0 3 = 5) (hf : s.link.flowDue = false)
    (ht : TxTurn s q) {o : Nat × Pkt × Nat} (hx : (lcls s q).tx = some o) : ∃ t, exec .flitTransmit s = .next t ∧
      Puts s q o.1 o.2.1 o.2.2 (lcls s q).reOpen t ∧ t.link.lastNew = s.link.lastNew ∧ OnlyRegs [] s t := by
  obtain ⟨st, sp, sl, -⟩ := sendData_spec (q := o.1) (p := o.2.1) (i := o.2.2) hx
  have eff := (transmit_data hm hu hf).trans (sendNext_open ht (by rw [hx]; rfl))
  exact ⟨_, (exec_flitTransmit s).trans (st.clocked ho eff), sp, sl, st.onlyRegs⟩

theorem transmit_start_answers (ho : Operating s) (hm : mayTransmit s = true) (hu : gf s R.lnkStat 0 3 = 5) (hf : s.link.flowDue = false)
    (ht : TxTurn s q) (hs : mayStart s q = true)
    (hn : q ≠ 0 → (lcls s 1).tx = none ∧ (lcls s 3).tx = none ∧ (mayStart s (4 - q) = false ∨ s.link.lastNew = 4 - q)) :
    ∃ t, exec .flitTransmit s = .next t ∧ t.link.lastNew = (if q = 0 then s.link.lastNew else q) ∧ OnlyRegs [R.txcStat + 4 * q] s t ∧
      (∀ r ∈ (toResend (lcls s q)).head?, Puts s q r.1 r.2 0 true t ∧ avail t q = avail s q - r.2.sent ∧ (lcls t q).next = (lcls s q).next ∧
        (lcls t q).txq = (lcls s q).txq ∧ (lcls t q).resend = (lcls s q).resend - 1) ∧
      (toResend (lcls s q) = [] → ∀ p ∈ (lcls s q).txq.head?, Puts s q (lcls s q).next p 0 false t ∧ (lcls t q).next = ((lcls s q).next + 1) % 4096 ∧
        avail t q = avail s q - p.flits ∧ (lcls t q).txq = (lcls s q).txq.tail) := by
  have hq : 4 * q ≤ 12 := by
    have := ht.sends
    omega
  obtain ⟨st, sl, sa, sn⟩ := start_sends hq hs
  have eff := (transmit_data hm hu hf).trans (sendNext_start ht hs hn)
  generalize sendData q (startPacket q s) = u at *
  obtain ⟨lt, ll, lc, l1, l2, l3⟩ := startedFrom_spec q u
  generalize startedFrom q u = t at *
  have keeps := st.trans (lt.mono (List.nil_subset _))
  have credits : avail t q = avail u q := congrArg (fld · 0 16) (lt.2 _ (by simp))
  refine ⟨t, (exec_flitTransmit s).trans (keeps.clocked ho eff), by rw [ll, sl], keeps.onlyRegs, fun r hr => ?_, fun he p hp => ?_⟩
  · obtain ⟨h1, h2, h3, h4, h5⟩ := sa r hr
    rw [lc, credits]
    exact ⟨h1.congr (lc q) l1 l2 l3, h2, h3, h4, h5⟩
  · obtain ⟨h1, h2, h3, h4⟩ := sn he p hp
    rw [lc, credits]
    exact ⟨h1.congr (lc q) l1 l2 l3, h2, h3, h4⟩

/-- Settles O44: each flit block, FLOW, timeout and transmission by its own lemma. -/
theorem linkTraffic : Obligations.LinkTraffic := by
  unfold Obligations.LinkTraffic
  intro s c x f g tag ho
  refine ⟨fun h => ?_, fun h w _ => flitBlock_lost ho h tag f w, fun hu hv h => flitBlock_badTag ho hu hv f h,
    fun hu hv h => flitBlock_data3 ho hu hv f h, fun hu hv hc ht hop hr hroom => flitBlock_orphan ho hu hv hc f ht hop hr hroom,
    fun h hw hd => ⟨fun i hi => one_taken ho h hw hd hi, fun y hv hy => one_answered ho h hw hd hv hy⟩,
    fun h hw h0 h1 => one_ahead ho h hw h0 h1, fun h hw hd => one_repeated ho h hw hd, fun h hw h1 h3 hv => one_outside ho h hw h1 h3 hv,
    fun h hw => one_broken ho h hw, flow_ignored ho, fun h hx => flow_clean ho h hx, fun h hc => ⟨flow_replays ho h hc, flow_retrains ho h hc,
    flow_nothing_left ho h hc⟩, replayTimeout_again ho, replayTimeout_last ho, flowSend_answers ho, fun hm => ⟨transmit_init_answers ho hm,
    transmit_flow_answers ho hm, fun hu hf q hq h0 h3 => ?_⟩⟩
  · refine (exec_flitBlock ..).trans (clocked_self ho (if_pos h))
  · have turn : TxTurn s q := ⟨by simpa using hq, h0, h3⟩
    exact ⟨fun o hx => transmit_open_answers ho hm hu hf turn hx, fun hs hn => transmit_start_answers ho hm hu hf turn hs hn⟩

end

end Sys2Proof.Machine
end
